-- ==== Sys2Proof/Word.lean ====
section
/-! DEFINITION. The words of the machine and the plain data that commands carry. -/

namespace Sys2Proof

/-- One byte. -/
abbrev Byte := BitVec 8

/-- The 64-bit word of registers, addresses and general registers (R245, R314). -/
abbrev Word := BitVec 64

/-- The stream by which a function's packet reaches the Roll (R52, R463). -/
inductive Stream where
  | sq
  | push
  deriving DecidableEq, Repr

/-- How a memory access or a completion came back: correct, corrected by ECC, or with an
uncorrectable error (R371, R392). -/
inductive Ecc where
  | ok
  | corrected
  | failed
  deriving DecidableEq, Repr

/-- The kind of unit that a march test names (Table 13.3). -/
inductive MarchKind where
  | desk
  | slice
  | l2
  | caches
  deriving DecidableEq, Repr

/-- What the host memory read of one buffer of R190 returned: its bytes, or a read error. -/
inductive HostBuf where
  | bytes (b : List Byte)
  | error
  deriving DecidableEq, Repr

/-- A write of a House's latest seal to the boot flash (R233): the House, and whether it reads back as written. -/
structure FlashWrite where
  house : Nat
  ok : Bool
  deriving DecidableEq, Repr

/-- What RECORD_LOAD works on (R172): its slate, and the host buffer that an asymmetric record comes from. -/
structure RecordInput where
  id : Nat
  inp : HostBuf
  deriving DecidableEq, Repr

/-- The response of a custodian card to one command APDU (R182, Table 6.10): its data and the status word. -/
structure CardReply where
  data : List Byte
  sw : BitVec 16
  deriving DecidableEq, Repr

/-- What a card certificate holds (Table 6.10): the serial, the custodian ID, the P-384 public key, the part
that the root signs, the root's public key and its signature. -/
structure CardCert where
  serial : List Byte
  custodian : List Byte
  key : List Byte
  body : List Byte
  root : List Byte
  sig : List Byte
  deriving DecidableEq, Repr

/-- How a P-mill or S-mill operation ended (R187): with its output, with RETRY, or with a failed
verification. -/
inductive MillEnd where
  | done
  | retry
  deriving DecidableEq, Repr

/-- How a hopper access failed (R366). -/
inductive HopFail where
  | check
  | carrel
  | response
  deriving DecidableEq, Repr

/-- What the debug access port is asked to do (R308, Table 10.10): a read or write of 8 bytes at a physical
address, a general register of a logical Tiller, halting, resuming, single-stepping, and breakpoints. -/
inductive DapOp where
  | read (addr : Nat)
  | write (addr : Nat) (v : Word)
  | readReg (t : Nat) (r : Fin 32)
  | writeReg (t : Nat) (r : Fin 32) (v : Word)
  | readPc (t : Nat)
  | writePc (t : Nat) (v : Word)
  /-- A core control register, as the Tiller's ring reaches it. -/
  | readCsr (t : Nat) (n : BitVec 12)
  | writeCsr (t : Nat) (n : BitVec 12) (v : Word)
  | halt (t : Nat)
  | resume (t : Nat)
  | singleStep (t : Nat)
  | setBreak (t : Nat) (addr : Word)
  | clearBreak (t : Nat) (addr : Word)
  deriving DecidableEq, Repr

/-- What the boot ROM finds in an image slot (Table 14.2, R403). -/
structure Image where
  /-- MAGIC, LEN and the reserved bytes are well formed. -/
  formed : Bool := false
  /-- SVN, the security version number. -/
  svn : Nat := 0
  /-- DIGEST is the SHA-384 of the body. -/
  digest : Bool := false
  /-- SIG_EC and SIG_PQ verify under the two image public keys. -/
  sigEc : Bool := false
  sigPq : Bool := false
  deriving DecidableEq, Repr

/-- What a channel's DIMMs report, and whether the channel trains (R390, DC_STAT). -/
structure Dimm where
  /-- Fitted capacity in GB; 0 for none. -/
  gb : Nat
  /-- Ranks fitted, 0 to 2. -/
  ranks : Nat
  /-- x8 devices, else x4. -/
  x8 : Bool
  /-- Data rate in units of 100 MT/s. -/
  rate : Nat
  /-- Every training step succeeds. -/
  trains : Bool
  deriving DecidableEq, Repr

/-- What the board and the boot flash present when PORST_N is released (Tables 14.1 to 14.3):
which image slots verify with their SVN, which channels train and their DIMMs, which units fail
their tests, whether VAON kept VSHARE, and the sealed configuration the flash holds. -/
structure BootInput where
  /-- Image slots A and B when the board has reprogrammed them while PORST_N was low (R404); `none` keeps the
  image that the slot holds. -/
  slots : Option Image × Option Image
  /-- The DIMMs of each channel, in channel order. -/
  dimms : List Dimm
  /-- Unit indices u that a march test or roll call finds FAILED. -/
  failed : List Nat
  /-- Ports whose PERST# is high at the start. -/
  perstHigh : List Nat
  /-- Register values, by address, that the sealed configuration last written holds when the board
  has reprogrammed the flash while PORST_N was low (R404); `none` keeps the part's own copy. -/
  flash : Option (List (Nat × Word))
  /-- VPP_FUSE is in range (R433). -/
  vpp : Bool
  deriving DecidableEq, Repr

end Sys2Proof
end

