-- ==== Sys2Proof/Config.lean ====
section
/-! DEFINITION. What an implementation fixes, and the free values: constants with no body. The
standards that the spec names without giving their algorithms (AES, DES, the SHA family, the
public-key schemes, ISO 9564's random fill, X9.24, X9.143, SP 800-38G, SP 800-90A) stand here too,
so that a claim holds whatever these functions are. -/

namespace Sys2Proof.Config

/-- DEV_SERIAL, from fuses (BAR0 0x0008). DESIGN CHOICE (log 89). -/
opaque devSerial : BitVec 64

/-- The n-th free 64-bit value: a value the spec calls UNKNOWN or does not give (R9).
DESIGN CHOICE (log 8). -/
opaque freeWord : Nat → BitVec 64

/-- The n-th free choice: which of the listed outcomes an unpredictable event takes (R10). The
model reduces it modulo the number of outcomes. DESIGN CHOICE (log 9). -/
opaque pick : Nat → Nat

/-- The n-th byte of entropy that no raw bit shown accounts for (R192). DESIGN CHOICE (log 8). -/
opaque random : Nat → Byte

/-- AES encryption of one block under a 16, 24 or 32-byte key. PRESUMED (log 7). -/
opaque aesEnc : List Byte → BitVec 128 → BitVec 128

/-- AES decryption of one block. PRESUMED (log 7). -/
opaque aesDec : List Byte → BitVec 128 → BitVec 128

/-- Single-DES encryption of one block under one 8-byte key part (R126). PRESUMED (log 7). -/
opaque desEnc : List Byte → BitVec 64 → BitVec 64

/-- Single-DES decryption of one block. PRESUMED (log 7). -/
opaque desDec : List Byte → BitVec 64 → BitVec 64

/-- SHA-256 (FIPS 180-4). PRESUMED (log 7). -/
opaque sha256 : List Byte → BitVec 256

/-- SHA-384. PRESUMED (log 7). -/
opaque sha384 : List Byte → BitVec 384

/-- The ECDSA P-384 signature of a signed image header verifies under Brixend's image public key (R403).
PRESUMED (log 7). -/
opaque imageEc : List Byte → List Byte → Bool

/-- The ML-DSA-87 signature of a signed image header verifies under Brixend's image public key (R403).
PRESUMED (log 7). -/
opaque imagePq : List Byte → List Byte → Bool

/-- SHA-512. PRESUMED (log 7). -/
opaque sha512 : List Byte → BitVec 512

/-- SHA3-256. PRESUMED (log 7). -/
opaque sha3_256 : List Byte → BitVec 256

/-- SHA3-512. PRESUMED (log 7). -/
opaque sha3_512 : List Byte → BitVec 512

/-- Byte i of the SHAKE256 output. PRESUMED (log 7). -/
opaque shake256 : List Byte → Nat → Byte

/-- AES-256-GCM seal of a wrapped record: key, IV, additional data, plaintext; byte i of the
ciphertext followed by the 16-byte tag (R171). PRESUMED (log 7). -/
opaque gcmSeal : List Byte → List Byte → List Byte → List Byte → Nat → Byte

/-- AES-256-GCM open: key, IV, additional data, ciphertext with tag; whether the tag verifies, and
byte i of the plaintext. PRESUMED (log 7). -/
opaque gcmOpen : List Byte → List Byte → List Byte → List Byte → Bool × (Nat → Byte)

/-- The card master key and session key of the schemes' derivations, in the TDES form or else the AES form,
from the issuer master key, the PAN followed by the PSN, and the ATC (R123). PRESUMED (log 7). -/
opaque cardSession : Bool → List Byte → List Byte → List Byte → List Byte

/-- The DUKPT working key of X9.24-3: base derivation key, KSN and the use (R127, R128). PRESUMED (log 7). -/
opaque dukptKey : List Byte → List Byte → Nat → List Byte

/-- FF1 of SP 800-38G, radix 10: key, tweak, digits, deciphering; digit i of the result (R129).
PRESUMED (log 7). -/
opaque ff1 : List Byte → List Byte → List Nat → Bool → Nat → Nat

/-- Byte i of a public-key output (signature, ciphertext, shared secret, public key) of a type of
Table 6.5: key bytes, input, the random bytes drawn, and a use number. PRESUMED (log 7). -/
opaque pkOut : Nat → List Byte → List Byte → List Byte → Nat → Nat → Byte

/-- Whether a signature verifies: type, public key, message, signature, scheme and context.
PRESUMED (log 7). -/
opaque pkVerify : Nat → List Byte → List Byte → List Byte → List Byte → Bool

/-- Whether a public key's point lies on the curve of its type, or an RSA key's encoding is one (R177).
PRESUMED (log 7). -/
opaque pkOnCurve : Nat → List Byte → Bool

/-- The certificate of a custodian card that some chunks of it make up, `none` while chunks are missing: the
spec gives what it holds, and neither the layout nor the number of chunks (R182). DESIGN CHOICE (log 42). -/
opaque cardCert : List Byte → Option CardCert

/-- Cipher modes of a MILLCALL beyond one block (Table 9.9): type, mode, decrypt, key, IV, input;
byte i of the output. PRESUMED (log 7). -/
opaque cipher : Nat → Nat → Bool → List Byte → List Byte → List Byte → Nat → Byte

/-- The key bits of a TR-31 block after decryption under the block's derived keys, whether its MAC
verifies, and the key length found (X9.143; R179). PRESUMED (log 7). -/
opaque tr31Open : List Byte → List Byte → Bool × Nat × (Nat → Byte)

/-- Byte i of the TR-31 block that protects a key under a KBPK (R180): KBPK, header, key. PRESUMED (log 7). -/
opaque tr31Seal : List Byte → List Byte → List Byte → Nat → Byte

/-- Length of the encrypted portion and MAC of a TR-31 block (X9.143). PRESUMED (log 7). -/
opaque tr31Tail : Nat → Nat → Nat

/-- Brixend Silicon's 11-bit JEDEC manufacturer code (R448), which the spec does not state.
DESIGN CHOICE (log 89). -/
opaque jedecCode : BitVec 11

/-- The fused loop period of unit u, in units of 10 fs, at VCORE point i and temperature j of
Table 1.1 (R423). DESIGN CHOICE (log 89). -/
opaque loopPeriod : Nat → Nat → Nat → Nat

/-- Row cycle and addressing of a DIMM are not given: the channel, bank group, bank and row that
hold a line under a region's mode (R213 gives the rotation in pages only). DEDUCED (log 56). -/
opaque lineRow : Nat → Nat

/-- The fuse root, 256 bits (Table 6.6). DESIGN CHOICE (log 89). -/
opaque fuseRoot : BitVec 256

/-- The address at which the supervisor of House h begins, which the spec does not give (R217).
DESIGN CHOICE (log 44). -/
opaque supervisorEntry : Nat → BitVec 64

/-- The boot ROM's bytes, which the spec does not give (R14). DESIGN CHOICE (log 89). -/
opaque bootRom : Nat → Byte

/-- Where the Proctor places the carrel table in secure DRAM (R297). DESIGN CHOICE (log 100). -/
opaque carrelTable : Nat

end Sys2Proof.Config
end

