-- ==== Sys2Proof/Syntax.lean ====
section
/-! DEFINITION. The commands of the block: one constructor for each row of spec/opcode_table.json,
in the table's order, with the row's operands. `id` is a slate ID (R80), `gfn` a global function
number, `h` a House, `t` a logical Tiller, `c` a Chute or a DRAM channel, `e` a Hopper engine or an
entropy source, `u` a unit index of Table 15.1. What a card, a DIMM, a sensor, the boot flash or host
memory answers is an operand of the command that brings the answer. -/

namespace Sys2Proof

/-- The commands (operations and events) of the KT8400. -/
inductive Instr where
  /-- PORST_N_ASSERT (R408). -/
  | porstNAssert
  /-- PORST_N_RELEASE (R405). -/
  | porstNRelease (b : BootInput)
  /-- SRST_N_ASSERT (R409). -/
  | srstNAssert
  /-- QUIESCE_END (R409). -/
  | quiesceEnd
  /-- PERST_ASSERT (R411). -/
  | perstAssert (port : Nat)
  /-- PERST_RELEASE (R411). -/
  | perstRelease (port : Nat)
  /-- PORT_LINK_UP (R411). -/
  | portLinkUp (port : Nat)
  /-- PORT_LINK_DOWN (R240). -/
  | portLinkDown (port : Nat)
  /-- FUNCTION_LEVEL_RESET (R411). -/
  | functionLevelReset (gfn : Nat)
  /-- SQ_TAIL_WRITE (R46). -/
  | sqTailWrite (gfn : Nat) (tail : BitVec 16)
  /-- CQ_HEAD_WRITE (R48). -/
  | cqHeadWrite (gfn : Nat) (head : BitVec 16)
  /-- FN_CTL_WRITE (R69). -/
  | fnCtlWrite (gfn : Nat) (v : BitVec 32)
  /-- PUSH_WINDOW_WRITE (R52). -/
  | pushWindowWrite (gfn off : Nat) (data : List Byte)
  /-- MSIX_UNMASK (R78). -/
  | msixUnmask (gfn vec : Nat)
  /-- PACKET_COMMIT (R66). -/
  | packetCommit (port : Nat) (fetched : List Byte) (husk : Bool)
  /-- INGRESS_ADMIT (R65). -/
  | ingressAdmit (gfn : Nat) (st : Stream)
  /-- COUNTER_SEAL_COMPLETE (R73). -/
  | counterSealComplete (gfn : Nat) (st : Stream)
  /-- COUNTER_SEAL_TIMEOUT (R73). -/
  | counterSealTimeout (gfn : Nat) (st : Stream)
  /-- KEY_FILL_COMPLETE (R173). -/
  | keyFillComplete (id : Nat) (ecc : Ecc)
  /-- THRESHER_POSITION_TAKE (R109). -/
  | thresherPositionTake (h : Nat)
  /-- LANE_RESULT (R110). -/
  | laneResult (lane pos : Nat) (husk : Bool)
  /-- LANE_DRAIN_COMPLETE (R112). -/
  | laneDrainComplete (lane : Nat)
  /-- BELL_FIRE (R92). -/
  | bellFire (h : Nat)
  /-- JOURNAL_WRITE_RESPONSE (R60). -/
  | journalWriteResponse (h : Nat)
  /-- MIRROR_COMPLETION (R239). -/
  | mirrorCompletion (h : Nat) (ok : Bool)
  /-- MIRROR_TIMEOUT (R240). -/
  | mirrorTimeout (h : Nat)
  /-- EXAM_RELEASE (R132). -/
  | examRelease (id : Nat)
  /-- SLATE_TAG_RELEASE (R81). -/
  | slateTagRelease (id : Nat)
  /-- SEAL_BLOCK_WRITTEN (R231). -/
  | sealBlockWritten (h : Nat)
  /-- JOURNAL_FLASH_CHECKPOINT (R233). -/
  | journalFlashCheckpoint (w : FlashWrite)
  /-- JSEQ_RESERVE_WRITE_COMPLETE (R233). -/
  | jseqReserveWriteComplete (h : Nat) (ok : Bool)
  /-- MILL_OPERATION_COMPLETE (R186). -/
  | millOperationComplete (pmill : Bool) (n : Nat) (e : MillEnd)
  /-- CLAIM_REQUEST (R358). -/
  | claimRequest (c : Nat)
  /-- REPLY_PACKET (R359). -/
  | replyPacket (c : Nat)
  /-- WORK_PACKET_COMMIT (R354). -/
  | workPacketCommit (id : Nat)
  /-- CHUTE_PACKET_COMMIT (R353). -/
  | chutePacketCommit (t c : Nat) (husk : Bool)
  /-- CHUTE_STALE (R356). -/
  | chuteStale (c : Nat)
  /-- CHUTE_READ (R355). -/
  | chuteRead (t : Nat) (rd : Fin 32) (c off : Nat)
  /-- CH_DROP (R355). -/
  | chDrop (t : Nat) (rd : Fin 32) (c : Nat)
  /-- CH_ANS (R358). -/
  | chAns (t : Nat) (rd : Fin 32)
  /-- CH_CANCEL (R360). -/
  | chCancel (t : Nat) (rd : Fin 32)
  /-- PPS_IN_EDGE (R26). -/
  | ppsInEdge
  /-- PPS_EDGE_TIMEOUT (R27). -/
  | ppsEdgeTimeout
  /-- PENDING_TIME_SET_TIMEOUT (R30). -/
  | pendingTimeSetTimeout
  /-- PPS_OUT_START (R29). -/
  | ppsOutStart
  /-- PPS_OUT_END (R29). -/
  | ppsOutEnd
  /-- TREF_LOSS (R28). -/
  | trefLoss
  /-- TREF_RELOCK (R28). -/
  | trefRelock
  /-- TJ_SENSOR_READ (R23). -/
  | tjSensorRead (readings : List Int)
  /-- VPOLICY_EVALUATION (R35). -/
  | vpolicyEvaluation
  /-- AVS_VOLTAGE_WRITE (R38). -/
  | avsVoltageWrite
  /-- AVS_TRANSITION_COMPLETE (R37). -/
  | avsTransitionComplete
  /-- AVS_TIMEOUT (R37). -/
  | avsTimeout
  /-- AVS_FAULT_CLEAR (R37). -/
  | avsFaultClear
  /-- PMBUS_READBACK (R39). -/
  | pmbusReadback (vout iout : BitVec 16)
  /-- PMB_ALERT (R448). -/
  | pmbAlert (vout iout : BitVec 16)
  /-- TERM_BOUNDARY (R207). -/
  | termBoundary
  /-- TAMPER_MESH_SAMPLE (R195). -/
  | tamperMeshSample (mismatch : BitVec 4)
  /-- TAMPER_SWITCH_HIT (R195). -/
  | tamperSwitchHit (k : Fin 4)
  /-- SLOT_SEAL_COMPLETE (R169). -/
  | slotSealComplete (asym : Bool) (slot : Nat) (ok : Bool)
  /-- DRBG_RESEED (R193). -/
  | drbgReseed (h : Nat)
  /-- ENTROPY_SAMPLE (R192). -/
  | entropySample (e : Nat) (bits : List Bool)
  /-- CARD_DETECT (R450). -/
  | cardDetect (k : Fin 2) (present : Bool)
  /-- CARD_APDU_RESPONSE (R182). -/
  | cardApduResponse (k : Fin 2) (r : CardReply)
  /-- OWNER_KEYS_ESTABLISH (R183). -/
  | ownerKeysEstablish (a b : List CardReply)
  /-- OWNER_REKEY_WINDOW_END (R183). -/
  | ownerRekeyWindowEnd
  /-- COMP_SESSION_LAPSE (R184). -/
  | compSessionLapse (h : Nat)
  /-- PASS_EXPIRY (R310). -/
  | passExpiry
  /-- INTERRUPT_DELIVERY (R343). -/
  | interruptDelivery (t : Nat)
  /-- TIMER_COMPARE (R351). -/
  | timerCompare (t : Nat)
  /-- HOLD_TIMEOUT (R349). -/
  | holdTimeout (t : Nat)
  /-- ICU_CLAIM (R345). -/
  | icuClaim (t : Nat) (rd : Fin 32)
  /-- ICU_EOI (R346). -/
  | icuEoi (t : Nat) (rd : Fin 32) (src : Nat)
  /-- ICU_RESET (R348). -/
  | icuReset (t : Nat)
  /-- STORE_BUFFER_DRAIN (R257). -/
  | storeBufferDrain (t n : Nat) (err : Bool)
  /-- LOAD_DATA_RETURN (R376). -/
  | loadDataReturn (t : Nat) (ecc : Ecc)
  /-- DRAM_ALERT (R393). -/
  | dramAlert (c : Nat)
  /-- FETCH_FILL (R264). -/
  | fetchFill (t : Nat)
  /-- WALK_READ_RETURN (R319). -/
  | walkReadReturn (t : Nat) (ecc : Ecc)
  /-- FREEZE_AUTO_RELEASE (R394). -/
  | freezeAutoRelease (c : Nat) (ecc : Ecc)
  /-- RELEASE (R394). -/
  | release (c : Nat) (ecc : Ecc)
  /-- SPPR (R394). -/
  | sppr (c : Nat) (ecc : Ecc)
  /-- RETIRE (R394). -/
  | retire (c : Nat)
  /-- REFRESH_WINDOW (R388). -/
  | refreshWindow (c bank : Nat)
  /-- RFM_WINDOW (R389). -/
  | rfmWindow (c bank : Nat)
  /-- RETRAIN_PAUSE (R391). -/
  | retrainPause (c : Nat)
  /-- PATROL_SCRUB (R392). -/
  | patrolScrub (c line : Nat) (ecc : Ecc)
  /-- PRESERVING_MARCH_BURST (R398). -/
  | preservingMarchBurst (n : Nat) (good : Bool)
  /-- HOPPER_GO (R362). -/
  | hopperGo (e k : Nat)
  /-- HOPPER_CHANNEL_START (R362). -/
  | hopperChannelStart (e : Nat)
  /-- HOPPER_CHANNEL_DONE (R365). -/
  | hopperChannelDone (e : Nat)
  /-- HOPPER_CHANNEL_ERROR (R366). -/
  | hopperChannelError (e : Nat) (why : HopFail) (addr done : Nat)
  /-- HOPPER_EN_CLEAR (R367). -/
  | hopperEnClear (e k : Nat)
  /-- HOPPER_DROP_COMPLETE (R367). -/
  | hopperDropComplete (e k : Nat)
  /-- ROLLCALL_WINDOW (R422). -/
  | rollcallWindow (u cycles tempC : Nat) (moved : Bool)
  /-- CENSUS_PASS (R424). -/
  | censusPass
  /-- HANDSHAKE_TIMEOUT (R426). -/
  | handshakeTimeout (u : Nat) (valid : Bool)
  /-- ROTATION_TARGET_TESTED (R429). -/
  | rotationTargetTested (ok : Bool)
  /-- ROTATION (R431). -/
  | rotation
  /-- WAKE_IN (R415). -/
  | wakeIn (level : Bool)
  /-- WAKE_TIME (R415). -/
  | wakeTime
  /-- VCORE_PG_RISE (R416). -/
  | vcorePgRise (digestOk : Bool)
  /-- REGISTER_WRITE (R6). -/
  | registerWrite (addr size : Nat) (v : Word)
  /-- TIME_READ (R41). -/
  | timeRead (id : Nat)
  /-- TIME_SET (R30). -/
  | timeSet (id : Nat)
  /-- TIME_CANCEL (R41). -/
  | timeCancel (id : Nat)
  /-- TIME_MASTER_SET (R41). -/
  | timeMasterSet (id : Nat)
  /-- VPOLICY_SET (R40). -/
  | vpolicySet (id : Nat)
  /-- POWER_STATUS (R419). -/
  | powerStatus (id : Nat)
  /-- WARM_RESET (R409). -/
  | warmReset (id : Nat)
  /-- STOP_ENTER (R413). -/
  | stopEnter (id : Nat)
  /-- DOMAIN_SET (R417). -/
  | domainSet (id : Nat)
  /-- FW_STAGE (R419). -/
  | fwStage (id : Nat) (image : HostBuf) (ok : Bool)
  /-- FW_COMMIT (R419). -/
  | fwCommit (id : Nat) (head body : Bool)
  /-- ROTATE (R440). -/
  | rotate (id : Nat)
  /-- ROT_POLICY (R440). -/
  | rotPolicy (id : Nat)
  /-- UNIT_RESET (R412). -/
  | unitReset (id : Nat)
  /-- FN_CONFIG (R205). -/
  | fnConfig (id : Nat)
  /-- TEMPLATE_WRITE (R461). -/
  | templateWrite (id : Nat)
  /-- THRESHER_SET (R138). -/
  | thresherSet (id : Nat)
  /-- REGIME_SET (R215). -/
  | regimeSet (id : Nat)
  /-- VFLOOR_SET (R40). -/
  | vfloorSet (id : Nat)
  /-- BOUND_SET (R32). -/
  | boundSet (id : Nat)
  /-- LOAN_SET (R211). -/
  | loanSet (id : Nat)
  /-- HOUSE_RESET (R410). -/
  | houseReset (id : Nat)
  /-- HOUSE_RESET_OWNER (R410). -/
  | houseResetOwner (id : Nat)
  /-- JRNL_RING (R238). -/
  | jrnlRing (id : Nat)
  /-- JRNL_ALT (R241). -/
  | jrnlAlt (id : Nat)
  /-- JRNL_MARKS (R241). -/
  | jrnlMarks (id : Nat)
  /-- JRNL_SEAL_CFG (R241). -/
  | jrnlSealCfg (id : Nat)
  /-- JRNL_MIRROR (R240). -/
  | jrnlMirror (id : Nat)
  /-- JRNL_ADMIN (R241). -/
  | jrnlAdmin (id : Nat)
  /-- HOUSE_BIND (R199). -/
  | houseBind (id : Nat)
  /-- SHARE_SET (R217). -/
  | shareSet (id : Nat)
  /-- DRAM_RGN_SET (R214). -/
  | dramRgnSet (id : Nat)
  /-- PARTITION_SEAL (R218). -/
  | partitionSeal (id : Nat)
  /-- PARTITION_UNSEAL (R218). -/
  | partitionUnseal (id : Nat)
  /-- TERM_SET (R206). -/
  | termSet (id : Nat)
  /-- HOUSE_REKEY (R76). -/
  | houseRekey (id : Nat)
  /-- CONFIG_SAVE (R217). -/
  | configSave (id : Nat)
  /-- KEY_INFO (R162). -/
  | keyInfo (id : Nat)
  /-- PUBKEY_READ (R176). -/
  | pubkeyRead (id : Nat)
  /-- RECORD_LOAD (R172). -/
  | recordLoad (r : RecordInput)
  /-- KEY_IMPORT (R179). -/
  | keyImport (id : Nat)
  /-- KEY_EXPORT (R180). -/
  | keyExport (id : Nat)
  /-- KEY_GENERATE (R177). -/
  | keyGenerate (id blocks : Nat)
  /-- PUBKEY_LOAD (R177). -/
  | pubkeyLoad (id : Nat) (pk : HostBuf)
  /-- KEY_DELETE (R175). -/
  | keyDelete (id : Nat)
  /-- COMP_BEGIN (R184). -/
  | compBegin (id : Nat)
  /-- COMP_ENTER (R184). -/
  | compEnter (id : Nat)
  /-- COMP_COMPLETE (R184). -/
  | compComplete (id : Nat)
  /-- COMP_ABORT (R184). -/
  | compAbort (id : Nat)
  /-- HSK_ROLL (R175). -/
  | hskRoll (id : Nat)
  /-- HOUSE_ZEROISE (R197). -/
  | houseZeroise (id : Nat)
  /-- OWNER_REKEY (R183). -/
  | ownerRekey (id : Nat)
  /-- CUST_ROOT_SET (R182). -/
  | custRootSet (id : Nat)
  /-- TAMPER_CONFIG (R195). -/
  | tamperConfig (id : Nat)
  /-- TAMPER_CLEAR (R196). -/
  | tamperClear (id : Nat)
  /-- PIN_XLATE (R120). -/
  | pinXlate (id : Nat)
  /-- PIN_VERIFY_OFS (R121). -/
  | pinVerifyOfs (id : Nat)
  /-- PIN_VERIFY_VAL (R122). -/
  | pinVerifyVal (id : Nat)
  /-- CRYPTO_VERIFY (R124). -/
  | cryptoVerify (id : Nat)
  /-- CRYPTO_RESPOND (R125). -/
  | cryptoRespond (id : Nat)
  /-- CRYPTO_VERIFY_RESPOND (R125). -/
  | cryptoVerifyRespond (id : Nat)
  /-- MAC_GEN (R126). -/
  | macGen (id : Nat)
  /-- MAC_VERIFY (R126). -/
  | macVerify (id : Nat)
  /-- DUKPT_DECRYPT (R128). -/
  | dukptDecrypt (id : Nat)
  /-- DUKPT_PIN_XLATE (R128). -/
  | dukptPinXlate (id : Nat)
  /-- DUKPT_MAC_VERIFY (R128). -/
  | dukptMacVerify (id : Nat)
  /-- FF1_TOKENISE (R129). -/
  | ff1Tokenise (id : Nat)
  /-- FF1_DETOKENISE (R129). -/
  | ff1Detokenise (id : Nat)
  /-- SHA256_SHORT (R130). -/
  | sha256Short (id : Nat)
  /-- SHA384 (R191). -/
  | sha384 (id : Nat)
  /-- SHA512 (R191). -/
  | sha512 (id : Nat)
  /-- SHA3_256 (R191). -/
  | sha3256 (id : Nat)
  /-- SHA3_512 (R191). -/
  | sha3512 (id : Nat)
  /-- SHAKE256 (R191). -/
  | shake256 (id : Nat)
  /-- SIGN (R189). -/
  | sign (id : Nat) (inp aux pk : HostBuf)
  /-- VERIFY (R189). -/
  | verify (id : Nat) (inp aux pk : HostBuf)
  /-- ENCAPSULATE (R189). -/
  | encapsulate (id : Nat) (inp aux pk : HostBuf)
  /-- DECAPSULATE (R189). -/
  | decapsulate (id : Nat) (inp aux pk : HostBuf)
  /-- ECDH (R189). -/
  | ecdh (id : Nat) (inp aux pk : HostBuf)
  /-- CARREL_INVOKE (R303). -/
  | carrelInvoke (id : Nat)
  /-- JRNL_STATUS (R241). -/
  | jrnlStatus (id : Nat)
  /-- JRNL_READ (R241). -/
  | jrnlRead (id : Nat)
  /-- JRNL_SEAL_READ (R241). -/
  | jrnlSealRead (id : Nat)
  /-- JRNL_RETIRE (R241). -/
  | jrnlRetire (id : Nat)
  /-- ROLLCALL_STATUS (R440). -/
  | rollcallStatus (id : Nat)
  /-- ROLLCALL_RUN (R424). -/
  | rollcallRun (id : Nat)
  /-- REPAIR_LOG_READ (R440). -/
  | repairLogRead (id : Nat)
  /-- MARKS_SNAPSHOT (R439). -/
  | marksSnapshot (id : Nat)
  /-- MARKS_CONFIG (R439). -/
  | marksConfig (id : Nat)
  /-- MARCH_RUN (R398). -/
  | marchRun (id : Nat)
  /-- MARCH_RESULT (R400). -/
  | marchResult (id : Nat)
  /-- DRAM_STATUS (R400). -/
  | dramStatus (id : Nat)
  /-- DRAM_SET (R400). -/
  | dramSet (id : Nat)
  /-- PASS_INSTALL (R309). -/
  | passInstall (id : Nat)
  /-- PASS_REVOKE (R309). -/
  | passRevoke (id : Nat)
  /-- PASS_STATUS (R309). -/
  | passStatus (id : Nat)
  /-- CARREL_CREATE (R297). -/
  | carrelCreate (t : Nat)
  /-- CARREL_DESTROY (R302). -/
  | carrelDestroy (t : Nat)
  /-- TILLER_REOPEN (R291). -/
  | tillerReopen (t : Nat)
  /-- YIELD (R294). -/
  | yield (t : Nat)
  /-- LEASE_TAKE (R311). -/
  | leaseTake (t : Nat)
  /-- LEASE_RELEASE (R312). -/
  | leaseRelease (t : Nat)
  /-- DOMAIN_OFF (R312). -/
  | domainOff (t : Nat)
  /-- DOMAIN_ON (R312). -/
  | domainOn (t : Nat)
  /-- BYPASS (R448). -/
  | bypass (tdi : List Bool)
  /-- IDCODE (R448). -/
  | idcode
  /-- SAMPLE_PRELOAD (R448). -/
  | samplePreload (capture preload : List Bool)
  /-- EXTEST (R448). -/
  | extest (capture drive : List Bool)
  /-- BOOTSTAT (R404). -/
  | bootstat
  /-- DAP (R308). -/
  | dap (op : DapOp)
  /-- ILLEGAL (R248). -/
  | illegal (t : Nat) (w : BitVec 32)
  /-- ADD (R251). -/
  | add (t : Nat) (rd rs1 rs2 : Fin 32)
  /-- SUB (R251). -/
  | sub (t : Nat) (rd rs1 rs2 : Fin 32)
  /-- AND (R247). -/
  | and (t : Nat) (rd rs1 rs2 : Fin 32)
  /-- OR (R247). -/
  | or (t : Nat) (rd rs1 rs2 : Fin 32)
  /-- XOR (R247). -/
  | xor (t : Nat) (rd rs1 rs2 : Fin 32)
  /-- SLT (R247). -/
  | slt (t : Nat) (rd rs1 rs2 : Fin 32)
  /-- SLTU (R247). -/
  | sltu (t : Nat) (rd rs1 rs2 : Fin 32)
  /-- SLL (R247). -/
  | sll (t : Nat) (rd rs1 rs2 : Fin 32)
  /-- SRL (R247). -/
  | srl (t : Nat) (rd rs1 rs2 : Fin 32)
  /-- SRA (R247). -/
  | sra (t : Nat) (rd rs1 rs2 : Fin 32)
  /-- ROR (R247). -/
  | ror (t : Nat) (rd rs1 rs2 : Fin 32)
  /-- MUL (R251). -/
  | mul (t : Nat) (rd rs1 rs2 : Fin 32)
  /-- MULH (R251). -/
  | mulh (t : Nat) (rd rs1 rs2 : Fin 32)
  /-- MULHU (R251). -/
  | mulhu (t : Nat) (rd rs1 rs2 : Fin 32)
  /-- DIV (R252). -/
  | div (t : Nat) (rd rs1 rs2 : Fin 32)
  /-- DIVU (R252). -/
  | divu (t : Nat) (rd rs1 rs2 : Fin 32)
  /-- REM (R252). -/
  | rem (t : Nat) (rd rs1 rs2 : Fin 32)
  /-- REMU (R252). -/
  | remu (t : Nat) (rd rs1 rs2 : Fin 32)
  /-- DIVC (R252). -/
  | divc (t : Nat) (rd rs1 rs2 : Fin 32)
  /-- DIVCU (R252). -/
  | divcu (t : Nat) (rd rs1 rs2 : Fin 32)
  /-- REMC (R252). -/
  | remc (t : Nat) (rd rs1 rs2 : Fin 32)
  /-- REMCU (R252). -/
  | remcu (t : Nat) (rd rs1 rs2 : Fin 32)
  /-- ADDI (R251). -/
  | addi (t : Nat) (rd rs1 : Fin 32) (imm : BitVec 16)
  /-- SLTI (R247). -/
  | slti (t : Nat) (rd rs1 : Fin 32) (imm : BitVec 16)
  /-- SLTIU (R247). -/
  | sltiu (t : Nat) (rd rs1 : Fin 32) (imm : BitVec 16)
  /-- ANDI (R247). -/
  | andi (t : Nat) (rd rs1 : Fin 32) (imm : BitVec 16)
  /-- ORI (R247). -/
  | ori (t : Nat) (rd rs1 : Fin 32) (imm : BitVec 16)
  /-- XORI (R247). -/
  | xori (t : Nat) (rd rs1 : Fin 32) (imm : BitVec 16)
  /-- LUI (R247). -/
  | lui (t : Nat) (rd : Fin 32) (imm : BitVec 21)
  /-- SLLI (R247). -/
  | slli (t : Nat) (rd rs1 : Fin 32) (sh : BitVec 6)
  /-- SRLI (R247). -/
  | srli (t : Nat) (rd rs1 : Fin 32) (sh : BitVec 6)
  /-- SRAI (R247). -/
  | srai (t : Nat) (rd rs1 : Fin 32) (sh : BitVec 6)
  /-- RORI (R247). -/
  | rori (t : Nat) (rd rs1 : Fin 32) (sh : BitVec 6)
  /-- LB (R253). -/
  | lb (t : Nat) (rd rs1 : Fin 32) (imm : BitVec 16)
  /-- LBU (R253). -/
  | lbu (t : Nat) (rd rs1 : Fin 32) (imm : BitVec 16)
  /-- LH (R253). -/
  | lh (t : Nat) (rd rs1 : Fin 32) (imm : BitVec 16)
  /-- LHU (R253). -/
  | lhu (t : Nat) (rd rs1 : Fin 32) (imm : BitVec 16)
  /-- LW (R253). -/
  | lw (t : Nat) (rd rs1 : Fin 32) (imm : BitVec 16)
  /-- LWU (R253). -/
  | lwu (t : Nat) (rd rs1 : Fin 32) (imm : BitVec 16)
  /-- LD (R253). -/
  | ld (t : Nat) (rd rs1 : Fin 32) (imm : BitVec 16)
  /-- LDPC (R247). -/
  | ldpc (t : Nat) (rd : Fin 32) (imm : BitVec 16)
  /-- SB (R255). -/
  | sb (t : Nat) (rs2 rs1 : Fin 32) (imm : BitVec 16)
  /-- SH (R255). -/
  | sh (t : Nat) (rs2 rs1 : Fin 32) (imm : BitVec 16)
  /-- SW (R255). -/
  | sw (t : Nat) (rs2 rs1 : Fin 32) (imm : BitVec 16)
  /-- SD (R255). -/
  | sd (t : Nat) (rs2 rs1 : Fin 32) (imm : BitVec 16)
  /-- DADD (R262). -/
  | dadd (t : Nat) (rd rs1 rs2 : Fin 32)
  /-- DSWP (R262). -/
  | dswp (t : Nat) (rd rs1 rs2 : Fin 32)
  /-- BEQ (R267). -/
  | beq (t : Nat) (rs1 rs2 : Fin 32) (a : Bool) (disp : BitVec 15)
  /-- BNE (R267). -/
  | bne (t : Nat) (rs1 rs2 : Fin 32) (a : Bool) (disp : BitVec 15)
  /-- BLT (R267). -/
  | blt (t : Nat) (rs1 rs2 : Fin 32) (a : Bool) (disp : BitVec 15)
  /-- BGE (R267). -/
  | bge (t : Nat) (rs1 rs2 : Fin 32) (a : Bool) (disp : BitVec 15)
  /-- BLTU (R267). -/
  | bltu (t : Nat) (rs1 rs2 : Fin 32) (a : Bool) (disp : BitVec 15)
  /-- BGEU (R267). -/
  | bgeu (t : Nat) (rs1 rs2 : Fin 32) (a : Bool) (disp : BitVec 15)
  /-- J (R267). -/
  | j (t : Nat) (disp : BitVec 26)
  /-- JAL (R267). -/
  | jal (t : Nat) (disp : BitVec 26)
  /-- JALR (R267). -/
  | jalr (t : Nat) (rd rs1 : Fin 32)
  /-- CSYNC (R272). -/
  | csync (t : Nat)
  /-- IFENCE (R276). -/
  | ifence (t : Nat)
  /-- FENCE_RW (R259). -/
  | fenceRw (t : Nat)
  /-- FENCE_W (R260). -/
  | fenceW (t : Nat)
  /-- FENCE_IO (R261). -/
  | fenceIo (t : Nat)
  /-- ICINV (R276). -/
  | icinv (t : Nat) (rs1 : Fin 32)
  /-- RETX (R290). -/
  | retx (t : Nat)
  /-- WAITI (R275). -/
  | waiti (t : Nat)
  /-- MASKUP (R273). -/
  | maskup (t : Nat) (n : BitVec 2)
  /-- PCALL (R294). -/
  | pcall (t : Nat) (imm : BitVec 16)
  /-- GCALL (R293). -/
  | gcall (t : Nat) (imm : BitVec 16)
  /-- CSRR (R271). -/
  | csrr (t : Nat) (rd : Fin 32) (csr : BitVec 12)
  /-- CSRW (R272). -/
  | csrw (t : Nat) (csr : BitVec 12) (rs1 : Fin 32)
  /-- BCOPY (R279). -/
  | bcopy (t : Nat) (rd rs1 rs2 : Fin 32)
  /-- BFILL (R279). -/
  | bfill (t : Nat) (rd rs1 rs2 : Fin 32)
  /-- HUSKSUM (R279). -/
  | husksum (t : Nat) (rd rs1 rs2 : Fin 32)
  /-- MILLCALL (R281). -/
  | millcall (t : Nat) (rd rs1 : Fin 32)
  /-- TLBIVA (R323). -/
  | tlbiva (t : Nat) (rs1 : Fin 32)
  /-- TLBIASID (R323). -/
  | tlbiasid (t : Nat) (rs1 : Fin 32)
  /-- TLBIWORLD (R323). -/
  | tlbiworld (t : Nat)
  /-- TLBIALL (R323). -/
  | tlbiall (t : Nat)
  /-- VAON_LOSS (R168). -/
  | vaonLoss
  /-- VAON_POWER_UP (R454). -/
  | vaonPowerUp
  /-- MARCH_TEST_COMPLETE (R399). -/
  | marchTestComplete (k : MarchKind) (n : Nat) (repaired left : Nat) (ok : Bool)
  /-- DRAM_REGION_ZERO_COMPLETE (R214). -/
  | dramRegionZeroComplete (n : Nat)
  /-- GRANARY_WAY_CLEAR_COMPLETE (R209). -/
  | granaryWayClearComplete (w : Nat)
  deriving DecidableEq, Repr

end Sys2Proof
end

