-- ==== Sys2Proof/WellFormed.lean ====
section
/-! DEFINITION. Which commands the part can be sent: every operand names a unit that Table 0.1 counts, or
lies in the range its rule gives. A command that is not well formed names nothing; its meaning has no
effect or acts on nothing a program can reach. -/

namespace Sys2Proof

/-- How many units of a kind a march test can name (Tables 0.1 and 13.3). -/
def MarchKind.count (k : MarchKind) : Nat :=
  match k with
  | .desk => 72
  | .slice => 18
  | .l2 => 8
  | .caches => 72

/-- The debug port's request names a logical Tiller, and an address of the 48-bit space (R14). -/
def DapOp.wf (o : DapOp) : Bool :=
  match o with
  | .read addr => decide (addr < 2 ^ 48)
  | .write addr _ => decide (addr < 2 ^ 48)
  | .readReg t _ => decide (t < 64)
  | .writeReg t _ _ => decide (t < 64)
  | .readPc t => decide (t < 64)
  | .writePc t _ => decide (t < 64)
  | .readCsr t _ => decide (t < 64)
  | .writeCsr t _ _ => decide (t < 64)
  | .halt t => decide (t < 64)
  | .resume t => decide (t < 64)
  | .singleStep t => decide (t < 64)
  | .setBreak t _ => decide (t < 64)
  | .clearBreak t _ => decide (t < 64)

/-- The board has four channels and four ports; units are those of Table 15.1; an SVN has 32 bits. -/
def BootInput.wf (b : BootInput) : Bool :=
  decide (b.dimms.length = 4) && b.failed.all (fun u => decide (u < 188)) &&
    b.perstHigh.all (fun p => decide (p < 4)) && b.dimms.all (fun d => decide (d.ranks ≤ 2)) &&
    [b.slots.1, b.slots.2].all (fun i => decide ((i.map Image.svn).getD 0 < 2 ^ 32))

/-- The well-formed commands. -/
def Instr.wf (i : Instr) : Bool :=
  match i with
  | .porstNAssert => true
  | .porstNRelease b => b.wf
  | .srstNAssert => true
  | .quiesceEnd => true
  | .perstAssert port => decide (port < 4)
  | .perstRelease port => decide (port < 4)
  | .portLinkUp port => decide (port < 4)
  | .portLinkDown port => decide (port < 4)
  | .functionLevelReset gfn => decide (gfn < 64)
  | .sqTailWrite gfn _ => decide (gfn < 64)
  | .cqHeadWrite gfn _ => decide (gfn < 64)
  | .fnCtlWrite gfn _ => decide (gfn < 64)
  | .pushWindowWrite gfn off data => decide (gfn < 64) && decide (off + data.length ≤ (if gfn % 16 = 0 then 1048576 else 65536)) && !data.isEmpty
  | .msixUnmask gfn vec => decide (gfn < 64) && decide (vec < 64)
  | .packetCommit port _ _ => decide (port < 4)
  | .ingressAdmit gfn _ => decide (gfn < 64)
  | .counterSealComplete gfn _ => decide (gfn < 64)
  | .counterSealTimeout gfn _ => decide (gfn < 64)
  | .keyFillComplete id _ => decide (id < 32768)
  | .thresherPositionTake h => decide (h < 4)
  | .laneResult lane pos _ => decide (lane < 9) && decide (pos < 4)
  | .laneDrainComplete lane => decide (lane < 9)
  | .bellFire h => decide (h < 4)
  | .journalWriteResponse h => decide (h < 4)
  | .mirrorCompletion h _ => decide (h < 4)
  | .mirrorTimeout h => decide (h < 4)
  | .examRelease id => decide (id < 32768)
  | .slateTagRelease id => decide (id < 32768)
  | .sealBlockWritten h => decide (h < 4)
  | .journalFlashCheckpoint w => decide (w.house < 4)
  | .jseqReserveWriteComplete h _ => decide (h < 4)
  | .millOperationComplete pmill n _ => decide (n < if pmill then 18 else 36)
  | .claimRequest c => decide (c < 256)
  | .replyPacket c => decide (c < 256)
  | .workPacketCommit id => decide (id < 32768)
  | .chutePacketCommit t c _ => decide (t < 64) && decide (c < 256)
  | .chuteStale c => decide (c < 256)
  | .chuteRead t _ c off => decide (t < 64) && decide (c < 256) && decide (off < 512) && decide (off % 8 = 0)
  | .chDrop t _ c => decide (t < 64) && decide (c < 256)
  | .chAns t _ => decide (t < 64)
  | .chCancel t _ => decide (t < 64)
  | .ppsInEdge => true
  | .ppsEdgeTimeout => true
  | .pendingTimeSetTimeout => true
  | .ppsOutStart => true
  | .ppsOutEnd => true
  | .trefLoss => true
  | .trefRelock => true
  | .tjSensorRead _ => true
  | .vpolicyEvaluation => true
  | .avsVoltageWrite => true
  | .avsTransitionComplete => true
  | .avsTimeout => true
  | .avsFaultClear => true
  | .pmbusReadback _ _ => true
  | .pmbAlert _ _ => true
  | .termBoundary => true
  | .tamperMeshSample _ => true
  | .tamperSwitchHit _ => true
  | .slotSealComplete asym slot _ => decide (slot < if asym then 16384 else 131072)
  | .drbgReseed h => decide (h < 4)
  | .entropySample e _ => decide (e < 3)
  | .cardDetect _ _ => true
  | .cardApduResponse _ _ => true
  | .ownerKeysEstablish _ _ => true
  | .ownerRekeyWindowEnd => true
  | .compSessionLapse h => decide (h < 4)
  | .passExpiry => true
  | .interruptDelivery t => decide (t < 64)
  | .timerCompare t => decide (t < 64)
  | .holdTimeout t => decide (t < 64)
  | .icuClaim t _ => decide (t < 64)
  | .icuEoi t _ src => decide (t < 64) && decide (src < 288)
  | .icuReset t => decide (t < 64)
  | .storeBufferDrain t n _ => decide (t < 64) && decide (n < 8)
  | .loadDataReturn t _ => decide (t < 64)
  | .dramAlert c => decide (c < 4)
  | .fetchFill t => decide (t < 64)
  | .walkReadReturn t _ => decide (t < 64)
  | .freezeAutoRelease c _ => decide (c < 4)
  | .release c _ => decide (c < 4)
  | .sppr c _ => decide (c < 4)
  | .retire c => decide (c < 4)
  | .refreshWindow c bank => decide (c < 4) && decide (bank < 4)
  | .rfmWindow c bank => decide (c < 4) && decide (bank < 4)
  | .retrainPause c => decide (c < 4)
  | .patrolScrub c line _ => decide (c < 4) && decide (line % 64 = 0)
  | .preservingMarchBurst n _ => decide (n < 72)
  | .hopperGo e k => decide (e < 8) && decide (k < 16)
  | .hopperChannelStart e => decide (e < 8)
  | .hopperChannelDone e => decide (e < 8)
  | .hopperChannelError e _ _ _ => decide (e < 8)
  | .hopperEnClear e k => decide (e < 8) && decide (k < 16)
  | .hopperDropComplete e k => decide (e < 8) && decide (k < 16)
  | .rollcallWindow u _ _ _ => decide (u < 188)
  | .censusPass => true
  | .handshakeTimeout u _ => decide (u < 188)
  | .rotationTargetTested _ => true
  | .rotation => true
  | .wakeIn _ => true
  | .wakeTime => true
  | .vcorePgRise _ => true
  | .registerWrite addr size _ => [1, 2, 4, 8].contains size && decide (addr % size = 0)
  | .timeRead id => decide (id < 32768)
  | .timeSet id => decide (id < 32768)
  | .timeCancel id => decide (id < 32768)
  | .timeMasterSet id => decide (id < 32768)
  | .vpolicySet id => decide (id < 32768)
  | .powerStatus id => decide (id < 32768)
  | .warmReset id => decide (id < 32768)
  | .stopEnter id => decide (id < 32768)
  | .domainSet id => decide (id < 32768)
  | .fwStage id _ _ => decide (id < 32768)
  | .fwCommit id _ _ => decide (id < 32768)
  | .rotate id => decide (id < 32768)
  | .rotPolicy id => decide (id < 32768)
  | .unitReset id => decide (id < 32768)
  | .fnConfig id => decide (id < 32768)
  | .templateWrite id => decide (id < 32768)
  | .thresherSet id => decide (id < 32768)
  | .regimeSet id => decide (id < 32768)
  | .vfloorSet id => decide (id < 32768)
  | .boundSet id => decide (id < 32768)
  | .loanSet id => decide (id < 32768)
  | .houseReset id => decide (id < 32768)
  | .houseResetOwner id => decide (id < 32768)
  | .jrnlRing id => decide (id < 32768)
  | .jrnlAlt id => decide (id < 32768)
  | .jrnlMarks id => decide (id < 32768)
  | .jrnlSealCfg id => decide (id < 32768)
  | .jrnlMirror id => decide (id < 32768)
  | .jrnlAdmin id => decide (id < 32768)
  | .houseBind id => decide (id < 32768)
  | .shareSet id => decide (id < 32768)
  | .dramRgnSet id => decide (id < 32768)
  | .partitionSeal id => decide (id < 32768)
  | .partitionUnseal id => decide (id < 32768)
  | .termSet id => decide (id < 32768)
  | .houseRekey id => decide (id < 32768)
  | .configSave id => decide (id < 32768)
  | .keyInfo id => decide (id < 32768)
  | .pubkeyRead id => decide (id < 32768)
  | .recordLoad r => decide (r.id < 32768)
  | .keyImport id => decide (id < 32768)
  | .keyExport id => decide (id < 32768)
  | .keyGenerate id _ => decide (id < 32768)
  | .pubkeyLoad id _ => decide (id < 32768)
  | .keyDelete id => decide (id < 32768)
  | .compBegin id => decide (id < 32768)
  | .compEnter id => decide (id < 32768)
  | .compComplete id => decide (id < 32768)
  | .compAbort id => decide (id < 32768)
  | .hskRoll id => decide (id < 32768)
  | .houseZeroise id => decide (id < 32768)
  | .ownerRekey id => decide (id < 32768)
  | .custRootSet id => decide (id < 32768)
  | .tamperConfig id => decide (id < 32768)
  | .tamperClear id => decide (id < 32768)
  | .pinXlate id => decide (id < 32768)
  | .pinVerifyOfs id => decide (id < 32768)
  | .pinVerifyVal id => decide (id < 32768)
  | .cryptoVerify id => decide (id < 32768)
  | .cryptoRespond id => decide (id < 32768)
  | .cryptoVerifyRespond id => decide (id < 32768)
  | .macGen id => decide (id < 32768)
  | .macVerify id => decide (id < 32768)
  | .dukptDecrypt id => decide (id < 32768)
  | .dukptPinXlate id => decide (id < 32768)
  | .dukptMacVerify id => decide (id < 32768)
  | .ff1Tokenise id => decide (id < 32768)
  | .ff1Detokenise id => decide (id < 32768)
  | .sha256Short id => decide (id < 32768)
  | .sha384 id => decide (id < 32768)
  | .sha512 id => decide (id < 32768)
  | .sha3256 id => decide (id < 32768)
  | .sha3512 id => decide (id < 32768)
  | .shake256 id => decide (id < 32768)
  | .sign id _ _ _ => decide (id < 32768)
  | .verify id _ _ _ => decide (id < 32768)
  | .encapsulate id _ _ _ => decide (id < 32768)
  | .decapsulate id _ _ _ => decide (id < 32768)
  | .ecdh id _ _ _ => decide (id < 32768)
  | .carrelInvoke id => decide (id < 32768)
  | .jrnlStatus id => decide (id < 32768)
  | .jrnlRead id => decide (id < 32768)
  | .jrnlSealRead id => decide (id < 32768)
  | .jrnlRetire id => decide (id < 32768)
  | .rollcallStatus id => decide (id < 32768)
  | .rollcallRun id => decide (id < 32768)
  | .repairLogRead id => decide (id < 32768)
  | .marksSnapshot id => decide (id < 32768)
  | .marksConfig id => decide (id < 32768)
  | .marchRun id => decide (id < 32768)
  | .marchResult id => decide (id < 32768)
  | .dramStatus id => decide (id < 32768)
  | .dramSet id => decide (id < 32768)
  | .passInstall id => decide (id < 32768)
  | .passRevoke id => decide (id < 32768)
  | .passStatus id => decide (id < 32768)
  | .carrelCreate t => decide (t < 64)
  | .carrelDestroy t => decide (t < 64)
  | .tillerReopen t => decide (t < 64)
  | .yield t => decide (t < 64)
  | .leaseTake t => decide (t < 64)
  | .leaseRelease t => decide (t < 64)
  | .domainOff t => decide (t < 64)
  | .domainOn t => decide (t < 64)
  | .bypass _ => true
  | .idcode => true
  | .samplePreload _ _ => true
  | .extest _ _ => true
  | .bootstat => true
  | .dap op => op.wf
  | .illegal t _ => decide (t < 64)
  | .add t _ _ _ => decide (t < 64)
  | .sub t _ _ _ => decide (t < 64)
  | .and t _ _ _ => decide (t < 64)
  | .or t _ _ _ => decide (t < 64)
  | .xor t _ _ _ => decide (t < 64)
  | .slt t _ _ _ => decide (t < 64)
  | .sltu t _ _ _ => decide (t < 64)
  | .sll t _ _ _ => decide (t < 64)
  | .srl t _ _ _ => decide (t < 64)
  | .sra t _ _ _ => decide (t < 64)
  | .ror t _ _ _ => decide (t < 64)
  | .mul t _ _ _ => decide (t < 64)
  | .mulh t _ _ _ => decide (t < 64)
  | .mulhu t _ _ _ => decide (t < 64)
  | .div t _ _ _ => decide (t < 64)
  | .divu t _ _ _ => decide (t < 64)
  | .rem t _ _ _ => decide (t < 64)
  | .remu t _ _ _ => decide (t < 64)
  | .divc t _ _ _ => decide (t < 64)
  | .divcu t _ _ _ => decide (t < 64)
  | .remc t _ _ _ => decide (t < 64)
  | .remcu t _ _ _ => decide (t < 64)
  | .addi t _ _ _ => decide (t < 64)
  | .slti t _ _ _ => decide (t < 64)
  | .sltiu t _ _ _ => decide (t < 64)
  | .andi t _ _ _ => decide (t < 64)
  | .ori t _ _ _ => decide (t < 64)
  | .xori t _ _ _ => decide (t < 64)
  | .lui t _ _ => decide (t < 64)
  | .slli t _ _ _ => decide (t < 64)
  | .srli t _ _ _ => decide (t < 64)
  | .srai t _ _ _ => decide (t < 64)
  | .rori t _ _ _ => decide (t < 64)
  | .lb t _ _ _ => decide (t < 64)
  | .lbu t _ _ _ => decide (t < 64)
  | .lh t _ _ _ => decide (t < 64)
  | .lhu t _ _ _ => decide (t < 64)
  | .lw t _ _ _ => decide (t < 64)
  | .lwu t _ _ _ => decide (t < 64)
  | .ld t _ _ _ => decide (t < 64)
  | .ldpc t _ _ => decide (t < 64)
  | .sb t _ _ _ => decide (t < 64)
  | .sh t _ _ _ => decide (t < 64)
  | .sw t _ _ _ => decide (t < 64)
  | .sd t _ _ _ => decide (t < 64)
  | .dadd t _ _ _ => decide (t < 64)
  | .dswp t _ _ _ => decide (t < 64)
  | .beq t _ _ _ _ => decide (t < 64)
  | .bne t _ _ _ _ => decide (t < 64)
  | .blt t _ _ _ _ => decide (t < 64)
  | .bge t _ _ _ _ => decide (t < 64)
  | .bltu t _ _ _ _ => decide (t < 64)
  | .bgeu t _ _ _ _ => decide (t < 64)
  | .j t _ => decide (t < 64)
  | .jal t _ => decide (t < 64)
  | .jalr t _ _ => decide (t < 64)
  | .csync t => decide (t < 64)
  | .ifence t => decide (t < 64)
  | .fenceRw t => decide (t < 64)
  | .fenceW t => decide (t < 64)
  | .fenceIo t => decide (t < 64)
  | .icinv t _ => decide (t < 64)
  | .retx t => decide (t < 64)
  | .waiti t => decide (t < 64)
  | .maskup t _ => decide (t < 64)
  | .pcall t _ => decide (t < 64)
  | .gcall t _ => decide (t < 64)
  | .csrr t _ _ => decide (t < 64)
  | .csrw t _ _ => decide (t < 64)
  | .bcopy t _ _ _ => decide (t < 64)
  | .bfill t _ _ _ => decide (t < 64)
  | .husksum t _ _ _ => decide (t < 64)
  | .millcall t _ _ => decide (t < 64)
  | .tlbiva t _ => decide (t < 64)
  | .tlbiasid t _ => decide (t < 64)
  | .tlbiworld t => decide (t < 64)
  | .tlbiall t => decide (t < 64)
  | .vaonLoss => true
  | .vaonPowerUp => true
  | .marchTestComplete k n _ _ _ => decide (n < k.count)
  | .dramRegionZeroComplete n => decide (n < 16)
  | .granaryWayClearComplete w => decide (w < 16)

end Sys2Proof
end

