-- ==== Sys2Proof/Decode.lean ====
section
/-! DEFINITION. The command a table word spells, and the decoder and encoder of the Tillers' instruction words
(R246 to R248, R323, Tables 9.1 to 9.3 and 11.3). spec/opcode_table.json gives no row of this block any bits, so no
table word spells a command; a Tiller's instruction comes as a command that has been decoded. -/

namespace Sys2Proof

/-- No row of the table gives bits: every word is refused. DESIGN CHOICE (log 60). -/
def decodeTableWord (_nbits _w : Nat) : Option Instr := none

/-! ### The instruction set -/

/-- An instruction of the Kuest instruction set, with its operands (Tables 9.2, 9.3 and 11.3). -/
inductive Kis where
  | add (rd rs1 rs2 : Fin 32)
  | sub (rd rs1 rs2 : Fin 32)
  | and (rd rs1 rs2 : Fin 32)
  | or (rd rs1 rs2 : Fin 32)
  | xor (rd rs1 rs2 : Fin 32)
  | slt (rd rs1 rs2 : Fin 32)
  | sltu (rd rs1 rs2 : Fin 32)
  | sll (rd rs1 rs2 : Fin 32)
  | srl (rd rs1 rs2 : Fin 32)
  | sra (rd rs1 rs2 : Fin 32)
  | ror (rd rs1 rs2 : Fin 32)
  | mul (rd rs1 rs2 : Fin 32)
  | mulh (rd rs1 rs2 : Fin 32)
  | mulhu (rd rs1 rs2 : Fin 32)
  | div (rd rs1 rs2 : Fin 32)
  | divu (rd rs1 rs2 : Fin 32)
  | rem (rd rs1 rs2 : Fin 32)
  | remu (rd rs1 rs2 : Fin 32)
  | divc (rd rs1 rs2 : Fin 32)
  | divcu (rd rs1 rs2 : Fin 32)
  | remc (rd rs1 rs2 : Fin 32)
  | remcu (rd rs1 rs2 : Fin 32)
  | addi (rd rs1 : Fin 32) (imm : BitVec 16)
  | slti (rd rs1 : Fin 32) (imm : BitVec 16)
  | sltiu (rd rs1 : Fin 32) (imm : BitVec 16)
  | andi (rd rs1 : Fin 32) (imm : BitVec 16)
  | ori (rd rs1 : Fin 32) (imm : BitVec 16)
  | xori (rd rs1 : Fin 32) (imm : BitVec 16)
  | lui (rd : Fin 32) (imm : BitVec 21)
  | slli (rd rs1 : Fin 32) (sh : BitVec 6)
  | srli (rd rs1 : Fin 32) (sh : BitVec 6)
  | srai (rd rs1 : Fin 32) (sh : BitVec 6)
  | rori (rd rs1 : Fin 32) (sh : BitVec 6)
  | lb (rd rs1 : Fin 32) (imm : BitVec 16)
  | lbu (rd rs1 : Fin 32) (imm : BitVec 16)
  | lh (rd rs1 : Fin 32) (imm : BitVec 16)
  | lhu (rd rs1 : Fin 32) (imm : BitVec 16)
  | lw (rd rs1 : Fin 32) (imm : BitVec 16)
  | lwu (rd rs1 : Fin 32) (imm : BitVec 16)
  | ld (rd rs1 : Fin 32) (imm : BitVec 16)
  | ldpc (rd : Fin 32) (imm : BitVec 16)
  | sb (rs2 rs1 : Fin 32) (imm : BitVec 16)
  | sh (rs2 rs1 : Fin 32) (imm : BitVec 16)
  | sw (rs2 rs1 : Fin 32) (imm : BitVec 16)
  | sd (rs2 rs1 : Fin 32) (imm : BitVec 16)
  | dadd (rd rs1 rs2 : Fin 32)
  | dswp (rd rs1 rs2 : Fin 32)
  | beq (rs1 rs2 : Fin 32) (a : Bool) (disp : BitVec 15)
  | bne (rs1 rs2 : Fin 32) (a : Bool) (disp : BitVec 15)
  | blt (rs1 rs2 : Fin 32) (a : Bool) (disp : BitVec 15)
  | bge (rs1 rs2 : Fin 32) (a : Bool) (disp : BitVec 15)
  | bltu (rs1 rs2 : Fin 32) (a : Bool) (disp : BitVec 15)
  | bgeu (rs1 rs2 : Fin 32) (a : Bool) (disp : BitVec 15)
  | j (disp : BitVec 26)
  | jal (disp : BitVec 26)
  | jalr (rd rs1 : Fin 32)
  | csync
  | ifence
  | fenceRw
  | fenceW
  | fenceIo
  | icinv (rs1 : Fin 32)
  | retx
  | waiti
  | maskup (n : BitVec 2)
  | tlbiva (rs1 : Fin 32)
  | tlbiasid (rs1 : Fin 32)
  | tlbiworld
  | tlbiall
  | pcall (imm : BitVec 16)
  | gcall (imm : BitVec 16)
  | csrr (rd : Fin 32) (csr : BitVec 12)
  | csrw (csr : BitVec 12) (rs1 : Fin 32)
  | bcopy (rd rs1 rs2 : Fin 32)
  | bfill (rd rs1 rs2 : Fin 32)
  | husksum (rd rs1 rs2 : Fin 32)
  | millcall (rd rs1 : Fin 32)
  deriving DecidableEq, Repr

/-- The Tiller and the instruction of a command; none for a command that is no instruction, and for ILLEGAL. -/
def Instr.kis (i : Instr) : Option (Nat × Kis) :=
  match i with
  | .add t rd rs1 rs2 => some (t, .add rd rs1 rs2)
  | .sub t rd rs1 rs2 => some (t, .sub rd rs1 rs2)
  | .and t rd rs1 rs2 => some (t, .and rd rs1 rs2)
  | .or t rd rs1 rs2 => some (t, .or rd rs1 rs2)
  | .xor t rd rs1 rs2 => some (t, .xor rd rs1 rs2)
  | .slt t rd rs1 rs2 => some (t, .slt rd rs1 rs2)
  | .sltu t rd rs1 rs2 => some (t, .sltu rd rs1 rs2)
  | .sll t rd rs1 rs2 => some (t, .sll rd rs1 rs2)
  | .srl t rd rs1 rs2 => some (t, .srl rd rs1 rs2)
  | .sra t rd rs1 rs2 => some (t, .sra rd rs1 rs2)
  | .ror t rd rs1 rs2 => some (t, .ror rd rs1 rs2)
  | .mul t rd rs1 rs2 => some (t, .mul rd rs1 rs2)
  | .mulh t rd rs1 rs2 => some (t, .mulh rd rs1 rs2)
  | .mulhu t rd rs1 rs2 => some (t, .mulhu rd rs1 rs2)
  | .div t rd rs1 rs2 => some (t, .div rd rs1 rs2)
  | .divu t rd rs1 rs2 => some (t, .divu rd rs1 rs2)
  | .rem t rd rs1 rs2 => some (t, .rem rd rs1 rs2)
  | .remu t rd rs1 rs2 => some (t, .remu rd rs1 rs2)
  | .divc t rd rs1 rs2 => some (t, .divc rd rs1 rs2)
  | .divcu t rd rs1 rs2 => some (t, .divcu rd rs1 rs2)
  | .remc t rd rs1 rs2 => some (t, .remc rd rs1 rs2)
  | .remcu t rd rs1 rs2 => some (t, .remcu rd rs1 rs2)
  | .addi t rd rs1 imm => some (t, .addi rd rs1 imm)
  | .slti t rd rs1 imm => some (t, .slti rd rs1 imm)
  | .sltiu t rd rs1 imm => some (t, .sltiu rd rs1 imm)
  | .andi t rd rs1 imm => some (t, .andi rd rs1 imm)
  | .ori t rd rs1 imm => some (t, .ori rd rs1 imm)
  | .xori t rd rs1 imm => some (t, .xori rd rs1 imm)
  | .lui t rd imm => some (t, .lui rd imm)
  | .slli t rd rs1 amt => some (t, .slli rd rs1 amt)
  | .srli t rd rs1 amt => some (t, .srli rd rs1 amt)
  | .srai t rd rs1 amt => some (t, .srai rd rs1 amt)
  | .rori t rd rs1 amt => some (t, .rori rd rs1 amt)
  | .lb t rd rs1 imm => some (t, .lb rd rs1 imm)
  | .lbu t rd rs1 imm => some (t, .lbu rd rs1 imm)
  | .lh t rd rs1 imm => some (t, .lh rd rs1 imm)
  | .lhu t rd rs1 imm => some (t, .lhu rd rs1 imm)
  | .lw t rd rs1 imm => some (t, .lw rd rs1 imm)
  | .lwu t rd rs1 imm => some (t, .lwu rd rs1 imm)
  | .ld t rd rs1 imm => some (t, .ld rd rs1 imm)
  | .ldpc t rd imm => some (t, .ldpc rd imm)
  | .sb t rs2 rs1 imm => some (t, .sb rs2 rs1 imm)
  | .sh t rs2 rs1 imm => some (t, .sh rs2 rs1 imm)
  | .sw t rs2 rs1 imm => some (t, .sw rs2 rs1 imm)
  | .sd t rs2 rs1 imm => some (t, .sd rs2 rs1 imm)
  | .dadd t rd rs1 rs2 => some (t, .dadd rd rs1 rs2)
  | .dswp t rd rs1 rs2 => some (t, .dswp rd rs1 rs2)
  | .beq t rs1 rs2 a disp => some (t, .beq rs1 rs2 a disp)
  | .bne t rs1 rs2 a disp => some (t, .bne rs1 rs2 a disp)
  | .blt t rs1 rs2 a disp => some (t, .blt rs1 rs2 a disp)
  | .bge t rs1 rs2 a disp => some (t, .bge rs1 rs2 a disp)
  | .bltu t rs1 rs2 a disp => some (t, .bltu rs1 rs2 a disp)
  | .bgeu t rs1 rs2 a disp => some (t, .bgeu rs1 rs2 a disp)
  | .j t disp => some (t, .j disp)
  | .jal t disp => some (t, .jal disp)
  | .jalr t rd rs1 => some (t, .jalr rd rs1)
  | .csync t => some (t, .csync)
  | .ifence t => some (t, .ifence)
  | .fenceRw t => some (t, .fenceRw)
  | .fenceW t => some (t, .fenceW)
  | .fenceIo t => some (t, .fenceIo)
  | .icinv t rs1 => some (t, .icinv rs1)
  | .retx t => some (t, .retx)
  | .waiti t => some (t, .waiti)
  | .maskup t n => some (t, .maskup n)
  | .tlbiva t rs1 => some (t, .tlbiva rs1)
  | .tlbiasid t rs1 => some (t, .tlbiasid rs1)
  | .tlbiworld t => some (t, .tlbiworld)
  | .tlbiall t => some (t, .tlbiall)
  | .pcall t imm => some (t, .pcall imm)
  | .gcall t imm => some (t, .gcall imm)
  | .csrr t rd csr => some (t, .csrr rd csr)
  | .csrw t csr rs1 => some (t, .csrw csr rs1)
  | .bcopy t rd rs1 rs2 => some (t, .bcopy rd rs1 rs2)
  | .bfill t rd rs1 rs2 => some (t, .bfill rd rs1 rs2)
  | .husksum t rd rs1 rs2 => some (t, .husksum rd rs1 rs2)
  | .millcall t rd rs1 => some (t, .millcall rd rs1)
  | _ => none

/-! ### Formats (Table 9.1) -/

/-- Format R: major, rd, rs1, rs2, func. -/
def fmtR (mj : BitVec 6) (rd rs1 rs2 : Fin 32) (f : BitVec 11) : BitVec 32 :=
  mj ++ BitVec.ofFin (w := 5) rd ++ BitVec.ofFin (w := 5) rs1 ++ BitVec.ofFin (w := 5) rs2 ++ f
/-- Formats I and S: major, two registers, imm16. -/
def fmtI (mj : BitVec 6) (a b : Fin 32) (imm : BitVec 16) : BitVec 32 :=
  mj ++ BitVec.ofFin (w := 5) a ++ BitVec.ofFin (w := 5) b ++ imm
/-- Format B: major, rs1, rs2, A, disp15. -/
def fmtB (mj : BitVec 6) (rs1 rs2 : Fin 32) (a : Bool) (d : BitVec 15) : BitVec 32 :=
  mj ++ BitVec.ofFin (w := 5) rs1 ++ BitVec.ofFin (w := 5) rs2 ++ BitVec.ofBool a ++ d
/-- Format J: major, disp26. -/
def fmtJ (mj : BitVec 6) (d : BitVec 26) : BitVec 32 := mj ++ d
/-- Format U: major, rd, imm21. -/
def fmtU (mj : BitVec 6) (rd : Fin 32) (imm : BitVec 21) : BitVec 32 := mj ++ BitVec.ofFin (w := 5) rd ++ imm

/-- Bits [31:26]. -/
def wMajor (w : BitVec 32) : BitVec 6 := w.extractLsb' 26 6
/-- Bits [25:21]. -/
def wA (w : BitVec 32) : Fin 32 := (w.extractLsb' 21 5).toFin
/-- Bits [20:16]. -/
def wB (w : BitVec 32) : Fin 32 := (w.extractLsb' 16 5).toFin
/-- Bits [15:11]. -/
def wC (w : BitVec 32) : Fin 32 := (w.extractLsb' 11 5).toFin
/-- Bits [10:0]. -/
def wFunc (w : BitVec 32) : BitVec 11 := w.extractLsb' 0 11
/-- Bits [15:0]. -/
def wImm (w : BitVec 32) : BitVec 16 := w.extractLsb' 0 16

/-! ### Decoding (Tables 9.2, 9.3 and 11.3) -/

/-- Major 0x00: register operations by func. -/
def decodeOp (w : BitVec 32) : Option Kis :=
  let rd := wA w
  let a := wB w
  let b := wC w
  match wFunc w with
  | 0x000#11 => some (.add rd a b)
  | 0x001#11 => some (.sub rd a b)
  | 0x002#11 => some (.and rd a b)
  | 0x003#11 => some (.or rd a b)
  | 0x004#11 => some (.xor rd a b)
  | 0x005#11 => some (.slt rd a b)
  | 0x006#11 => some (.sltu rd a b)
  | 0x008#11 => some (.sll rd a b)
  | 0x009#11 => some (.srl rd a b)
  | 0x00A#11 => some (.sra rd a b)
  | 0x00B#11 => some (.ror rd a b)
  | 0x010#11 => some (.mul rd a b)
  | 0x011#11 => some (.mulh rd a b)
  | 0x012#11 => some (.mulhu rd a b)
  | 0x018#11 => some (.div rd a b)
  | 0x019#11 => some (.divu rd a b)
  | 0x01A#11 => some (.rem rd a b)
  | 0x01B#11 => some (.remu rd a b)
  | 0x01C#11 => some (.divc rd a b)
  | 0x01D#11 => some (.divcu rd a b)
  | 0x01E#11 => some (.remc rd a b)
  | 0x01F#11 => some (.remcu rd a b)
  | _ => none

/-- Where a condition on the unused fields holds. -/
def guarded (c : Bool) (i : Kis) : Option Kis := if c then some i else none

/-- Major 0x30: SYS by func. -/
def decodeSys (w : BitVec 32) : Option Kis :=
  let a := wB w
  let b := wC w
  let rd0 := wA w == 0
  let none3 := rd0 && a == 0 && b == 0
  match wFunc w with
  | 0x000#11 => guarded none3 .csync
  | 0x001#11 => guarded none3 .ifence
  | 0x002#11 => guarded none3 .fenceRw
  | 0x003#11 => guarded none3 .fenceW
  | 0x004#11 => guarded none3 .fenceIo
  | 0x008#11 => guarded (rd0 && b == 0) (.icinv a)
  | 0x010#11 => guarded none3 .retx
  | 0x011#11 => guarded none3 .waiti
  | 0x012#11 => guarded (rd0 && a == 0 && decide (b.val < 4)) (.maskup (BitVec.ofNat 2 b.val))
  | 0x020#11 => guarded (rd0 && b == 0) (.tlbiva a)
  | 0x021#11 => guarded (rd0 && b == 0) (.tlbiasid a)
  | 0x022#11 => guarded none3 .tlbiworld
  | 0x023#11 => guarded none3 .tlbiall
  | _ => none

/-- Major 0x1C: Desk atomics by func. -/
def decodeAtomic (w : BitVec 32) : Option Kis :=
  match wFunc w with
  | 0x000#11 => some (.dadd (wA w) (wB w) (wC w))
  | 0x001#11 => some (.dswp (wA w) (wB w) (wC w))
  | _ => none

/-- Major 0x38: long instructions by func. -/
def decodeLong (w : BitVec 32) : Option Kis :=
  match wFunc w with
  | 0x000#11 => some (.bcopy (wA w) (wB w) (wC w))
  | 0x001#11 => some (.bfill (wA w) (wB w) (wC w))
  | 0x002#11 => some (.husksum (wA w) (wB w) (wC w))
  | 0x003#11 => guarded (wC w == 0) (.millcall (wA w) (wB w))
  | _ => none

/-- The instruction that a word is; none for an unlisted word, or for one with a non-zero value in a field that its
instruction does not use, which is ILLEGAL (R248). DESIGN CHOICE (log 60). -/
def decodeWord (w : BitVec 32) : Option Kis :=
  let a := wA w
  let b := wB w
  let imm := wImm w
  let sh : BitVec 6 := w.extractLsb' 0 6
  let sh0 := w.extractLsb' 6 10 == 0#10
  let ann := w.getLsbD 15
  let disp : BitVec 15 := w.extractLsb' 0 15
  let far : BitVec 26 := w.extractLsb' 0 26
  let csr : BitVec 12 := w.extractLsb' 0 12
  let csr0 := w.extractLsb' 12 4 == 0#4
  match wMajor w with
  | 0x00#6 => decodeOp w
  | 0x01#6 => some (.addi a b imm)
  | 0x02#6 => some (.slti a b imm)
  | 0x03#6 => some (.sltiu a b imm)
  | 0x04#6 => some (.andi a b imm)
  | 0x05#6 => some (.ori a b imm)
  | 0x06#6 => some (.xori a b imm)
  | 0x07#6 => some (.lui a (w.extractLsb' 0 21))
  | 0x08#6 => guarded sh0 (.slli a b sh)
  | 0x09#6 => guarded sh0 (.srli a b sh)
  | 0x0A#6 => guarded sh0 (.srai a b sh)
  | 0x0B#6 => guarded sh0 (.rori a b sh)
  | 0x10#6 => some (.lb a b imm)
  | 0x11#6 => some (.lbu a b imm)
  | 0x12#6 => some (.lh a b imm)
  | 0x13#6 => some (.lhu a b imm)
  | 0x14#6 => some (.lw a b imm)
  | 0x15#6 => some (.lwu a b imm)
  | 0x16#6 => some (.ld a b imm)
  | 0x17#6 => guarded (b == 0) (.ldpc a imm)
  | 0x18#6 => some (.sb a b imm)
  | 0x19#6 => some (.sh a b imm)
  | 0x1A#6 => some (.sw a b imm)
  | 0x1B#6 => some (.sd a b imm)
  | 0x1C#6 => decodeAtomic w
  | 0x20#6 => some (.beq a b ann disp)
  | 0x21#6 => some (.bne a b ann disp)
  | 0x22#6 => some (.blt a b ann disp)
  | 0x23#6 => some (.bge a b ann disp)
  | 0x24#6 => some (.bltu a b ann disp)
  | 0x25#6 => some (.bgeu a b ann disp)
  | 0x28#6 => some (.j far)
  | 0x29#6 => some (.jal far)
  | 0x2A#6 => guarded (wC w == 0 && wFunc w == 0) (.jalr a b)
  | 0x30#6 => decodeSys w
  | 0x31#6 => guarded (a == 0 && b == 0) (.pcall imm)
  | 0x32#6 => guarded (a == 0 && b == 0) (.gcall imm)
  | 0x33#6 => guarded (b == 0 && csr0) (.csrr a csr)
  | 0x34#6 => guarded (a == 0 && csr0) (.csrw csr b)
  | 0x38#6 => decodeLong w
  | _ => none

/-! ### Encoding -/

/-- The word of an instruction. -/
def Kis.encode (i : Kis) : BitVec 32 :=
  let op (f : BitVec 11) (rd a b : Fin 32) := fmtR 0x00 rd a b f
  let sys (f : BitVec 11) (a b : Fin 32) := fmtR 0x30 0 a b f
  let im (m : BitVec 6) (a b : Fin 32) (v : BitVec 16) := fmtI m a b v
  let br (m : BitVec 6) (a b : Fin 32) (n : Bool) (d : BitVec 15) := fmtB m a b n d
  match i with
  | .add rd a b => op 0x000 rd a b
  | .sub rd a b => op 0x001 rd a b
  | .and rd a b => op 0x002 rd a b
  | .or rd a b => op 0x003 rd a b
  | .xor rd a b => op 0x004 rd a b
  | .slt rd a b => op 0x005 rd a b
  | .sltu rd a b => op 0x006 rd a b
  | .sll rd a b => op 0x008 rd a b
  | .srl rd a b => op 0x009 rd a b
  | .sra rd a b => op 0x00A rd a b
  | .ror rd a b => op 0x00B rd a b
  | .mul rd a b => op 0x010 rd a b
  | .mulh rd a b => op 0x011 rd a b
  | .mulhu rd a b => op 0x012 rd a b
  | .div rd a b => op 0x018 rd a b
  | .divu rd a b => op 0x019 rd a b
  | .rem rd a b => op 0x01A rd a b
  | .remu rd a b => op 0x01B rd a b
  | .divc rd a b => op 0x01C rd a b
  | .divcu rd a b => op 0x01D rd a b
  | .remc rd a b => op 0x01E rd a b
  | .remcu rd a b => op 0x01F rd a b
  | .addi rd a v => im 0x01 rd a v
  | .slti rd a v => im 0x02 rd a v
  | .sltiu rd a v => im 0x03 rd a v
  | .andi rd a v => im 0x04 rd a v
  | .ori rd a v => im 0x05 rd a v
  | .xori rd a v => im 0x06 rd a v
  | .lui rd v => fmtU 0x07 rd v
  | .slli rd a h => im 0x08 rd a (0#10 ++ h)
  | .srli rd a h => im 0x09 rd a (0#10 ++ h)
  | .srai rd a h => im 0x0A rd a (0#10 ++ h)
  | .rori rd a h => im 0x0B rd a (0#10 ++ h)
  | .lb rd a v => im 0x10 rd a v
  | .lbu rd a v => im 0x11 rd a v
  | .lh rd a v => im 0x12 rd a v
  | .lhu rd a v => im 0x13 rd a v
  | .lw rd a v => im 0x14 rd a v
  | .lwu rd a v => im 0x15 rd a v
  | .ld rd a v => im 0x16 rd a v
  | .ldpc rd v => im 0x17 rd 0 v
  | .sb d a v => im 0x18 d a v
  | .sh d a v => im 0x19 d a v
  | .sw d a v => im 0x1A d a v
  | .sd d a v => im 0x1B d a v
  | .dadd rd a b => fmtR 0x1C rd a b 0
  | .dswp rd a b => fmtR 0x1C rd a b 1
  | .beq a b n d => br 0x20 a b n d
  | .bne a b n d => br 0x21 a b n d
  | .blt a b n d => br 0x22 a b n d
  | .bge a b n d => br 0x23 a b n d
  | .bltu a b n d => br 0x24 a b n d
  | .bgeu a b n d => br 0x25 a b n d
  | .j d => fmtJ 0x28 d
  | .jal d => fmtJ 0x29 d
  | .jalr rd a => fmtR 0x2A rd a 0 0
  | .csync => sys 0x000 0 0
  | .ifence => sys 0x001 0 0
  | .fenceRw => sys 0x002 0 0
  | .fenceW => sys 0x003 0 0
  | .fenceIo => sys 0x004 0 0
  | .icinv a => sys 0x008 a 0
  | .retx => sys 0x010 0 0
  | .waiti => sys 0x011 0 0
  | .maskup n => sys 0x012 0 (n.setWidth 5).toFin
  | .tlbiva a => sys 0x020 a 0
  | .tlbiasid a => sys 0x021 a 0
  | .tlbiworld => sys 0x022 0 0
  | .tlbiall => sys 0x023 0 0
  | .pcall v => im 0x31 0 0 v
  | .gcall v => im 0x32 0 0 v
  | .csrr rd c => im 0x33 rd 0 (0#4 ++ c)
  | .csrw c a => im 0x34 0 a (0#4 ++ c)
  | .bcopy rd a b => fmtR 0x38 rd a b 0
  | .bfill rd a b => fmtR 0x38 rd a b 1
  | .husksum rd a b => fmtR 0x38 rd a b 2
  | .millcall rd a => fmtR 0x38 rd a 0 3

end Sys2Proof
end

