-- ==== Sys2Proof/Machine/State.lean ====
section
/-! DEFINITION. The state of the KT8400 as plain data: every piece of state the spec gives the part,
the queue of waiting commands, and the state after reset. Memory-mapped registers are held by address
in `State.regs` over the reset values of `RegTable`; everything a register only reports is held once,
in the structure that owns it. -/

namespace Sys2Proof.Machine

/-- Why the machine stops with a fault. -/
inductive Fault where
  /-- A unit's behaviour is not guaranteed (R11, R19): raised by HANDSHAKE_TIMEOUT when VCORE is below
  0.56 V, where the spec promises nothing. Safe: the model stops. -/
  | notGuaranteed (rule : String)
  deriving DecidableEq, Repr

/-- Why the machine gives a command no meaning. -/
inductive Refusal where
  /-- The command's arm has no meaning yet; raised by `exec` only. Safe: nothing is claimed. -/
  | notModelled (mnemonic : String)
  deriving DecidableEq, Repr

/-! ### Slates, Thresher and Bell (chapters 3 and 4) -/

/-- Slate states (Table 3.1). -/
inductive SlateSt where
  | free | admitted | live | claimed | draining
  deriving DecidableEq, Repr

/-- Where a LIVE slate's work is (R104, R107, R109, R113, R357). -/
inductive Work where
  /-- No work is dispatched or held anywhere. -/
  | idle
  /-- Key resolution waits for the fill of key handle `k` (R107). -/
  | filling (k : Nat)
  /-- In the House's Thresher queue (R109). -/
  | queued
  /-- In position `pos` of lane `lane` (R110). -/
  | lane (lane pos : Nat)
  /-- Waiting for a credit of its WORK Chute (R354). -/
  | credit
  /-- Its WORK packet is unread in Chute `c`. -/
  | chute (c : Nat)
  /-- Held by logical Tiller `t`, by Tabqua or a carrel program. -/
  | tiller (t : Nat)
  deriving DecidableEq, Repr

/-- The path a slate takes at dispatch (R104). -/
inductive Path where
  | thresher | tabqua | carrel
  deriving DecidableEq, Repr

/-- What a claim decides: the reply's content (R89, R94, Table 2.4). -/
structure Claim where
  /-- STATUS code of Table 2.6. -/
  status : Nat
  /-- RESULT word (R62). -/
  result : BitVec 32
  /-- NEG of R61. -/
  neg : Bool
  /-- Output bytes written to OUTPTR, `none` when OUT is 0 (R63). -/
  out : Option (List Byte)
  /-- The stand-in flag of the record (R94). -/
  standin : Bool
  /-- Device time at which the claim was taken (Table 8.1 TIME). -/
  time : Nat
  deriving DecidableEq, Repr

/-- The place where a resolved key lives (R108, R174). -/
inductive KeyRef where
  | sym (slot : Nat)
  | asym (slot : Nat)
  /-- A key-cache entry, by its handle. -/
  | cached (handle : Word)
  | device (k : Nat)
  deriving DecidableEq, Repr

/-- A slate: the 64-byte entry and its operand words (R80, Table 3.1). -/
structure Slate where
  st : SlateSt := .free
  /-- Generation, 0 to 255 (R80). -/
  gen : Nat := 0
  house : Nat := 0
  gfn : Nat := 0
  /-- The function's reset epoch at commit: a later function level reset discards the reply (R411). -/
  epoch : Nat := 0
  /-- Push slot of a push packet; `none` for an SQ packet. -/
  push : Option Nat := none
  /-- Header and extension words. -/
  pkt : List Byte := []
  /-- t_c: device time of commit at the end of step 1 (R139). -/
  tc : Nat := 0
  /-- Signer of an authenticated packet (Table 2.7). -/
  signer : Option Nat := none
  /-- Stand-in point (R84). -/
  standinPt : Nat := 0
  /-- The stand-in point is held in the Bell's wheel. -/
  armed : Bool := false
  /-- Device time from which the issue delay is measured: arming, the stand-in point, or a forward
  time step that passed it (R86, R92, R95). -/
  dueAt : Nat := 0
  tplResult : BitVec 32 := 0
  tplTcode : BitVec 16 := 0
  path : Path := .tabqua
  /-- Forwarded to Tabqua (R113). -/
  fwd : Bool := false
  /-- The House was in EXAM at dispatch (Table 8.1). -/
  exam : Bool := false
  /-- Dispatched: the EXAM flag of the record is meaningful. -/
  dispatched : Bool := false
  /-- EXAM release time R; `none` when the slate is not padded or no bound exists (R132). -/
  release : Option Nat := none
  work : Work := .idle
  /-- Keys resolved so far, in handle order, which the slate pins (R108, R174). -/
  keys : List KeyRef := []
  /-- The lane's completed result, awaiting its hand-over to the arbiter (R110). -/
  res : Option Claim := none
  /-- What the claim decided, once it is taken (R87, R89). -/
  claim : Option Claim := none
  /-- The Tiller that took the claim for the command (R91). -/
  heldBy : Option Nat := none
  /-- The lasting effect waits (KEY_DELETE, R175; JRNL_READ of held records, R241). -/
  waiting : Bool := false
  /-- JSEQ of the slate's record, once built. -/
  jseq : Option Nat := none
  /-- The reply is held for its EXAM release time (R132). -/
  heldRelease : Bool := false
  /-- The reply has been written, or discarded (R81). -/
  replied : Bool := false
  /-- Mill operations that carry the slate's tag (R81, R98). -/
  mills : Nat := 0
  /-- B_op of the key types resolved, from the moment the slate takes a position (R105, R110). -/
  bop : Nat := 0
  /-- The command's effect after its reply: WARM_RESET, STOP_ENTER (R409, R413). -/
  after : Bool := false
  deriving DecidableEq, Repr

/-- A packet committed at step 1, waiting at step 2 or step 3 (R66, R67). -/
structure Committed where
  pkt : List Byte
  push : Option Nat
  tc : Nat
  epoch : Nat
  deriving DecidableEq, Repr

/-- A packet that holds its credit and waits at step 3 for a counter seal (R73 step 6). -/
structure Sealing where
  pk : Committed
  /-- CTR to be sealed. -/
  ctr : Nat
  /-- The owner counter when true, else the House counter of the function. -/
  owner : Bool
  /-- Time on the time base's cycles at which the write began. -/
  since : Nat
  deriving DecidableEq, Repr

/-- A packet that holds its credit and waits at step 3, behind an earlier packet of its stream or for its
counter (R67, R74, R77). -/
structure Arrival where
  gfn : Nat
  st : Stream
  pk : Committed
  /-- Device time of its arrival at step 3. -/
  time : Nat
  deriving DecidableEq, Repr

/-- What one host function holds beside its BAR0 registers (chapter 2). -/
structure Fn where
  /-- Bytes of the push window, by BAR2 offset (R50). -/
  pushMem : List Host.Cell := []
  /-- Busy push slots (R52). -/
  pushBusy : List Nat := []
  /-- Push slots committed by their HCHECK write, in order, awaiting step 1 (R52). -/
  pushQ : List Nat := []
  /-- The next turn at step 1 goes to the push stream (R463). -/
  pushTurn : Bool := false
  /-- Packets of each stream past step 1 (R67). -/
  waitSq : List Committed := []
  waitPush : List Committed := []
  /-- A packet of each stream at step 3 (R77). -/
  sealSq : Option Sealing := none
  sealPush : Option Sealing := none
  /-- CQ entries reserved and not yet written (R49). -/
  cqReserved : Nat := 0
  /-- PHASE of the current pass through the CQ (R48). -/
  phase : Bool := true
  /-- Packets holding a credit (CREDIT.INFLIGHT, R67). -/
  inflight : Nat := 0
  /-- Function level resets so far: replies of an earlier epoch are discarded (R411). -/
  epoch : Nat := 0
  deriving DecidableEq, Repr

/-- A host port's link and power (R411, R417). -/
structure Port where
  linkUp : Bool := false
  /-- PERST# is low. -/
  perstLow : Bool := true
  training : Bool := false
  /-- Pn_WAKE# is driven low (R449). -/
  wakeLow : Bool := false
  /-- Next function that step 1 serves (R463). -/
  rr : Nat := 0
  deriving DecidableEq, Repr

/-- A Thresher lane beside THR_LANE (R110, R112, R211). -/
structure Lane where
  /-- Slate in each of the four positions. -/
  pos : List (Option Nat) := [none, none, none, none]
  /-- House that reserves the lane; `none` for the common pool. -/
  owner : Option Nat := none
  /-- House served. -/
  serves : Option Nat := none
  /-- House that starts being served when the lane has drained (R112). -/
  nextHouse : Option Nat := none
  draining : Bool := false
  /-- Borrowing House under LOAN (R211). -/
  lent : Option Nat := none
  /-- A slate was in the lane during the current Term (R211). -/
  used : Bool := false
  /-- A worn lane that drains after its rotation, and the lane that then takes its S-mills and starts
  serving (Table 15.2). -/
  retiring : Bool := false
  heir : Option Nat := none
  deriving DecidableEq, Repr

/-! ### Keys and mills (chapter 6) -/

/-- A key with its attributes (R163, Table 6.7). -/
structure KeyEnt where
  /-- The entry holds a key. -/
  used : Bool := false
  /-- Generation of the slot (R161). -/
  gen : Nat := 0
  house : Nat := 0
  attr : Word := 0
  /-- Secret key bytes in the form of Table 6.5. -/
  val : List Byte := []
  /-- Public key bytes of an asymmetric key. -/
  pub : List Byte := []
  notBefore : Nat := 0
  notAfter : Nat := 0
  uses : Nat := 0
  /-- USES as last sealed (R166). -/
  usesSealed : Nat := 0
  /-- A deletion has been claimed: new resolutions fail (R175). -/
  deleting : Bool := false
  deriving DecidableEq, Repr

/-- A key-cache entry: the handle of the record and its unwrapped copy (R174). -/
structure CacheEnt where
  handle : Word
  key : KeyEnt
  deriving DecidableEq, Repr

/-- The device key area and the key hierarchy (Table 6.6). -/
structure DeviceKeys where
  /-- VSHARE in VAON retention. -/
  vshare : Option (BitVec 256) := none
  ownerMaster : Option (BitVec 256) := none
  ock : Option (BitVec 256) := none
  okek : Option (BitVec 256) := none
  opk : Option (BitVec 256) := none
  /-- The device audit keys exist (P-384, ML-DSA-65); their seeds. -/
  audit : Option (BitVec 256) := none
  /-- House command authentication keys by House (R71). -/
  cmd : List (Nat × BitVec 256) := []
  /-- CUST_ROOT (R182). -/
  custRoot : Option (BitVec 384) := none
  /-- Key ports of mills and lanes are closed by tamper (Table 6.15). -/
  portsClosed : Bool := false
  deriving DecidableEq, Repr

/-- A component session of a House (R184). -/
structure CompSession where
  /-- The key specification word. -/
  spec : List Byte
  count : Nat
  /-- XOR of the components so far and the cards used: serial and custodian ID. -/
  acc : BitVec 256
  cards : List (List Byte × List Byte)
  /-- Time on the time base's cycles at which the session opened. -/
  since : Nat
  deriving DecidableEq, Repr

/-- The owner of a mill operation. -/
inductive MillUser where
  /-- Completion slot `k` of Tiller `t` (R283). -/
  | tiller (t k : Nat)
  /-- Signature `k` of the seal with number `no` of House `h` (R231). -/
  | journal (h no k : Nat)
  deriving DecidableEq, Repr

/-- A mill operation in progress (R185, R186). -/
structure MillOp where
  user : MillUser
  house : Nat
  /-- Slate ID and generation whose tag the operation carries. -/
  tag : Option (Nat × Nat)
  cancelled : Bool := false
  /-- Random bytes drawn for the operation (R193). -/
  rnd : List Byte := []
  deriving DecidableEq, Repr

/-- The APDU whose response an exchange awaits (Table 6.10). -/
inductive CardStep where
  | select
  /-- GET CERT of chunk `n`. -/
  | cert (n : Nat)
  | agree
  | component
  deriving DecidableEq, Repr

/-- A card exchange in progress (R182). -/
structure Exchange where
  /-- The slate whose COMP_ENTER runs it, with its generation; `none` for the owner keys (R183). -/
  slate : Option (Nat × Nat)
  at_ : CardStep := .select
  /-- The part's ephemeral P-384 key, its nonce, and the session number. -/
  eph : List Byte
  nonce : List Byte
  session : Nat
  /-- The card certificate as received so far. -/
  cert : List Byte := []
  /-- The card's ephemeral P-384 key. -/
  peer : List Byte := []
  deriving DecidableEq, Repr

/-- A custodian card interface (R181, R450). -/
structure Card where
  present : Bool := false
  exchange : Option Exchange := none
  deriving DecidableEq, Repr

/-- A generate request of a House's DRBG: the Key and V that its 4,096 bytes follow from, and how many of
them have been drawn (R193). -/
structure DrbgRun where
  key : BitVec 256
  v : BitVec 128
  drawn : Nat := 0
  deriving DecidableEq, Repr

/-- A House's CTR_DRBG of SP 800-90A: its state, and the requests in its 16 KB buffer, oldest first (R193).
PRESUMED (log 7). -/
structure Drbg where
  /-- Instantiated. -/
  live : Bool := false
  key : BitVec 256 := 0
  v : BitVec 128 := 0
  buf : List DrbgRun := []
  deriving DecidableEq, Repr

/-- An entropy source's test state (R192). -/
structure Entropy where
  /-- The last raw bit and how often it repeated. -/
  last : Bool := false
  run : Nat := 0
  /-- The adaptive proportion window: its first bit, bits seen, matches. -/
  first : Bool := false
  seen : Nat := 0
  matched : Nat := 0
  /-- Raw bits gathered toward the next 640, newest first. -/
  raw : List Bool := []
  outputs : Nat := 0
  deriving DecidableEq, Repr

/-! ### Houses and journals (chapters 7 and 8) -/

/-- A staged change, in claim order (R207, Tables 7.2 and 7.3). -/
inductive Staged where
  /-- HOUSE_BIND of one port (R199). -/
  | bind (h port : Nat)
  | share (h ty : Nat) (v : Nat)
  | region (n : Nat) (a b : Word) (zeroed : Bool)
  | fnConfig (g credit : Nat) (fast : Bool) (allow base count : Nat)
  | thresher (h bmax wt mr : Nat)
  | regime (h : Nat) (exam : Bool)
  | loan (h : Nat) (on : Bool)
  | sealOn (h : Nat)
  | sealOff (h : Nat)
  /-- TERM_SET: `wait` boundaries pass before it applies (R206). -/
  | termLen (v wait : Nat)
  | jRing (h base log2 : Nat)
  | jAlt (h base log2 : Nat)
  | jMarks (h high full : Nat)
  | jSeal (h base slog2 n : Nat)
  | jMirror (h maddr mlog2 gfn : Nat) (en : Bool) (timeout : Nat)
  | jAdmin (h gfn : Nat) (en : Bool)
  | dram (c : Nat) (ctl trn : Word) (retain : Nat)
  deriving DecidableEq, Repr

/-- A seal that is due and not appended (R231, R232). -/
structure SealJob where
  no : Nat
  s : Nat
  head : BitVec 256
  /-- The P-384 and ML-DSA-65 signatures have completed. -/
  sig : Bool × Bool := (false, false)
  /-- The seal block has been issued for writing. -/
  block : Bool := false
  /-- Its two signatures have been asked for: it is one of the 16 seals that may be due (R232). -/
  asked : Bool := false
  /-- The block's write has returned: only the SEAL record is missing. -/
  written : Bool := false
  deriving DecidableEq, Repr

/-- A rejection at step 3 or 4 that waits for its record (R226). -/
structure Reject where
  gfn : Nat
  epoch : Nat
  push : Option Nat
  pkt : List Byte
  status : Nat
  /-- Device time of the rejection (Table 8.1 TIME). -/
  time : Nat
  deriving DecidableEq, Repr

/-- An event record (Table 8.2). -/
inductive Event where
  | sealed (no s : Nat) (head : BitVec 256)
  | start (kind s : Nat) (head : BitVec 256)
  | tamper (hit : Nat)
  | mirrorSuspend (cause jseq : Nat)
  /-- RETIRED before the relocation, and the first record held, if one was. -/
  | relocate (old : Nat) (first : Option Nat)
  | mirrorResume
  deriving DecidableEq, Repr

/-- A record whose write response or mirror is outstanding, in JSEQ order (R60, R239). -/
structure PendRec where
  jseq : Nat
  /-- The slate, or the slate-less reply, that waits on the record. -/
  slate : Option Nat
  /-- The reply of a step 3 or 4 rejection, which holds no slate. -/
  reject : Option Reject
  /-- The DRAM write response has returned. -/
  written : Bool
  /-- The mirror completion is outstanding, and since when on the cycles of the time base. -/
  mirror : Option Nat
  deriving DecidableEq, Repr

/-- A record built while its line is frozen (R102). -/
structure HeldRec where
  bytes : List Byte
  p : PendRec
  /-- It is to be mirrored when it is written (R239). -/
  copy : Bool
  deriving DecidableEq, Repr

/-- A record that is not built yet, in claim order: a claimed slate's, or a rejection's (R102, R233). -/
inductive Unbuilt where
  | slate (id : Nat)
  | reject (r : Reject)
  deriving DecidableEq, Repr

/-- A House's journal beside the registers of Table 8.6 (chapter 8). -/
structure Journal where
  next : Nat := 0
  retired : Nat := 0
  /-- Chain head (R230). -/
  head : BitVec 256 := 0
  /-- Link head of the last START record (R234). -/
  link : BitVec 256 := 0
  /-- The last SEAL record appended since the start: S, SEALNO, H_S (Table 8.5). -/
  sealed : Option (Nat × Nat × BitVec 256) := none
  sealno : Nat := 0
  /-- The first SEALNO since the start (R234). -/
  sealFrom : Nat := 0
  /-- Records counted toward the next seal (R231), and the JSEQ and head of the latest one. -/
  count : Nat := 0
  counted : Nat × BitVec 256 := (0, 0)
  seals : List SealJob := []
  /-- The flash copy: S, H_S, SEALNO, and the JSEQ reserve (R233). -/
  flashSeal : Option (Nat × BitVec 256) := none
  flashSealno : Nat := 0
  reserve : Nat := 0
  /-- A reserve being written (R233). -/
  reserveNew : Option Nat := none
  /-- Seals since the last flash write, and when it was made (R233). -/
  ckptSeals : Nat := 0
  ckptTime : Nat := 0
  pend : List PendRec := []
  held : List HeldRec := []
  /-- Event records that wait for the writer, each with the device time of its event. -/
  events : List (Nat × Event) := []
  /-- Records that wait for the writer, in claim order (R102, R233). -/
  unbuilt : List Unbuilt := []
  susp : Bool := false
  /-- A tamper hit: no seal falls due before the next start (R235). -/
  noSeals : Bool := false
  deriving DecidableEq, Repr

/-- A House beside its registers (chapters 6 and 7). Entry 4 of the Houses stands for the common pool, of
which only the Tillers being cleared are used. -/
structure House where
  /-- Thresher queue (R109). -/
  queue : List Nat := []
  /-- The Bell's issue engine: the step of device time in which it last fired, and how many slates it fired in
  that step (R92). -/
  bellAt : Nat := 0
  bellFired : Nat := 0
  /-- Authentication counters and sealed values by function (R200). -/
  ctr : List (Nat × (Nat × Nat)) := []
  hskEpoch : Nat := 0
  /-- RECNO and its sealed value (R171). -/
  recno : Nat := 0
  recnoSealed : Nat := 0
  comp : Option CompSession := none
  drbg : Drbg := {}
  /-- The Thresher queue has held a slate in the current Term (R211). -/
  queueUsed : Bool := false
  /-- Tillers on their way to the House by SHARE_SET (R208). -/
  tillersClearing : List Nat := []
  /-- Slot shares reduced but not yet applied (R210): symmetric and asymmetric limits. -/
  symLimit : Option Nat := none
  asymLimit : Option Nat := none
  j : Journal := {}
  deriving DecidableEq, Repr

/-! ### Tillers (chapters 9 to 12) -/

/-- A store buffer entry: one line, or one side-effect store (R255). DEDUCED (log 31). -/
structure SbEntry where
  /-- Physical address of the line, or of the side-effect store. -/
  line : Nat
  /-- The bytes written, as (offset in the line, byte), youngest first per offset. -/
  bytes : List (Nat × Byte)
  side : Bool
  /-- Early write acknowledgement allowed (R332). -/
  ewa : Bool
  /-- Still open for merging. -/
  isOpen : Bool
  /-- Fences completed before the store: no entry drains ahead of one of a lower number (R257). -/
  grp : Nat
  /-- Bytes of a side-effect store. -/
  size : Nat
  /-- Ring of the store, for register access (R285, R437). -/
  ring : Nat
  /-- May be held in the data cache and the L2, as fixed at the store (R255, R330). -/
  cached : Bool := false
  deriving DecidableEq, Repr

/-- A TLB entry (R322). -/
structure TlbEntry where
  secure : Bool
  asid : Nat
  vpn : Nat
  /-- log2 of the size in bytes: 12, 16, 21, 25 or 30. -/
  size : Nat
  /-- Physical base of the walked entry. -/
  ppn : Nat
  /-- Bits [8:2] of the leaf: R W X U G A D from bit 0. -/
  bits : BitVec 7
  /-- In custody, of the second stage: the intermediate base and bits [62:60], R W X from bit 2 (R305). -/
  second : Option (Nat × BitVec 3) := none
  deriving DecidableEq, Repr

/-- The kind of an access (Table 11.4). -/
inductive Acc where
  | fetch | load | store | atomic
  deriving DecidableEq, Repr

/-- What a Tiller waits for. -/
inductive Stall where
  | none
  /-- A table walk for a virtual address: next level and the address of the entry to read (R315). -/
  | walk (kind : Acc) (va : Nat) (level entry : Nat)
  /-- A line fill of the instruction cache (R264); whether the line may be cached (R330). -/
  | fetch (line : Nat) (cached : Bool)
  /-- A load's data: address and size of each part, whether each may be cached, sign extension, virtual
  address and rd (R330, R376). -/
  | load (parts : List (Nat × Nat)) (cached : List Bool) (signed : Bool) (va : Nat) (rd : Fin 32)
  | waiti
  /-- A MILLCALL waits for the operation in completion slot `k` (R282). -/
  | mill (k : Nat) (rd : Fin 32)
  deriving DecidableEq, Repr

/-- A MILLCALL completion slot (R283). -/
inductive MillSlot where
  | empty
  | running (seq tag gen : Nat) (out : Nat) (cls : Nat) (key : Word) (inp aux : List Byte) (len : Nat)
  | ready (seq tag gen : Nat) (status : Word)
  deriving DecidableEq, Repr

/-- A logical Tiller (R244 to R283, R284 to R302, R322, R340 to R361). -/
structure Tiller where
  /-- g0 to g31; g0 is never written (R245). -/
  g : Vector Word 32 := Vector.replicate 32 0
  pc : Word := 0x0F0000000800
  /-- The next instruction is a delay slot with this resolved target (R268). -/
  dslot : Option Word := none
  /-- EFLAGS.PROGRESS (R278). -/
  progress : Bool := false
  ring : Nat := 0
  /-- The carrel whose code holds the current instruction: EFLAGS.INC and CIDX. -/
  carrel : Option Nat := none
  /-- Physical address of the instruction executed before, for R299. -/
  prevPa : Option Nat := none
  /-- A RETX resume that skips the carrel entry check (R301). -/
  noEntryCheck : Bool := false
  cause : Vector Word 4 := Vector.replicate 4 0
  epc : Vector Word 4 := Vector.replicate 4 0
  entry : Vector Word 4 := #v[0x0F0000000800, 0, 0, 0]
  sp : Vector Word 4 := Vector.replicate 4 0
  /-- MASK of the open and the secure bank (R285). -/
  maskOpen : Nat := 3
  maskSecure : Nat := 3
  predEn : Bool := true
  arith : Word := 0
  ptOpen : Word := 0
  ptSecure : Word := 0
  carrelCsr : Word := 0
  openEn : Bool := false
  /-- Pending control register writes by number, latest value (R272). -/
  pendCsr : List (Nat × Word) := []
  sb : List SbEntry := []
  /-- Side-effect stores with early acknowledgement that the network has accepted and their targets have not
  performed yet, oldest first (R332). -/
  posted : List SbEntry := []
  /-- Lines that a partially forwarded load waits for (R256). -/
  lineWait : List Nat := []
  /-- FENCE.W and FENCE.RW so far (R257). -/
  fenceNo : Nat := 0
  /-- The BCOPY in progress began with overlapping ranges (R279). -/
  overlap : Bool := false
  /-- Ring and address of each frame that such a BCOPY was interrupted with (R279). -/
  overFrames : List (Nat × Nat) := []
  tlb : List TlbEntry := []
  /-- Two-bit counters that are not 1, by PC[11:2] (R263). -/
  pred : List (Nat × Nat) := []
  /-- The lines in the fetch queue: virtual and physical line address of each (R263, R324). -/
  fq : List (Nat × Nat) := []
  /-- Lines of the instruction cache and of the data cache with their dirty bits, most recently
  used first (R263, R373). -/
  icache : List (Nat × Bool) := []
  dcache : List (Nat × Bool) := []
  stall : Stall := .none
  /-- Interrupt claim stack, top first: source and EMPTY (R345, R347). -/
  claims : List (Nat × Bool) := []
  dflag : Bool := false
  /-- Time on the time base's cycles at which DFLAG was set (R349). -/
  dflagAt : Nat := 0
  /-- Ring that took the delivery (R345). -/
  dring : Nat := 0
  /-- The secure MASK that YIELD restores: that of the open-world code whose frame the Proctor keeps (R294). -/
  keptMask : Option Nat := none
  /-- A level source claimed whose EMPTY window is still open (R347). -/
  emptyWin : Option Nat := none
  emptyCount : Nat := 0
  why : Nat := 0
  /-- A HOLD fault is to be raised at the next boundary (R349). -/
  holdDue : Bool := false
  /-- Private edge sources pending (R342). -/
  edges : List Nat := []
  slots : Vector MillSlot 4 := Vector.replicate 4 .empty
  millSeq : Nat := 0
  /-- CH_ANS in request order: the reply Chute of each request, and its answer, `none` until it arrives
  (R358). -/
  ans : List (Nat × Option Word) := []
  /-- CH_CANCEL, oldest first: each cancelled tag, and the slate's WORK Chute (R360). -/
  cancel : List (Nat × Option Nat) := []
  halted : Bool := false
  /-- Halted by the debug port (R308, R310), and its single step in progress. -/
  dbgHalt : Bool := false
  dbgStep : Bool := false
  /-- Breakpoints of the debug port: instruction addresses. -/
  breaks : List Word := []
  /-- A PCALL service in the Proctor awaits its Proctor step: service number, ring (R294). -/
  pcall : Option (Nat × Nat) := none
  /-- Physical position (R246). -/
  pos : Nat := 0
  /-- A machine-check event waits for the Tiller's next instruction boundary (R287, R288). -/
  mcheck : Bool := false
  /-- Term number, changed at each unit reset (R412). -/
  term : Nat := 0
  /-- In service (its Sheaf domain is on and the unit is not retired). -/
  on : Bool := true
  deriving DecidableEq, Repr

/-! ### Chutes and Hoppers (chapter 12) -/

/-- A committed packet of a Chute (R353, R357). -/
structure Packet where
  bytes : List Byte
  /-- The writing Tiller; `none` for the Roll. -/
  writer : Option Nat
  /-- The writer's term number at the commit (R99, R412). -/
  term : Nat := 0
  deriving DecidableEq, Repr

/-- A Chute beside CH_CFG (R352 to R361). -/
structure Chute where
  pkts : List Packet := []
  /-- The 8-byte units of the head packet that have been read. -/
  taken : List Nat := []
  lastRead : Word := 0
  /-- Time on the time base's cycles at which the stale timer restarted. -/
  staleAt : Nat := 0
  stale : Bool := false
  underrun : Bool := false
  cancelOvf : Bool := false
  rewind : Nat := 0
  /-- Open write buffers by Tiller: bytes by offset (R353). -/
  bufs : List (Nat × List Host.Cell) := []
  deriving DecidableEq, Repr

/-- A Hopper engine (R362). -/
structure Hopper where
  /-- Queued channels in GO order. -/
  queue : List Nat := []
  running : Option Nat := none
  /-- Channels whose dropped writes have not settled (R367). -/
  dropping : List Nat := []
  deriving DecidableEq, Repr

/-! ### Memory system, power, rotation (chapters 13 to 16) -/

/-- A DRAM channel beside its registers (chapter 13). DESIGN CHOICE (log 72). -/
structure Chan where
  /-- Its DIMMs, as SPD reads and training at the last start found them. -/
  dimm : Dimm := ⟨0, 0, false, 0, false⟩
  /-- The failing line, and the time of the freeze on the time base's cycles (R393, R394). -/
  failLine : Nat := 0
  frozenAt : Nat := 0
  /-- Banks marked for refresh management, with repetition up to two (R389). -/
  marks : List Nat := []
  /-- Banks with two marks for which an activate that would add a third waits (R389). -/
  full : List Nat := []
  /-- Bank index of the last refresh window (R388). -/
  refresh : Option Nat := none
  /-- Device time window of the last retraining pause (R391). -/
  lastPause : Option Nat := none
  trainedTj : Int := 105
  /-- Rows queued for hard repair (R396), and the times of corrected errors by row, on the time base's
  cycles. -/
  ppr : List Nat := []
  ceRows : List (Nat × List Nat) := []
  deriving DecidableEq, Repr

/-- Voltage control beside VPOL_STAT (R35 to R38). -/
structure Avs where
  /-- Setpoint code last written and not acknowledged; setpoint in force. -/
  writing : Option Nat := none
  current : Option Nat := none
  retried : Bool := false
  /-- Time on the time base's cycles (`State.uptime`) at which the last voltage write was issued. -/
  lastWrite : Option Nat := none
  /-- A change of policy, floor or bound asks for an evaluation at once (R35). -/
  evalNow : Bool := false
  /-- Time on the time base's cycles of the last evaluation. -/
  lastEval : Nat := 0
  /-- Code requested by the last evaluation. -/
  request : Nat := 12
  /-- The setpoint is to be written again though it equals the last acknowledged one: at a start, at an exit
  from STOP and when software has cleared AVS_FAULT (R37, R416). -/
  again : Bool := false
  /-- The write in progress has failed, and its retry waits for the 50 µs (R37, R38). -/
  failed : Bool := false
  deriving DecidableEq, Repr

/-- The time base beside TIME_STAT (R24 to R30). -/
structure TimeBase where
  /-- Cycles of the time base since it started. No step or slew of device time changes them, so they measure
  the durations that the spec gives apart from device time (log entry 1). -/
  cycles : Nat := 0
  /-- Signed phase error still to be slewed, in ns (R26). -/
  slew : Int := 0
  /-- Cycles since the last slewed one. -/
  sinceSlew : Nat := 65536
  /-- Time on the cycles of the last PPS_IN edge (R27). -/
  lastEdge : Option Nat := none
  /-- Consecutive edges within 50 ns (R27). -/
  good : Nat := 0
  /-- A pending TIME_SET: its value, and the time on the cycles of its commit (R30). -/
  pendSet : Option (Nat × Nat) := none
  ppsOut : Bool := false
  /-- Device time at which the last PPS_OUT pulse began, and the time on the cycles. -/
  ppsOutStart : Nat := 0
  ppsOutSince : Nat := 0
  ppsOutWidth : Nat := 100
  deriving DecidableEq, Repr

/-- A queued domain switch-off and its requester (R312). -/
inductive OffReq where
  | tiller (t : Nat)
  | host
  | stop
  deriving DecidableEq, Repr

/-- Power, reset and start-up state (chapter 14). -/
structure Power where
  /-- PORST_N is low. -/
  porst : Bool := true
  /-- VCORE is on; VAON is in range. -/
  vcore : Bool := true
  vaon : Bool := true
  /-- In service (custody over, R306). -/
  service : Bool := false
  /-- The Roll takes packets at step 1 (R409, R413). -/
  rollOn : Bool := true
  /-- A warm-reset quiesce: its end on the time base's cycles, and its cause bit (R409). -/
  quiesce : Option (Nat × Nat) := none
  /-- A STOP entry waits for its quiesce window: its end (Table 14.5). -/
  stopping : Option Nat := none
  /-- Setpoint before STOP (R416). -/
  preStop : Nat := 12
  wakeLatched : Bool := false
  /-- Lease counts by domain (R311). -/
  leases : List (Nat × Nat) := []
  /-- Queued switch-offs in order; a queued STOP entry has one for each domain it waits for (R312, R413). -/
  offQueue : List (Nat × OffReq) := []
  /-- VPP_FUSE in range at the last observation (R433). -/
  vpp : Bool := true
  deriving DecidableEq, Repr

/-- Boot flash contents that the part keeps (Table 14.1). -/
structure Flash where
  /-- Sealed configuration: registers by address, and the House supervisor images (R217). -/
  cfg : List (Nat × Word) := []
  supers : List (Nat × List Byte) := []
  minSvn : Nat := 0
  pref : Nat := 0
  /-- Image slots A and B (Table 14.1). -/
  slotA : Image := {}
  slotB : Image := {}
  passHwm : Word := 0
  /-- Sealed symmetric and asymmetric slots. -/
  symSeals : List (Nat × KeyEnt) := []
  asymSeals : List (Nat × KeyEnt) := []
  /-- Device keys as sealed. -/
  dev : DeviceKeys := {}
  /-- Sealed owner counter. -/
  ownerCtr : Nat := 0
  /-- The field repair log: the entries in the fuse array on VAON, and those pending (R433). -/
  fuseLog : List (BitVec 32) := []
  pendLog : List (BitVec 32) := []
  deriving DecidableEq, Repr

/-- A queued rotation (R428). -/
structure Rot where
  u : Nat
  failed : Bool
  now : Bool
  target : Option Nat
  tested : Bool
  /-- A Term boundary has passed since it was queued. -/
  ready : Bool := false
  deriving DecidableEq, Repr

/-- Roll call, march and rotation state (chapters 13 and 15). -/
structure Wear where
  /-- Confirmation measurements above 6 %, by unit (R425). -/
  confirm : List (Nat × Nat) := []
  rots : List Rot := []
  /-- Time of the last census pass on the time base's cycles. -/
  lastPass : Nat := 0
  passRunning : Bool := false
  /-- Units measured in the running pass. -/
  measured : List Nat := []
  /-- March results by kind and index: result, columns repaired, spares left (Table 13.3). -/
  march : List (Nat × (Nat × Nat × Nat)) := []
  /-- Next line of a preserving march, by Desk (R398). -/
  marchLine : List (Nat × Nat) := []
  /-- Units taken out of service, until the next start. -/
  retired : List Nat := []
  /-- Units rotated since the last snapshot into each buffer, as (buffer, unit) (Table 15.6). -/
  rotated : List (Nat × Nat) := []
  /-- SNAPNO and next entry of each snapshot buffer (R439). -/
  snaps : List (Nat × (Nat × Nat)) := []
  /-- Measured over expected period of the VEDGE loop of unit 172 (R423). -/
  edgeLoop : Nat × Nat := (0, 1)
  deriving DecidableEq, Repr

/-- The TAP (R448). -/
inductive TapIr where
  | bypass | idcode | samplePreload | extest | bootstat | dap
  deriving DecidableEq, Repr

/-- TAP state: the instruction, the bypass bit, the data read out and the boundary register. -/
structure Tap where
  ir : TapIr := .idcode
  bypass : Bool := false
  dr : Word := 0
  shifted : List Bool := []
  boundary : List Bool := []
  driving : Bool := false
  deriving DecidableEq, Repr

/-- What the part posts to the outside: host requests in issue order, messages, and pin changes.
DESIGN CHOICE (log 10, 80). -/
inductive Post where
  /-- A read request for an SQ entry: host address and length (R44, R47). -/
  | fetch (gfn addr len : Nat)
  /-- A reply written to entry `idx` of the CQ, at host address `addr` (R45). -/
  | cq (gfn idx addr : Nat) (bytes : List Byte)
  /-- A reply written to reply slot `idx`, at host address `addr` (R50). -/
  | slot (gfn idx addr : Nat) (bytes : List Byte)
  /-- An output with its CRC written to OUTPTR (R63). -/
  | output (gfn addr : Nat) (bytes : List Byte)
  /-- The message of a vector: the address and data of its table entry (R78). -/
  | msix (gfn vec addr data : Nat)
  /-- A mirror copy of record `jseq` of House `h`, written through function `gfn` at host address `addr`; then
  the 4-byte read of the same entry, whose completion completes the copy (R239). -/
  | mirror (h jseq gfn addr : Nat) (bytes : List Byte)
  | mirrorRead (gfn addr : Nat)
  /-- A host access that completes as an unsupported request (R7). -/
  | unsupported (gfn off : Nat)
  /-- A command APDU to the card of interface `k`: header and data (R182, Table 6.10). -/
  | apdu (k : Nat) (bytes : List Byte)
  /-- An AVSBus voltage write (R37). -/
  | avs (rail mv : Nat)
  /-- Pins: PPS_OUT, VCORE_EN, Pn_WAKE#. -/
  | ppsOut (level : Bool)
  | vcoreEn (level : Bool)
  | portWake (port : Nat) (low : Bool)
  /-- Every output floats (R418). -/
  | float (why : Nat)
  deriving DecidableEq, Repr

/-- The state of the KT8400. DESIGN CHOICE (log 59, 80). -/
structure State where
  /-- Commands waiting, first in, first out. -/
  pending : List Instr
  /-- Device time in ns (R24). -/
  dtime : Nat
  /-- Device time of the last Term boundary (R206). -/
  termAt : Nat
  /-- Memory-mapped registers that differ from their reset value, by address. -/
  regs : List (Nat × Word)
  /-- DRAM and Desk bytes by physical address; an unlisted byte reads 0. -/
  mem : List Host.Cell
  /-- Poisoned lines and Desk words (R371, R379, R395). -/
  poison : List Nat
  /-- L2 lines by Sheaf and Granary lines by owner (4 for the common ways), with dirty bits. -/
  l2 : List (Nat × List (Nat × Bool))
  granary : List (Nat × List (Nat × Bool))
  tb : TimeBase
  avs : Avs
  ports : List (Nat × Port)
  fns : List (Nat × Fn)
  /-- Packets at step 3 that wait, in order of arrival (R74). -/
  stepQ : List Arrival
  slates : List (Nat × Slate)
  lanes : List (Nat × Lane)
  /-- The pool queue of Houses without a reserved lane (R146). -/
  poolQ : List Nat
  /-- House supervisor images by House (R217). -/
  supers : List (Nat × List Byte)
  symSlots : List (Nat × KeyEnt)
  asymSlots : List (Nat × KeyEnt)
  dev : DeviceKeys
  /-- The owner counter and its sealed value (R74). -/
  ownerCtr : Nat × Nat
  /-- An accepted OWNER_REKEY, with its time on the time base's cycles (R183). -/
  rekeyAt : Option Nat
  /-- The key cache, most recently used first; an entry's House is its handle's (R158, R174). -/
  symCache : List CacheEnt
  asymCache : List CacheEnt
  cards : List (Nat × Card)
  entropy : List (Nat × Entropy)
  /-- Conditioned output of the entropy sources in service, not yet drawn (R192). -/
  entPool : List Byte
  /-- The inline sealing keys K_h by House, and K_SEC under 4 (R214). -/
  dramKeys : List (Nat × BitVec 512)
  smills : List (Nat × MillOp)
  pmills : List (Nat × MillOp)
  /-- Mill operations waiting for a mill, oldest first. -/
  millQ : List (Bool × MillOp)
  /-- Houses that reserve an unbound mill, by unit index; an unlisted mill is in the common pool. -/
  millOwn : List (Nat × Nat)
  /-- Mills lent under LOAN: S-mill (false) or P-mill (true), index, borrower. -/
  millLoans : List (Bool × Nat × Nat)
  /-- Mills, by unit index, that held an operation in the current Term (R211). -/
  millUsed : List Nat
  /-- Houses whose mill work of a type (P-mills where true) has waited in the current Term (R211). -/
  millWaited : List (Bool × Nat)
  houses : List (Nat × House)
  staged : List Staged
  /-- Granary ways being cleared, with the gaining House (R209). -/
  ways : List (Nat × Nat)
  tillers : List (Nat × Tiller)
  /-- Tillers that a SHARE_SET has moved and that have not been cleared yet, with the losing House, 4 for the
  common pool (R208). -/
  leaving : List (Nat × Nat)
  /-- Edge-shared sources pending (R342). -/
  sharedEdges : List Nat
  chutes : List (Nat × Chute)
  hoppers : List (Nat × Hopper)
  chans : List (Nat × Chan)
  power : Power
  flash : Flash
  wear : Wear
  tap : Tap
  /-- Slot seals pending: asymmetric or not, and the slot (R169). -/
  sealQ : List (Bool × Nat)
  /-- Posted requests and pin changes, newest first. -/
  out : List Post
  /-- How many free values have been taken. -/
  picks : Nat
  deriving DecidableEq, Repr

/-- The state after a cold reset, with PORST_N still low: every register at its reset value, nothing
listed in memory, no key, no House, no slate in use (R408, Table 14.4).
PRESUMED (log 4). DESIGN CHOICE (log 5, 59, 60). -/
def State.reset : State where
  pending := []
  dtime := 0
  termAt := 0
  regs := []
  mem := []
  poison := []
  l2 := []
  granary := []
  tb := {}
  avs := {}
  ports := []
  fns := []
  stepQ := []
  slates := []
  lanes := []
  poolQ := []
  supers := []
  symSlots := []
  asymSlots := []
  dev := {}
  ownerCtr := (0, 0)
  rekeyAt := none
  symCache := []
  asymCache := []
  cards := []
  entropy := []
  entPool := []
  dramKeys := []
  smills := []
  pmills := []
  millQ := []
  millOwn := []
  millLoans := []
  millUsed := []
  millWaited := []
  houses := []
  staged := []
  ways := []
  tillers := []
  leaving := []
  sharedEdges := []
  chutes := []
  hoppers := []
  chans := []
  power := {}
  flash := {}
  wear := {}
  tap := {}
  sealQ := []
  out := []
  picks := 0

end Sys2Proof.Machine
end

