-- ==== Sys2Proof/Machine/Maps.lean ====
section
/-! DEFINITION. Sparse tables with a default: a list of key and value pairs, keys strictly rising, that
lists no entry equal to what an unlisted key reads as. Memory, the registers and every numbered unit
of the state are kept this way, so that equal contents are equal lists. -/

namespace Sys2Proof.Machine

/-- The listed value of key `k`. -/
def Map.find {α : Type} (k : Nat) : List (Nat × α) → Option α
  | [] => none
  | (a, v) :: m => if a = k then some v else Map.find k m

/-- The value of key `k`, `d` where it is not listed. -/
def Map.get {α : Type} (d : α) (m : List (Nat × α)) (k : Nat) : α := (Map.find k m).getD d

/-- List `v` under `k`. -/
def Map.insert {α : Type} (k : Nat) (v : α) : List (Nat × α) → List (Nat × α)
  | [] => [(k, v)]
  | (a, w) :: m =>
    if k < a then (k, v) :: (a, w) :: m
    else if a = k then (k, v) :: m
    else (a, w) :: Map.insert k v m

/-- List nothing under `k`. -/
def Map.erase {α : Type} (k : Nat) : List (Nat × α) → List (Nat × α)
  | [] => []
  | (a, w) :: m => if a = k then Map.erase k m else (a, w) :: Map.erase k m

/-- Give `k` the value `v`, where an unlisted key reads `d`. -/
def Map.put {α : Type} [DecidableEq α] (d : α) (m : List (Nat × α)) (k : Nat) (v : α) :
    List (Nat × α) :=
  if v = d then Map.erase k m else Map.insert k v m

/-- Keys strictly rising. -/
def Map.sorted {α : Type} : List (Nat × α) → Bool
  | [] => true
  | [_] => true
  | (a, _) :: (b, w) :: m => decide (a < b) && Map.sorted ((b, w) :: m)

/-- The canonical form: keys strictly rising, no entry equal to its default. -/
def Map.wf {α : Type} [DecidableEq α] (d : Nat → α) (m : List (Nat × α)) : Bool :=
  Map.sorted m && m.all (fun e => e.2 != d e.1)

/-! ### Memory: bytes by physical address, little-endian (R4, R14) -/

/-- The canonical form of memory: an unlisted byte reads 0 (log entry 5). -/
def Memory.wf (m : List Host.Cell) : Bool := Map.wf (fun _ => (0 : Byte)) m

/-- One byte of memory. DESIGN CHOICE (log 5). -/
def Memory.byte (m : List Host.Cell) (a : Nat) : Byte := Map.get 0 m a

/-- Store one byte. -/
def Memory.setByte (m : List Host.Cell) (a : Nat) (v : Byte) : List Host.Cell := Map.put 0 m a v

/-- `n` bytes from address `a`. -/
def Memory.bytes (m : List Host.Cell) (a : Nat) : Nat → List Byte
  | 0 => []
  | n + 1 => Memory.byte m a :: Memory.bytes m (a + 1) n

/-- Store bytes from address `a` on. -/
def Memory.store (m : List Host.Cell) (a : Nat) : List Byte → List Host.Cell
  | [] => m
  | b :: bs => Memory.store (Memory.setByte m a b) (a + 1) bs

/-- The number whose little-endian bytes are `bs`. -/
def ofBytes : List Byte → Nat
  | [] => 0
  | b :: bs => b.toNat + 256 * ofBytes bs

/-- The `n` little-endian bytes of `v`. -/
def toBytes (v : Nat) : Nat → List Byte
  | 0 => []
  | n + 1 => BitVec.ofNat 8 v :: toBytes (v / 256) n

/-- The number whose big-endian bytes are `bs`. -/
def ofBytesBE (bs : List Byte) : Nat := ofBytes bs.reverse

/-- The `n` big-endian bytes of `v`. -/
def toBytesBE (v n : Nat) : List Byte := (toBytes v n).reverse

/-- `n` bytes of zero. -/
def zeros (n : Nat) : List Byte := List.replicate n 0

/-- The `n` bytes of `bs` from offset `o`, zero beyond its end. -/
def slice (bs : List Byte) (o n : Nat) : List Byte :=
  let part := (bs.drop o).take n
  part ++ zeros (n - part.length)

end Sys2Proof.Machine
end

