-- ==== Sys2Proof/Machine/RegTable.lean ====
section
/-! DEFINITION. The memory-mapped registers of the part as the register tables of the spec's chapters
give them: for each register its address, its index ranges, and its fields with access type and reset
value. A reset value that the spec gives as cfg, fuse, sealed, start, log or fixed stands as 0 here
until a start loads it (PRESUMED zero; log entry 4). BAR0 windows lie at a model address of their own,
and a Hopper channel at the window of its Sheaf's slot 0. -/

namespace Sys2Proof.Machine

/-- Register access types (Table 0.4). -/
inductive Access where
  | rw | ro | wo | w1c | w1s | rcl
  deriving DecidableEq, Repr

/-- A bit field: lowest bit and width (R4). -/
structure Fld where
  lo : Nat
  w : Nat
  deriving DecidableEq, Repr

/-- A field of a register table: place, access type and reset value. -/
structure FieldDesc where
  lo : Nat
  w : Nat
  ty : Access
  reset : Nat
  deriving DecidableEq, Repr

/-- A register of a block: its name, the address of its first element, the outer index (stride and
count), the inner index (stride and count), and its fields. -/
structure RegDesc where
  name : String
  base : Nat
  s1 : Nat
  c1 : Nat
  s2 : Nat
  c2 : Nat
  fields : List FieldDesc
  deriving DecidableEq, Repr

/-- Model address of function g's BAR0 window. -/
abbrev bar0 (g : Nat) : Nat := 0x1000000000000 + 0x10000 * g

/-- DTIME (01_beats_time_voltage.md). -/
abbrev Reg.dtime : Nat := 0xC0000002000
/-- TIME_CTL (01_beats_time_voltage.md). -/
abbrev Reg.timeCtl : Nat := 0xC0000002008
/-- TIME_STAT (01_beats_time_voltage.md). -/
abbrev Reg.timeStat : Nat := 0xC0000002010
/-- VPOL_CTL (01_beats_time_voltage.md). -/
abbrev Reg.vpolCtl : Nat := 0xC0000002040
/-- VFLOOR (01_beats_time_voltage.md). -/
abbrev Reg.vfloor : Nat := 0xC0000002048
/-- VPOL_STAT (01_beats_time_voltage.md). -/
abbrev Reg.vpolStat : Nat := 0xC0000002050
/-- AVS_CTL (01_beats_time_voltage.md). -/
abbrev Reg.avsCtl : Nat := 0xC0000002058
/-- VREAD (01_beats_time_voltage.md). -/
abbrev Reg.vread : Nat := 0xC0000002060
/-- TJ (01_beats_time_voltage.md). -/
abbrev Reg.tj : Nat := 0xC0000002068
/-- BELL_STAT (03_slates_and_bell.md). -/
abbrev Reg.bellStat : Nat := 0xC0000010000
/-- SLATE_STAT (03_slates_and_bell.md). -/
abbrev Reg.slateStat : Nat := 0xC0000010008
/-- BELL_CNT (03_slates_and_bell.md). -/
abbrev Reg.bellCnt : Nat := 0xC0000010010
/-- BELL_LAG (03_slates_and_bell.md). -/
abbrev Reg.bellLag : Nat := 0xC0000010018
/-- BELL_DROP (03_slates_and_bell.md). -/
abbrev Reg.bellDrop : Nat := 0xC0000010020
/-- FN_BELL[i] (03_slates_and_bell.md). -/
abbrev Reg.fnBell (i : Nat) : Nat := 0xC0000010400 + 0x8 * i
/-- TPL[i] (03_slates_and_bell.md). -/
abbrev Reg.tpl (i : Nat) : Nat := 0xC0000011000 + 0x8 * i
/-- THR_STAT (04_thresher_fast_path.md). -/
abbrev Reg.thrStat : Nat := 0xC0000020000
/-- THR_LANE[i] (04_thresher_fast_path.md). -/
abbrev Reg.thrLane (i : Nat) : Nat := 0xC0000020100 + 0x8 * i
/-- THR_HOUSE[i] (04_thresher_fast_path.md). -/
abbrev Reg.thrHouse (i : Nat) : Nat := 0xC0000020200 + 0x8 * i
/-- THR_EXAM[i] (04_thresher_fast_path.md). -/
abbrev Reg.thrExam (i : Nat) : Nat := 0xC0000020240 + 0x8 * i
/-- THR_CNT[i] (04_thresher_fast_path.md). -/
abbrev Reg.thrCnt (i : Nat) : Nat := 0xC0000020280 + 0x8 * i
/-- FN_THR[i] (04_thresher_fast_path.md). -/
abbrev Reg.fnThr (i : Nat) : Nat := 0xC0000020400 + 0x8 * i
/-- SAT_STAT (06_keys_and_mills.md). -/
abbrev Reg.satStat : Nat := 0xC0000030000
/-- TAMP_CTL (06_keys_and_mills.md). -/
abbrev Reg.tampCtl : Nat := 0xC0000030008
/-- TAMP_STAT (06_keys_and_mills.md). -/
abbrev Reg.tampStat : Nat := 0xC0000030010
/-- SAT_HOUSE[i] (06_keys_and_mills.md). -/
abbrev Reg.satHouse (i : Nat) : Nat := 0xC0000030100 + 0x8 * i
/-- KT_SYM[i] (06_keys_and_mills.md). -/
abbrev Reg.ktSym (i : Nat) : Nat := 0xC0000030140 + 0x8 * i
/-- KT_ASYM[i] (06_keys_and_mills.md). -/
abbrev Reg.ktAsym (i : Nat) : Nat := 0xC0000030160 + 0x8 * i
/-- KC_CNT[i] (06_keys_and_mills.md). -/
abbrev Reg.kcCnt (i : Nat) : Nat := 0xC0000030180 + 0x8 * i
/-- DRBG_STAT[i] (06_keys_and_mills.md). -/
abbrev Reg.drbgStat (i : Nat) : Nat := 0xC00000301A0 + 0x8 * i
/-- ENT_STAT[i] (06_keys_and_mills.md). -/
abbrev Reg.entStat (i : Nat) : Nat := 0xC0000030200 + 0x8 * i
/-- MILL_S[i] (06_keys_and_mills.md). -/
abbrev Reg.millS (i : Nat) : Nat := 0xC0000030400 + 0x8 * i
/-- MILL_P[i] (06_keys_and_mills.md). -/
abbrev Reg.millP (i : Nat) : Nat := 0xC0000030600 + 0x8 * i
/-- TERM_CTL (07_houses_isolation.md). -/
abbrev Reg.termCtl : Nat := 0xC0000040000
/-- TERM_STAT (07_houses_isolation.md). -/
abbrev Reg.termStat : Nat := 0xC0000040008
/-- HOUSE_CFG[i] (07_houses_isolation.md). -/
abbrev Reg.houseCfg (i : Nat) : Nat := 0xC0000040100 + 0x8 * i
/-- HOUSE_SHR[i] (07_houses_isolation.md). -/
abbrev Reg.houseShr (i : Nat) : Nat := 0xC0000040120 + 0x8 * i
/-- HOUSE_TIL[i] (07_houses_isolation.md). -/
abbrev Reg.houseTil (i : Nat) : Nat := 0xC0000040140 + 0x8 * i
/-- HOUSE_GWAY[i] (07_houses_isolation.md). -/
abbrev Reg.houseGway (i : Nat) : Nat := 0xC0000040160 + 0x8 * i
/-- HOUSE_BOUND[i] (07_houses_isolation.md). -/
abbrev Reg.houseBound (i : Nat) : Nat := 0xC0000040180 + 0x8 * i
/-- ISO_STAT[i] (07_houses_isolation.md). -/
abbrev Reg.isoStat (i : Nat) : Nat := 0xC00000401A0 + 0x8 * i
/-- HOUSE_CNT[i] (07_houses_isolation.md). -/
abbrev Reg.houseCnt (i : Nat) : Nat := 0xC00000401C0 + 0x8 * i
/-- DRAM_RGN_A[i] (07_houses_isolation.md). -/
abbrev Reg.dramRgnA (i : Nat) : Nat := 0xC0000040200 + 0x10 * i
/-- DRAM_RGN_B[i] (07_houses_isolation.md). -/
abbrev Reg.dramRgnB (i : Nat) : Nat := 0xC0000040208 + 0x10 * i
/-- FN_HOUSE[i] (07_houses_isolation.md). -/
abbrev Reg.fnHouse (i : Nat) : Nat := 0xC0000040400 + 0x8 * i
/-- JR_BASE[i] (08_register_journal.md). -/
abbrev Reg.jrBase (i : Nat) : Nat := 0xC0000050000 + 0x80 * i
/-- JR_ALT[i] (08_register_journal.md). -/
abbrev Reg.jrAlt (i : Nat) : Nat := 0xC0000050008 + 0x80 * i
/-- JR_SEAL[i] (08_register_journal.md). -/
abbrev Reg.jrSeal (i : Nat) : Nat := 0xC0000050010 + 0x80 * i
/-- JR_MARK[i] (08_register_journal.md). -/
abbrev Reg.jrMark (i : Nat) : Nat := 0xC0000050018 + 0x80 * i
/-- JR_MADDR[i] (08_register_journal.md). -/
abbrev Reg.jrMaddr (i : Nat) : Nat := 0xC0000050020 + 0x80 * i
/-- JR_CTL[i] (08_register_journal.md). -/
abbrev Reg.jrCtl (i : Nat) : Nat := 0xC0000050028 + 0x80 * i
/-- JR_NEXT[i] (08_register_journal.md). -/
abbrev Reg.jrNext (i : Nat) : Nat := 0xC0000050030 + 0x80 * i
/-- JR_RETIRED[i] (08_register_journal.md). -/
abbrev Reg.jrRetired (i : Nat) : Nat := 0xC0000050038 + 0x80 * i
/-- JR_SEALED[i] (08_register_journal.md). -/
abbrev Reg.jrSealed (i : Nat) : Nat := 0xC0000050040 + 0x80 * i
/-- JR_STAT[i] (08_register_journal.md). -/
abbrev Reg.jrStat (i : Nat) : Nat := 0xC0000050048 + 0x80 * i
/-- SWM_DRAM (10_rings_worlds_carrels.md). -/
abbrev Reg.swmDram : Nat := 0xC0000060000
/-- SWM_DESK[i] (10_rings_worlds_carrels.md). -/
abbrev Reg.swmDesk (i : Nat) : Nat := 0xC0000060100 + 0x8 * i
/-- CUST_S2 (10_rings_worlds_carrels.md). -/
abbrev Reg.custS2 : Nat := 0xC0000060400
/-- PASS_STAT (10_rings_worlds_carrels.md). -/
abbrev Reg.passStat : Nat := 0xC0000060408
/-- PASS_EXP (10_rings_worlds_carrels.md). -/
abbrev Reg.passExp : Nat := 0xC0000060410
/-- PASS_HWM (10_rings_worlds_carrels.md). -/
abbrev Reg.passHwm : Nat := 0xC0000060418
/-- LEASE_STAT (10_rings_worlds_carrels.md). -/
abbrev Reg.leaseStat : Nat := 0xC0000060500
/-- HALT_STAT (10_rings_worlds_carrels.md). -/
abbrev Reg.haltStat : Nat := 0xC0000060508
/-- HALT_REC[i] (10_rings_worlds_carrels.md). -/
abbrev Reg.haltRec (i : Nat) : Nat := 0xC0000060600 + 0x8 * i
/-- RAT_A[i] (11_translation_ordering.md). -/
abbrev Reg.ratA (i : Nat) : Nat := 0xC0000070000 + 0x10 * i
/-- RAT_B[i] (11_translation_ordering.md). -/
abbrev Reg.ratB (i : Nat) : Nat := 0xC0000070008 + 0x10 * i
/-- DC_CTL[i] (13_memory_system.md). -/
abbrev Reg.dcCtl (i : Nat) : Nat := 0xC0000090000 + 0x8 * i
/-- DC_TRN[i] (13_memory_system.md). -/
abbrev Reg.dcTrn (i : Nat) : Nat := 0xC0000090040 + 0x8 * i
/-- DC_STAT[i] (13_memory_system.md). -/
abbrev Reg.dcStat (i : Nat) : Nat := 0xC0000090080 + 0x8 * i
/-- DC_ERR[i] (13_memory_system.md). -/
abbrev Reg.dcErr (i : Nat) : Nat := 0xC00000900C0 + 0x8 * i
/-- DC_ERRADDR[i] (13_memory_system.md). -/
abbrev Reg.dcErraddr (i : Nat) : Nat := 0xC0000090100 + 0x8 * i
/-- DC_ACT[i] (13_memory_system.md). -/
abbrev Reg.dcAct (i : Nat) : Nat := 0xC0000090140 + 0x8 * i
/-- DC_RETAIN (13_memory_system.md). -/
abbrev Reg.dcRetain : Nat := 0xC0000090180
/-- GS_STAT[i] (13_memory_system.md). -/
abbrev Reg.gsStat (i : Nat) : Nat := 0xC0000090200 + 0x8 * i
/-- DESK_STAT[i] (13_memory_system.md). -/
abbrev Reg.deskStat (i : Nat) : Nat := 0xC0000090300 + 0x8 * i
/-- BOOT_STAT (14_startup_reset_power.md). -/
abbrev Reg.bootStat : Nat := 0xC00000A0000
/-- RST_CAUSE (14_startup_reset_power.md). -/
abbrev Reg.rstCause : Nat := 0xC00000A0008
/-- PWR_CTL (14_startup_reset_power.md). -/
abbrev Reg.pwrCtl : Nat := 0xC00000A0010
/-- PWR_STAT (14_startup_reset_power.md). -/
abbrev Reg.pwrStat : Nat := 0xC00000A0018
/-- WAKE_STAT (14_startup_reset_power.md). -/
abbrev Reg.wakeStat : Nat := 0xC00000A0020
/-- WAKE_TIME (14_startup_reset_power.md). -/
abbrev Reg.wakeTime : Nat := 0xC00000A0028
/-- RC_CTL (15_rotation_and_marks.md). -/
abbrev Reg.rcCtl : Nat := 0xC00000B0000
/-- RC_STAT (15_rotation_and_marks.md). -/
abbrev Reg.rcStat : Nat := 0xC00000B0008
/-- ROT_POL (15_rotation_and_marks.md). -/
abbrev Reg.rotPol : Nat := 0xC00000B0010
/-- RLOG_STAT (15_rotation_and_marks.md). -/
abbrev Reg.rlogStat : Nat := 0xC00000B0018
/-- RC_ALIAS (15_rotation_and_marks.md). -/
abbrev Reg.rcAlias : Nat := 0xC00000B0020
/-- RC_UNIT[i] (15_rotation_and_marks.md). -/
abbrev Reg.rcUnit (i : Nat) : Nat := 0xC00000B0100 + 0x8 * i
/-- RLOG[i] (15_rotation_and_marks.md). -/
abbrev Reg.rlog (i : Nat) : Nat := 0xC00000B0800 + 0x8 * i
/-- MK_CTL (15_rotation_and_marks.md). -/
abbrev Reg.mkCtl : Nat := 0xC00000C0000
/-- MK_BUF[i] (15_rotation_and_marks.md). -/
abbrev Reg.mkBuf (i : Nat) : Nat := 0xC00000C0010 + 0x8 * i
/-- FN_ID of function g (02_command_packets.md). -/
abbrev Reg.fnId (g : Nat) : Nat := 0x1000000000000 + 0x10000 * g
/-- DEV_SERIAL of function g (02_command_packets.md). -/
abbrev Reg.devSerial (g : Nat) : Nat := 0x1000000000008 + 0x10000 * g
/-- FN_CTL of function g (02_command_packets.md). -/
abbrev Reg.fnCtl (g : Nat) : Nat := 0x1000000000010 + 0x10000 * g
/-- FN_STAT of function g (02_command_packets.md). -/
abbrev Reg.fnStat (g : Nat) : Nat := 0x1000000000018 + 0x10000 * g
/-- SQ_BASE of function g (02_command_packets.md). -/
abbrev Reg.sqBase (g : Nat) : Nat := 0x1000000000020 + 0x10000 * g
/-- CQ_BASE of function g (02_command_packets.md). -/
abbrev Reg.cqBase (g : Nat) : Nat := 0x1000000000028 + 0x10000 * g
/-- REPLY_BASE of function g (02_command_packets.md). -/
abbrev Reg.replyBase (g : Nat) : Nat := 0x1000000000030 + 0x10000 * g
/-- RING_SIZE of function g (02_command_packets.md). -/
abbrev Reg.ringSize (g : Nat) : Nat := 0x1000000000038 + 0x10000 * g
/-- CREDIT of function g (02_command_packets.md). -/
abbrev Reg.credit (g : Nat) : Nat := 0x1000000000040 + 0x10000 * g
/-- ERRCNT of function g (02_command_packets.md). -/
abbrev Reg.errcnt (g : Nat) : Nat := 0x1000000000048 + 0x10000 * g
/-- HCTR of function g (02_command_packets.md). -/
abbrev Reg.hctr (g : Nat) : Nat := 0x1000000000050 + 0x10000 * g
/-- OCTR of function g (02_command_packets.md). -/
abbrev Reg.octr (g : Nat) : Nat := 0x1000000000058 + 0x10000 * g
/-- SQ_TAIL of function g (02_command_packets.md). -/
abbrev Reg.sqTail (g : Nat) : Nat := 0x1000000001000 + 0x10000 * g
/-- CQ_HEAD of function g (02_command_packets.md). -/
abbrev Reg.cqHead (g : Nat) : Nat := 0x1000000001008 + 0x10000 * g
/-- RING_PTR of function g (02_command_packets.md). -/
abbrev Reg.ringPtr (g : Nat) : Nat := 0x1000000001010 + 0x10000 * g
/-- MSIX_ADDR of function g, index i (02_command_packets.md). -/
abbrev Reg.msixAddr (g i : Nat) : Nat := 0x1000000008000 + 0x10000 * g + 16 * i
/-- MSIX_DATA of function g, index i (02_command_packets.md). -/
abbrev Reg.msixData (g i : Nat) : Nat := 0x1000000008008 + 0x10000 * g + 16 * i
/-- MSIX_PBA of function g (02_command_packets.md). -/
abbrev Reg.msixPba (g : Nat) : Nat := 0x1000000009000 + 0x10000 * g
/-- PSRC[i] (12_interrupts_chutes_hopper.md). -/
abbrev Reg.psrc (i : Nat) : Nat := 0xC0000080000 + 0x8 * i
/-- SSRC[i] (12_interrupts_chutes_hopper.md). -/
abbrev Reg.ssrc (i : Nat) : Nat := 0xC0000084000 + 0x8 * i
/-- ICU_CTL[i] (12_interrupts_chutes_hopper.md). -/
abbrev Reg.icuCtl (i : Nat) : Nat := 0xC0000084800 + 0x8 * i
/-- CH_CFG[i] (12_interrupts_chutes_hopper.md). -/
abbrev Reg.chCfg (i : Nat) : Nat := 0xC0000085000 + 0x8 * i
/-- CH_HOUSE[i] (12_interrupts_chutes_hopper.md). -/
abbrev Reg.chHouse (i : Nat) : Nat := 0xC0000085800 + 0x8 * i
/-- HP_OWN[i] (12_interrupts_chutes_hopper.md). -/
abbrev Reg.hpOwn (i : Nat) : Nat := 0xC0000086000 + 0x8 * i
/-- HC_SRC of channel k of engine e (12_interrupts_chutes_hopper.md). -/
abbrev Reg.hcSrc (e k : Nat) : Nat := 0x80000088000 + 0x900000 * e + 0x80 * k
/-- HC_DST of channel k of engine e (12_interrupts_chutes_hopper.md). -/
abbrev Reg.hcDst (e k : Nat) : Nat := 0x80000088008 + 0x900000 * e + 0x80 * k
/-- HC_SGEO of channel k of engine e (12_interrupts_chutes_hopper.md). -/
abbrev Reg.hcSgeo (e k : Nat) : Nat := 0x80000088010 + 0x900000 * e + 0x80 * k
/-- HC_DGEO of channel k of engine e (12_interrupts_chutes_hopper.md). -/
abbrev Reg.hcDgeo (e k : Nat) : Nat := 0x80000088020 + 0x900000 * e + 0x80 * k
/-- HC_SSTR of channel k of engine e (12_interrupts_chutes_hopper.md). -/
abbrev Reg.hcSstr (e k : Nat) : Nat := 0x80000088018 + 0x900000 * e + 0x80 * k
/-- HC_DSTR of channel k of engine e (12_interrupts_chutes_hopper.md). -/
abbrev Reg.hcDstr (e k : Nat) : Nat := 0x80000088028 + 0x900000 * e + 0x80 * k
/-- HC_ILV of channel k of engine e (12_interrupts_chutes_hopper.md). -/
abbrev Reg.hcIlv (e k : Nat) : Nat := 0x80000088040 + 0x900000 * e + 0x80 * k
/-- HC_CTL of channel k of engine e (12_interrupts_chutes_hopper.md). -/
abbrev Reg.hcCtl (e k : Nat) : Nat := 0x80000088048 + 0x900000 * e + 0x80 * k
/-- HC_STAT of channel k of engine e (12_interrupts_chutes_hopper.md). -/
abbrev Reg.hcStat (e k : Nat) : Nat := 0x80000088050 + 0x900000 * e + 0x80 * k
/-- HC_ERRADDR of channel k of engine e (12_interrupts_chutes_hopper.md). -/
abbrev Reg.hcErraddr (e k : Nat) : Nat := 0x80000088058 + 0x900000 * e + 0x80 * k
/-- HC_PROG of channel k of engine e (12_interrupts_chutes_hopper.md). -/
abbrev Reg.hcProg (e k : Nat) : Nat := 0x80000088060 + 0x900000 * e + 0x80 * k
/-- MKO_TCTL of position n (15_rotation_and_marks.md). -/
abbrev Reg.mkoTctl (n : Nat) : Nat := 0x80000086000 + 0x100000 * n
/-- MKO_TD[i] of position n (15_rotation_and_marks.md). -/
abbrev Reg.mkoTd (n i : Nat) : Nat := 0x80000086010 + 0x100000 * n + 8 * i
/-- MKO_SEL[i] of position n (15_rotation_and_marks.md). -/
abbrev Reg.mkoSel (n i : Nat) : Nat := 0x80000086040 + 0x100000 * n + 8 * i
/-- MKO_CNT[i] of position n (15_rotation_and_marks.md). -/
abbrev Reg.mkoCnt (n i : Nat) : Nat := 0x80000086080 + 0x100000 * n + 8 * i
/-- MKS_TCTL of position n (15_rotation_and_marks.md). -/
abbrev Reg.mksTctl (n : Nat) : Nat := 0x80000087000 + 0x100000 * n
/-- MKS_TD[i] of position n (15_rotation_and_marks.md). -/
abbrev Reg.mksTd (n i : Nat) : Nat := 0x80000087010 + 0x100000 * n + 8 * i
/-- MKS_SEL[i] of position n (15_rotation_and_marks.md). -/
abbrev Reg.mksSel (n i : Nat) : Nat := 0x80000087040 + 0x100000 * n + 8 * i
/-- MKS_CNT[i] of position n (15_rotation_and_marks.md). -/
abbrev Reg.mksCnt (n i : Nat) : Nat := 0x80000087080 + 0x100000 * n + 8 * i
/-- MK_USEL[u][i], u from 72 (15_rotation_and_marks.md). -/
abbrev Reg.mkUsel (u i : Nat) : Nat := 0xC00000C1000 + 0x40 * u + 8 * i
/-- MK_UCNT[u][i], u from 72 (15_rotation_and_marks.md). -/
abbrev Reg.mkUcnt (u i : Nat) : Nat := 0xC00000C1020 + 0x40 * u + 8 * i

/-! Named fields, by register. -/

abbrev F.Dtime.time : Fld := ⟨0, 64⟩
abbrev F.TimeCtl.ppsOutW : Fld := ⟨24, 8⟩
abbrev F.TimeCtl.masterEn : Fld := ⟨14, 1⟩
abbrev F.TimeCtl.masterGfn : Fld := ⟨8, 6⟩
abbrev F.TimeCtl.ppsPol : Fld := ⟨2, 1⟩
abbrev F.TimeCtl.ppsOutEn : Fld := ⟨1, 1⟩
abbrev F.TimeCtl.ppsInEn : Fld := ⟨0, 1⟩
abbrev F.TimeStat.phaseErr : Fld := ⟨32, 32⟩
abbrev F.TimeStat.setLapsed : Fld := ⟨6, 1⟩
abbrev F.TimeStat.setPending : Fld := ⟨5, 1⟩
abbrev F.TimeStat.holdover : Fld := ⟨4, 1⟩
abbrev F.TimeStat.trefLost : Fld := ⟨3, 1⟩
abbrev F.TimeStat.ppsFar : Fld := ⟨2, 1⟩
abbrev F.TimeStat.ppsMiss : Fld := ⟨1, 1⟩
abbrev F.TimeStat.ppsLock : Fld := ⟨0, 1⟩
abbrev F.VpolCtl.period : Fld := ⟨24, 8⟩
abbrev F.VpolCtl.floor : Fld := ⟨20, 4⟩
abbrev F.VpolCtl.tjGuard : Fld := ⟨16, 4⟩
abbrev F.VpolCtl.margin : Fld := ⟨8, 8⟩
abbrev F.VpolCtl.policy : Fld := ⟨0, 2⟩
abbrev F.Vfloor.h3 : Fld := ⟨12, 4⟩
abbrev F.Vfloor.h2 : Fld := ⟨8, 4⟩
abbrev F.Vfloor.h1 : Fld := ⟨4, 4⟩
abbrev F.Vfloor.h0 : Fld := ⟨0, 4⟩
abbrev F.VpolStat.tauEst : Fld := ⟨32, 32⟩
abbrev F.VpolStat.ack : Fld := ⟨12, 4⟩
abbrev F.VpolStat.target : Fld := ⟨8, 4⟩
abbrev F.VpolStat.boundUnmet : Fld := ⟨3, 1⟩
abbrev F.VpolStat.avsFault : Fld := ⟨2, 1⟩
abbrev F.VpolStat.busy : Fld := ⟨1, 1⟩
abbrev F.VpolStat.guardClamp : Fld := ⟨0, 1⟩
abbrev F.AvsCtl.avsTimeout : Fld := ⟨16, 16⟩
abbrev F.AvsCtl.avsRail : Fld := ⟨4, 4⟩
abbrev F.AvsCtl.pmbEn : Fld := ⟨0, 1⟩
abbrev F.Vread.iout : Fld := ⟨32, 16⟩
abbrev F.Vread.vout : Fld := ⟨0, 16⟩
abbrev F.Tj.tjAlert : Fld := ⟨24, 8⟩
abbrev F.Tj.tjHi : Fld := ⟨16, 1⟩
abbrev F.Tj.tj : Fld := ⟨0, 8⟩
abbrev F.BellStat.due : Fld := ⟨16, 16⟩
abbrev F.BellStat.armed : Fld := ⟨0, 16⟩
abbrev F.SlateStat.claimed : Fld := ⟨48, 16⟩
abbrev F.SlateStat.live : Fld := ⟨32, 16⟩
abbrev F.SlateStat.draining : Fld := ⟨16, 16⟩
abbrev F.SlateStat.free : Fld := ⟨0, 16⟩
abbrev F.BellCnt.late : Fld := ⟨32, 32⟩
abbrev F.BellCnt.standin : Fld := ⟨0, 32⟩
abbrev F.BellLag.lagOver : Fld := ⟨32, 32⟩
abbrev F.BellLag.lagMax : Fld := ⟨0, 16⟩
abbrev F.BellDrop.stale : Fld := ⟨0, 32⟩
abbrev F.FnBell.tplCount : Fld := ⟨32, 11⟩
abbrev F.FnBell.tplBase : Fld := ⟨16, 10⟩
abbrev F.FnBell.replyAllow : Fld := ⟨0, 16⟩
abbrev F.Tpl.valid : Fld := ⟨63, 1⟩
abbrev F.Tpl.tcode : Fld := ⟨32, 16⟩
abbrev F.Tpl.result : Fld := ⟨0, 32⟩
abbrev F.ThrStat.examLateS : Fld := ⟨32, 4⟩
abbrev F.ThrStat.qH3 : Fld := ⟨24, 8⟩
abbrev F.ThrStat.qH2 : Fld := ⟨16, 8⟩
abbrev F.ThrStat.qH1 : Fld := ⟨8, 8⟩
abbrev F.ThrStat.qH0 : Fld := ⟨0, 8⟩
abbrev F.ThrLane.term : Fld := ⟨32, 8⟩
abbrev F.ThrLane.occ : Fld := ⟨16, 3⟩
abbrev F.ThrLane.house : Fld := ⟨8, 2⟩
abbrev F.ThrLane.state : Fld := ⟨0, 3⟩
abbrev F.ThrHouse.bmax : Fld := ⟨32, 16⟩
abbrev F.ThrHouse.ct : Fld := ⟨16, 16⟩
abbrev F.ThrHouse.lanes : Fld := ⟨8, 4⟩
abbrev F.ThrHouse.exam : Fld := ⟨0, 1⟩
abbrev F.ThrExam.examMr : Fld := ⟨32, 16⟩
abbrev F.ThrExam.examWt : Fld := ⟨0, 16⟩
abbrev F.ThrCnt.fwd : Fld := ⟨32, 32⟩
abbrev F.ThrCnt.examLate : Fld := ⟨0, 32⟩
abbrev F.FnThr.fast : Fld := ⟨0, 1⟩
abbrev F.SatStat.symFree : Fld := ⟨48, 16⟩
abbrev F.SatStat.asymFree : Fld := ⟨35, 13⟩
abbrev F.SatStat.vaonLost : Fld := ⟨7, 1⟩
abbrev F.SatStat.sealFail : Fld := ⟨6, 1⟩
abbrev F.SatStat.ownerState : Fld := ⟨4, 2⟩
abbrev F.SatStat.tamper : Fld := ⟨0, 1⟩
abbrev F.TampCtl.meshEn : Fld := ⟨28, 4⟩
abbrev F.TampCtl.swEn : Fld := ⟨24, 4⟩
abbrev F.TampCtl.swPol : Fld := ⟨20, 4⟩
abbrev F.TampCtl.swFilt : Fld := ⟨0, 8⟩
abbrev F.TampStat.meshHit : Fld := ⟨28, 4⟩
abbrev F.TampStat.swHit : Fld := ⟨24, 4⟩
abbrev F.TampStat.latch : Fld := ⟨0, 1⟩
abbrev F.SatHouse.kcShare : Fld := ⟨50, 14⟩
abbrev F.SatHouse.kcaShare : Fld := ⟨41, 9⟩
abbrev F.SatHouse.symShare : Fld := ⟨25, 16⟩
abbrev F.SatHouse.asymShare : Fld := ⟨12, 13⟩
abbrev F.KtSym.count : Fld := ⟨44, 20⟩
abbrev F.KtSym.base : Fld := ⟨12, 32⟩
abbrev F.KtAsym.count : Fld := ⟨44, 20⟩
abbrev F.KtAsym.base : Fld := ⟨12, 32⟩
abbrev F.KcCnt.miss : Fld := ⟨32, 32⟩
abbrev F.KcCnt.recFail : Fld := ⟨16, 16⟩
abbrev F.KcCnt.pinned : Fld := ⟨0, 16⟩
abbrev F.DrbgStat.reseeds : Fld := ⟨32, 32⟩
abbrev F.DrbgStat.reqs : Fld := ⟨1, 20⟩
abbrev F.DrbgStat.drbgWait : Fld := ⟨0, 1⟩
abbrev F.EntStat.aptFails : Fld := ⟨16, 16⟩
abbrev F.EntStat.rctFails : Fld := ⟨8, 8⟩
abbrev F.EntStat.state : Fld := ⟨0, 3⟩
abbrev F.MillS.term : Fld := ⟨32, 8⟩
abbrev F.MillS.lane : Fld := ⟨16, 4⟩
abbrev F.MillS.house : Fld := ⟨8, 2⟩
abbrev F.MillS.state : Fld := ⟨0, 3⟩
abbrev F.MillP.term : Fld := ⟨32, 8⟩
abbrev F.MillP.lane : Fld := ⟨16, 4⟩
abbrev F.MillP.house : Fld := ⟨8, 2⟩
abbrev F.MillP.state : Fld := ⟨0, 3⟩
abbrev F.TermCtl.termLen : Fld := ⟨0, 14⟩
abbrev F.TermStat.term : Fld := ⟨0, 32⟩
abbrev F.HouseCfg.ports : Fld := ⟨16, 4⟩
abbrev F.HouseCfg.state : Fld := ⟨8, 2⟩
abbrev F.HouseCfg.loan : Fld := ⟨2, 1⟩
abbrev F.HouseCfg.exam : Fld := ⟨1, 1⟩
abbrev F.HouseCfg.sealed : Fld := ⟨0, 1⟩
abbrev F.HouseShr.slates : Fld := ⟨48, 16⟩
abbrev F.HouseShr.chutes : Fld := ⟨32, 9⟩
abbrev F.HouseShr.pmills : Fld := ⟨16, 5⟩
abbrev F.HouseShr.smills : Fld := ⟨8, 5⟩
abbrev F.HouseShr.lanes : Fld := ⟨0, 4⟩
abbrev F.HouseTil.tillers : Fld := ⟨0, 64⟩
abbrev F.HouseGway.bwC3 : Fld := ⟨56, 8⟩
abbrev F.HouseGway.bwC2 : Fld := ⟨48, 8⟩
abbrev F.HouseGway.bwC1 : Fld := ⟨40, 8⟩
abbrev F.HouseGway.bwC0 : Fld := ⟨32, 8⟩
abbrev F.HouseGway.ways : Fld := ⟨0, 16⟩
abbrev F.HouseBound.lhFloor : Fld := ⟨32, 32⟩
abbrev F.HouseBound.decl : Fld := ⟨0, 32⟩
abbrev F.IsoStat.floorCode : Fld := ⟨16, 4⟩
abbrev F.IsoStat.isolated : Fld := ⟨7, 1⟩
abbrev F.IsoStat.dlOk : Fld := ⟨6, 1⟩
abbrev F.IsoStat.dbgOk : Fld := ⟨5, 1⟩
abbrev F.IsoStat.sheafOk : Fld := ⟨4, 1⟩
abbrev F.IsoStat.dramOk : Fld := ⟨3, 1⟩
abbrev F.IsoStat.loanOk : Fld := ⟨2, 1⟩
abbrev F.IsoStat.shareOk : Fld := ⟨1, 1⟩
abbrev F.IsoStat.sealed : Fld := ⟨0, 1⟩
abbrev F.HouseCnt.shortDl : Fld := ⟨32, 32⟩
abbrev F.HouseCnt.lent : Fld := ⟨16, 16⟩
abbrev F.HouseCnt.borrowed : Fld := ⟨0, 16⟩
abbrev F.DramRgnA.limit : Fld := ⟨32, 16⟩
abbrev F.DramRgnA.base : Fld := ⟨0, 16⟩
abbrev F.DramRgnB.bgmask : Fld := ⟨24, 8⟩
abbrev F.DramRgnB.chmask : Fld := ⟨16, 4⟩
abbrev F.DramRgnB.mode : Fld := ⟨12, 2⟩
abbrev F.DramRgnB.secure : Fld := ⟨8, 1⟩
abbrev F.DramRgnB.owner : Fld := ⟨0, 3⟩
abbrev F.FnHouse.cfgCredit : Fld := ⟨0, 16⟩
abbrev F.JrBase.addr : Fld := ⟨12, 32⟩
abbrev F.JrBase.log2 : Fld := ⟨0, 6⟩
abbrev F.JrAlt.addr : Fld := ⟨12, 32⟩
abbrev F.JrAlt.log2 : Fld := ⟨0, 6⟩
abbrev F.JrSeal.nm1 : Fld := ⟨48, 16⟩
abbrev F.JrSeal.addr : Fld := ⟨12, 32⟩
abbrev F.JrSeal.slog2 : Fld := ⟨0, 5⟩
abbrev F.JrMark.full : Fld := ⟨32, 32⟩
abbrev F.JrMark.high : Fld := ⟨0, 32⟩
abbrev F.JrMaddr.addr : Fld := ⟨12, 52⟩
abbrev F.JrCtl.mrTimeout : Fld := ⟨48, 16⟩
abbrev F.JrCtl.jaGfn : Fld := ⟨40, 6⟩
abbrev F.JrCtl.jaEn : Fld := ⟨39, 1⟩
abbrev F.JrCtl.mGfn : Fld := ⟨32, 6⟩
abbrev F.JrCtl.mirEn : Fld := ⟨31, 1⟩
abbrev F.JrCtl.mlog2 : Fld := ⟨0, 5⟩
abbrev F.JrNext.jseq : Fld := ⟨0, 64⟩
abbrev F.JrRetired.jseq : Fld := ⟨0, 64⟩
abbrev F.JrSealed.jseq : Fld := ⟨0, 64⟩
abbrev F.JrStat.effFull : Fld := ⟨32, 32⟩
abbrev F.JrStat.held : Fld := ⟨24, 8⟩
abbrev F.JrStat.sealPend : Fld := ⟨16, 8⟩
abbrev F.JrStat.mirSusp : Fld := ⟨6, 1⟩
abbrev F.JrStat.relocS : Fld := ⟨5, 1⟩
abbrev F.JrStat.mirFailS : Fld := ⟨4, 1⟩
abbrev F.JrStat.hard : Fld := ⟨3, 1⟩
abbrev F.JrStat.full : Fld := ⟨2, 1⟩
abbrev F.JrStat.high : Fld := ⟨1, 1⟩
abbrev F.JrStat.ringOk : Fld := ⟨0, 1⟩
abbrev F.SwmDram.lock : Fld := ⟨63, 1⟩
abbrev F.SwmDram.swm : Fld := ⟨0, 16⟩
abbrev F.SwmDesk.lock : Fld := ⟨63, 1⟩
abbrev F.SwmDesk.swm : Fld := ⟨0, 6⟩
abbrev F.CustS2.en : Fld := ⟨63, 1⟩
abbrev F.CustS2.base : Fld := ⟨21, 23⟩
abbrev F.PassStat.active : Fld := ⟨12, 1⟩
abbrev F.PassStat.zeroised : Fld := ⟨8, 4⟩
abbrev F.PassStat.houses : Fld := ⟨4, 4⟩
abbrev F.PassStat.enables : Fld := ⟨0, 4⟩
abbrev F.PassExp.value : Fld := ⟨0, 64⟩
abbrev F.PassHwm.value : Fld := ⟨0, 64⟩
abbrev F.LeaseStat.queued : Fld := ⟨32, 12⟩
abbrev F.LeaseStat.off : Fld := ⟨16, 12⟩
abbrev F.LeaseStat.leased : Fld := ⟨0, 12⟩
abbrev F.HaltStat.halted : Fld := ⟨0, 64⟩
abbrev F.HaltRec.fring : Fld := ⟨32, 2⟩
abbrev F.HaltRec.orig : Fld := ⟨16, 16⟩
abbrev F.HaltRec.code : Fld := ⟨0, 16⟩
abbrev F.RatA.limit : Fld := ⟨32, 32⟩
abbrev F.RatA.base : Fld := ⟨0, 32⟩
abbrev F.RatB.nc : Fld := ⟨3, 1⟩
abbrev F.RatB.ewa : Fld := ⟨2, 1⟩
abbrev F.RatB.se : Fld := ⟨1, 1⟩
abbrev F.RatB.en : Fld := ⟨0, 1⟩
abbrev F.DcCtl.ageNs : Fld := ⟨48, 16⟩
abbrev F.DcCtl.rfmK : Fld := ⟨44, 4⟩
abbrev F.DcCtl.panicLvl : Fld := ⟨32, 8⟩
abbrev F.DcCtl.scrubH : Fld := ⟨24, 8⟩
abbrev F.DcCtl.rateMax : Fld := ⟨12, 4⟩
abbrev F.DcTrn.period : Fld := ⟨48, 16⟩
abbrev F.DcTrn.win : Fld := ⟨32, 16⟩
abbrev F.DcTrn.offset : Fld := ⟨0, 32⟩
abbrev F.DcStat.ceCnt : Fld := ⟨48, 16⟩
abbrev F.DcStat.pprPend : Fld := ⟨40, 8⟩
abbrev F.DcStat.pprDone : Fld := ⟨32, 8⟩
abbrev F.DcStat.rate : Fld := ⟨16, 8⟩
abbrev F.DcStat.ranks : Fld := ⟨14, 2⟩
abbrev F.DcStat.width : Fld := ⟨12, 2⟩
abbrev F.DcStat.driftT : Fld := ⟨7, 1⟩
abbrev F.DcStat.pause : Fld := ⟨6, 1⟩
abbrev F.DcStat.state : Fld := ⟨0, 3⟩
abbrev F.DcErr.syndrome : Fld := ⟨32, 32⟩
abbrev F.DcErr.rank : Fld := ⟨23, 1⟩
abbrev F.DcErr.sub : Fld := ⟨22, 1⟩
abbrev F.DcErr.bg : Fld := ⟨19, 3⟩
abbrev F.DcErr.bank : Fld := ⟨17, 2⟩
abbrev F.DcErr.class : Fld := ⟨4, 4⟩
abbrev F.DcErr.kind : Fld := ⟨0, 4⟩
abbrev F.DcErraddr.row : Fld := ⟨46, 18⟩
abbrev F.DcErraddr.addr : Fld := ⟨6, 38⟩
abbrev F.DcAct.action : Fld := ⟨0, 3⟩
abbrev F.DcRetain.retain : Fld := ⟨0, 8⟩
abbrev F.GsStat.ce : Fld := ⟨48, 16⟩
abbrev F.GsStat.term : Fld := ⟨32, 8⟩
abbrev F.GsStat.logical : Fld := ⟨8, 5⟩
abbrev F.GsStat.state : Fld := ⟨0, 3⟩
abbrev F.DeskStat.ce : Fld := ⟨48, 16⟩
abbrev F.DeskStat.ue : Fld := ⟨32, 16⟩
abbrev F.DeskStat.test : Fld := ⟨1, 2⟩
abbrev F.DeskStat.fail : Fld := ⟨0, 1⟩
abbrev F.BootStat.svn : Fld := ⟨32, 32⟩
abbrev F.BootStat.stage : Fld := ⟨12, 4⟩
abbrev F.BootStat.degraded : Fld := ⟨7, 1⟩
abbrev F.BootStat.fallback : Fld := ⟨6, 1⟩
abbrev F.BootStat.slot : Fld := ⟨5, 1⟩
abbrev F.BootStat.pref : Fld := ⟨4, 1⟩
abbrev F.BootStat.fails : Fld := ⟨0, 2⟩
abbrev F.RstCause.lost : Fld := ⟨32, 32⟩
abbrev F.RstCause.digest : Fld := ⟨4, 1⟩
abbrev F.RstCause.tamper : Fld := ⟨3, 1⟩
abbrev F.RstCause.cmd : Fld := ⟨2, 1⟩
abbrev F.RstCause.srst : Fld := ⟨1, 1⟩
abbrev F.RstCause.cold : Fld := ⟨0, 1⟩
abbrev F.PwrCtl.quiesceUs : Fld := ⟨32, 32⟩
abbrev F.PwrCtl.wakeDb : Fld := ⟨2, 1⟩
abbrev F.PwrCtl.wakePol : Fld := ⟨1, 1⟩
abbrev F.PwrCtl.wakeInEn : Fld := ⟨0, 1⟩
abbrev F.PwrStat.stops : Fld := ⟨32, 32⟩
abbrev F.PwrStat.state : Fld := ⟨0, 3⟩
abbrev F.WakeStat.dbGfn : Fld := ⟨8, 6⟩
abbrev F.WakeStat.late : Fld := ⟨3, 1⟩
abbrev F.WakeStat.doorbell : Fld := ⟨2, 1⟩
abbrev F.WakeStat.time : Fld := ⟨1, 1⟩
abbrev F.WakeStat.wakeIn : Fld := ⟨0, 1⟩
abbrev F.WakeTime.time : Fld := ⟨0, 64⟩
abbrev F.RcCtl.en : Fld := ⟨16, 1⟩
abbrev F.RcCtl.censusMs : Fld := ⟨0, 16⟩
abbrev F.RcStat.passes : Fld := ⟨48, 16⟩
abbrev F.RcStat.rotDone : Fld := ⟨40, 8⟩
abbrev F.RcStat.short : Fld := ⟨24, 6⟩
abbrev F.RcStat.queued : Fld := ⟨16, 8⟩
abbrev F.RcStat.pass : Fld := ⟨1, 1⟩
abbrev F.RcStat.rotating : Fld := ⟨0, 1⟩
abbrev F.RotPol.autoFail : Fld := ⟨16, 6⟩
abbrev F.RotPol.autoWorn : Fld := ⟨0, 6⟩
abbrev F.RlogStat.vppAbsent : Fld := ⟨17, 1⟩
abbrev F.RlogStat.full : Fld := ⟨16, 1⟩
abbrev F.RlogStat.used : Fld := ⟨0, 9⟩
abbrev F.RcAlias.alias : Fld := ⟨0, 32⟩
abbrev F.RcUnit.driftMax : Fld := ⟨48, 16⟩
abbrev F.RcUnit.drift : Fld := ⟨32, 16⟩
abbrev F.RcUnit.warn : Fld := ⟨11, 1⟩
abbrev F.RcUnit.state : Fld := ⟨8, 3⟩
abbrev F.Rlog.pending : Fld := ⟨33, 1⟩
abbrev F.Rlog.fused : Fld := ⟨32, 1⟩
abbrev F.Rlog.entry : Fld := ⟨0, 32⟩
abbrev F.MkCtl.en : Fld := ⟨1, 1⟩
abbrev F.MkCtl.termSnap : Fld := ⟨0, 1⟩
abbrev F.MkBuf.base : Fld := ⟨12, 32⟩
abbrev F.MkBuf.log2 : Fld := ⟨0, 6⟩
abbrev F.FnId.house : Fld := ⟨16, 2⟩
abbrev F.FnId.gfn : Fld := ⟨8, 6⟩
abbrev F.FnId.port : Fld := ⟨4, 2⟩
abbrev F.FnId.func : Fld := ⟨0, 4⟩
abbrev F.DevSerial.serial : Fld := ⟨0, 64⟩
abbrev F.FnCtl.errVec : Fld := ⟨24, 6⟩
abbrev F.FnCtl.errNotify : Fld := ⟨23, 1⟩
abbrev F.FnCtl.fetchLen : Fld := ⟨12, 4⟩
abbrev F.FnCtl.en : Fld := ⟨0, 1⟩
abbrev F.FnStat.pushOverrun : Fld := ⟨3, 1⟩
abbrev F.FnStat.dbErr : Fld := ⟨2, 1⟩
abbrev F.FnStat.hcFail : Fld := ⟨1, 1⟩
abbrev F.FnStat.active : Fld := ⟨0, 1⟩
abbrev F.SqBase.addr : Fld := ⟨12, 52⟩
abbrev F.CqBase.addr : Fld := ⟨12, 52⟩
abbrev F.ReplyBase.addr : Fld := ⟨12, 52⟩
abbrev F.RingSize.cqLog2 : Fld := ⟨16, 5⟩
abbrev F.RingSize.sqLog2 : Fld := ⟨0, 5⟩
abbrev F.Credit.inflight : Fld := ⟨32, 16⟩
abbrev F.Credit.limit : Fld := ⟨0, 16⟩
abbrev F.Errcnt.pushOvr : Fld := ⟨48, 16⟩
abbrev F.Errcnt.authrej : Fld := ⟨32, 16⟩
abbrev F.Errcnt.jfull : Fld := ⟨16, 16⟩
abbrev F.Errcnt.hcFail : Fld := ⟨0, 16⟩
abbrev F.Hctr.ctr : Fld := ⟨0, 64⟩
abbrev F.Octr.ctr : Fld := ⟨0, 64⟩
abbrev F.SqTail.tail : Fld := ⟨0, 16⟩
abbrev F.CqHead.head : Fld := ⟨0, 16⟩
abbrev F.RingPtr.cqWr : Fld := ⟨48, 16⟩
abbrev F.RingPtr.cqHead : Fld := ⟨32, 16⟩
abbrev F.RingPtr.sqTail : Fld := ⟨16, 16⟩
abbrev F.RingPtr.sqHead : Fld := ⟨0, 16⟩
abbrev F.MsixAddr.addr : Fld := ⟨0, 64⟩
abbrev F.MsixData.masked : Fld := ⟨32, 1⟩
abbrev F.MsixData.data : Fld := ⟨0, 32⟩
abbrev F.MsixPba.pend : Fld := ⟨0, 64⟩
abbrev F.Psrc.en : Fld := ⟨15, 1⟩
abbrev F.Psrc.ring : Fld := ⟨12, 2⟩
abbrev F.Psrc.level : Fld := ⟨8, 2⟩
abbrev F.Ssrc.en : Fld := ⟨15, 1⟩
abbrev F.Ssrc.ring : Fld := ⟨12, 2⟩
abbrev F.Ssrc.level : Fld := ⟨8, 2⟩
abbrev F.Ssrc.target : Fld := ⟨0, 6⟩
abbrev F.IcuCtl.hold : Fld := ⟨16, 16⟩
abbrev F.IcuCtl.icuReset : Fld := ⟨0, 1⟩
abbrev F.ChCfg.staleNs : Fld := ⟨48, 16⟩
abbrev F.ChCfg.hidx : Fld := ⟨40, 8⟩
abbrev F.ChCfg.owner : Fld := ⟨32, 3⟩
abbrev F.ChCfg.role : Fld := ⟨28, 2⟩
abbrev F.ChCfg.reader : Fld := ⟨16, 6⟩
abbrev F.ChCfg.slot : Fld := ⟨8, 4⟩
abbrev F.ChCfg.evCancel : Fld := ⟨2, 1⟩
abbrev F.ChCfg.evStale : Fld := ⟨1, 1⟩
abbrev F.ChCfg.evNe : Fld := ⟨0, 1⟩
abbrev F.ChHouse.ro : Fld := ⟨16, 8⟩
abbrev F.ChHouse.rq : Fld := ⟨8, 8⟩
abbrev F.ChHouse.tq : Fld := ⟨0, 8⟩
abbrev F.HpOwn.openF : Fld := ⟨8, 1⟩
abbrev F.HpOwn.house : Fld := ⟨0, 2⟩
abbrev F.HcSrc.addr : Fld := ⟨0, 44⟩
abbrev F.HcDst.addr : Fld := ⟨0, 44⟩
abbrev F.HcSgeo.lines : Fld := ⟨44, 20⟩
abbrev F.HcSgeo.len : Fld := ⟨0, 24⟩
abbrev F.HcDgeo.lines : Fld := ⟨44, 20⟩
abbrev F.HcDgeo.len : Fld := ⟨0, 24⟩
abbrev F.HcSstr.stride : Fld := ⟨0, 44⟩
abbrev F.HcDstr.stride : Fld := ⟨0, 44⟩
abbrev F.HcIlv.flen : Fld := ⟨12, 4⟩
abbrev F.HcIlv.fields : Fld := ⟨8, 4⟩
abbrev F.HcIlv.mode : Fld := ⟨0, 2⟩
abbrev F.HcCtl.house : Fld := ⟨10, 2⟩
abbrev F.HcCtl.openF : Fld := ⟨8, 1⟩
abbrev F.HcCtl.ie : Fld := ⟨2, 1⟩
abbrev F.HcCtl.go : Fld := ⟨1, 1⟩
abbrev F.HcCtl.en : Fld := ⟨0, 1⟩
abbrev F.HcStat.errCode : Fld := ⟨8, 4⟩
abbrev F.HcStat.err : Fld := ⟨3, 1⟩
abbrev F.HcStat.done : Fld := ⟨2, 1⟩
abbrev F.HcStat.queued : Fld := ⟨1, 1⟩
abbrev F.HcStat.busy : Fld := ⟨0, 1⟩
abbrev F.HcErraddr.addr : Fld := ⟨0, 44⟩
abbrev F.HcProg.bytes : Fld := ⟨0, 64⟩
abbrev F.MkoTctl.user : Fld := ⟨1, 1⟩
abbrev F.MkoTctl.tdIe : Fld := ⟨0, 1⟩
abbrev F.MkoTd.ovf : Fld := ⟨63, 1⟩
abbrev F.MkoTd.count : Fld := ⟨0, 48⟩
abbrev F.MkoSel.en : Fld := ⟨63, 1⟩
abbrev F.MkoSel.ie : Fld := ⟨62, 1⟩
abbrev F.MkoSel.rmask : Fld := ⟨58, 2⟩
abbrev F.MkoSel.event : Fld := ⟨0, 16⟩
abbrev F.MkoCnt.ovf : Fld := ⟨63, 1⟩
abbrev F.MkoCnt.count : Fld := ⟨0, 48⟩
abbrev F.MksTctl.tdIe : Fld := ⟨0, 1⟩
abbrev F.MksTd.ovf : Fld := ⟨63, 1⟩
abbrev F.MksTd.count : Fld := ⟨0, 48⟩
abbrev F.MksSel.en : Fld := ⟨63, 1⟩
abbrev F.MksSel.ie : Fld := ⟨62, 1⟩
abbrev F.MksSel.rmask : Fld := ⟨56, 4⟩
abbrev F.MksSel.event : Fld := ⟨0, 16⟩
abbrev F.MksCnt.ovf : Fld := ⟨63, 1⟩
abbrev F.MksCnt.count : Fld := ⟨0, 48⟩
abbrev F.MkUsel.en : Fld := ⟨63, 1⟩
abbrev F.MkUsel.ie : Fld := ⟨62, 1⟩
abbrev F.MkUsel.rmask : Fld := ⟨56, 4⟩
abbrev F.MkUsel.event : Fld := ⟨0, 16⟩
abbrev F.MkUcnt.ovf : Fld := ⟨63, 1⟩
abbrev F.MkUcnt.count : Fld := ⟨0, 48⟩

/-- The registers of 01_beats_time_voltage.md. -/
def regs01 : List RegDesc := [
  ⟨"DTIME", 0xC0000002000, 0x8, 1, 0x8, 1, [⟨0, 64, .ro, 0⟩]⟩,
  ⟨"TIME_CTL", 0xC0000002008, 0x8, 1, 0x8, 1, [⟨24, 8, .rw, 0x64⟩, ⟨14, 1, .rw, 0⟩, ⟨8, 6, .rw, 0⟩, ⟨2, 1, .rw, 0⟩, ⟨1, 1, .rw, 0⟩, ⟨0, 1, .rw, 0⟩]⟩,
  ⟨"TIME_STAT", 0xC0000002010, 0x8, 1, 0x8, 1, [⟨32, 32, .ro, 0⟩, ⟨6, 1, .w1c, 0⟩, ⟨5, 1, .ro, 0⟩, ⟨4, 1, .ro, 0⟩, ⟨3, 1, .w1c, 0⟩, ⟨2, 1, .w1c, 0⟩, ⟨1, 1, .w1c, 0⟩, ⟨0, 1, .ro, 0⟩]⟩,
  ⟨"VPOL_CTL", 0xC0000002040, 0x8, 1, 0x8, 1, [⟨24, 8, .rw, 0x14⟩, ⟨20, 4, .rw, 0⟩, ⟨16, 4, .rw, 5⟩, ⟨8, 8, .rw, 0xa⟩, ⟨0, 2, .rw, 0⟩]⟩,
  ⟨"VFLOOR", 0xC0000002048, 0x8, 1, 0x8, 1, [⟨12, 4, .rw, 0⟩, ⟨8, 4, .rw, 0⟩, ⟨4, 4, .rw, 0⟩, ⟨0, 4, .rw, 0⟩]⟩,
  ⟨"VPOL_STAT", 0xC0000002050, 0x8, 1, 0x8, 1, [⟨32, 32, .ro, 0x5d2⟩, ⟨12, 4, .ro, 0xf⟩, ⟨8, 4, .ro, 0xc⟩, ⟨3, 1, .ro, 0⟩, ⟨2, 1, .w1c, 0⟩, ⟨1, 1, .ro, 0⟩, ⟨0, 1, .ro, 0⟩]⟩,
  ⟨"AVS_CTL", 0xC0000002058, 0x8, 1, 0x8, 1, [⟨16, 16, .rw, 0x1f4⟩, ⟨4, 4, .rw, 0⟩, ⟨0, 1, .rw, 1⟩]⟩,
  ⟨"VREAD", 0xC0000002060, 0x8, 1, 0x8, 1, [⟨32, 16, .ro, 0⟩, ⟨0, 16, .ro, 0⟩]⟩,
  ⟨"TJ", 0xC0000002068, 0x8, 1, 0x8, 1, [⟨24, 8, .rw, 0x64⟩, ⟨16, 1, .w1c, 0⟩, ⟨0, 8, .ro, 0x69⟩]⟩]

/-- The registers of 02_command_packets.md. -/
def regs02 : List RegDesc := [
  ⟨"FN_ID", 0x1000000000000, 0x10000, 64, 0x8, 1, [⟨16, 2, .ro, 0⟩, ⟨8, 6, .ro, 0⟩, ⟨4, 2, .ro, 0⟩, ⟨0, 4, .ro, 0⟩]⟩,
  ⟨"DEV_SERIAL", 0x1000000000008, 0x10000, 64, 0x8, 1, [⟨0, 64, .ro, 0⟩]⟩,
  ⟨"FN_CTL", 0x1000000000010, 0x10000, 64, 0x8, 1, [⟨24, 6, .rw, 0⟩, ⟨23, 1, .rw, 0⟩, ⟨12, 4, .rw, 2⟩, ⟨0, 1, .rw, 0⟩]⟩,
  ⟨"FN_STAT", 0x1000000000018, 0x10000, 64, 0x8, 1, [⟨3, 1, .w1c, 0⟩, ⟨2, 1, .w1c, 0⟩, ⟨1, 1, .w1c, 0⟩, ⟨0, 1, .ro, 0⟩]⟩,
  ⟨"SQ_BASE", 0x1000000000020, 0x10000, 64, 0x8, 1, [⟨12, 52, .rw, 0⟩]⟩,
  ⟨"CQ_BASE", 0x1000000000028, 0x10000, 64, 0x8, 1, [⟨12, 52, .rw, 0⟩]⟩,
  ⟨"REPLY_BASE", 0x1000000000030, 0x10000, 64, 0x8, 1, [⟨12, 52, .rw, 0⟩]⟩,
  ⟨"RING_SIZE", 0x1000000000038, 0x10000, 64, 0x8, 1, [⟨16, 5, .rw, 4⟩, ⟨0, 5, .rw, 4⟩]⟩,
  ⟨"CREDIT", 0x1000000000040, 0x10000, 64, 0x8, 1, [⟨32, 16, .ro, 0⟩, ⟨0, 16, .ro, 0⟩]⟩,
  ⟨"ERRCNT", 0x1000000000048, 0x10000, 64, 0x8, 1, [⟨48, 16, .rcl, 0⟩, ⟨32, 16, .rcl, 0⟩, ⟨16, 16, .rcl, 0⟩, ⟨0, 16, .rcl, 0⟩]⟩,
  ⟨"HCTR", 0x1000000000050, 0x10000, 64, 0x8, 1, [⟨0, 64, .ro, 0⟩]⟩,
  ⟨"OCTR", 0x1000000000058, 0x10000, 64, 0x8, 1, [⟨0, 64, .ro, 0⟩]⟩,
  ⟨"SQ_TAIL", 0x1000000001000, 0x10000, 64, 0x8, 1, [⟨0, 16, .wo, 0⟩]⟩,
  ⟨"CQ_HEAD", 0x1000000001008, 0x10000, 64, 0x8, 1, [⟨0, 16, .wo, 0⟩]⟩,
  ⟨"RING_PTR", 0x1000000001010, 0x10000, 64, 0x8, 1, [⟨48, 16, .ro, 0⟩, ⟨32, 16, .ro, 0⟩, ⟨16, 16, .ro, 0⟩, ⟨0, 16, .ro, 0⟩]⟩,
  ⟨"MSIX_ADDR", 0x1000000008000, 0x10000, 64, 0x10, 64, [⟨0, 64, .rw, 0⟩]⟩,
  ⟨"MSIX_DATA", 0x1000000008008, 0x10000, 64, 0x10, 64, [⟨32, 1, .rw, 1⟩, ⟨0, 32, .rw, 0⟩]⟩,
  ⟨"MSIX_PBA", 0x1000000009000, 0x10000, 64, 0x8, 1, [⟨0, 64, .ro, 0⟩]⟩]

/-- The registers of 03_slates_and_bell.md. -/
def regs03 : List RegDesc := [
  ⟨"BELL_STAT", 0xC0000010000, 0x8, 1, 0x8, 1, [⟨16, 16, .ro, 0⟩, ⟨0, 16, .ro, 0⟩]⟩,
  ⟨"SLATE_STAT", 0xC0000010008, 0x8, 1, 0x8, 1, [⟨48, 16, .ro, 0⟩, ⟨32, 16, .ro, 0⟩, ⟨16, 16, .ro, 0⟩, ⟨0, 16, .ro, 0x8000⟩]⟩,
  ⟨"BELL_CNT", 0xC0000010010, 0x8, 1, 0x8, 1, [⟨32, 32, .rcl, 0⟩, ⟨0, 32, .rcl, 0⟩]⟩,
  ⟨"BELL_LAG", 0xC0000010018, 0x8, 1, 0x8, 1, [⟨32, 32, .rcl, 0⟩, ⟨0, 16, .rcl, 0⟩]⟩,
  ⟨"BELL_DROP", 0xC0000010020, 0x8, 1, 0x8, 1, [⟨0, 32, .rcl, 0⟩]⟩,
  ⟨"FN_BELL", 0xC0000010400, 0x8, 64, 0x8, 1, [⟨32, 11, .rw, 0⟩, ⟨16, 10, .rw, 0⟩, ⟨0, 16, .rw, 0x190⟩]⟩,
  ⟨"TPL", 0xC0000011000, 0x8, 4096, 0x8, 1, [⟨63, 1, .rw, 0⟩, ⟨32, 16, .rw, 0⟩, ⟨0, 32, .rw, 0⟩]⟩]

/-- The registers of 04_thresher_fast_path.md. -/
def regs04 : List RegDesc := [
  ⟨"THR_STAT", 0xC0000020000, 0x8, 1, 0x8, 1, [⟨32, 4, .w1c, 0⟩, ⟨24, 8, .ro, 0⟩, ⟨16, 8, .ro, 0⟩, ⟨8, 8, .ro, 0⟩, ⟨0, 8, .ro, 0⟩]⟩,
  ⟨"THR_LANE", 0xC0000020100, 0x8, 9, 0x8, 1, [⟨32, 8, .ro, 0⟩, ⟨16, 3, .ro, 0⟩, ⟨8, 2, .ro, 0⟩, ⟨0, 3, .ro, 0⟩]⟩,
  ⟨"THR_HOUSE", 0xC0000020200, 0x8, 4, 0x8, 1, [⟨32, 16, .rw, 0x1ce⟩, ⟨16, 16, .ro, 0⟩, ⟨8, 4, .ro, 0⟩, ⟨0, 1, .ro, 0⟩]⟩,
  ⟨"THR_EXAM", 0xC0000020240, 0x8, 4, 0x8, 1, [⟨32, 16, .rw, 0⟩, ⟨0, 16, .rw, 0⟩]⟩,
  ⟨"THR_CNT", 0xC0000020280, 0x8, 4, 0x8, 1, [⟨32, 32, .rcl, 0⟩, ⟨0, 32, .rcl, 0⟩]⟩,
  ⟨"FN_THR", 0xC0000020400, 0x8, 64, 0x8, 1, [⟨0, 1, .rw, 0⟩]⟩]

/-- The registers of 06_keys_and_mills.md. -/
def regs06 : List RegDesc := [
  ⟨"SAT_STAT", 0xC0000030000, 0x8, 1, 0x8, 1, [⟨48, 16, .ro, 0x8000⟩, ⟨35, 13, .ro, 0x1000⟩, ⟨7, 1, .ro, 0⟩, ⟨6, 1, .w1c, 0⟩, ⟨4, 2, .ro, 0⟩, ⟨0, 1, .ro, 0⟩]⟩,
  ⟨"TAMP_CTL", 0xC0000030008, 0x8, 1, 0x8, 1, [⟨28, 4, .rw, 0⟩, ⟨24, 4, .rw, 0⟩, ⟨20, 4, .rw, 0⟩, ⟨0, 8, .rw, 1⟩]⟩,
  ⟨"TAMP_STAT", 0xC0000030010, 0x8, 1, 0x8, 1, [⟨28, 4, .ro, 0⟩, ⟨24, 4, .ro, 0⟩, ⟨0, 1, .ro, 0⟩]⟩,
  ⟨"SAT_HOUSE", 0xC0000030100, 0x8, 4, 0x8, 1, [⟨50, 14, .ro, 0⟩, ⟨41, 9, .ro, 0⟩, ⟨25, 16, .ro, 0⟩, ⟨12, 13, .ro, 0⟩]⟩,
  ⟨"KT_SYM", 0xC0000030140, 0x8, 4, 0x8, 1, [⟨44, 20, .ro, 0⟩, ⟨12, 32, .ro, 0⟩]⟩,
  ⟨"KT_ASYM", 0xC0000030160, 0x8, 4, 0x8, 1, [⟨44, 20, .ro, 0⟩, ⟨12, 32, .ro, 0⟩]⟩,
  ⟨"KC_CNT", 0xC0000030180, 0x8, 4, 0x8, 1, [⟨32, 32, .rcl, 0⟩, ⟨16, 16, .rcl, 0⟩, ⟨0, 16, .ro, 0⟩]⟩,
  ⟨"DRBG_STAT", 0xC00000301A0, 0x8, 4, 0x8, 1, [⟨32, 32, .rcl, 0⟩, ⟨1, 20, .ro, 0⟩, ⟨0, 1, .ro, 0⟩]⟩,
  ⟨"ENT_STAT", 0xC0000030200, 0x8, 3, 0x8, 1, [⟨16, 16, .rcl, 0⟩, ⟨8, 8, .rcl, 0⟩, ⟨0, 3, .ro, 0⟩]⟩,
  ⟨"MILL_S", 0xC0000030400, 0x8, 36, 0x8, 1, [⟨32, 8, .ro, 0⟩, ⟨16, 4, .ro, 0xf⟩, ⟨8, 2, .ro, 0⟩, ⟨0, 3, .ro, 0⟩]⟩,
  ⟨"MILL_P", 0xC0000030600, 0x8, 18, 0x8, 1, [⟨32, 8, .ro, 0⟩, ⟨16, 4, .ro, 0xf⟩, ⟨8, 2, .ro, 0⟩, ⟨0, 3, .ro, 0⟩]⟩]

/-- The registers of 07_houses_isolation.md. -/
def regs07 : List RegDesc := [
  ⟨"TERM_CTL", 0xC0000040000, 0x8, 1, 0x8, 1, [⟨0, 14, .ro, 0x64⟩]⟩,
  ⟨"TERM_STAT", 0xC0000040008, 0x8, 1, 0x8, 1, [⟨0, 32, .ro, 0⟩]⟩,
  ⟨"HOUSE_CFG", 0xC0000040100, 0x8, 4, 0x8, 1, [⟨16, 4, .ro, 0⟩, ⟨8, 2, .ro, 0⟩, ⟨2, 1, .ro, 0⟩, ⟨1, 1, .ro, 0⟩, ⟨0, 1, .ro, 0⟩]⟩,
  ⟨"HOUSE_SHR", 0xC0000040120, 0x8, 4, 0x8, 1, [⟨48, 16, .ro, 0⟩, ⟨32, 9, .ro, 0⟩, ⟨16, 5, .ro, 0⟩, ⟨8, 5, .ro, 0⟩, ⟨0, 4, .ro, 0⟩]⟩,
  ⟨"HOUSE_TIL", 0xC0000040140, 0x8, 4, 0x8, 1, [⟨0, 64, .ro, 0⟩]⟩,
  ⟨"HOUSE_GWAY", 0xC0000040160, 0x8, 4, 0x8, 1, [⟨56, 8, .ro, 0⟩, ⟨48, 8, .ro, 0⟩, ⟨40, 8, .ro, 0⟩, ⟨32, 8, .ro, 0⟩, ⟨0, 16, .ro, 0⟩]⟩,
  ⟨"HOUSE_BOUND", 0xC0000040180, 0x8, 4, 0x8, 1, [⟨32, 32, .ro, 0⟩, ⟨0, 32, .ro, 0⟩]⟩,
  ⟨"ISO_STAT", 0xC00000401A0, 0x8, 4, 0x8, 1, [⟨16, 4, .ro, 0⟩, ⟨7, 1, .ro, 0⟩, ⟨6, 1, .ro, 0⟩, ⟨5, 1, .ro, 0⟩, ⟨4, 1, .ro, 0⟩, ⟨3, 1, .ro, 0⟩, ⟨2, 1, .ro, 0⟩, ⟨1, 1, .ro, 0⟩, ⟨0, 1, .ro, 0⟩]⟩,
  ⟨"HOUSE_CNT", 0xC00000401C0, 0x8, 4, 0x8, 1, [⟨32, 32, .rcl, 0⟩, ⟨16, 16, .rcl, 0⟩, ⟨0, 16, .rcl, 0⟩]⟩,
  ⟨"DRAM_RGN_A", 0xC0000040200, 0x10, 16, 0x8, 1, [⟨32, 16, .ro, 0⟩, ⟨0, 16, .ro, 0⟩]⟩,
  ⟨"DRAM_RGN_B", 0xC0000040208, 0x10, 16, 0x8, 1, [⟨24, 8, .ro, 0⟩, ⟨16, 4, .ro, 0⟩, ⟨12, 2, .ro, 3⟩, ⟨8, 1, .ro, 0⟩, ⟨0, 3, .ro, 0⟩]⟩,
  ⟨"FN_HOUSE", 0xC0000040400, 0x8, 64, 0x8, 1, [⟨0, 16, .ro, 0⟩]⟩]

/-- The registers of 08_register_journal.md. -/
def regs08 : List RegDesc := [
  ⟨"JR_BASE", 0xC0000050000, 0x80, 4, 0x8, 1, [⟨12, 32, .ro, 0⟩, ⟨0, 6, .ro, 0⟩]⟩,
  ⟨"JR_ALT", 0xC0000050008, 0x80, 4, 0x8, 1, [⟨12, 32, .ro, 0⟩, ⟨0, 6, .ro, 0⟩]⟩,
  ⟨"JR_SEAL", 0xC0000050010, 0x80, 4, 0x8, 1, [⟨48, 16, .ro, 0⟩, ⟨12, 32, .ro, 0⟩, ⟨0, 5, .ro, 0⟩]⟩,
  ⟨"JR_MARK", 0xC0000050018, 0x80, 4, 0x8, 1, [⟨32, 32, .ro, 0⟩, ⟨0, 32, .ro, 0⟩]⟩,
  ⟨"JR_MADDR", 0xC0000050020, 0x80, 4, 0x8, 1, [⟨12, 52, .ro, 0⟩]⟩,
  ⟨"JR_CTL", 0xC0000050028, 0x80, 4, 0x8, 1, [⟨48, 16, .ro, 0x32⟩, ⟨40, 6, .ro, 0⟩, ⟨39, 1, .ro, 0⟩, ⟨32, 6, .ro, 0⟩, ⟨31, 1, .ro, 0⟩, ⟨0, 5, .ro, 0⟩]⟩,
  ⟨"JR_NEXT", 0xC0000050030, 0x80, 4, 0x8, 1, [⟨0, 64, .ro, 0⟩]⟩,
  ⟨"JR_RETIRED", 0xC0000050038, 0x80, 4, 0x8, 1, [⟨0, 64, .ro, 0⟩]⟩,
  ⟨"JR_SEALED", 0xC0000050040, 0x80, 4, 0x8, 1, [⟨0, 64, .ro, 0⟩]⟩,
  ⟨"JR_STAT", 0xC0000050048, 0x80, 4, 0x8, 1, [⟨32, 32, .ro, 0⟩, ⟨24, 8, .ro, 0⟩, ⟨16, 8, .ro, 0⟩, ⟨6, 1, .ro, 0⟩, ⟨5, 1, .w1c, 0⟩, ⟨4, 1, .w1c, 0⟩, ⟨3, 1, .ro, 0⟩, ⟨2, 1, .ro, 0⟩, ⟨1, 1, .ro, 0⟩, ⟨0, 1, .ro, 0⟩]⟩]

/-- The registers of 10_rings_worlds_carrels.md. -/
def regs10 : List RegDesc := [
  ⟨"SWM_DRAM", 0xC0000060000, 0x8, 1, 0x8, 1, [⟨63, 1, .w1s, 0⟩, ⟨0, 16, .rw, 0⟩]⟩,
  ⟨"SWM_DESK", 0xC0000060100, 0x8, 72, 0x8, 1, [⟨63, 1, .w1s, 0⟩, ⟨0, 6, .rw, 0⟩]⟩,
  ⟨"CUST_S2", 0xC0000060400, 0x8, 1, 0x8, 1, [⟨63, 1, .rw, 0⟩, ⟨21, 23, .rw, 0⟩]⟩,
  ⟨"PASS_STAT", 0xC0000060408, 0x8, 1, 0x8, 1, [⟨12, 1, .ro, 0⟩, ⟨8, 4, .ro, 0⟩, ⟨4, 4, .ro, 0⟩, ⟨0, 4, .ro, 0⟩]⟩,
  ⟨"PASS_EXP", 0xC0000060410, 0x8, 1, 0x8, 1, [⟨0, 64, .ro, 0⟩]⟩,
  ⟨"PASS_HWM", 0xC0000060418, 0x8, 1, 0x8, 1, [⟨0, 64, .ro, 0⟩]⟩,
  ⟨"LEASE_STAT", 0xC0000060500, 0x8, 1, 0x8, 1, [⟨32, 12, .ro, 0⟩, ⟨16, 12, .ro, 0⟩, ⟨0, 12, .ro, 0⟩]⟩,
  ⟨"HALT_STAT", 0xC0000060508, 0x8, 1, 0x8, 1, [⟨0, 64, .ro, 0⟩]⟩,
  ⟨"HALT_REC", 0xC0000060600, 0x8, 64, 0x8, 1, [⟨32, 2, .ro, 0⟩, ⟨16, 16, .ro, 0⟩, ⟨0, 16, .ro, 0⟩]⟩]

/-- The registers of 11_translation_ordering.md. -/
def regs11 : List RegDesc := [
  ⟨"RAT_A", 0xC0000070000, 0x10, 1152, 0x8, 1, [⟨32, 32, .rw, 0⟩, ⟨0, 32, .rw, 0⟩]⟩,
  ⟨"RAT_B", 0xC0000070008, 0x10, 1152, 0x8, 1, [⟨3, 1, .rw, 0⟩, ⟨2, 1, .rw, 0⟩, ⟨1, 1, .rw, 0⟩, ⟨0, 1, .rw, 0⟩]⟩]

/-- The registers of 12_interrupts_chutes_hopper.md. -/
def regs12 : List RegDesc := [
  ⟨"PSRC", 0xC0000080000, 0x8, 2048, 0x8, 1, [⟨15, 1, .rw, 0⟩, ⟨12, 2, .rw, 0⟩, ⟨8, 2, .rw, 0⟩]⟩,
  ⟨"SSRC", 0xC0000084000, 0x8, 256, 0x8, 1, [⟨15, 1, .rw, 0⟩, ⟨12, 2, .rw, 0⟩, ⟨8, 2, .rw, 0⟩, ⟨0, 6, .rw, 0⟩]⟩,
  ⟨"ICU_CTL", 0xC0000084800, 0x8, 64, 0x8, 1, [⟨16, 16, .rw, 0x64⟩, ⟨0, 1, .wo, 0⟩]⟩,
  ⟨"CH_CFG", 0xC0000085000, 0x8, 256, 0x8, 1, [⟨48, 16, .rw, 0⟩, ⟨40, 8, .rw, 0⟩, ⟨32, 3, .rw, 0⟩, ⟨28, 2, .rw, 3⟩, ⟨16, 6, .rw, 0⟩, ⟨8, 4, .rw, 0⟩, ⟨2, 1, .rw, 0⟩, ⟨1, 1, .rw, 0⟩, ⟨0, 1, .rw, 0⟩]⟩,
  ⟨"CH_HOUSE", 0xC0000085800, 0x8, 4, 0x8, 1, [⟨16, 8, .rw, 0⟩, ⟨8, 8, .rw, 0⟩, ⟨0, 8, .rw, 0⟩]⟩,
  ⟨"HP_OWN", 0xC0000086000, 0x8, 128, 0x8, 1, [⟨8, 1, .rw, 0⟩, ⟨0, 2, .rw, 0⟩]⟩,
  ⟨"HC_SRC", 0x80000088000, 0x900000, 8, 0x80, 16, [⟨0, 44, .rw, 0⟩]⟩,
  ⟨"HC_DST", 0x80000088008, 0x900000, 8, 0x80, 16, [⟨0, 44, .rw, 0⟩]⟩,
  ⟨"HC_SGEO", 0x80000088010, 0x900000, 8, 0x80, 16, [⟨44, 20, .rw, 0⟩, ⟨0, 24, .rw, 0⟩]⟩,
  ⟨"HC_DGEO", 0x80000088020, 0x900000, 8, 0x80, 16, [⟨44, 20, .rw, 0⟩, ⟨0, 24, .rw, 0⟩]⟩,
  ⟨"HC_SSTR", 0x80000088018, 0x900000, 8, 0x80, 16, [⟨0, 44, .rw, 0⟩]⟩,
  ⟨"HC_DSTR", 0x80000088028, 0x900000, 8, 0x80, 16, [⟨0, 44, .rw, 0⟩]⟩,
  ⟨"HC_ILV", 0x80000088040, 0x900000, 8, 0x80, 16, [⟨12, 4, .rw, 0⟩, ⟨8, 4, .rw, 0⟩, ⟨0, 2, .rw, 0⟩]⟩,
  ⟨"HC_CTL", 0x80000088048, 0x900000, 8, 0x80, 16, [⟨10, 2, .ro, 0⟩, ⟨8, 1, .ro, 0⟩, ⟨2, 1, .rw, 0⟩, ⟨1, 1, .w1s, 0⟩, ⟨0, 1, .rw, 0⟩]⟩,
  ⟨"HC_STAT", 0x80000088050, 0x900000, 8, 0x80, 16, [⟨8, 4, .ro, 0⟩, ⟨3, 1, .w1c, 0⟩, ⟨2, 1, .w1c, 0⟩, ⟨1, 1, .ro, 0⟩, ⟨0, 1, .ro, 0⟩]⟩,
  ⟨"HC_ERRADDR", 0x80000088058, 0x900000, 8, 0x80, 16, [⟨0, 44, .ro, 0⟩]⟩,
  ⟨"HC_PROG", 0x80000088060, 0x900000, 8, 0x80, 16, [⟨0, 64, .ro, 0⟩]⟩]

/-- The registers of 13_memory_system.md. -/
def regs13 : List RegDesc := [
  ⟨"DC_CTL", 0xC0000090000, 0x8, 4, 0x8, 1, [⟨48, 16, .rw, 0x7d0⟩, ⟨44, 4, .rw, 0xa⟩, ⟨32, 8, .rw, 0x10⟩, ⟨24, 8, .rw, 0x18⟩, ⟨12, 4, .rw, 4⟩]⟩,
  ⟨"DC_TRN", 0xC0000090040, 0x8, 4, 0x8, 1, [⟨48, 16, .rw, 0x3e8⟩, ⟨32, 16, .rw, 0x64⟩, ⟨0, 32, .rw, 0⟩]⟩,
  ⟨"DC_STAT", 0xC0000090080, 0x8, 4, 0x8, 1, [⟨48, 16, .rcl, 0⟩, ⟨40, 8, .ro, 0⟩, ⟨32, 8, .rcl, 0⟩, ⟨16, 8, .ro, 0⟩, ⟨14, 2, .ro, 0⟩, ⟨12, 2, .ro, 0⟩, ⟨7, 1, .ro, 0⟩, ⟨6, 1, .ro, 0⟩, ⟨0, 3, .ro, 1⟩]⟩,
  ⟨"DC_ERR", 0xC00000900C0, 0x8, 4, 0x8, 1, [⟨32, 32, .ro, 0⟩, ⟨23, 1, .ro, 0⟩, ⟨22, 1, .ro, 0⟩, ⟨19, 3, .ro, 0⟩, ⟨17, 2, .ro, 0⟩, ⟨4, 4, .ro, 0⟩, ⟨0, 4, .ro, 0⟩]⟩,
  ⟨"DC_ERRADDR", 0xC0000090100, 0x8, 4, 0x8, 1, [⟨46, 18, .ro, 0⟩, ⟨6, 38, .ro, 0⟩]⟩,
  ⟨"DC_ACT", 0xC0000090140, 0x8, 4, 0x8, 1, [⟨0, 3, .wo, 0⟩]⟩,
  ⟨"DC_RETAIN", 0xC0000090180, 0x8, 1, 0x8, 1, [⟨0, 8, .rw, 0xff⟩]⟩,
  ⟨"GS_STAT", 0xC0000090200, 0x8, 18, 0x8, 1, [⟨48, 16, .rcl, 0⟩, ⟨32, 8, .ro, 0⟩, ⟨8, 5, .ro, 0⟩, ⟨0, 3, .ro, 0⟩]⟩,
  ⟨"DESK_STAT", 0xC0000090300, 0x8, 72, 0x8, 1, [⟨48, 16, .rcl, 0⟩, ⟨32, 16, .rcl, 0⟩, ⟨1, 2, .ro, 0⟩, ⟨0, 1, .w1c, 0⟩]⟩]

/-- The registers of 14_startup_reset_power.md. -/
def regs14 : List RegDesc := [
  ⟨"BOOT_STAT", 0xC00000A0000, 0x8, 1, 0x8, 1, [⟨32, 32, .ro, 0⟩, ⟨12, 4, .ro, 0⟩, ⟨7, 1, .ro, 0⟩, ⟨6, 1, .ro, 0⟩, ⟨5, 1, .ro, 0⟩, ⟨4, 1, .ro, 0⟩, ⟨0, 2, .ro, 0⟩]⟩,
  ⟨"RST_CAUSE", 0xC00000A0008, 0x8, 1, 0x8, 1, [⟨32, 32, .ro, 0⟩, ⟨4, 1, .ro, 0⟩, ⟨3, 1, .ro, 0⟩, ⟨2, 1, .ro, 0⟩, ⟨1, 1, .ro, 0⟩, ⟨0, 1, .ro, 1⟩]⟩,
  ⟨"PWR_CTL", 0xC00000A0010, 0x8, 1, 0x8, 1, [⟨32, 32, .rw, 0x3e8⟩, ⟨2, 1, .rw, 0⟩, ⟨1, 1, .rw, 0⟩, ⟨0, 1, .rw, 0⟩]⟩,
  ⟨"PWR_STAT", 0xC00000A0018, 0x8, 1, 0x8, 1, [⟨32, 32, .rcl, 0⟩, ⟨0, 3, .ro, 0⟩]⟩,
  ⟨"WAKE_STAT", 0xC00000A0020, 0x8, 1, 0x8, 1, [⟨8, 6, .ro, 0⟩, ⟨3, 1, .w1c, 0⟩, ⟨2, 1, .w1c, 0⟩, ⟨1, 1, .w1c, 0⟩, ⟨0, 1, .w1c, 0⟩]⟩,
  ⟨"WAKE_TIME", 0xC00000A0028, 0x8, 1, 0x8, 1, [⟨0, 64, .rw, 0⟩]⟩]

/-- The registers of 15_rotation_and_marks.md. -/
def regs15 : List RegDesc := [
  ⟨"RC_CTL", 0xC00000B0000, 0x8, 1, 0x8, 1, [⟨16, 1, .ro, 1⟩, ⟨0, 16, .ro, 0x3e8⟩]⟩,
  ⟨"RC_STAT", 0xC00000B0008, 0x8, 1, 0x8, 1, [⟨48, 16, .rcl, 0⟩, ⟨40, 8, .rcl, 0⟩, ⟨24, 6, .ro, 0⟩, ⟨16, 8, .ro, 0⟩, ⟨1, 1, .ro, 0⟩, ⟨0, 1, .ro, 0⟩]⟩,
  ⟨"ROT_POL", 0xC00000B0010, 0x8, 1, 0x8, 1, [⟨16, 6, .ro, 0x3f⟩, ⟨0, 6, .ro, 0x3f⟩]⟩,
  ⟨"RLOG_STAT", 0xC00000B0018, 0x8, 1, 0x8, 1, [⟨17, 1, .ro, 0⟩, ⟨16, 1, .ro, 0⟩, ⟨0, 9, .ro, 0⟩]⟩,
  ⟨"RC_ALIAS", 0xC00000B0020, 0x8, 1, 0x8, 1, [⟨0, 32, .ro, 0⟩]⟩,
  ⟨"RC_UNIT", 0xC00000B0100, 0x8, 179, 0x8, 1, [⟨48, 16, .rcl, 0⟩, ⟨32, 16, .ro, 0⟩, ⟨11, 1, .ro, 0⟩, ⟨8, 3, .ro, 0⟩]⟩,
  ⟨"RLOG", 0xC00000B0800, 0x8, 256, 0x8, 1, [⟨33, 1, .ro, 0⟩, ⟨32, 1, .ro, 0⟩, ⟨0, 32, .ro, 0⟩]⟩,
  ⟨"MK_CTL", 0xC00000C0000, 0x8, 1, 0x8, 1, [⟨1, 1, .rw, 1⟩, ⟨0, 1, .rw, 0⟩]⟩,
  ⟨"MK_BUF", 0xC00000C0010, 0x8, 5, 0x8, 1, [⟨12, 32, .ro, 0⟩, ⟨0, 6, .ro, 0⟩]⟩,
  ⟨"MKO_TCTL", 0x80000086000, 0x100000, 72, 0x8, 1, [⟨1, 1, .rw, 0⟩, ⟨0, 1, .rw, 0⟩]⟩,
  ⟨"MKO_TD", 0x80000086010, 0x100000, 72, 0x8, 4, [⟨63, 1, .w1c, 0⟩, ⟨0, 48, .rw, 0⟩]⟩,
  ⟨"MKO_SEL", 0x80000086040, 0x100000, 72, 0x8, 4, [⟨63, 1, .rw, 0⟩, ⟨62, 1, .rw, 0⟩, ⟨58, 2, .rw, 0⟩, ⟨0, 16, .rw, 0⟩]⟩,
  ⟨"MKO_CNT", 0x80000086080, 0x100000, 72, 0x8, 4, [⟨63, 1, .w1c, 0⟩, ⟨0, 48, .rw, 0⟩]⟩,
  ⟨"MKS_TCTL", 0x80000087000, 0x100000, 72, 0x8, 1, [⟨0, 1, .rw, 0⟩]⟩,
  ⟨"MKS_TD", 0x80000087010, 0x100000, 72, 0x8, 4, [⟨63, 1, .w1c, 0⟩, ⟨0, 48, .rw, 0⟩]⟩,
  ⟨"MKS_SEL", 0x80000087040, 0x100000, 72, 0x8, 4, [⟨63, 1, .rw, 0⟩, ⟨62, 1, .rw, 0⟩, ⟨56, 4, .rw, 0⟩, ⟨0, 16, .rw, 0⟩]⟩,
  ⟨"MKS_CNT", 0x80000087080, 0x100000, 72, 0x8, 4, [⟨63, 1, .w1c, 0⟩, ⟨0, 48, .rw, 0⟩]⟩,
  ⟨"MK_USEL", 0xC00000C2200, 0x40, 116, 0x8, 4, [⟨63, 1, .rw, 0⟩, ⟨62, 1, .rw, 0⟩, ⟨56, 4, .rw, 0⟩, ⟨0, 16, .rw, 0⟩]⟩,
  ⟨"MK_UCNT", 0xC00000C2220, 0x40, 116, 0x8, 4, [⟨63, 1, .w1c, 0⟩, ⟨0, 48, .rw, 0⟩]⟩]

/-- Every register table of the part. -/
def regTable : List RegDesc := regs01 ++ regs02 ++ regs03 ++ regs04 ++ regs06 ++ regs07 ++ regs08 ++ regs10 ++ regs11 ++ regs12 ++ regs13 ++ regs14 ++ regs15

end Sys2Proof.Machine
end

