-- ==== Sys2Proof/Machine/Regs.lean ====
section
/-! DEFINITION. Reading and writing the memory-mapped registers and their fields (R4 to R8): the plain
access that the part's own units make, and the software write of R6 by access type. -/

namespace Sys2Proof.Machine

/-- The value of a field (R4). -/
def Fld.get (f : Fld) (v : Word) : Nat := v.toNat / 2 ^ f.lo % 2 ^ f.w

/-- The bits of a field. -/
def Fld.mask (f : Fld) : Word := BitVec.ofNat 64 ((2 ^ f.w - 1) * 2 ^ f.lo)

/-- Write a field, taking the low bits of `n`. -/
def Fld.set (f : Fld) (v : Word) (n : Nat) : Word :=
  (v &&& ~~~f.mask) ||| BitVec.ofNat 64 (n % 2 ^ f.w * 2 ^ f.lo)

/-- Does address `a` name an element of the register? -/
def RegDesc.hits (d : RegDesc) (a : Nat) : Bool :=
  if a < d.base then false
  else
    let o := a - d.base
    let r := if d.s1 = 0 then o else o % d.s1
    (if d.s1 = 0 then true else decide (o / d.s1 < d.c1)) &&
    (if d.s2 = 0 then decide (r = 0) else decide (r % d.s2 = 0) && decide (r / d.s2 < d.c2))

/-- The register that an 8-byte aligned address names. -/
def regAt (a : Nat) : Option RegDesc := regTable.find? (fun d => d.hits a)

/-- The reset value that the fields of a register give together. -/
def RegDesc.resetWord (d : RegDesc) : Word :=
  BitVec.ofNat 64 (d.fields.foldl (fun n f => n + f.reset % 2 ^ f.w * 2 ^ f.lo) 0)

/-- The reset value of the register at address `a`; 0 where no register lies. -/
def regReset (a : Nat) : Word :=
  match regAt a with
  | some d => d.resetWord
  | none => 0

/-- The register at address `a`. -/
def State.rd (s : State) (a : Nat) : Word := Map.get (regReset a) s.regs a

/-- Give the register at address `a` the value `v`. -/
def State.wr (s : State) (a : Nat) (v : Word) : State :=
  { s with regs := Map.put (regReset a) s.regs a v }

/-- A field of a register. -/
def State.fld (s : State) (a : Nat) (f : Fld) : Nat := f.get (s.rd a)

/-- A one-bit field of a register, as a truth value. -/
def State.flag (s : State) (a : Nat) (f : Fld) : Bool := s.fld a f != 0

/-- Write a field of a register. -/
def State.setFld (s : State) (a : Nat) (f : Fld) (n : Nat) : State := s.wr a (f.set (s.rd a) n)

/-- Set a one-bit field. -/
def State.setFlag (s : State) (a : Nat) (f : Fld) (b : Bool) : State :=
  s.setFld a f (if b then 1 else 0)

/-- Add to a counting field, wrapping at its width. -/
def State.countFld (s : State) (a : Nat) (f : Fld) (n : Nat) : State :=
  s.setFld a f (s.fld a f + n)

/-- Add to a counting field, stopping at its largest value. -/
def State.satFld (s : State) (a : Nat) (f : Fld) (n : Nat) : State :=
  s.setFld a f (min (s.fld a f + n) (2 ^ f.w - 1))

/-- Two's-complement `n`-bit code of an integer that saturates at ±(2^(n-1) − 1). -/
def satSigned (n : Nat) (z : Int) : Nat :=
  let m : Int := 2 ^ (n - 1) - 1
  let c := if z > m then m else if z < -m then -m else z
  (c % (2 ^ n : Int)).toNat

/-- The signed value of an `n`-bit code. -/
def signed (n v : Nat) : Int :=
  if v < 2 ^ (n - 1) then (v : Int) else (v : Int) - 2 ^ n

/-- What a software write of `v` leaves in a field's bits (R6): RW takes the value, a W1C bit clears
on 1, a W1S bit sets on 1, and RO, WO and RCL fields keep what they hold. -/
def FieldDesc.afterWrite (f : FieldDesc) (old v : Word) : Word :=
  let fl : Fld := ⟨f.lo, f.w⟩
  match f.ty with
  | .rw => fl.set old (fl.get v)
  | .w1c => old &&& ~~~(v &&& fl.mask)
  | .w1s => old ||| (v &&& fl.mask)
  | .ro | .wo | .rcl => old

/-- The register's contents after a software write: every field by its access type, and reserved bits
as they were (R5, R6). -/
def RegDesc.afterWrite (d : RegDesc) (old v : Word) : Word :=
  d.fields.foldl (fun r f => f.afterWrite r v) old

/-- The RCL fields cleared by a software read (R6). -/
def RegDesc.afterRead (d : RegDesc) (old : Word) : Word :=
  d.fields.foldl (fun r f => if f.ty = .rcl then (Fld.mk f.lo f.w).set r 0 else r) old

/-- The write-only fields read 0 (R6). -/
def RegDesc.shown (d : RegDesc) (v : Word) : Word :=
  d.fields.foldl (fun r f => if f.ty = .wo then (Fld.mk f.lo f.w).set r 0 else r) v

/-- A software write of an aligned 8-byte register word (R6). -/
def State.softWrite (s : State) (a : Nat) (v : Word) : State :=
  match regAt a with
  | some d => s.wr a (d.afterWrite (s.rd a) v)
  | none => s

end Sys2Proof.Machine
end

