-- ==== Sys2Proof/Machine/Ops.lean ====
section
/-! DEFINITION. The operations over the numbered units of the state, the free choices, what the part
posts to the outside, and the raising of interrupt sources and machine-check events. -/

namespace Sys2Proof.Machine

/-- Every meaning of a command answers a next state. -/
abbrev Out := Host.Outcome State Fault Refusal

/-! ### Numbered units -/

/-- Slate `i`. -/
def State.slate (s : State) (i : Nat) : Slate := Map.get {} s.slates i
/-- Replace slate `i`. -/
def State.setSlate (s : State) (i : Nat) (v : Slate) : State :=
  { s with slates := Map.put {} s.slates i v }
/-- Change slate `i`. -/
def State.modSlate (s : State) (i : Nat) (f : Slate → Slate) : State := s.setSlate i (f (s.slate i))

/-- Host function `g`. -/
def State.fn (s : State) (g : Nat) : Fn := Map.get {} s.fns g
/-- Replace function `g`. -/
def State.setFn (s : State) (g : Nat) (v : Fn) : State := { s with fns := Map.put {} s.fns g v }
/-- Change function `g`. -/
def State.modFn (s : State) (g : Nat) (f : Fn → Fn) : State := s.setFn g (f (s.fn g))

/-- Host port `p`. -/
def State.port (s : State) (p : Nat) : Port := Map.get {} s.ports p
/-- Replace port `p`. -/
def State.setPort (s : State) (p : Nat) (v : Port) : State :=
  { s with ports := Map.put {} s.ports p v }
/-- Change port `p`. -/
def State.modPort (s : State) (p : Nat) (f : Port → Port) : State := s.setPort p (f (s.port p))

/-- Thresher lane `n`. -/
def State.lane (s : State) (n : Nat) : Lane := Map.get {} s.lanes n
/-- Replace lane `n`. -/
def State.setLane (s : State) (n : Nat) (v : Lane) : State :=
  { s with lanes := Map.put {} s.lanes n v }
/-- Change lane `n`. -/
def State.modLane (s : State) (n : Nat) (f : Lane → Lane) : State := s.setLane n (f (s.lane n))

/-- House `h`. -/
def State.house (s : State) (h : Nat) : House := Map.get {} s.houses h
/-- Replace House `h`. -/
def State.setHouse (s : State) (h : Nat) (v : House) : State :=
  { s with houses := Map.put {} s.houses h v }
/-- Change House `h`. -/
def State.modHouse (s : State) (h : Nat) (f : House → House) : State := s.setHouse h (f (s.house h))
/-- Change the journal of House `h`. -/
def State.modJ (s : State) (h : Nat) (f : Journal → Journal) : State :=
  s.modHouse h (fun v => { v with j := f v.j })

/-- The physical position that logical Tiller `t` holds at reset: slot 8 of each Sheaf is fallow
(Table 0.5, Table 15.1). -/
def homePos (t : Nat) : Nat := t / 8 * 9 + t % 8

/-- Logical Tiller `t`. -/
def State.tiller (s : State) (t : Nat) : Tiller := Map.get { pos := homePos t } s.tillers t
/-- Replace Tiller `t`. -/
def State.setTiller (s : State) (t : Nat) (v : Tiller) : State :=
  { s with tillers := Map.put { pos := homePos t } s.tillers t v }
/-- Change Tiller `t`. -/
def State.modTiller (s : State) (t : Nat) (f : Tiller → Tiller) : State :=
  s.setTiller t (f (s.tiller t))

/-- Chute `c`. -/
def State.chute (s : State) (c : Nat) : Chute := Map.get {} s.chutes c
/-- Replace Chute `c`. -/
def State.setChute (s : State) (c : Nat) (v : Chute) : State :=
  { s with chutes := Map.put {} s.chutes c v }
/-- Change Chute `c`. -/
def State.modChute (s : State) (c : Nat) (f : Chute → Chute) : State := s.setChute c (f (s.chute c))

/-- Hopper engine `e`. -/
def State.hopper (s : State) (e : Nat) : Hopper := Map.get {} s.hoppers e
/-- Replace engine `e`. -/
def State.setHopper (s : State) (e : Nat) (v : Hopper) : State :=
  { s with hoppers := Map.put {} s.hoppers e v }
/-- Change engine `e`. -/
def State.modHopper (s : State) (e : Nat) (f : Hopper → Hopper) : State :=
  s.setHopper e (f (s.hopper e))

/-- DRAM channel `c`. -/
def State.chan (s : State) (c : Nat) : Chan := Map.get {} s.chans c
/-- Replace channel `c`. -/
def State.setChan (s : State) (c : Nat) (v : Chan) : State :=
  { s with chans := Map.put {} s.chans c v }
/-- Change channel `c`. -/
def State.modChan (s : State) (c : Nat) (f : Chan → Chan) : State := s.setChan c (f (s.chan c))

/-- Card interface `k`. -/
def State.card (s : State) (k : Nat) : Card := Map.get {} s.cards k
/-- Change card interface `k`. -/
def State.modCard (s : State) (k : Nat) (f : Card → Card) : State :=
  { s with cards := Map.put {} s.cards k (f (s.card k)) }

/-- Entropy source `e`. -/
def State.source (s : State) (e : Nat) : Entropy := Map.get {} s.entropy e
/-- Change entropy source `e`. -/
def State.modSource (s : State) (e : Nat) (f : Entropy → Entropy) : State :=
  { s with entropy := Map.put {} s.entropy e (f (s.source e)) }

/-- Symmetric or asymmetric Satchel slot `n`. -/
def State.slot (s : State) (asym : Bool) (n : Nat) : KeyEnt :=
  if asym then Map.get {} s.asymSlots n else Map.get {} s.symSlots n
/-- Replace a Satchel slot. -/
def State.setSlot (s : State) (asym : Bool) (n : Nat) (v : KeyEnt) : State :=
  if asym then { s with asymSlots := Map.put {} s.asymSlots n v }
  else { s with symSlots := Map.put {} s.symSlots n v }

/-- A write that replaces a whole line, or 8 bytes of a Desk, ends its poison (R371, R395). -/
def State.clearPoison (s : State) (a n : Nat) : State :=
  let g := if a < 0x008000000000 then 64 else 8
  { s with poison := s.poison.filter (fun k => !(decide (a ≤ k) && decide (k + g ≤ a + n))) }

/-- Write whole lines of DRAM. -/
def State.putLines (s : State) (a : Nat) (bs : List Byte) : State :=
  ({ s with mem := Memory.store s.mem a bs }).clearPoison a bs.length

/-! ### Free choices and free values (R9, R10; log entries 8 and 9) -/

/-- One of `n` listed outcomes, and the state that has taken it. DESIGN CHOICE (log 9, 64). -/
def State.choose (s : State) (n : Nat) : Nat × State :=
  (Config.pick s.picks % n, { s with picks := s.picks + 1 })

/-- A 64-bit value the spec leaves UNKNOWN. DESIGN CHOICE (log 8). -/
def State.freshWord (s : State) : Word × State :=
  (Config.freeWord s.picks, { s with picks := s.picks + 1 })

/-- `n` UNKNOWN words. DESIGN CHOICE (log 8). -/
def State.freshWords (s : State) : Nat → List Word × State
  | 0 => ([], s)
  | n + 1 => ((s.freshWord.1 :: (s.freshWord.2.freshWords n).1), (s.freshWord.2.freshWords n).2)

/-- `n` bytes from an entropy source or a DRBG: bytes of the free sequence from the next pick on.
DESIGN CHOICE (log 8). -/
def State.randomBytes (s : State) (n : Nat) : List Byte × State :=
  ((List.range n).map (fun i => Config.random (s.picks + i)), { s with picks := s.picks + n })

/-- `n` bytes of entropy: conditioned output that the sources have given and nothing has drawn, then bytes of
the free sequence, for the raw bits that no ENTROPY_SAMPLE has shown (R192). DESIGN CHOICE (log 8). -/
def State.entropyBytes (s : State) (n : Nat) : List Byte × State :=
  let r := ({ s with entPool := s.entPool.drop n }).randomBytes (n - s.entPool.length)
  (s.entPool.take n ++ r.1, r.2)

/-- Insert into a strictly rising list of numbers. -/
def insertNat (n : Nat) : List Nat → List Nat
  | [] => [n]
  | a :: l => if n < a then n :: a :: l else if n = a then a :: l else a :: insertNat n l

/-! ### The outside -/

/-- Time in ns on the cycles of the time base, which no step of device time changes (R24).
DESIGN CHOICE (log 1). -/
def State.uptime (s : State) : Nat := 4 * s.tb.cycles

/-- Post a request or drive a pin. DESIGN CHOICE (log 10). -/
def State.post (s : State) (p : Post) : State := { s with out := p :: s.out }

/-- Function and port: global number = port × 16 + function (Table 0.5). -/
def portOf (g : Nat) : Nat := g / 16

/-- Does House `h` own port `p`? (HOUSE_CFG.PORTS) -/
def State.ownsPort (s : State) (h p : Nat) : Bool := (s.fld (Reg.houseCfg h) F.HouseCfg.ports).testBit p

/-- The House of function `g` (R43, R198): the House that owns its port. -/
def State.houseOf (s : State) (g : Nat) : Nat :=
  ((List.range 4).find? (fun h => s.ownsPort h (portOf g))).getD 0

/-- House states of HOUSE_CFG.STATE. -/
def houseService : Nat := 1

/-- Is House `h` in SERVICE? -/
def State.inService (s : State) (h : Nat) : Bool :=
  s.fld (Reg.houseCfg h) F.HouseCfg.state == houseService

/-- The logical Tiller's House, from the HOUSE_TIL masks (R208). -/
def State.tillerHouse (s : State) (t : Nat) : Option Nat :=
  (List.range 4).find? (fun h => (s.fld (Reg.houseTil h) F.HouseTil.tillers).testBit t)

/-- The House that Tiller `t` still works for: the one that it leaves, until it has been cleared, else the one
that its mask names (R208). -/
def State.tillerFor (s : State) (t : Nat) : Option Nat :=
  match Map.find t s.leaving with
  | some h => if h < 4 then some h else none
  | none => s.tillerHouse t

/-- Tiller `t` is on its way to another owner (R208). -/
def State.tillerMoves (s : State) (t : Nat) : Bool :=
  (List.range 5).any (fun h => (s.house h).tillersClearing.contains t)

/-- Tabqua may serve House `h` on Tiller `t`: one of the House's own, or, with a Tiller share of 0, one of the
common pool (R203). -/
def State.tillerServes (s : State) (t h : Nat) : Bool :=
  s.tillerFor t == some h ||
  (s.fld (Reg.houseTil h) F.HouseTil.tillers == 0 && (s.tillerFor t).isNone)

/-- The Sheaf of a physical position. -/
def sheafOf (pos : Nat) : Nat := pos / 9

/-! ### Interrupt sources and machine checks (chapters 10 and 12) -/

/-- Private source `k` of Tiller `t` in PSRC. -/
def State.psrc (s : State) (t k : Nat) : Word := s.rd (Reg.psrc (32 * t + k))
/-- Shared source `n` in SSRC. -/
def State.ssrc (s : State) (n : Nat) : Word := s.rd (Reg.ssrc (n - 32))

/-- An event of a private edge source: the pending bit sets, unless the source is disabled
(R341, R342). -/
def State.raisePrivate (s : State) (t k : Nat) : State :=
  if F.Psrc.en.get (s.psrc t k) = 0 then s
  else s.modTiller t (fun v => { v with edges := insertNat k v.edges })

/-- An event of a shared edge source (R341, R342). -/
def State.raiseShared (s : State) (n : Nat) : State :=
  if F.Ssrc.en.get (s.ssrc n) = 0 then s
  else { s with sharedEdges := insertNat n s.sharedEdges }

/-- The Tiller that takes a machine-check event which no instruction of its own raised: T0, or the
lowest in service that has not halted (R288; log entry 12). DEDUCED (log 12). -/
def State.mcheckTarget (s : State) : Option Nat :=
  (List.range 64).find? (fun t => (s.tiller t).on && !(s.tiller t).halted)

/-- Raise a machine-check event: it waits for the Tiller's next instruction boundary. DEDUCED (log 12). -/
def State.machineCheck (s : State) : State :=
  match s.mcheckTarget with
  | some t => s.modTiller t (fun v => { v with mcheck := true })
  | none => s

/-- Edge sources of Table 12.2. -/
def srcHsEvent : Nat := 8
def srcLeaseDone : Nat := 9
def srcHop (e k : Nat) : Nat := 32 + 16 * e + k
def srcTerm : Nat := 164
def srcWorn : Nat := 168

/-! ### Marks counters (R435) -/

/-- Add to a 48-bit counter with its sticky overflow bit (R435). -/
def State.countMark (s : State) (a n : Nat) : State :=
  let v := s.fld a F.MkoCnt.count + n
  let s := s.setFld a F.MkoCnt.count v
  if 2 ^ 48 ≤ v then s.setFlag a F.MkoCnt.ovf true else s

/-- Count an event of a unit u from 72 on (R435). -/
def State.markUnit (s : State) (u ev n : Nat) : State :=
  (List.range 4).foldl (fun (s : State) i =>
    let k := s.rd (Reg.mkUsel u i)
    if F.MkUsel.en.get k = 1 ∧ F.MkUsel.event.get k = ev then s.countMark (Reg.mkUcnt u i) n else s) s

/-! ### Reset state of the part -/

/-- The part runs: PORST_N is high, VCORE is on, and no reset holds it. -/
def State.running (s : State) : Bool := !s.power.porst && s.power.vcore && s.power.vaon

/-- The part is in service (R306). -/
def State.serving (s : State) : Bool := s.running && s.power.service

end Sys2Proof.Machine
end

