-- ==== Sys2Proof/Machine/Crypto.lean ====
section
/-! DEFINITION. The host check and the constructions over block functions that the spec names: CRC-32C
in full (R57); CMAC, HMAC, ISO/IEC 9797-1 algorithm 3, TDES and CBC over the opaque functions of
Config (log entry 7). -/

namespace Sys2Proof.Machine

/-! ### CRC-32C (R57) -/

/-- One bit of the reflected CRC with polynomial 0x1EDC6F41. -/
def crcBit (c : BitVec 32) : BitVec 32 :=
  if c.getLsbD 0 then (c >>> 1) ^^^ 0x82F63B78#32 else c >>> 1

/-- One byte of the CRC. -/
def crcByte (c : BitVec 32) (b : Byte) : BitVec 32 :=
  let c := c ^^^ b.setWidth 32
  crcBit (crcBit (crcBit (crcBit (crcBit (crcBit (crcBit (crcBit c)))))))

/-- CRC-32C: initial value and final XOR of all ones. -/
def crc32c (bs : List Byte) : BitVec 32 := bs.foldl crcByte 0xFFFFFFFF#32 ^^^ 0xFFFFFFFF#32

/-- The CRC as 4 little-endian bytes. -/
def crcBytes (bs : List Byte) : List Byte := toBytes (crc32c bs).toNat 4

/-- HCHECK covers header bytes 0 to 59 and the extension words (R57). -/
def hcheckInput (pkt : List Byte) : List Byte := slice pkt 0 60 ++ pkt.drop 64

/-- HCHECK of a packet verifies. -/
def hcheckOk (pkt : List Byte) : Bool :=
  ofBytes (slice pkt 60 4) == (crc32c (hcheckInput pkt)).toNat

/-! ### Blocks -/

/-- XOR of two byte strings, as long as the first. -/
def xorBytes (a b : List Byte) : List Byte :=
  (List.range a.length).map (fun i => a.getD i 0 ^^^ b.getD i 0)

/-- Cut into blocks of `n` bytes; the last may be shorter. -/
def chunksAux (n : Nat) : Nat → List Byte → List (List Byte)
  | 0, _ => []
  | f + 1, bs => if bs.isEmpty then [] else bs.take n :: chunksAux n f (bs.drop n)

/-- Cut into blocks of `n` bytes; the last may be shorter. -/
def chunks (n : Nat) (bs : List Byte) : List (List Byte) := chunksAux n (bs.length + 1) bs

/-- AES encryption of a 16-byte block. -/
def aesE (key block : List Byte) : List Byte :=
  toBytesBE (Config.aesEnc key (BitVec.ofNat 128 (ofBytesBE block))).toNat 16
/-- AES decryption of a 16-byte block. -/
def aesD (key block : List Byte) : List Byte :=
  toBytesBE (Config.aesDec key (BitVec.ofNat 128 (ofBytesBE block))).toNat 16
/-- Single-DES encryption of an 8-byte block. -/
def desE (key block : List Byte) : List Byte :=
  toBytesBE (Config.desEnc key (BitVec.ofNat 64 (ofBytesBE block))).toNat 8
/-- Single-DES decryption of an 8-byte block. -/
def desD (key block : List Byte) : List Byte :=
  toBytesBE (Config.desDec key (BitVec.ofNat 64 (ofBytesBE block))).toNat 8

/-- Part k of a TDES key, 0 to 2; a two-key key uses K1 as K3 (R126). -/
def tdesPart (key : List Byte) (k : Nat) : List Byte :=
  if k = 2 ∧ key.length < 24 then slice key 0 8 else slice key (8 * k) 8

/-- TDES encryption of an 8-byte block. -/
def tdesE (key block : List Byte) : List Byte :=
  desE (tdesPart key 2) (desD (tdesPart key 1) (desE (tdesPart key 0) block))
/-- TDES decryption of an 8-byte block. -/
def tdesD (key block : List Byte) : List Byte :=
  desD (tdesPart key 0) (desE (tdesPart key 1) (desD (tdesPart key 2) block))

/-- A key's block cipher: AES types 1 to 3, TDES types 4 and 5 (Table 6.5). -/
def isAes (ty : Nat) : Bool := 1 ≤ ty && ty ≤ 3
/-- TDES types. -/
def isTdes (ty : Nat) : Bool := ty == 4 || ty == 5
/-- Block length of the type's cipher. -/
def blockLen (ty : Nat) : Nat := if isTdes ty then 8 else 16
/-- Encrypt one block under a key of type `ty`. -/
def blockE (ty : Nat) (key block : List Byte) : List Byte :=
  if isTdes ty then tdesE key block else aesE key block
/-- Decrypt one block under a key of type `ty`. -/
def blockD (ty : Nat) (key block : List Byte) : List Byte :=
  if isTdes ty then tdesD key block else aesD key block

/-! ### MACs -/

/-- Doubling in the CMAC field of an `n`-byte block (SP 800-38B). -/
def cmacDouble (n : Nat) (b : List Byte) : List Byte :=
  let v := ofBytesBE b * 2
  let r := if n = 8 then 0x1B else 0x87
  let w := v % 2 ^ (8 * n)
  toBytesBE (if v / 2 ^ (8 * n) % 2 = 1 then Nat.xor w r else w) n

/-- CBC chaining of whole blocks from a zero value. -/
def cbcMac (e : List Byte → List Byte) (n : Nat) (blocks : List (List Byte)) : List Byte :=
  blocks.foldl (fun c b => e (xorBytes c b)) (zeros n)

/-- CMAC (SP 800-38B) with the block function `e` of `n` bytes. -/
def cmac (e : List Byte → List Byte) (n : Nat) (msg : List Byte) : List Byte :=
  let k1 := cmacDouble n (e (zeros n))
  let k2 := cmacDouble n k1
  let bs := chunks n msg
  let full := !msg.isEmpty && msg.length % n == 0
  let last := bs.getLast?.getD []
  let fin := if full then xorBytes last k1 else xorBytes (slice (last ++ [0x80]) 0 n) k2
  cbcMac e n (bs.dropLast ++ [fin])

/-- CMAC under a key of a type. -/
def cmacKey (ty : Nat) (key msg : List Byte) : List Byte := cmac (blockE ty key) (blockLen ty) msg

/-- ISO/IEC 9797-1 padding: method 1 fills with zeros, method 2 puts 0x80 first (R126). -/
def pad9797 (method : Nat) (msg : List Byte) : List Byte :=
  let m := if method = 2 then msg ++ [0x80] else msg
  let n := if m.isEmpty then 8 else (8 - m.length % 8) % 8
  m ++ zeros n

/-- ISO/IEC 9797-1 MAC algorithm 3 (R126): single-DES chaining under K1, then decryption under K2 and
encryption under K3. -/
def mac3 (method : Nat) (key msg : List Byte) : List Byte :=
  let c := cbcMac (desE (tdesPart key 0)) 8 (chunks 8 (pad9797 method msg))
  desE (tdesPart key 2) (desD (tdesPart key 1) c)

/-- SHA-256 as bytes. -/
def sha256b (m : List Byte) : List Byte := toBytesBE (Config.sha256 m).toNat 32

/-- HMAC-SHA-256. -/
def hmac (key msg : List Byte) : List Byte :=
  let k := slice key 0 64
  sha256b (xorBytes k (List.replicate 64 0x5C) ++ sha256b (xorBytes k (List.replicate 64 0x36) ++ msg))

/-- The 256-bit KDF of SP 800-108 in counter mode with AES-256-CMAC as the PRF: two blocks over a counter, the
label, a zero byte, the context and the length in bits (R167). PRESUMED (log 7). -/
def kdf (key label ctx : List Byte) : BitVec 256 :=
  let block (i : Nat) : List Byte := cmac (aesE key) 16 (toBytesBE i 4 ++ label ++ [0] ++ ctx ++ toBytesBE 256 4)
  BitVec.ofNat 256 (ofBytesBE (block 1 ++ block 2))

/-- The one-step KDF of SP 800-56C over the hash `f`, for one block of it (R182, R189). -/
def oneStep (f : List Byte → List Byte) (z info : List Byte) : List Byte := f (toBytesBE 1 4 ++ z ++ info)

/-- SHA-384 as bytes. -/
def sha384b (m : List Byte) : List Byte := toBytesBE (Config.sha384 m).toNat 48

/-- CBC decryption under a key of a type. -/
def cbcDecrypt (ty : Nat) (key iv msg : List Byte) : List Byte :=
  ((chunks (blockLen ty) msg).foldl
    (fun (st : List Byte × List Byte) b => (st.1 ++ xorBytes (blockD ty key b) st.2, b)) ([], iv)).1

/-- The MAC of Table 4.2 by ALG. -/
def macAlg (alg : Nat) (key msg : List Byte) : List Byte :=
  match alg with
  | 1 => cmacKey 3 key msg
  | 2 => cmacKey 5 key msg
  | 3 => mac3 1 key msg
  | 4 => mac3 2 key msg
  | _ => hmac key msg

/-- Bytes of an ASCII string. -/
def ascii (s : String) : List Byte := s.toList.map (fun c => BitVec.ofNat 8 c.toNat)

end Sys2Proof.Machine
end

