-- ==== Sys2Proof/Machine/Operands.lean ====
section
/-! DEFINITION. The operand forms of a command packet: the header of Table 2.1, FLAGS of Table 2.2,
the extension words and the authentication word of Table 2.7, BCD strings (R106), and the checks that
name a failing field by its offset (R462). -/

namespace Sys2Proof.Machine

/-- The little-endian number in `n` bytes at offset `o` (R54). -/
def le (p : List Byte) (o n : Nat) : Nat := ofBytes (slice p o n)
/-- One byte. -/
def byteAt (p : List Byte) (o : Nat) : Nat := (p.getD o 0).toNat

/-- OPCODE. -/
def pkOpcode (p : List Byte) : Nat := le p 0 2
/-- The family, OPCODE [15:8]. -/
def pkFamily (p : List Byte) : Nat := byteAt p 1
/-- The operation, OPCODE [7:0]. -/
def pkOperation (p : List Byte) : Nat := byteAt p 0
/-- FLAGS. -/
def pkFlags (p : List Byte) : Nat := le p 2 2
def pkNotify (p : List Byte) : Bool := (pkFlags p).testBit 0
def pkOutEn (p : List Byte) : Bool := (pkFlags p).testBit 1
def pkAuthExt (p : List Byte) : Bool := (pkFlags p).testBit 2
def pkPphase (p : List Byte) : Bool := (pkFlags p).testBit 3
def pkTag (p : List Byte) : List Byte := slice p 4 4
def pkDeadline (p : List Byte) : Nat := le p 8 8
/-- KEY0 to KEY2. -/
def pkKey (p : List Byte) (k : Nat) : Word := BitVec.ofNat 64 (le p (16 + 8 * k) 8)
def pkOutPtr (p : List Byte) : Nat := le p 40 8
def pkTemplate (p : List Byte) : Nat := le p 48 2
/-- EXT_COUNT [2:0]. -/
def pkExtCount (p : List Byte) : Nat := byteAt p 50 % 8
def pkVector (p : List Byte) : Nat := byteAt p 51 % 64
/-- The 8 bytes of PARAM. -/
def pkParam (p : List Byte) : List Byte := slice p 52 8
/-- Byte `i` of PARAM. -/
def param (p : List Byte) (i : Nat) : Nat := byteAt p (52 + i)
/-- The number of the opcode's own extension words: those before the authentication word (R55). -/
def pkOwnWords (p : List Byte) : Nat := pkExtCount p - if pkAuthExt p then 1 else 0
/-- The packet's length in bytes (R54). -/
def pkLength (p : List Byte) : Nat := 64 * (1 + pkExtCount p)
/-- The opcode's own extension bytes. -/
def pkOwn (p : List Byte) : List Byte := slice p 64 (64 * pkOwnWords p)
/-- Packet offset of byte `i` of extension word `w`. -/
def extOff (w i : Nat) : Nat := 64 + 64 * w + i
/-- The authentication word, the last extension word. -/
def authWord (p : List Byte) : List Byte := slice p (64 * pkExtCount p) 64
def authCtr (p : List Byte) : Nat := le (authWord p) 0 8
def authTag (p : List Byte) : List Byte := slice (authWord p) 8 8
def authSigner (p : List Byte) : Nat := byteAt (authWord p) 16

/-- SIGNER value of the owner (Table 2.7). -/
def ownerSigner : Nat := 0x80

/-- The CMAC message of R72. -/
def authMessage (gfn : Nat) (p : List Byte) : List Byte :=
  toBytes Config.devSerial.toNat 8 ++ toBytes gfn 1 ++ zeros 7 ++ slice p 0 60 ++ pkOwn p ++
  slice (authWord p) 0 8 ++ slice (authWord p) 16 48

/-- The bytes over which PDIGEST starts: header bytes 0 to 59 and the own extension words (R229). -/
def digestBytes (p : List Byte) : List Byte := slice p 0 60 ++ pkOwn p

/-- A command is critical by its OPCODE alone (R59, Table 2.3). -/
def isCritical (op : Nat) : Bool :=
  let fam := op / 256
  let opn := op % 256
  fam == 1 || fam == 0x0F || ((fam == 0 || fam == 2) && opn ≥ 0x80)

/-! ### Failing fields -/

/-- A check: the offset it reports, and whether it holds. -/
abbrev Check := Nat × Bool

/-- The lowest offset among the checks that fail (R65). -/
def lowestBad (cs : List Check) : Option Nat :=
  ((cs.filter (fun c => !c.2)).map (·.1)).min?

/-- Bytes `a` to `b` − 1 of `bs` are reserved; the first that is not 0 is reported at its own offset
from `base` (R5, R462). DEDUCED (log 78). -/
def zeroFrom (base : Nat) (bs : List Byte) (a b : Nat) : List Check :=
  (List.range (b - a)).map (fun i => (base + a + i, byteAt bs (a + i) == 0))

/-- Reserved bytes of PARAM. -/
def paramZero (p : List Byte) (a b : Nat) : List Check := zeroFrom 52 (pkParam p) a b
/-- Reserved bytes of own extension word `w`. -/
def wordZero (p : List Byte) (w a b : Nat) : List Check :=
  zeroFrom (extOff w 0) (slice p (extOff w 0) 64) a b
/-- Bytes after `n` operand bytes that start at extension word `w`, to the end of the own words. -/
def tailZero (p : List Byte) (w n : Nat) : List Check :=
  (List.range (64 * (pkOwnWords p - w) - n)).map (fun i =>
    (extOff w (n + i), byteAt p (extOff w (n + i)) == 0))

/-! ### Digits (R106) -/

/-- The nibbles of a byte string, high nibble first. -/
def nibbles : List Byte → List Nat
  | [] => []
  | b :: bs => b.toNat / 16 :: b.toNat % 16 :: nibbles bs

/-- The bytes of a nibble string of even length. -/
def packNibbles : List Nat → List Byte
  | a :: b :: l => BitVec.ofNat 8 (16 * (a % 16) + b % 16) :: packNibbles l
  | [a] => [BitVec.ofNat 8 (16 * (a % 16) + 15)]
  | [] => []

/-- Digits before the first 0xF nibble. -/
def bcdLen (ns : List Nat) : Nat := (ns.takeWhile (· != 15)).length

/-- Decimal digits followed only by 0xF nibbles. -/
def bcdOk (ns : List Nat) : Bool :=
  (ns.takeWhile (· != 15)).all (· ≤ 9) && (ns.dropWhile (· != 15)).all (· == 15)

/-- Every nibble is a decimal digit. -/
def allDecimal (ns : List Nat) : Bool := ns.all (· ≤ 9)

/-- ⌈a / b⌉. -/
def ceilDiv (a b : Nat) : Nat := (a + b - 1) / b

/-- The extension words that `n` bytes need. -/
def wordsFor (n : Nat) : Nat := ceilDiv n 64

/-- Status codes of Table 2.6. -/
abbrev St.ok : Nat := 0
abbrev St.standin : Nat := 1
abbrev St.lateArrival : Nat := 2
abbrev St.noSlate : Nat := 3
abbrev St.authFail : Nat := 4
abbrev St.counterStale : Nat := 5
abbrev St.keyAbsent : Nat := 6
abbrev St.keyUsage : Nat := 7
abbrev St.format : Nat := 8
abbrev St.journalFull : Nat := 9
abbrev St.integrity : Nat := 10
abbrev St.unitReset : Nat := 11
abbrev St.abandoned : Nat := 12
abbrev St.leased : Nat := 13
abbrev St.notPermitted : Nat := 14
abbrev St.forwarded : Nat := 15

end Sys2Proof.Machine
end

