-- ==== Sys2Proof/Machine/Keys.lean ====
section
/-! DEFINITION. Handles, attributes, the key cache, wrapped records, placement and key check values
(chapter 6). -/

namespace Sys2Proof.Machine

/-! ### Attributes (Tables 6.3 to 6.5) -/

def attrUsage (a : Word) : Nat := a.toNat / 2 ^ 56
def attrType (a : Word) : Nat := a.toNat / 2 ^ 48 % 256
def attrExport (a : Word) : Nat := a.toNat / 2 ^ 38 % 4
def attrCounted (a : Word) : Bool := a.toNat.testBit 37
def attrPolicy (a : Word) : Bool := a.toNat.testBit 36
def attrKvn (a : Word) : Nat := a.toNat / 2 ^ 16 % 65536
def attrKlen (a : Word) : Nat := a.toNat / 2 ^ 8 % 256
/-- Bit numbers of the mode bits and of the bits the part sets. -/
abbrev bEncrypt : Nat := 40
abbrev bDecrypt : Nat := 41
abbrev bGenerate : Nat := 42
abbrev bVerify : Nat := 43
abbrev bDerive : Nat := 44
abbrev bWrap : Nat := 45
abbrev bUnwrap : Nat := 46
abbrev bDual : Nat := 35
abbrev bGenerated : Nat := 34
abbrev bSealed : Nat := 33
/-- An attribute bit. -/
def attrBit (a : Word) (b : Nat) : Bool := a.toNat.testBit b
/-- Set an attribute bit. -/
def attrSet (a : Word) (b : Nat) : Word := a ||| BitVec.ofNat 64 (2 ^ b)
/-- Mode bits [46:40]. -/
def attrModes (a : Word) : Nat := a.toNat / 2 ^ 40 % 128

/-- Modes that a usage allows, as bits [46:40] (Table 6.4). -/
def usageModes (u : Nat) : Nat :=
  match u with
  | 0x01 => 0b0000011
  | 0x02 => 0b0001100
  | 0x03 => 0b0001100
  | 0x04 => 0b0011100
  | 0x05 => 0b0001100
  | 0x06 => 0b0001100
  | 0x07 => 0b0001100
  | 0x08 => 0b0010000
  | 0x09 => 0b0010000
  | 0x0A => 0b0000011
  | 0x0B => 0b1100011
  | 0x0C => 0b0000011
  | 0x10 => 0b0001100
  | 0x11 => 0b0001000
  | 0x12 => 0b0000011
  | 0x13 => 0b0000001
  | 0x14 => 0b0010000
  | _ => 0

/-- ECC types. -/
def isEcc (ty : Nat) : Bool := 0x10 ≤ ty && ty ≤ 0x12
/-- RSA types. -/
def isRsa (ty : Nat) : Bool := 0x14 ≤ ty && ty ≤ 0x17
/-- ML-DSA types. -/
def isMlDsa (ty : Nat) : Bool := 0x18 ≤ ty && ty ≤ 0x1A
/-- ML-KEM types. -/
def isMlKem (ty : Nat) : Bool := 0x1B ≤ ty && ty ≤ 0x1D
/-- Asymmetric types. -/
def isAsym (ty : Nat) : Bool := 0x10 ≤ ty && ty ≤ 0x1D
/-- Signature types. -/
def isSig (ty : Nat) : Bool := isEcc ty || ty == 0x13 || isRsa ty || isMlDsa ty

/-- Table 6.4: does the usage allow the type? RSA-1024 is held as a public key only (Table 6.5). -/
def usageType (u ty : Nat) : Bool :=
  match u with
  | 0x01 | 0x04 | 0x05 | 0x08 | 0x09 | 0x0A | 0x0B => isAes ty || isTdes ty
  | 0x02 | 0x03 | 0x06 => isTdes ty
  | 0x07 => ty == 6
  | 0x0C => isAes ty
  | 0x10 => isSig ty && ty != 0x17
  | 0x11 => isSig ty
  | 0x12 | 0x13 => isMlKem ty
  | 0x14 => ty == 0x10 || ty == 0x11
  | _ => false

/-- Secret key length in bytes of a symmetric type (Table 6.5). -/
def symLen (ty klen : Nat) : Nat :=
  match ty with
  | 1 => 16 | 2 => 24 | 3 => 32 | 4 => 16 | 5 => 24 | _ => klen

/-- Strength in bits (Table 6.5). -/
def strength (ty klen : Nat) : Nat :=
  match ty with
  | 1 => 128 | 2 => 192 | 3 => 256 | 4 => 80 | 5 => 112 | 6 => min (8 * klen) 256
  | 0x10 => 128 | 0x11 => 192 | 0x12 => 256 | 0x13 => 128
  | 0x14 => 112 | 0x15 => 128 | 0x16 => 152 | 0x17 => 80
  | 0x18 => 128 | 0x19 => 192 | 0x1A => 256
  | 0x1B => 128 | 0x1C => 192 | 0x1D => 256
  | _ => 0

/-- Length of the secret form held (Table 6.5). -/
def privLen (ty : Nat) : Nat :=
  match ty with
  | 0x10 => 32 | 0x11 => 48 | 0x12 => 66 | 0x13 => 32
  | 0x14 => 640 | 0x15 => 960 | 0x16 => 1280
  | 0x18 | 0x19 | 0x1A => 32
  | 0x1B | 0x1C | 0x1D => 64
  | _ => 0

/-- Length of the secret that an asymmetric key of an attribute word holds: a public key has none
(Table 6.4). -/
def secretLen (a : Word) : Nat := if attrUsage a = 0x11 ∨ attrUsage a = 0x13 then 0 else privLen (attrType a)

/-- Length of the public key's standard encoding (log entry 7). -/
def pubLen (ty : Nat) : Nat :=
  match ty with
  | 0x10 => 65 | 0x11 => 97 | 0x12 => 133 | 0x13 => 32
  | 0x14 => 260 | 0x15 => 388 | 0x16 => 516 | 0x17 => 132
  | 0x18 => 1312 | 0x19 => 1952 | 0x1A => 2592
  | 0x1B => 800 | 0x1C => 1184 | 0x1D => 1568
  | _ => 0

/-- A public key is valid for its type (R177): an ML-DSA or ML-KEM key has the length of its encoding, and the
point of a curve type, or an RSA encoding, is one. -/
def pkValid (ty : Nat) (b : List Byte) : Bool :=
  b.length == pubLen ty && (isMlDsa ty || isMlKem ty || Config.pkOnCurve ty b)

/-- A specification's attribute word is one the part accepts (R163, R164): reserved bits and the
bits the part sets are 0, usage and type pair, modes lie within the usage's, and KLEN fits. -/
def attrOk (a : Word) : Bool :=
  !attrBit a 47 && !attrBit a 35 && !attrBit a 34 && !attrBit a 33 && !attrBit a 32 &&
  a.toNat % 256 == 0 && usageType (attrUsage a) (attrType a) &&
  (attrModes a &&& usageModes (attrUsage a)) == attrModes a &&
  (if attrType a = 6 then 16 ≤ attrKlen a && attrKlen a ≤ 32 else attrKlen a == 0)

/-! ### Handles (Table 6.2) -/

def hKind (v : Word) : Nat := v.toNat / 2 ^ 61
def hHouse (v : Word) : Nat := v.toNat / 2 ^ 59 % 4
def hReserved (v : Word) : Nat := v.toNat / 2 ^ 48 % 2 ^ 11
def hGen (v : Word) : Nat := v.toNat / 2 ^ 32 % 65536
def hIndex (v : Word) : Nat := v.toNat % 2 ^ 32
/-- Build a handle. -/
def mkHandle (kind house gen index : Nat) : Word :=
  BitVec.ofNat 64 (kind * 2 ^ 61 + house * 2 ^ 59 + gen % 65536 * 2 ^ 32 + index % 2 ^ 32)

/-- Entries of a House's key table (R161). -/
def State.tableCount (s : State) (h : Nat) (asym : Bool) : Nat :=
  4096 * (if asym then s.fld (Reg.ktAsym h) F.KtAsym.count else s.fld (Reg.ktSym h) F.KtSym.count)
/-- Physical address of a key-table entry. -/
def State.tableEntry (s : State) (h : Nat) (asym : Bool) (i : Nat) : Nat :=
  if asym then 4096 * s.fld (Reg.ktAsym h) F.KtAsym.base + 4096 * i
  else 4096 * s.fld (Reg.ktSym h) F.KtSym.base + 128 * i

/-- Device key `k` for House `h`, when established (R162). -/
def State.deviceKey (s : State) (h k : Nat) : Option KeyEnt :=
  let mk (u ty : Nat) (bits : List Nat) (v : List Byte) (pub : List Byte) : KeyEnt :=
    { used := true, house := h, attr := bits.foldl attrSet (BitVec.ofNat 64 (u * 2 ^ 56 + ty * 2 ^ 48)),
      val := v, pub := pub }
  let done (b : Bool) : List Nat := if b then [bSealed] else []
  match k with
  | 0 => s.dev.ock.map (fun v => mk 0 3 (bDual :: done (s.flash.dev.ock == s.dev.ock)) (toBytesBE v.toNat 32) [])
  | 1 => s.dev.audit.map (fun v => mk 0x10 0x11 ([bGenerate, bVerify, bGenerated] ++ done (s.flash.dev.audit == s.dev.audit))
      (toBytesBE v.toNat 32)
      ((List.range 97).map (Config.pkOut 0x11 (toBytesBE v.toNat 32) [] [] 0)))
  | 2 => s.dev.audit.map (fun v => mk 0x10 0x19 ([bGenerate, bVerify, bGenerated] ++ done (s.flash.dev.audit == s.dev.audit))
      (toBytesBE v.toNat 32)
      ((List.range 1952).map (Config.pkOut 0x19 (toBytesBE v.toNat 32) [] [] 0)))
  | 3 => (Map.find h s.dev.cmd).map (fun v => mk 0 3 (done (Map.find h s.flash.dev.cmd == some v)) (toBytesBE v.toNat 32) [])
  | _ => none

/-- Where the Satchel holds slot `i` of House `h`: each House names its own slots, so that no House can see
which slots another one uses (R158, R222). DEDUCED (log 98). -/
def slotNo (asym : Bool) (h i : Nat) : Nat := (if asym then 4096 else 32768) * h + i

/-- What resolving a handle finds (R161, R107). -/
inductive KeyRes where
  | absent
  | hit (r : KeyRef) (k : KeyEnt)
  | miss
  deriving DecidableEq, Repr

/-- The whole key cache of a class. -/
def State.allCache (s : State) (asym : Bool) : List CacheEnt := if asym then s.asymCache else s.symCache

/-- Replace the key cache of a class. -/
def State.setCache (s : State) (asym : Bool) (l : List CacheEnt) : State :=
  if asym then { s with asymCache := l } else { s with symCache := l }

/-- A House's entries of the key cache, most recently used first. -/
def State.keyCache (s : State) (h : Nat) (asym : Bool) : List CacheEnt :=
  (s.allCache asym).filter (fun e => hHouse e.handle == h)

/-- Resolve a handle for House `h` (R161). -/
def State.resolve (s : State) (h : Nat) (v : Word) : KeyRes :=
  if hHouse v ≠ h ∨ hReserved v ≠ 0 then .absent
  else
    match hKind v with
    | 1 =>
      let k := s.slot false (slotNo false h (hIndex v))
      if hIndex v < 32768 ∧ k.used ∧ k.house = h ∧ k.gen = hGen v ∧ !k.deleting then
        .hit (.sym (slotNo false h (hIndex v))) k
      else .absent
    | 2 =>
      let k := s.slot true (slotNo true h (hIndex v))
      if hIndex v < 4096 ∧ k.used ∧ k.house = h ∧ k.gen = hGen v ∧ !k.deleting then
        .hit (.asym (slotNo true h (hIndex v))) k
      else .absent
    | 3 =>
      if hIndex v < s.tableCount h false then
        match (s.keyCache h false).find? (fun e => e.handle == v) with
        | some e => if e.key.deleting then .absent else .hit (.cached v) e.key
        | none => .miss
      else .absent
    | 4 =>
      if hIndex v < s.tableCount h true then
        match (s.keyCache h true).find? (fun e => e.handle == v) with
        | some e => if e.key.deleting then .absent else .hit (.cached v) e.key
        | none => .miss
      else .absent
    | 5 =>
      if hIndex v < 4 ∧ hGen v = 0 then
        match s.deviceKey h (hIndex v) with
        | some k => .hit (.device (hIndex v)) k
        | none => .absent
      else .absent
    | _ => .absent

/-- The key behind a resolved reference. -/
def State.keyAt (s : State) (h : Nat) (r : KeyRef) : KeyEnt :=
  match r with
  | .sym n => s.slot false n
  | .asym n => s.slot true n
  | .cached v =>
    (((s.keyCache h false ++ s.keyCache h true).find? (fun e => e.handle == v)).map (·.key)).getD {}
  | .device k => (s.deviceKey h k).getD {}

/-- Is a cached record pinned by a slate? (R174) -/
def State.pinned (s : State) (v : Word) : Bool :=
  s.slates.any (fun e => e.2.st != .free && e.2.keys.contains (.cached v))

/-- Keep `n` of the cache entries that satisfy `f`: the least recently used unpinned ones leave (R174). -/
def State.trim (s : State) (n : Nat) (f : CacheEnt → Bool) (l : List CacheEnt) : List CacheEnt :=
  (l.foldr (fun e (acc : List CacheEnt × Nat) =>
    if f e ∧ acc.2 > n ∧ !s.pinned e.handle then (acc.1, acc.2 - 1) else (e :: acc.1, acc.2))
    ([], (l.filter f).length)).1

/-- A House's share of key-cache entries (SAT_HOUSE). -/
def State.cacheShare (s : State) (h : Nat) (asym : Bool) : Nat :=
  s.fld (Reg.satHouse h) (if asym then F.SatHouse.kcaShare else F.SatHouse.kcShare)

/-- Entry `e` counts against the room of House `h`: it is the House's own, or, where the House has no share,
an entry of any House without one, with which it competes for the common pool (R202). -/
def State.cachePeer (s : State) (h : Nat) (asym : Bool) (e : CacheEnt) : Bool :=
  if s.cacheShare h asym ≠ 0 then hHouse e.handle == h else s.cacheShare (hHouse e.handle) asym == 0

/-- The key-cache size in force for a House: its share, or, with a share of 0, the common pool, which no House
reserves (R174, R202). -/
def State.cacheSize (s : State) (h : Nat) (asym : Bool) : Nat :=
  let own := s.cacheShare h asym
  if own ≠ 0 then own
  else (if asym then 256 else 8192) - ((List.range 4).map (fun x => s.cacheShare x asym)).sum

/-- Evict the unpinned entries of a class beyond the room of House `h` (R174, R210). -/
def State.trimCache (s : State) (h : Nat) (asym : Bool) : State :=
  s.setCache asym (s.trim (s.cacheSize h asym) (s.cachePeer h asym) (s.allCache asym))

/-- Put a record's key in front of its cache, and evict to the size (R174). -/
def State.cachePut (s : State) (h : Nat) (asym : Bool) (e : CacheEnt) : State :=
  (s.setCache asym (e :: (s.allCache asym).filter (fun x => x.handle != e.handle))).trimCache h asym

/-- A use of a cached record moves it to the front (R174). -/
def State.cacheTouch (s : State) (v : Word) : State :=
  let asym := hKind v == 4
  match (s.allCache asym).find? (fun e => e.handle == v) with
  | some e => s.setCache asym (e :: (s.allCache asym).filter (fun x => x.handle != v))
  | none => s

/-- Change every entry of both caches. -/
def State.mapCache (s : State) (f : CacheEnt → CacheEnt) : State :=
  { s with symCache := s.symCache.map f, asymCache := s.asymCache.map f }

/-- Keep the entries of both caches that satisfy `f`. -/
def State.keepCache (s : State) (f : CacheEnt → Bool) : State :=
  { s with symCache := s.symCache.filter f, asymCache := s.asymCache.filter f }

/-- Once no slate pins them, replaced and deleted records leave the key cache, and so do the entries beyond the
room of House `h` (R108, R172, R210). -/
def State.purgeCache (s : State) (h : Nat) : State :=
  ((s.keepCache (fun e => !e.key.deleting || s.pinned e.handle)).trimCache h false).trimCache h true

/-- Drop a handle from both caches. -/
def State.cacheDrop (s : State) (v : Word) : State := s.keepCache (fun e => e.handle != v)

/-- Mark the cached records that satisfy `f`: they no longer resolve, and slates that resolved one keep its
copy (R108, R172, R175). -/
def State.cacheMark (s : State) (f : CacheEnt → Bool) : State :=
  s.mapCache (fun e => if f e then { e with key := { e.key with deleting := true } } else e)

/-- A record with handle `v` replaces the one with handle `old`, whose handle no longer resolves (R172). Under
the same handle the new record is what resolves: only a copy that a slate holds stays. -/
def State.supersede (s : State) (h : Nat) (old v : Word) : State :=
  if old = v then s.keepCache (fun e => e.handle != v || s.pinned e.handle)
  else (s.cacheMark (fun e => e.handle == old)).purgeCache h

/-! ### Records (Table 6.7, R171, R173) -/

/-- The sealing root SR (Table 6.6). DEDUCED (log 41). -/
def State.sealingRoot (s : State) : Option (BitVec 256) :=
  s.dev.vshare.map (fun v =>
    kdf (toBytesBE Config.fuseRoot.toNat 32) (toBytesBE v.toNat 32) [])

/-- House storage key HSK_h (Table 6.6); the context's encoding is the model's (log entry 7). -/
def State.hsk (s : State) (h : Nat) : List Byte :=
  match s.sealingRoot with
  | some r => toBytesBE (kdf (toBytesBE r.toNat 32) (ascii "HSK")
      (toBytes h 1 ++ toBytes (s.house h).hskEpoch 8)).toNat 32
  | none => zeros 32

/-- IV of a record (R171). -/
def recordIv (recno h : Nat) : List Byte := toBytes recno 8 ++ toBytes h 1 ++ zeros 3

/-- Bytes 0 to 39 of a record, its additional data. -/
def recordHead (v : Word) (k : KeyEnt) (recno : Nat) : List Byte :=
  toBytes v.toNat 8 ++ toBytes k.attr.toNat 8 ++ toBytes k.notBefore 8 ++ toBytes k.notAfter 8 ++
  toBytes recno 8

/-- The wrapped record of a key under handle `v` (R170, R171). -/
def wrapRecord (hsk : List Byte) (h : Nat) (v : Word) (k : KeyEnt) (recno : Nat) : List Byte :=
  let head := recordHead v k recno
  if isAsym (attrType k.attr) then
    let plain := k.val ++ k.pub
    let n := plain.length
    let ct := (List.range (n + 16)).map (Config.gcmSeal hsk (recordIv recno h) head plain)
    slice (head ++ toBytes n 4 ++ zeros 4 ++ ct.drop n ++ ct.take n) 0 4096
  else
    let plain := slice k.val 0 32
    let ct := (List.range 48).map (Config.gcmSeal hsk (recordIv recno h) head plain)
    slice (head ++ ct) 0 128

/-- Unwrap a record: the key, when its tag verifies (R171, R173). -/
def unwrapRecord (hsk : List Byte) (h : Nat) (rec : List Byte) : Option KeyEnt :=
  let attr := BitVec.ofNat 64 (le rec 8 8)
  let head := slice rec 0 40
  let asym := isAsym (attrType attr)
  let n := if asym then le rec 40 4 else 32
  let ct := if asym then slice rec 64 n ++ slice rec 48 16 else slice rec 40 48
  let r := Config.gcmOpen hsk (recordIv (le rec 32 8) h) head ct
  if r.1 then
    let plain := (List.range n).map r.2
    let ty := attrType attr
    let m := if asym then secretLen attr else symLen ty (attrKlen attr)
    some { used := true, house := h, attr := attr,
           val := slice plain 0 m,
           pub := if asym then plain.drop m else [],
           notBefore := le rec 16 8, notAfter := le rec 24 8 }
  else none

/-- Unwrap a record of House `h`; without VSHARE no storage key can be derived, and nothing unwraps (R168,
R196). -/
def State.unwrap (s : State) (h : Nat) (rec : List Byte) : Option KeyEnt :=
  if s.sealingRoot.isNone then none else unwrapRecord (s.hsk h) h rec

/-- Key check value, 8 bytes left-aligned (R176). -/
def kcv (k : KeyEnt) : List Byte :=
  let ty := attrType k.attr
  if isAes ty then slice ((cmacKey ty k.val (zeros 16)).take 5) 0 8
  else if isTdes ty then slice ((tdesE k.val (zeros 8)).take 3) 0 8
  else if ty = 6 then slice ((hmac k.val []).take 5) 0 8
  else (sha256b k.pub).take 8

/-! ### Placement (R177, R210) -/

/-- Used slots of a class that count against House `h`'s room: its own, or, with a share of 0, those
of every House without a share (R202). -/
def State.slotRoom (s : State) (h : Nat) (asym : Bool) : Bool :=
  let f := if asym then F.SatHouse.asymShare else F.SatHouse.symShare
  let share (x : Nat) := s.fld (Reg.satHouse x) f
  let slots := if asym then s.asymSlots else s.symSlots
  let cap := if asym then 4096 else 32768
  let limit := (if asym then (s.house h).asymLimit else (s.house h).symLimit).getD (share h)
  if share h ≠ 0 then
    decide ((slots.filter (fun e => e.2.used && e.2.house == h)).length < limit)
  else
    decide ((slots.filter (fun e => e.2.used && share e.2.house == 0)).length
      < cap - ((List.range 4).map share).sum)

/-- Store a record in its table entry: it replaces the one there, whose handle no longer resolves (R172). The
write clears the poison of its lines (R395). -/
def State.putRecord (s : State) (h a : Nat) (rec_ : List Byte) : State :=
  (s.supersede h (BitVec.ofNat 64 (ofBytes (Memory.bytes s.mem a 8))) (BitVec.ofNat 64 (le rec_ 0 8))).putLines a rec_

/-- A free number below `n`, searched upward from a free choice; which one is unpredictable. -/
def State.pickFree (s : State) (n : Nat) (busy : Nat → Bool) : Option Nat × State :=
  let c := s.choose n
  (((List.range n).map (fun i => (c.1 + i) % n)).find? (fun i => !busy i), c.2)

/-- Place a key in a slot and queue its seal (R169). -/
def State.putSlot (s : State) (asym : Bool) (n : Nat) (k : KeyEnt) : State :=
  let old := s.slot asym n
  let s := s.setSlot asym n { k with gen := old.gen, usesSealed := k.uses, deleting := false }
  { s with sealQ := s.sealQ ++ [(asym, n)] }

/-- What placing a key gives: its handle and the record, empty for a slot. -/
structure Placed where
  handle : Word
  record : List Byte
  deriving DecidableEq, Repr

/-- Place a new key under TARGET and TINDEX (Table 6.9); `none` is NOT_PERMITTED, which also answers
after a tamper hit has closed the key ports (log entry 41). A record's generation is a free value: the
spec does not say how it is chosen (log entry 8). DEDUCED (log 41). -/
def State.place (s : State) (h : Nat) (k : KeyEnt) (target tindex : Nat) : Option Placed × State :=
  let asym := isAsym (attrType k.attr)
  let cap := if asym then 4096 else 32768
  let k := { k with used := true, house := h }
  if s.dev.portsClosed then (none, s)
  else match target with
  | 1 =>
    if s.sealingRoot.isSome ∧ tindex < s.tableCount h asym then
      let g := s.freshWord
      let s := g.2
      let hd := mkHandle (if asym then 4 else 3) h g.1.toNat tindex
      let n := (s.house h).recno + 1
      let s := s.modHouse h (fun v => { v with
        recno := n, recnoSealed := if n ≥ v.recnoSealed + 4096 then n else v.recnoSealed })
      let rec_ := wrapRecord (s.hsk h) h hd k n
      (some ⟨hd, rec_⟩, s.putRecord h (s.tableEntry h asym tindex) rec_)
    else (none, s)
  | 2 =>
    let n := slotNo asym h tindex
    if tindex < cap ∧ !(s.slot asym n).used ∧ s.slotRoom h asym then
      (some ⟨mkHandle (if asym then 2 else 1) h (s.slot asym n).gen tindex, []⟩, s.putSlot asym n k)
    else (none, s)
  | _ =>
    if s.slotRoom h asym then
      match s.pickFree cap (fun i => (s.slot asym (slotNo asym h i)).used) with
      | (some i, s) =>
        let n := slotNo asym h i
        (some ⟨mkHandle (if asym then 2 else 1) h (s.slot asym n).gen i, []⟩, s.putSlot asym n k)
      | (none, s) => (none, s)
    else (none, s)

/-- The output of a creating command: HANDLE and KCV, the public key where the row lists it, and
the record (R176, Table 6.8). -/
def createdOutput (pl : Placed) (k : KeyEnt) (withPub : Bool) : List Byte :=
  toBytes pl.handle.toNat 8 ++ kcv k ++ (if withPub then k.pub else []) ++ pl.record

/-- Clear a slot: its key goes and its generation rises (R161, R175). -/
def State.clearSlot (s : State) (asym : Bool) (n : Nat) : State :=
  let old := s.slot asym n
  let s := s.setSlot asym n { gen := (old.gen + 1) % 65536 }
  let fl := if asym then { s.flash with asymSeals := Map.erase n s.flash.asymSeals }
    else { s.flash with symSeals := Map.erase n s.flash.symSeals }
  { s with sealQ := s.sealQ.filter (· != (asym, n)), flash := fl }

/-- One use of a COUNTED key that reaches a mill (R166): USES falls, and is sealed every 256.
DEDUCED (log 81). -/
def State.countUse (s : State) (r : KeyRef) : State :=
  let step (asym : Bool) (n : Nat) : State :=
    let k := s.slot asym n
    if attrCounted k.attr then
      let u := k.uses - 1
      let sealedAt := if u + 256 ≤ k.usesSealed then u else k.usesSealed
      s.setSlot asym n { k with uses := u, usesSealed := sealedAt }
    else s
  match r with
  | .sym n => step false n
  | .asym n => step true n
  | _ => s

/-- A COUNTED or POLICY key may be used now (R166). -/
def State.useOk (s : State) (k : KeyEnt) : Bool :=
  (!attrPolicy k.attr || (decide (k.notBefore ≤ s.dtime) && decide (s.dtime ≤ k.notAfter))) &&
  (!attrCounted k.attr || decide (k.uses ≠ 0))

end Sys2Proof.Machine
end

