-- ==== Sys2Proof/Machine/FastTable.lean ====
section
/-! DEFINITION. The fast-path opcodes: field checks of step 6, lane limits, beat counts B_d and B_op,
outputs, and key requirements (Tables 4.1 to 4.6, R104 to R130). -/

namespace Sys2Proof.Machine

/-- The fast-path opcodes (R104, Table 4.1). -/
def fastOpcodes : List Nat :=
  [0x0301, 0x0302, 0x0303, 0x0401, 0x0402, 0x0403, 0x0501, 0x0502, 0x0601, 0x0602, 0x0603,
   0x0701, 0x0702, 0x0901]

/-- Is the opcode a fast-path opcode? -/
def isFast (op : Nat) : Bool := fastOpcodes.contains op

/-- PIN block formats that the part knows (R116). -/
def pinFmt (f : Nat) : Bool := f == 0 || f == 1 || f == 3 || f == 4

/-- The PAN and PAN_LEN checks: PAN is BCD of at most 19 digits with 0xF after the last (its own
offset), and PAN_LEN is the number of its digits (the higher offset, R462). -/
def panChecks (p : List Byte) (panOff lenOff : Nat) : List Check :=
  let ns := nibbles (slice p panOff 10)
  [(panOff, bcdOk ns && bcdLen ns ≤ 19), (lenOff, bcdLen ns == byteAt p lenOff)]

/-- Field checks of the PIN opcodes (R116, R118, R121, R122, Table 4.5). -/
def pinChecks (op : Nat) (p : List Byte) : List Check :=
  let xl := op == 0x0301 || op == 0x0602
  let inF := param p 0
  let outF := param p 1
  let panLen := byteAt p 90
  let needPan := op == 0x0303 || inF != 1 || (xl && outF != 1)
  let common : List Check :=
    [(52, pinFmt inF), (50, pkOwnWords p == 1)] ++
    (if xl then [(53, pinFmt outF && !(outF == 1 && (inF == 0 || inF == 3 || inF == 4)))]
     else [(53, outF == 0)]) ++
    paramZero p 2 8 ++
    [(64, inF == 4 || (slice p 72 8).all (· == 0)),
     (90, if needPan then 12 ≤ panLen && panLen ≤ 19 else panLen == 0)] ++
    panChecks p 80 90 ++ wordZero p 0 27 28
  let rest : List Check :=
    if op == 0x0302 then
      let off := nibbles (slice p (extOff 0 44) 6)
      let chk := byteAt p (extOff 0 50)
      [(extOff 0 28, allDecimal (nibbles (slice p (extOff 0 28) 8))),
       (extOff 0 44, bcdOk off),
       (extOff 0 50, 4 ≤ chk && chk ≤ 12 && chk ≤ bcdLen off)] ++ wordZero p 0 51 64
    else if op == 0x0303 then
      [(extOff 0 28, allDecimal (nibbles (slice p (extOff 0 28) 2))),
       (extOff 0 30, byteAt p (extOff 0 30) ≤ 9)] ++ wordZero p 0 31 64
    else if op == 0x0602 then wordZero p 0 40 64
    else wordZero p 0 28 64
  common ++ rest

/-- Field checks of the card cryptogram opcodes (R123, Table 4.6). -/
def cryptoChecks (op : Nat) (p : List Byte) : List Check :=
  let len := le p 52 2
  let method := param p 2
  let verify := op != 0x0402
  [(52, if verify then 1 ≤ len && len ≤ 192 && pkOwnWords p == 1 + wordsFor len else len == 0),
   (50, verify || pkOwnWords p == 1),
   (54, if op == 0x0401 then method == 0 else method == 1 || method == 2)] ++
  paramZero p 3 8 ++
  [(74, 12 ≤ byteAt p 74 && byteAt p 74 ≤ 19)] ++ panChecks p 64 74 ++
  [(75, allDecimal (nibbles (slice p 75 1))), (100, byteAt p 100 ≤ 8)] ++
  wordZero p 0 37 64 ++ (if verify then tailZero p 1 len else [])

/-- MLEN range of an ALG (Table 4.2). -/
def macLenOk (alg mlen : Nat) : Bool :=
  match alg with
  | 1 => 4 ≤ mlen && mlen ≤ 16
  | 2 | 3 | 4 => 4 ≤ mlen && mlen ≤ 8
  | 5 => 4 ≤ mlen && mlen ≤ 32
  | _ => true

/-- Field checks of the MAC opcodes and DUKPT_MAC_VERIFY (R126, R128). -/
def macChecks (op : Nat) (p : List Byte) : List Check :=
  let alg := param p 0
  let mlen := param p 1
  let len := le p 54 2
  let skip := if op == 0x0501 then 0 else 1
  [(52, if op == 0x0603 then alg == 1 || alg == 3 || alg == 4 else 1 ≤ alg && alg ≤ 5),
   (53, macLenOk alg mlen),
   (54, pkOwnWords p == skip + wordsFor len)] ++ paramZero p 4 8 ++
  tailZero p skip len ++
  (if op == 0x0501 then []
   else [(64, (slice p (64 + mlen) (32 - mlen)).all (· == 0))] ++
     (if op == 0x0603 then wordZero p 0 44 64 else wordZero p 0 32 64))

/-- Field checks of DUKPT_DECRYPT (R128). -/
def dukptDecChecks (p : List Byte) : List Check :=
  let len := le p 52 2
  [(52, len % 8 == 0 && 8 ≤ len && len ≤ 64 && pkOwnWords p == 1 + wordsFor len)] ++
  paramZero p 2 8 ++ wordZero p 0 12 16 ++ wordZero p 0 32 64 ++ tailZero p 1 len

/-- Digits that FF1 enciphers: LEN − KEEP_LEAD − KEEP_TRAIL − LUHN (R129). -/
def ff1Count (p : List Byte) : Nat := byteAt p 74 - (param p 0 + param p 1 + param p 2 % 2)

/-- Field checks of the FF1 opcodes (R129). -/
def ff1Checks (p : List Byte) : List Check :=
  let ns := nibbles (slice p 64 10)
  let len := byteAt p 74
  let tw := byteAt p 75
  ([(52, param p 0 ≤ 8), (53, param p 1 ≤ 4), (54, param p 2 ≤ 1)] : List Check) ++
  paramZero p 3 8 ++
  [(64, bcdOk ns), (74, 10 ≤ len && len ≤ 19 && bcdLen ns == len && 6 ≤ ff1Count p),
   (75, tw ≤ 64 && pkOwnWords p == if tw > 8 then 2 else 1)] ++
  zeroFrom 76 (slice p 76 8) (min tw 8) 8 ++ wordZero p 0 20 64 ++
  (if tw > 8 then tailZero p 1 (tw - 8) else [])

/-- Field checks of SHA256_SHORT (R130). -/
def shaShortChecks (p : List Byte) : List Check :=
  let len := le p 52 2
  [(52, len ≤ 448 && pkOwnWords p == max 1 (wordsFor len))] ++ paramZero p 2 8 ++ tailZero p 0 len

/-- Field checks of a fast-path opcode (R105 item 2). -/
def fastChecks (p : List Byte) : List Check :=
  let op := pkOpcode p
  match op / 256 with
  | 3 => pinChecks op p
  | 4 => cryptoChecks op p
  | 5 => macChecks op p
  | 6 => if op == 0x0601 then dukptDecChecks p else if op == 0x0602 then pinChecks op p
         else macChecks op p
  | 7 => ff1Checks p
  | _ => shaShortChecks p

/-- Key handles that a fast-path opcode uses (Table 4.1). -/
def fastKeys (op : Nat) : Nat :=
  match op with
  | 0x0301 | 0x0302 | 0x0303 | 0x0602 => 2
  | 0x0901 => 0
  | _ => 1

/-- Output length of a fast-path opcode; 0 where it produces none (Table 4.1). -/
def fastOutLen (p : List Byte) : Nat :=
  match pkOpcode p with
  | 0x0301 | 0x0602 => if param p 1 == 4 then 16 else 8
  | 0x0402 | 0x0403 => if param p 2 == 1 then 8 else 4
  | 0x0501 => param p 1
  | 0x0601 => le p 52 2
  | 0x0701 | 0x0702 => 12
  | 0x0901 => 32
  | _ => 0

/-- n of Table 4.2. -/
def macBlocks (alg len : Nat) : Nat :=
  match alg with
  | 1 => max 1 (ceilDiv len 16)
  | 2 | 3 => max 1 (ceilDiv len 8)
  | 4 => len / 8 + 1
  | _ => ceilDiv (len + 9) 64

/-- B_op of MAC_GEN (Table 4.2). -/
def macCount (alg len : Nat) : Nat :=
  let n := macBlocks alg len
  match alg with
  | 1 => 60 + 12 * n
  | 2 => 70 + 18 * n
  | 3 | 4 => 64 + 18 * n
  | _ => 150 + 44 * n

/-- Beats of the response cryptogram (Table 4.1). -/
def respondCount (aes : Bool) (method : Nat) : Nat :=
  if aes then (if method = 1 then 24 else 36) else (if method = 1 then 30 else 48)

/-- B_op of Table 4.1 for the key types in (and out): AES or TDES. -/
def fastCount (p : List Byte) (aesIn aesOut : Bool) : Nat :=
  let op := pkOpcode p
  let dl := le p 52 2
  let na := max 1 (ceilDiv dl 16)
  let nt := dl / 8 + 1
  match op with
  | 0x0301 => if aesIn then (if aesOut then 168 else 190) else (if aesOut then 214 else 236)
  | 0x0302 => if aesIn then 178 else 224
  | 0x0303 => if aesIn then 182 else 228
  | 0x0401 => if aesIn then 148 + 12 * na else 176 + 18 * nt
  | 0x0402 => if aesIn then (if param p 2 = 1 then 120 else 132)
              else (if param p 2 = 1 then 150 else 168)
  | 0x0403 => (if aesIn then 148 + 12 * na else 176 + 18 * nt) + respondCount aesIn (param p 2)
  | 0x0501 => macCount (param p 0) (le p 54 2)
  | 0x0502 => macCount (param p 0) (le p 54 2) + 2
  | 0x0601 => if aesIn then 278 + 12 * (dl / 16) else 312 + 18 * (dl / 8)
  | 0x0602 => if aesIn then (if aesOut then 334 else 356) else (if aesOut then 356 else 378)
  | 0x0603 => if aesIn then 280 + 12 * macBlocks 1 (le p 54 2)
              else 318 + 18 * macBlocks (param p 0) (le p 54 2)
  | 0x0701 | 0x0702 => 260 + 10 * ff1Count p
  | _ => 30 + 64 * ceilDiv (dl + 9) 64

/-- Do the operands lie within the lane limits, for a key of the given class? (Tables 4.1, 4.2) -/
def laneOk (p : List Byte) (aes : Bool) : Bool :=
  let op := pkOpcode p
  let dl := le p 52 2
  let ml := le p 54 2
  match op with
  | 0x0401 | 0x0403 => byteAt p 74 ≤ 16 && dl ≤ (if aes then 192 else 96)
  | 0x0402 => byteAt p 74 ≤ 16
  | 0x0501 | 0x0502 => ml ≤ (if param p 0 == 1 || param p 0 == 5 then 256 else 128)
  | 0x0603 => ml ≤ 64 && (aes || macBlocks (param p 0) ml ≤ 8)
  | 0x0701 | 0x0702 => byteAt p 75 ≤ 8
  | 0x0901 => dl ≤ 247
  | _ => true

/-- The key class that the packet's fields fix: `some true` AES, `some false` TDES, `none` where they
fix none (R105 item 4). -/
def fixedClass (p : List Byte) : Option Bool :=
  match pkOpcode p with
  | 0x0301 | 0x0302 | 0x0303 | 0x0602 => some (param p 0 == 4)
  | 0x0501 | 0x0502 => some (param p 0 == 1)
  | 0x0603 => some (param p 0 == 1)
  | 0x0401 | 0x0402 | 0x0403 | 0x0601 => none
  | _ => some true

/-- B_d (R105 item 4): the count of the class the fields fix, or else the larger of the AES and the TDES count;
`none` where the operands exceed the lane limits, of both classes where the fields fix none.
DEDUCED (log 14). -/
def dispatchCount (p : List Byte) : Option Nat :=
  let out := param p 1 == 4
  match fixedClass p with
  | some a => if laneOk p a then some (fastCount p a out) else none
  | none =>
    if laneOk p true || laneOk p false then some (max (fastCount p true out) (fastCount p false out)) else none

/-- B_op of the key types resolved (R105). -/
def laneCount (p : List Byte) (ks : List KeyEnt) : Nat :=
  let aes (i : Nat) : Bool := isAes (attrType (ks.getD i {}).attr)
  fastCount p (aes 0) (aes 1)

/-- A key requirement: usage, mode bits, and which classes the packet's fields allow (Table 4.3). -/
structure KeyReq where
  usage : Nat
  modes : List Nat
  aes : Bool
  tdes : Bool
  deriving DecidableEq, Repr

/-- The usage that ALG names (R126, Table 6.4). -/
def algUsage (alg : Nat) : Nat :=
  if alg ≤ 2 then 0x05 else if alg ≤ 4 then 0x06 else 0x07

/-- Key requirements by handle (Table 4.3, R117). -/
def fastReqs (p : List Byte) : List KeyReq :=
  let f (i : Nat) : Bool := param p i == 4
  match pkOpcode p with
  | 0x0301 => [⟨0x01, [bDecrypt], f 0, !f 0⟩, ⟨0x01, [bEncrypt], f 1, !f 1⟩]
  | 0x0302 => [⟨0x01, [bDecrypt], f 0, !f 0⟩, ⟨0x02, [bVerify], false, true⟩]
  | 0x0303 => [⟨0x01, [bDecrypt], f 0, !f 0⟩, ⟨0x03, [bVerify], false, true⟩]
  | 0x0401 => [⟨0x04, [bVerify], true, true⟩]
  | 0x0402 => [⟨0x04, [bGenerate], true, true⟩]
  | 0x0403 => [⟨0x04, [bVerify, bGenerate], true, true⟩]
  | 0x0501 => [⟨algUsage (param p 0), [bGenerate], param p 0 == 1, 2 ≤ param p 0⟩]
  | 0x0502 => [⟨algUsage (param p 0), [bVerify], param p 0 == 1, 2 ≤ param p 0⟩]
  | 0x0601 => [⟨0x08, [bDerive], true, true⟩]
  | 0x0602 => [⟨0x08, [bDerive], f 0, !f 0⟩, ⟨0x01, [bEncrypt], f 1, !f 1⟩]
  | 0x0603 => [⟨0x08, [bDerive], param p 0 == 1, param p 0 != 1⟩]
  | 0x0701 => [⟨0x0C, [bEncrypt], true, false⟩]
  | 0x0702 => [⟨0x0C, [bDecrypt], true, false⟩]
  | _ => []

/-- Does a key meet its requirement? (R108; an HMAC key meets the class of ALG 5) -/
def meetsReq (r : KeyReq) (k : KeyEnt) : Bool :=
  attrUsage k.attr == r.usage && r.modes.all (attrBit k.attr) &&
  (if isAes (attrType k.attr) then r.aes
   else if isTdes (attrType k.attr) then r.tdes
   else attrType k.attr == 6 && r.usage == 0x07)

/-- The first key that fails Table 4.3, by index (R108). -/
def badKey : Nat → List KeyReq → List KeyEnt → Option Nat
  | i, r :: rs, k :: ks => if meetsReq r k then badKey (i + 1) rs ks else some i
  | _, _, _ => none

/-- A key that forwards the slate: a type the lane does not run, or COUNTED or POLICY (R113). -/
def forwardsKey (k : KeyEnt) : Bool :=
  attrType k.attr == 2 || attrCounted k.attr || attrPolicy k.attr

/-- The forwarding decision of R113. -/
def forwards (p : List Byte) (ks : List KeyEnt) : Bool :=
  let aes := match ks.head? with
    | some k => isAes (attrType k.attr)
    | none => true
  ks.any forwardsKey || !laneOk p aes

end Sys2Proof.Machine
end

