-- ==== Sys2Proof/Machine/Bounds.lean ====
section
/-! DEFINITION. Beat time, the Thresher credit, the House bound and the EXAM release time (chapters 1,
4 and 5). Times are exact fractions; τ is in picoseconds. -/

namespace Sys2Proof.Machine

/-! ### τ (Table 1.1, R16, R17, R36) -/

/-- A fraction: numerator and denominator. -/
abbrev Frac := Nat × Nat

/-- Maximum τ at the table's points, in units of 10 ps: VCORE point (0.56, 0.60, 0.70, 0.80, 0.90 V)
and temperature point (−5, 25, 105 °C). -/
def tauPoint (v j : Nat) : Nat :=
  (([[122, 131, 149], [102, 110, 125], [71, 77, 87], [56, 60, 68], [47, 50, 58]].getD v []).getD j 0)

/-- VCORE points in mV. -/
def vPoint (v : Nat) : Nat := [560, 600, 700, 800, 900].getD v 0
/-- Temperature points, in °C above −5. -/
def tPoint (j : Nat) : Nat := [0, 30, 110].getD j 0

/-- Maximum τ at `mv` millivolts and `t` °C above −5, in ps, bilinear (R17); clamped to the table. -/
def tauMax (mv t : Nat) : Frac :=
  let mv := max 560 (min mv 900)
  let t := min t 110
  let v := if mv ≤ 600 then 0 else if mv ≤ 700 then 1 else if mv ≤ 800 then 2 else 3
  let j := if t ≤ 30 then 0 else 1
  let v1 := vPoint v
  let v2 := vPoint (v + 1)
  let t1 := tPoint j
  let t2 := tPoint (j + 1)
  let n := tauPoint v j * (v2 - mv) * (t2 - t) + tauPoint (v + 1) j * (mv - v1) * (t2 - t) +
    tauPoint v (j + 1) * (v2 - mv) * (t - t1) + tauPoint (v + 1) (j + 1) * (mv - v1) * (t - t1)
  (10 * n, (v2 - v1) * (t2 - t1))

/-- The setpoint of a code in mV; 13 to 15 are taken as 12 (R31). -/
def setpointMv (c : Nat) : Nat := 600 + 25 * min c 12

/-- TJ + TJ_GUARD in °C above −5, limited to the table (R36). -/
def State.guardTemp (s : State) : Nat :=
  let t := signed 8 (s.fld Reg.tj F.Tj.tj) + s.fld Reg.vpolCtl F.VpolCtl.tjGuard + 5
  min t.toNat 110

/-- TJ + TJ_GUARD exceeds 105 °C (R36). -/
def State.guardClamped (s : State) : Bool :=
  decide (signed 8 (s.fld Reg.tj F.Tj.tj) + (s.fld Reg.vpolCtl F.VpolCtl.tjGuard : Int) > 105)

/-- τ assumed at a code, in whole ps rounded up (R36). -/
def State.tauAt (s : State) (code : Nat) : Nat :=
  let f := tauMax (setpointMv code) s.guardTemp
  ceilDiv f.1 f.2

/-- τ before the first acknowledgement: 0.56 V and 105 °C (R36). -/
def tauCold : Nat := 1490

/-- TAU_EST (R36): at the acknowledged code; during a transition or an AVS fault the greater of the
old and the new code's τ. -/
def State.tauNow (s : State) : Nat :=
  match s.avs.current with
  | none => tauCold
  | some c =>
    match s.avs.writing with
    | none => s.tauAt c
    | some w => max (s.tauAt c) (s.tauAt w)

/-- Report TAU_EST and GUARD_CLAMP (R36). -/
def State.refreshTau (s : State) : State :=
  (s.setFld Reg.vpolStat F.VpolStat.tauEst s.tauNow).setFlag Reg.vpolStat F.VpolStat.guardClamp
    s.guardClamped

/-- TIME_STAT as it reads: PPS_LOCK is 0 while PPS_IN_EN is 0 (TIME_CTL). -/
def State.timeStat (s : State) (v : Word) : Word :=
  if s.flag Reg.timeCtl F.TimeCtl.ppsInEn then v else F.TimeStat.ppsLock.set v 0

/-- TAU_EST as reported. -/
def State.tauEst (s : State) : Nat := s.fld Reg.vpolStat F.VpolStat.tauEst

/-! ### Credits and lanes (R70, R109, R146) -/

/-- A ring size field taken within 4 to 16 (Table 2.8). -/
def clampLog2 (n : Nat) : Nat := max 4 (min n 16)
/-- Entries of a function's CQ. -/
def State.cqSize (s : State) (g : Nat) : Nat := 2 ^ clampLog2 (s.fld (Reg.ringSize g) F.RingSize.cqLog2)
/-- Entries of a function's SQ. -/
def State.sqSize (s : State) (g : Nat) : Nat := 2 ^ clampLog2 (s.fld (Reg.ringSize g) F.RingSize.sqLog2)

/-- The effective credit limit (R70). A write of RING_SIZE changes the reduction by CQ_LOG2 at once.
DEDUCED (log 91). -/
def State.credLimit (s : State) (g : Nat) : Nat :=
  min (s.fld (Reg.fnHouse g) F.FnHouse.cfgCredit) (s.cqSize g - 1)

/-- The functions of a House. -/
def State.fnsOf (s : State) (h : Nat) : List Nat :=
  (List.range 64).filter (fun g => s.ownsPort h (portOf g))

/-- C_T (R109). -/
def State.ct (s : State) (h : Nat) : Nat :=
  (((s.fnsOf h).filter (fun g => s.flag (Reg.fnThr g) F.FnThr.fast)).map s.credLimit).sum

/-- THR_LANE.STATE values (R112). -/
abbrev unitFallow : Nat := 0
abbrev unitService : Nat := 1
abbrev unitDraining : Nat := 2
abbrev unitWorn : Nat := 3
abbrev unitFailed : Nat := 4
abbrev unitIdle : Nat := 5

/-- Lane `n` is in service. -/
def State.laneInService (s : State) (n : Nat) : Bool :=
  let st := s.fld (Reg.thrLane n) F.ThrLane.state
  st == unitService || st == unitDraining || st == unitIdle ||
    (st == unitWorn && !s.wear.retired.contains (72 + n))

/-- Reserved lanes of a House. -/
def State.lanesOf (s : State) (h : Nat) : Nat := s.fld (Reg.houseShr h) F.HouseShr.lanes

/-- Pool lanes: in service and reserved by no House (R146). -/
def State.poolLanes (s : State) : Nat :=
  ((List.range 9).filter (fun n => s.laneInService n && (s.lane n).owner == none)).length

/-- BMAX in force; values above 462 are taken as 462. DEDUCED (log 14). -/
def State.bmax (s : State) (h : Nat) : Nat := min (s.fld (Reg.thrHouse h) F.ThrHouse.bmax) 462

/-- House `h` is VACANT. -/
def State.vacant (s : State) (h : Nat) : Bool := s.fld (Reg.houseCfg h) F.HouseCfg.state == 0

/-- C_T, BMAX and ℓ of the queue-wait bound, with the pool's values for a House without a lane
(R146). A VACANT House has no slate to put in the pool queue. DEDUCED (log 14). -/
def State.wqTerms (s : State) (h : Nat) : Nat × Nat × Nat :=
  if s.lanesOf h ≠ 0 then (s.ct h, s.bmax h, 4 * s.lanesOf h)
  else
    let hs := (List.range 4).filter (fun x => !s.vacant x && s.lanesOf x == 0)
    ((hs.map s.ct).sum, (hs.map s.bmax).foldl max 0, 4 * s.poolLanes)

/-- The House's journal is in MIRROR mode (R239). -/
def State.mirrorOn (s : State) (h : Nat) : Bool := s.flag (Reg.jrCtl h) F.JrCtl.mirEn

/-- A latency in ns as a fraction: τ (ps, a fraction) times the beats, the queue wait
(C_T − 1) · τ · BMAX / ℓ where C_T exceeds ℓ, and the fixed terms in ns; `none` without a bound. -/
def latency (tau : Frac) (beats fixed : Nat) (w : Nat × Nat × Nat) : Option Frac :=
  if w.2.2 = 0 then none
  else
    let wait := if w.1 ≤ w.2.2 then 0 else (w.1 - 1) * w.2.1
    some (tau.1 * (beats * w.2.2 + wait) + 1000 * fixed * tau.2 * w.2.2, 1000 * tau.2 * w.2.2)

/-- L_H of R152 at a τ. DEDUCED (log 14). -/
def State.houseBound (s : State) (h : Nat) (tau : Frac) : Option Frac :=
  let fixed := 60 + 2 * 110 + s.fld (Reg.thrExam h) F.ThrExam.examWt +
    (if s.mirrorOn h then s.fld (Reg.thrExam h) F.ThrExam.examMr else 0)
  latency tau (40 + s.bmax h + 36 + 24 + 2 * 150) fixed (s.wqTerms h)

/-- code_h of R220: 12 under SPRINT, else the greater of FLOOR and the House's own floor. -/
def State.floorCode (s : State) (h : Nat) : Nat :=
  let pol := s.fld Reg.vpolCtl F.VpolCtl.policy
  if pol = 0 ∨ pol = 3 then 12
  else max (min (s.fld Reg.vpolCtl F.VpolCtl.floor) 12)
    (min (Fld.get ⟨4 * h, 4⟩ (s.rd Reg.vfloor)) 12)

/-- LH_FLOOR in whole ns, rounded up and saturating (R220). -/
def State.lhFloor (s : State) (h : Nat) : Nat :=
  match s.houseBound h (tauMax (setpointMv (s.floorCode h)) 110) with
  | some f => min (ceilDiv f.1 f.2) 0xFFFFFFFF
  | none => 0xFFFFFFFF

/-! ### Slots of a channel, and t_dr (R382, R386) -/

/-- Slots of each frame of channel `c` that House `h` has as its own (R382). -/
def State.ownSlots (s : State) (h c : Nat) : Nat := s.fld (Reg.houseGway h) ⟨32 + 8 * c, 8⟩

/-- The pool's slots of channel `c` (R382). -/
def State.poolSlots (s : State) (c : Nat) : Nat := 64 - ((List.range 4).map (fun h => s.ownSlots h c)).sum

/-- The slots that serve House `h` on channel `c`, and the C_T of the Houses that share them. -/
def State.slotTerms (s : State) (h c : Nat) : Nat × Nat :=
  if s.ownSlots h c ≠ 0 then (s.ownSlots h c, s.ct h)
  else (s.poolSlots c, (((List.range 4).filter (fun x => s.ownSlots x c == 0)).map s.ct).sum)

/-- The slot spacing g: ⌈64 / s⌉ (R382). -/
def slotSpacing (slots : Nat) : Nat := ceilDiv 64 slots

/-- The bound of R386 for `slots` slots, in ns as a fraction: 28 ns + 76,800 / r + 2 · C_T · g · t_s + n_b · t_RC, where
t_s is 8,000 / r ns at a rate of r MT/s (R381). -/
def tdrBound (rate slots ct nb trc : Nat) : Frac :=
  (28 * rate + 76800 + 2 * ct * slotSpacing slots * 8000 + nb * trc * rate, rate)

/-- The bound of t_dr for a record of House `h` on channel `c`, at the channel's rate; `none` without a slot or a rate
(R386). -/
def State.tdr (s : State) (h c nb trc : Nat) : Option Frac :=
  let rate := 100 * s.fld (Reg.dcStat c) F.DcStat.rate
  let t := s.slotTerms h c
  if rate = 0 ∨ t.1 = 0 then none else some (tdrBound rate t.1 t.2 nb trc)

/-- The figure of 110 ns that the bounds of chapter 5 use for t_dr holds (R386). -/
def State.tdrHolds (s : State) (h c nb trc : Nat) : Bool :=
  match s.tdr h c nb trc with
  | some f => decide (f.1 ≤ 110 * f.2)
  | none => false

/-- B_auth of R464. -/
def bAuth (p : List Byte) : Nat := if pkAuthExt p then 156 + 48 * pkOwnWords p else 0

/-- The EXAM release time R (R132); `none` when no bound exists. -/
def State.examRelease (s : State) (h tc bd : Nat) (p : List Byte) : Option Nat :=
  let m := fastKeys (pkOpcode p)
  let fixed := 60 + m * 110 + s.fld (Reg.thrExam h) F.ThrExam.examWt +
    (if s.mirrorOn h then s.fld (Reg.thrExam h) F.ThrExam.examMr else 0)
  (latency (s.tauEst, 1) (40 + bAuth p + bd + 36 + 24 + m * 150) fixed (s.wqTerms h)).map
    (fun f => tc + 4 * ceilDiv f.1 (4 * f.2))

end Sys2Proof.Machine
end

