-- ==== Sys2Proof/Machine/Replies.lean ====
section
/-! DEFINITION. Writing a reply to its host: the 32 bytes of Table 2.4, the completion ring, the reply
slot, the output buffer, the credit and the MSI-X message (R45 to R53, R60 to R63, R67, R78). -/

namespace Sys2Proof.Machine

/-- The content of a reply (Table 2.4). -/
structure ReplyInfo where
  status : Nat
  result : Nat
  neg : Bool
  padded : Bool
  fwd : Bool
  out : Option (List Byte)
  /-- JSEQ, or `none` for NOREC. -/
  jseq : Option Nat
  deriving DecidableEq, Repr

/-- RFLAGS of Table 2.4. -/
def rflags (r : ReplyInfo) (push phase : Bool) : Nat :=
  (if push then 64 else 0) + (if r.jseq.isNone then 32 else 0) + (if r.padded then 16 else 0) +
  (if r.out.isSome then 8 else 0) + (if r.neg then 4 else 0) + (if r.fwd then 2 else 0) +
  (if phase then 1 else 0)

/-- The 32 reply bytes, HCHECK last (Table 2.4). -/
def replyBytes (pkt : List Byte) (r : ReplyInfo) (push phase : Bool) (ctime : Nat) : List Byte :=
  let b := pkTag pkt ++ toBytes r.status 2 ++ toBytes (rflags r push phase) 2 ++ toBytes ctime 8 ++
    toBytes (r.jseq.getD (2 ^ 64 - 1)) 8 ++ toBytes r.result 4
  b ++ crcBytes b

/-- CQ entries in use: reserved, or written and not yet passed by CQ_HEAD (R49). -/
def State.cqUsed (s : State) (g : Nat) : Nat :=
  let wr := s.fld (Reg.ringPtr g) F.RingPtr.cqWr
  let hd := s.fld (Reg.ringPtr g) F.RingPtr.cqHead
  let n := s.cqSize g
  (s.fn g).cqReserved + (wr + n - hd) % n

/-- A CQ entry is free: at most 2^CQ_LOG2 − 1 are used at once (R49). -/
def State.cqFree (s : State) (g : Nat) : Bool := decide (s.cqUsed g < s.cqSize g - 1)

/-- Send the message of a vector: the data of its table entry to the address of its table entry (R78). -/
def State.sendMsix (s : State) (g vec : Nat) : State :=
  s.post (.msix g vec (s.rd (Reg.msixAddr g vec)).toNat (s.fld (Reg.msixData g vec) F.MsixData.data))

/-- Send the message of a vector, or set its pending bit while it is masked (R78). PRESUMED (log 15). -/
def State.msix (s : State) (g vec : Nat) : State :=
  if s.flag (Reg.msixData g vec) F.MsixData.masked then
    s.wr (Reg.msixPba g) (s.rd (Reg.msixPba g) ||| BitVec.ofNat 64 (2 ^ vec))
  else s.sendMsix g vec

/-- Host address of CQ entry `i` (R45). -/
def State.cqAddr (s : State) (g i : Nat) : Nat := (s.rd (Reg.cqBase g)).toNat + 32 * i
/-- Host address of reply slot `i` (R50). -/
def State.slotAddr (s : State) (g i : Nat) : Nat := (s.rd (Reg.replyBase g)).toNat + 32 * i
/-- Host address of SQ entry `i` (R44). -/
def State.sqAddr (s : State) (g i : Nat) : Nat := (s.rd (Reg.sqBase g)).toNat + 512 * i

/-- Write the next CQ entry; PHASE inverts each time the position wraps (R48). -/
def State.writeCq (s : State) (g : Nat) (pkt : List Byte) (r : ReplyInfo) : State :=
  let idx := s.fld (Reg.ringPtr g) F.RingPtr.cqWr
  let nxt := (idx + 1) % s.cqSize g
  let s := s.post (.cq g idx (s.cqAddr g idx) (replyBytes pkt r false (s.fn g).phase s.dtime))
  let s := s.setFld (Reg.ringPtr g) F.RingPtr.cqWr nxt
  if nxt = 0 then s.modFn g (fun f => { f with phase := !f.phase }) else s

/-- Write the reply slot of a push packet, which frees its push slot (R50, R52, R53). -/
def State.writeSlot (s : State) (g slot : Nat) (pkt : List Byte) (r : ReplyInfo) : State :=
  let s := s.post (.slot g slot (s.slotAddr g slot) (replyBytes pkt r true (pkPphase pkt) s.dtime))
  s.modFn g (fun f => { f with pushBusy := f.pushBusy.filter (· != slot) })

/-- Write output, reply and message in this order (R63, R78). -/
def State.deliver (s : State) (g : Nat) (push : Option Nat) (pkt : List Byte) (r : ReplyInfo) :
    State :=
  let s := match r.out with
    | some b => s.post (.output g (pkOutPtr pkt) (b ++ crcBytes b))
    | none => s
  let s := match push with
    | some n => s.writeSlot g n pkt r
    | none => s.writeCq g pkt r
  if pkNotify pkt then s.msix g (pkVector pkt) else s

/-- Return a packet's credit and, for an SQ packet, its reservation (R67, R49). -/
def State.returnCredit (s : State) (g : Nat) (push : Option Nat) : State :=
  s.modFn g (fun f => { f with
    inflight := f.inflight - 1,
    cqReserved := if push.isNone then f.cqReserved - 1 else f.cqReserved })

/-- A reply that a function level reset discards: the credit and the push slot return, nothing is
written (R67, R411). -/
def State.discardReply (s : State) (g : Nat) (push : Option Nat) : State :=
  s.modFn g (fun f => { f with
    inflight := f.inflight - 1,
    pushBusy := f.pushBusy.filter (fun n => push != some n) })

/-- Write the reply of a packet that holds a credit, unless a function level reset has come in
between and discards it (R67, R411). -/
def State.reply (s : State) (g epoch : Nat) (push : Option Nat) (pkt : List Byte)
    (r : ReplyInfo) : State :=
  if (s.fn g).epoch = epoch then (s.returnCredit g push).deliver g push pkt r
  else s.discardReply g push

end Sys2Proof.Machine
end

