-- ==== Sys2Proof/Machine/Journal.lean ====
section
/-! DEFINITION. The Register: records, the hash chain, seals, marks, MIRROR and the records held for a
frozen channel (chapter 8, R101, R102). -/

namespace Sys2Proof.Machine

/-! ### DRAM placement (R213) -/

/-- DC_STAT.STATE values (chapter 13). -/
abbrev chanAbsent : Nat := 0
abbrev chanTraining : Nat := 1
abbrev chanService : Nat := 2
abbrev chanFrozen : Nat := 3
abbrev chanRetired : Nat := 4
abbrev chanRetained : Nat := 5
abbrev chanInit : Nat := 6

/-- State of DRAM channel `c`. -/
def State.chanState (s : State) (c : Nat) : Nat := s.fld (Reg.dcStat c) F.DcStat.state

/-- The in-use region that the two words of a region's registers describe holds an address. -/
def rgnHolds (a : Nat) (w : Word × Word) : Bool :=
  F.DramRgnB.mode.get w.2 != 3 && decide (F.DramRgnA.base.get w.1 ≤ a / 2 ^ 28) &&
  decide (a / 2 ^ 28 < F.DramRgnA.limit.get w.1)

/-- The inline sealing key of an address under the words of one region: none, 1 + House for an open region
of a House, 5 for K_SEC (R214). -/
def rgnKey (a : Nat) (w : Word × Word) : Nat :=
  if !rgnHolds a w then 0
  else if F.DramRgnB.secure.get w.2 = 1 ∨ 4 ≤ F.DramRgnB.owner.get w.2 then 5
  else 1 + F.DramRgnB.owner.get w.2

/-- The words of region `n` in force. -/
def State.rgnWords (s : State) (n : Nat) : Word × Word := (s.rd (Reg.dramRgnA n), s.rd (Reg.dramRgnB n))

/-- A staged change gives the line at an address another key: until it applies, no owner reaches the line
(R214). -/
def State.lineChanging (s : State) (a : Nat) : Bool :=
  s.staged.any (fun x => match x with
    | .region n v w _ => rgnKey a (s.rgnWords n) != rgnKey a (v, w)
    | _ => false)

/-- The in-use region whose range holds a physical address (R213). -/
def State.rangeAt (s : State) (a : Nat) : Option Nat := (List.range 16).find? (fun n => rgnHolds a (s.rgnWords n))

/-- Capacity in bytes of the DRAM fitted: that of the channels which the last start put in service (R14, R390).
A channel retired since keeps its addresses, since an access to it receives an error response (R394).
DEDUCED (log 94). -/
def State.fitted (s : State) : Nat :=
  ((List.range 4).map (fun c => if (s.chan c).dimm.trains then (s.chan c).dimm.gb * 2 ^ 30 else 0)).sum

/-- The in-use DRAM region that holds a physical address within the fitted capacity, and that no change is
taking it from (R14, R213, R214). -/
def State.regionAt (s : State) (a : Nat) : Option Nat :=
  if s.lineChanging a || decide (s.fitted ≤ a) then none else s.rangeAt a

/-- The channels of a channel mask, in order. -/
def channelsOf (mask : Nat) : List Nat := (List.range 4).filter (mask.testBit ·)

/-- The channel that holds an address: its region rotates in 4 KB pages over CHMASK (R213). -/
def State.chanAt (s : State) (a : Nat) : Option Nat :=
  (s.regionAt a).bind (fun n =>
    let cs := channelsOf (s.fld (Reg.dramRgnB n) F.DramRgnB.chmask)
    if cs.isEmpty then none
    else cs[(a / 4096 - s.fld (Reg.dramRgnA n) F.DramRgnA.base * 2 ^ 16) % cs.length]?)

/-- The line lies in a channel that is frozen or retired. -/
def State.lineHeld (s : State) (a : Nat) : Bool :=
  match s.chanAt a with
  | some c => s.chanState c == chanFrozen || s.chanState c == chanRetired
  | none => false

/-! ### Marks (R237) -/

/-- Slate share of a House. -/
def State.slateShare (s : State) (h : Nat) : Nat := s.fld (Reg.houseShr h) F.HouseShr.slates
/-- log2 of the ring's entries; below 12 there is no ring. -/
def State.ringLog2 (s : State) (h : Nat) : Nat := s.fld (Reg.jrBase h) F.JrBase.log2
/-- A valid ring is in use: one in a region in use, which a start takes from a ring whose channel failed
training (R237, R406). -/
def State.ringOk (s : State) (h : Nat) : Bool :=
  decide (12 ≤ s.ringLog2 h) && (s.rangeAt (4096 * s.fld (Reg.jrBase h) F.JrBase.addr)).isSome
/-- ENTRIES. -/
def State.ringEntries (s : State) (h : Nat) : Nat := 2 ^ s.ringLog2 h
/-- U: entries not retired. -/
def Journal.u (j : Journal) : Nat := j.next - j.retired
/-- EFF_FULL. -/
def State.effFull (s : State) (h : Nat) : Nat :=
  min (s.fld (Reg.jrMark h) F.JrMark.full) (s.ringEntries h - 2 * s.slateShare h - 16)
/-- The hard mark. -/
def State.hardMark (s : State) (h : Nat) : Nat := s.ringEntries h - s.slateShare h - 16
/-- The House's journal-admin function. -/
def State.isJa (s : State) (h g : Nat) : Bool :=
  s.flag (Reg.jrCtl h) F.JrCtl.jaEn && s.fld (Reg.jrCtl h) F.JrCtl.jaGfn == g

/-- The House is at its full mark for function `g` (Table 8.4). -/
def State.atFullMark (s : State) (h g : Nat) : Bool :=
  !s.ringOk h ||
  decide ((if s.isJa h g then s.hardMark h else s.effFull h) ≤ (s.house h).j.u)

/-- Credits of function `g` are stopped by the journal: the high mark, held records, or 16 pending
seals (R102, R232, R237). -/
def State.creditsStopped (s : State) (h g : Nat) : Bool :=
  let j := (s.house h).j
  decide (16 ≤ j.seals.length) ||
  (!s.isJa h g && (decide (s.fld (Reg.jrMark h) F.JrMark.high ≤ j.u) || !j.held.isEmpty))

/-! ### Records (Tables 8.1 and 8.2) -/

/-- Leftmost 8 bytes of SHA-256 over the bytes of R229. -/
def pdigest (pkt : List Byte) (out : Option (List Byte)) (result : Nat) : List Byte :=
  (sha256b (digestBytes pkt ++ out.getD [] ++ toBytes result 4)).take 8

/-- A record of TYPE 0 or 1 (Table 8.1). -/
def packetRecord (jseq time gfn status flags tcode result : Nat) (pkt : List Byte)
    (out : Option (List Byte)) : List Byte :=
  toBytes jseq 8 ++ toBytes time 8 ++ slice pkt 0 2 ++ toBytes status 2 ++ toBytes (gfn % 64) 1 ++
  toBytes flags 1 ++ toBytes tcode 2 ++ pkTag pkt ++ toBytes result 4 ++ slice pkt 16 24 ++
  pdigest pkt out result

/-- An event record (R228): bytes 16–19, then 22–63. -/
def eventRecord (jseq time ty : Nat) (b16 b22 : List Byte) : List Byte :=
  toBytes jseq 8 ++ toBytes time 8 ++ slice b16 0 4 ++ [0] ++ toBytes ty 1 ++ slice b22 0 42

/-- The status a slate's reply carries: OK becomes FORWARDED on a forwarded slate (R114). -/
def replyStatus (sl : Slate) (c : Claim) : Nat :=
  if sl.fwd ∧ c.status = St.ok then St.forwarded else c.status

/-- The record of a slate's claim. -/
def slateRecord (sl : Slate) (c : Claim) (jseq : Nat) : List Byte :=
  let flags := (if c.standin then 16 else 0) + (if c.neg then 32 else 0) +
    (if sl.fwd then 64 else 0) + (if sl.exam && sl.dispatched then 128 else 0)
  packetRecord jseq c.time sl.gfn (replyStatus sl c) flags (if c.standin then sl.tplTcode.toNat else 0)
    c.result.toNat sl.pkt c.out

/-- The record of a rejection at step 3 or 4. -/
def rejectRecord (r : Reject) (jseq : Nat) : List Byte :=
  packetRecord jseq r.time r.gfn r.status 1 0 0 r.pkt none

/-- SHA-256 of the previous head and a record (R230). -/
def chainHead (prev : BitVec 256) (rec : List Byte) : BitVec 256 :=
  Config.sha256 (toBytesBE prev.toNat 32 ++ rec)

/-- The genesis head of a House (R230). -/
def genesisHead (h : Nat) : BitVec 256 :=
  Config.sha256 (ascii "KT8400RG" ++ toBytes Config.devSerial.toNat 8 ++ toBytes h 1)

/-- N of R231. -/
def State.sealN (s : State) (h : Nat) : Nat := s.fld (Reg.jrSeal h) F.JrSeal.nm1 + 1

/-- Ring address of a JSEQ. -/
def State.ringLine (s : State) (h jseq : Nat) : Nat :=
  4096 * s.fld (Reg.jrBase h) F.JrBase.addr + 64 * (jseq % s.ringEntries h)

/-- A record type other than SEAL counts toward the next seal, and the N-th makes one due (R231,
R235). -/
def countRecord (n ty jseq : Nat) (head : BitVec 256) (j : Journal) : Journal :=
  if ty = 2 then j
  else
  let j := { j with counted := (jseq, head) }
  if j.noSeals then { j with count := j.count + 1 }
  else if j.count + 1 ≥ n then
    { j with count := 0, sealno := j.sealno + 1,
             seals := j.seals ++ [{ no := j.sealno, s := jseq, head := head }] }
  else { j with count := j.count + 1 }

/-- Ask for the two signatures of each due seal that has none requested: two P-mill operations (R231). At most
16 seals are due at once; what comes after them falls due as they are appended, in order of S (R232).
DEDUCED (log 95). -/
def State.requestSeals (s : State) (h : Nat) : State :=
  let due := (s.house h).j.seals.take 16
  let s := s.modJ h (fun j => { j with
    seals := (j.seals.take 16).map (fun x => { x with asked := true }) ++ j.seals.drop 16 })
  { s with millQ := s.millQ ++
      ((due.filter (fun x => !x.asked)).map (fun x =>
        [(true, ({ user := .journal h x.no 0, house := h, tag := none } : MillOp)),
         (true, { user := .journal h x.no 1, house := h, tag := none })])).flatten }

/-- Start a new JSEQ reserve when NEXT comes within 2^19 of it (R233). -/
def reserveCheck (j : Journal) : Journal :=
  if j.reserveNew.isNone ∧ j.reserve ≤ j.next + 2 ^ 19 then
    { j with reserveNew := some (j.next + 2 ^ 20) }
  else j

/-! ### The mirror (R239, R240) -/

/-- The function whose port carries mirror writes. -/
def State.mirrorFn (s : State) (h : Nat) : Nat := s.fld (Reg.jrCtl h) F.JrCtl.mGfn

/-- Host address of the mirror entry of a JSEQ: JR_MADDR + 64 × (JSEQ mod 2^MLOG2) (R239). -/
def State.mirrorAddr (s : State) (h n : Nat) : Nat :=
  4096 * s.fld (Reg.jrMaddr h) F.JrMaddr.addr + 64 * (n % 2 ^ s.fld (Reg.jrCtl h) F.JrCtl.mlog2)

/-- Records are mirrored at present. -/
def State.mirrors (s : State) (h : Nat) : Bool := s.mirrorOn h && !(s.house h).j.susp

/-- The cause for which a mirror write fails before it is issued: the function has EN = 0, or the port's link
is down (R240). -/
def State.mirrorBar (s : State) (h : Nat) : Option Nat :=
  let g := s.mirrorFn h
  if !s.flag (Reg.fnCtl g) F.FnCtl.en then some 4
  else if !(s.port (portOf g)).linkUp then some 3
  else none

/-- Issue the mirror copy of a record: a 64-byte posted write, then a 4-byte read of the same entry (R239). -/
def State.mirrorCopy (s : State) (h n : Nat) (b : List Byte) : State :=
  let g := s.mirrorFn h
  let a := s.mirrorAddr h n
  (s.post (.mirror h n g a b)).post (.mirrorRead g a)

/-- An event asks for its record, which comes before the records that wait for the writer.
DEDUCED (log 95). -/
def State.event (s : State) (h : Nat) (e : Event) : State :=
  s.modJ h (fun j => { j with events := j.events ++ [(s.dtime, e)] })

/-- Suspend mirroring (R240): the flags, and a MIRROR_SUSPEND record for the failed JSEQ. No record that is
held is mirrored any more. -/
def State.mirrorSuspend (s : State) (h cause jseq : Nat) : State :=
  let s := s.modJ h (fun j => { j with susp := true, held := j.held.map (fun x => { x with copy := false }) })
  (s.setFlag (Reg.jrStat h) F.JrStat.mirFailS true).event h (.mirrorSuspend cause jseq)

/-! ### Appending (R226, R227, R102) -/

/-- Write a record to its line and, where `copy` says so, to its mirror (R239). -/
def State.putRec (s : State) (h : Nat) (b : List Byte) (p : PendRec) (copy : Bool) : State :=
  let s := s.putLines (s.ringLine h p.jseq) b
  let pend (s : State) (p : PendRec) : State := s.modJ h (fun j => { j with pend := j.pend ++ [p] })
  if copy && s.mirrors h then
    match s.mirrorBar h with
    | some cause => (pend s p).mirrorSuspend h cause p.jseq
    | none => (pend s { p with mirror := some s.uptime }).mirrorCopy h p.jseq b
  else pend s p

/-- Write a record, or hold it while its line lies in a channel that is frozen or retired (R102, R238). -/
def State.writeRec (s : State) (h : Nat) (b : List Byte) (p : PendRec) (copy : Bool) : State :=
  if s.lineHeld (s.ringLine h p.jseq) then s.modJ h (fun j => { j with held := j.held ++ [⟨b, p, copy⟩] })
  else s.putRec h b p copy

/-- Append a record: it takes the next JSEQ, extends the chain, and is written or held (R226, R227). -/
def State.append (s : State) (h ty : Nat) (mk : Nat → List Byte) (slate : Option Nat)
    (rej : Option Reject) : State :=
  let n := (s.house h).j.next
  let b := mk n
  let head := chainHead (s.house h).j.head b
  let s := s.modJ h (fun j => reserveCheck (countRecord (s.sealN h) ty n head { j with next := n + 1, head := head }))
  (s.writeRec h b ⟨n, slate, rej, false, none⟩ (s.mirrors h)).requestSeals h

/-- Append an event record (Table 8.2). -/
def State.appendEvent (s : State) (h time ty : Nat) (b16 : List Byte) (b22 : Nat → List Byte) : State :=
  s.append h ty (fun n => eventRecord n time ty b16 (b22 n)) none none

/-- Append the record of an event. With its SEAL record a seal is no longer pending (R231). -/
def State.buildEvent (s : State) (h time : Nat) : Event → State
  | .sealed no n head =>
    (s.modJ h (fun j => { j with
      seals := j.seals.filter (fun x => x.no != no)
      sealed := some (n, no, head)
      ckptSeals := j.ckptSeals + 1 })).appendEvent h time 2 (toBytes no 4)
        (fun _ => toBytes (no / 2 ^ 32) 2 ++ toBytes n 8 ++ toBytesBE head.toNat 32)
  | .start kind n head =>
    s.appendEvent h time 3 [] (fun _ => toBytes kind 1 ++ [0] ++ toBytes n 8 ++ toBytesBE head.toNat 32)
  | .tamper hit => s.appendEvent h time 4 [] (fun _ => toBytes hit 1)
  | .mirrorSuspend cause n => s.appendEvent h time 5 [] (fun _ => toBytes cause 1 ++ [0] ++ toBytes n 8)
  | .relocate old first =>
    s.appendEvent h time 6 [] (fun n => zeros 2 ++ toBytes old 8 ++ toBytes (first.getD n) 8)
  | .mirrorResume => s.appendEvent h time 7 [] (fun n => zeros 2 ++ toBytes n 8)

/-- The writer takes no further record: 64 are held, or NEXT has reached the reserve (R102, R233). -/
def Journal.blocked (j : Journal) : Bool :=
  decide (64 ≤ j.held.length) || decide (j.reserve ≤ j.next)

/-- Build the record of one waiting slate or rejection. -/
def State.build (s : State) (h : Nat) (u : Unbuilt) : State :=
  match u with
  | .slate id =>
    match (s.slate id).claim with
    | some c =>
      let n := (s.house h).j.next
      let sl := s.slate id
      (s.append h 0 (slateRecord sl c) (some id) none).modSlate id
        (fun x => { x with jseq := some n })
    | none => s
  | .reject r => s.append h 1 (rejectRecord r) none (some r)

/-- Build waiting records while the writer has room: those of events, then the others in claim order (R102,
R233). -/
def State.buildWaiting (s : State) (h : Nat) : Nat → State
  | 0 => s
  | f + 1 =>
    if (s.house h).j.blocked then s
    else
      match (s.house h).j.events, (s.house h).j.unbuilt with
      | e :: rest, _ =>
        ((s.modJ h (fun j => { j with events := rest })).buildEvent h e.1 e.2).buildWaiting h f
      | [], u :: rest => ((s.modJ h (fun j => { j with unbuilt := rest })).build h u).buildWaiting h f
      | [], [] => s

/-- Build every waiting record that the writer has room for. A mirror that fails on the way adds one record. -/
def State.buildAll (s : State) (h : Nat) : State :=
  s.buildWaiting h ((s.house h).j.events.length + (s.house h).j.unbuilt.length + 1)

/-- A claim or a rejection asks for its record. -/
def State.record (s : State) (h : Nat) (u : Unbuilt) : State :=
  (s.modJ h (fun j => { j with unbuilt := j.unbuilt ++ [u] })).buildAll h

/-- An event's record is appended as soon as the writer has room. -/
def State.recordEvent (s : State) (h : Nat) (e : Event) : State := (s.event h e).buildAll h

/-! ### Frozen channels (R102, R238) -/

/-- Write the held records in JSEQ order; one whose line is still held stays held. -/
def State.rewriteHeld (s : State) (h : Nat) : State :=
  (s.house h).j.held.foldl (fun (s : State) x => s.writeRec h x.bytes x.p x.copy)
    (s.modJ h (fun j => { j with held := [] }))

/-- Write the held records whose line is no longer held, and what waited for them (R102). -/
def State.releaseHeld (s : State) (h : Nat) : State := (s.rewriteHeld h).buildAll h

/-- Relocate to a new ring (R238): the held records go there in JSEQ order, a RELOCATE record follows,
RETIRED becomes the first JSEQ in the new ring. -/
def State.relocate (s : State) (h : Nat) (base : Word) : State :=
  let j := (s.house h).j
  let first := j.held.head?.map (·.p.jseq)
  let s := s.wr (Reg.jrBase h) base
  let s := (s.modJ h (fun x => { x with retired := first.getD j.next })).rewriteHeld h
  (s.setFlag (Reg.jrStat h) F.JrStat.relocS true).recordEvent h (.relocate j.retired first)

/-- A channel that holds lines of a ring at `base` is retired (R238). A ring is longer than four pages, and a
region rotates over at most four channels by pages (R213). -/
def State.ringLost (s : State) (base : Nat) : Bool :=
  (List.range 4).any (fun i =>
    match s.chanAt (base + 4096 * i) with
    | some c => s.chanState c == chanRetired
    | none => false)

/-- The channel that holds the ring of House `h` is retired. -/
def State.ringRetired (s : State) (h : Nat) : Bool :=
  s.ringOk h && s.ringLost (4096 * s.fld (Reg.jrBase h) F.JrBase.addr)

end Sys2Proof.Machine
end

