-- ==== Sys2Proof/Machine/Slates.lean ====
section
/-! DEFINITION. The life of a slate: the claim, cancellation, the reply's completion, EXAM release, the
Bell's stand-in, deferred deletions and the return to FREE (chapter 3, R132, R133, R175). -/

namespace Sys2Proof.Machine

/-! ### Tags (R80) -/

/-- The 23-bit tag of a slate. -/
def slateTag (id : Nat) (sl : Slate) : Nat := id + 32768 * sl.gen

/-- The slate that a tag names, when its generation is current and the slate is in use. -/
def State.tagSlate (s : State) (tag : Nat) : Option Nat :=
  let id := tag % 32768
  let sl := s.slate id
  if sl.gen = tag / 32768 % 256 ∧ sl.st ≠ .free then some id else none

/-- A result, reply packet or claim request is discarded (R80, R89). -/
def State.dropResult (s : State) : State := s.satFld Reg.bellDrop F.BellDrop.stale 1

/-- The claim of the slate is open. -/
def Slate.unclaimed (sl : Slate) : Bool := sl.st == .admitted || sl.st == .live

/-! ### The claim (R88, R89) -/

/-- Take the claim of slate `id`, and ask for its record. -/
def State.claim (s : State) (id : Nat) (c : Claim) : State :=
  (s.modSlate id (fun x => { x with st := .claimed, armed := false, claim := some c })).record
    (s.slate id).house (.slate id)

/-- The claim of an own result or failure at the present device time. -/
def State.mkClaim (s : State) (status result : Nat) (neg : Bool) (out : Option (List Byte)) : Claim :=
  { status := status, result := BitVec.ofNat 32 result, neg := neg, out := out, standin := false,
    time := s.dtime }

/-- End a slate with a failure status. -/
def State.fail (s : State) (id status result : Nat) : State :=
  s.claim id (s.mkClaim status result false none)

/-! ### Return to FREE (R81) -/

/-- A completion slot whose status word waits under a released tag is empty (R283). -/
def dropReady (id gen : Nat) (m : MillSlot) : MillSlot :=
  match m with
  | .ready _ i g _ => if i = id ∧ g = gen then .empty else m
  | m => m

/-- The slate returns to FREE with its generation increased; completion slots of its tag empty. -/
def State.freeSlate (s : State) (id : Nat) : State :=
  let gen := (s.slate id).gen
  let s := s.tillers.foldl (fun (s : State) e =>
    s.modTiller e.1 (fun x => { x with slots := x.slots.map (dropReady id gen) })) s
  s.setSlate id { gen := (gen + 1) % 256 }

/-- Chute roles of CH_CFG. -/
abbrev roleWork : Nat := 0
abbrev roleReply : Nat := 1
abbrev roleTiller : Nat := 2
/-- ROLE of Chute `c`. -/
def State.chuteRole (s : State) (c : Nat) : Nat := s.fld (Reg.chCfg c) F.ChCfg.role

/-- A WORK packet in a Chute carries the slate tag in bytes 60 to 62 of its header (R357). -/
def workTag (p : Packet) : Nat := le p.bytes 60 3 % 2 ^ 23

/-- The tag of a packet written by a Tiller (Table 12.3). -/
def tagOf (p : List Byte) : Nat := le p 0 4 % 2 ^ 23

/-- A packet of a Chute of a role carries a slate tag: TILLER Chutes carry none (R357). -/
def packetTag (role : Nat) (p : Packet) : Option Nat :=
  if role = roleWork then some (workTag p) else if role = roleReply then some (tagOf p.bytes) else none

/-- Some Chute holds a packet that carries the tag (R81). -/
def State.tagInChute (s : State) (tag : Nat) : Bool :=
  s.chutes.any (fun e => e.2.pkts.any (fun p => packetTag (s.chuteRole e.1) p == some tag))

/-- After the reply: FREE when no unit holds the tag, else DRAINING (R81, Table 3.1). -/
def State.settle (s : State) (id : Nat) : State :=
  let sl := s.slate id
  if sl.replied then
    if sl.work = .idle ∧ sl.mills = 0 ∧ !s.tagInChute (slateTag id sl) then s.freeSlate id
    else s.setSlate id { sl with st := .draining }
  else s

/-- A unit has dropped requests or packets: each draining slate whose tag nothing holds any more is FREE. -/
def State.settleAll (s : State) : State :=
  (s.slates.map (·.1)).foldl (fun (s : State) id => if (s.slate id).st = .draining then s.settle id else s) s

/-! ### After a reply (Table 14.5, R409) -/

/-- Opcode of WARM_RESET. -/
def opWarmReset : Nat := 0x00C0
/-- Opcode of STOP_ENTER. -/
def opStopEnter : Nat := 0x00C1
/-- Opcode of KEY_DELETE. -/
def opKeyDelete : Nat := 0x0285

/-- PWR_STAT.STATE values. -/
abbrev pwrRun : Nat := 0
abbrev pwrEntering : Nat := 1
abbrev pwrStop : Nat := 2
abbrev pwrExiting : Nat := 3
abbrev pwrQueued : Nat := 4
abbrev pwrQuiesce : Nat := 5

/-- The quiesce window in ns: values above 10,000 µs are taken as 10,000. -/
def State.quiesceNs (s : State) : Nat := 1000 * min (s.fld Reg.pwrCtl F.PwrCtl.quiesceUs) 10000

/-- A warm reset begins to quiesce (R409 steps 1 and 2); a further request merges into it.
DEDUCED (log 67). -/
def State.beginQuiesce (s : State) (window cause : Nat) : State :=
  match s.power.quiesce with
  | some _ => s
  | none =>
    ({ s with power := { s.power with quiesce := some (s.uptime + window, cause), rollOn := false } }
      ).setFld Reg.pwrStat F.PwrStat.state pwrQuiesce

/-- STOP entry is queued behind a lease. -/
def State.stopQueued (s : State) : Bool := s.power.offQueue.any (fun e => e.2 == OffReq.stop)

/-- Remove a queued STOP entry (R312, R415). -/
def State.unqueueStop (s : State) : State :=
  let s1 := { s with power := { s.power with offQueue := s.power.offQueue.filter (fun e => e.2 != OffReq.stop) } }
  if s.stopQueued then s1.setFld Reg.pwrStat F.PwrStat.state pwrRun else s1

/-- STOP entry: the Roll stops and the quiesce of Table 14.5 step 2 begins. -/
def State.beginStop (s : State) : State :=
  ({ s with power :=
      { s.power with stopping := some (s.uptime + s.quiesceNs), rollOn := false } }
    ).setFld Reg.pwrStat F.PwrStat.state pwrEntering

/-- The effect that follows the reply of WARM_RESET or STOP_ENTER. DEDUCED (log 13). -/
def State.afterReply (s : State) (pkt : List Byte) : State :=
  if pkOpcode pkt = opWarmReset then
    if s.power.quiesce.isSome then s
    else
      let s := s.setFld Reg.pwrCtl F.PwrCtl.quiesceUs (le pkt 52 4)
      s.beginQuiesce s.quiesceNs 2
  else if pkOpcode pkt = opStopEnter then
    if s.power.quiesce.isSome || s.power.stopping.isSome then s else s.beginStop
  else s

/-! ### Completing the reply (R60, R132, R133) -/

/-- Commit and write the reply of a claimed slate; the slate then drains or is free. -/
def State.commitReply (s : State) (id : Nat) (padded : Bool) : State :=
  let sl := s.slate id
  match sl.claim with
  | none => s
  | some c =>
    let r : ReplyInfo :=
      { status := replyStatus sl c, result := c.result.toNat, neg := c.neg, padded := padded,
        fwd := sl.fwd, out := c.out, jseq := sl.jseq }
    let s := s.reply sl.gfn sl.epoch sl.push sl.pkt r
    let s := s.setSlate id { sl with replied := true, heldRelease := false, after := false }
    let s := if sl.after then s.afterReply sl.pkt else s
    s.settle id

/-- The reply is one that EXAM pads: decided by the slate's own result or failure after dispatch, and
not forwarded (R132, R133). -/
def padded (sl : Slate) (c : Claim) : Bool :=
  sl.exam && sl.dispatched && sl.release.isSome && !sl.fwd && !c.standin &&
  c.status != St.abandoned && c.status != St.unitReset

/-- An EXAM reply released after its release time (R133). -/
def State.examLate (s : State) (h : Nat) : State :=
  (s.satFld (Reg.thrCnt h) F.ThrCnt.examLate 1).setFld Reg.thrStat ⟨32 + h, 1⟩ 1

/-- The record of a slate is written and mirrored: the reply commits, or is held for its deferred
deletion or for its EXAM release time. -/
def State.completeReply (s : State) (id : Nat) : State :=
  let sl := s.slate id
  match sl.claim with
  | none => s
  | some c =>
    if sl.waiting then s.setSlate id { sl with heldRelease := true }
    else if padded sl c then
      if s.dtime ≤ sl.release.getD 0 then s.setSlate id { sl with heldRelease := true }
      else (s.examLate sl.house).commitReply id false
    else s.commitReply id false

/-- A record is written and mirrored: its reply follows (R60, R226). -/
def State.completeRecord (s : State) (p : PendRec) : State :=
  match p.slate, p.reject with
  | some id, _ => s.completeReply id
  | none, some r =>
    s.reply r.gfn r.epoch r.push r.pkt
      { status := r.status, result := 0, neg := false, padded := false, fwd := false, out := none,
        jseq := some p.jseq }
  | none, none => s

/-! ### Deferred deletions (R175) -/

/-- Delete the key that a handle names: its slot is cleared, or its table and cache entries are
emptied (R175). -/
def State.deleteKey (s : State) (h : Nat) (v : Word) : State :=
  match hKind v with
  | 1 => s.clearSlot false (slotNo false h (hIndex v))
  | 2 => s.clearSlot true (slotNo true h (hIndex v))
  | _ =>
    let asym := hKind v == 4
    (s.putLines (s.tableEntry h asym (hIndex v)) (zeros (if asym then 4096 else 128))).cacheDrop v

/-- The reference that a handle's key has once it is resolved. -/
def refOf (v : Word) : KeyRef :=
  match hKind v with
  | 1 => .sym (slotNo false (hHouse v) (hIndex v))
  | 2 => .asym (slotNo true (hHouse v) (hIndex v))
  | 5 => .device (hIndex v)
  | _ => .cached v

/-- Another slate of the House still holds the key that slate `id` deletes. -/
def State.heldElsewhere (s : State) (id : Nat) : Bool :=
  let sl := s.slate id
  let r := refOf (pkKey sl.pkt 0)
  s.slates.any (fun e => e.1 != id && e.2.st != .free && e.2.house == sl.house && e.2.keys.contains r)

/-- The slate's deletion waits and nothing holds the key any more. DEDUCED (log 13). -/
def State.deleteDue (s : State) (id : Nat) : Bool :=
  (s.slate id).waiting && pkOpcode (s.slate id).pkt == opKeyDelete && !s.heldElsewhere id

/-- Complete the deletion of slate `id`, and its held reply. -/
def State.finishDelete (s : State) (id : Nat) : State :=
  if s.deleteDue id then
    let sl := s.slate id
    let s := s.deleteKey sl.house (pkKey sl.pkt 0)
    let s := s.setSlate id { sl with waiting := false, heldRelease := false }
    if sl.heldRelease then s.completeReply id else s
  else s

/-- Complete every deletion whose key is free of other uses. -/
def State.finishDeletes (s : State) : State :=
  (s.slates.map (·.1)).foldl (fun (s : State) id => s.finishDelete id) s

/-! ### Leaving a unit (R81, R98, R108) -/

/-- No unit holds the slate's work any more: its keys are released, a replied slate goes FREE. -/
def State.leaveWork (s : State) (id : Nat) : State :=
  let h := (s.slate id).house
  (((s.modSlate id (fun x => { x with work := .idle, keys := [] })).settle id).finishDeletes).purgeCache h

/-- Empty position `p` of lane `n`. -/
def State.emptyPos (s : State) (n p : Nat) : State :=
  s.modLane n (fun l => { l with pos := l.pos.set p none })

/-- Remove a slate from its House's Thresher queue and from the pool queue. -/
def State.unqueue (s : State) (id : Nat) : State :=
  let s := s.modHouse (s.slate id).house (fun h => { h with queue := h.queue.filter (· != id) })
  { s with poolQ := s.poolQ.filter (· != id) }

/-- The reader Tiller of a Chute. -/
def State.chuteReader (s : State) (c : Nat) : Nat := s.fld (Reg.chCfg c) F.ChCfg.reader

/-- The slate-cancel event of the WORK Chute `c` at Tiller `t`: the tag joins CH_CANCEL, or is dropped with
CANCEL_OVF on the Chute (R360). -/
def State.cancelAt (s : State) (t : Nat) (c : Option Nat) (tag : Nat) : State :=
  if (s.tiller t).cancel.length < 8 then
    s.modTiller t (fun x => { x with cancel := x.cancel ++ [(tag, c)] })
  else match c with
    | some c => s.modChute c (fun x => { x with cancelOvf := true })
    | none => s

/-- The Chutes whose OWNER is House `h`, 4 for the common pool. DEDUCED (log 35). -/
def State.chutesOf (s : State) (h : Nat) : List Nat :=
  (List.range 256).filter (fun c => s.fld (Reg.chCfg c) F.ChCfg.owner == h)

/-- The OWNER of the Chutes that House `h` uses: its own, or, with a share of 0, those of the common pool
(R202). -/
def State.chuteSide (s : State) (h : Nat) : Nat := if s.fld (Reg.houseShr h) F.HouseShr.chutes = 0 then 4 else h

/-- The WORK Chute of a slate: CH_HOUSE.TQ for Tabqua, the Chute whose HIDX the packet names for a
carrel (R352). -/
def State.workChute (s : State) (sl : Slate) : Option Nat :=
  match sl.path with
  | .carrel =>
    (List.range 256).find? (fun c =>
      s.fld (Reg.chCfg c) F.ChCfg.role == 0 && s.fld (Reg.chCfg c) F.ChCfg.owner == s.chuteSide sl.house &&
      s.fld (Reg.chCfg c) F.ChCfg.hidx == le sl.pkt 54 2)
  | _ => some (s.fld (Reg.chHouse sl.house) F.ChHouse.tq)

/-- The REPLY Chute that a slate's WORK packet names (R357). -/
def State.replyChute (s : State) (sl : Slate) : Nat :=
  match sl.path with
  | .carrel => s.fld (Reg.chHouse sl.house) F.ChHouse.ro
  | _ => s.fld (Reg.chHouse sl.house) F.ChHouse.rq

/-- Mark the mill operations of a tag cancelled: their output is discarded (R98, R188). -/
def State.cancelMills (s : State) (id gen : Nat) : State :=
  let f (o : MillOp) : MillOp := if o.tag = some (id, gen) then { o with cancelled := true } else o
  { s with smills := s.smills.map (fun e => (e.1, f e.2))
           pmills := s.pmills.map (fun e => (e.1, f e.2))
           millQ := s.millQ.map (fun e => (e.1, f e.2)) }

/-- Cancel the work of a slate whose claim was taken elsewhere (R98, R360). What a lane, a Tiller or a
key-cache fill still holds stays held until that unit releases the tag. -/
def State.cancelWork (s : State) (id : Nat) : State :=
  let sl := s.slate id
  let s := s.cancelMills id sl.gen
  match sl.work with
  | .idle => s
  | .filling _ => s
  | .lane _ _ => s
  | .queued => (s.unqueue id).leaveWork id
  | .credit => s.leaveWork id
  | .chute c =>
    let ch := s.chute c
    let mine (p : Packet) : Bool := workTag p == slateTag id sl
    match ch.pkts with
    | p :: _ =>
      if ch.taken ≠ [] ∧ mine p then s.cancelAt (s.chuteReader c) (some c) (slateTag id sl)
      else
        (s.modChute c (fun x => { x with pkts := x.pkts.filter (fun q => !mine q) })).leaveWork id
    | [] => s.leaveWork id
  | .tiller t => s.cancelAt t (s.workChute sl) (slateTag id sl)

/-! ### The Bell (R86, R92, R94, R95) -/

/-- The Bell takes the claim: the stand-in's content, the counts, and the cancellation. -/
def State.standin (s : State) (id : Nat) : State :=
  let sl := s.slate id
  let lag := s.dtime - sl.dueAt
  let s := s.satFld Reg.bellCnt F.BellCnt.standin 1
  let s := s.setFld Reg.bellLag F.BellLag.lagMax (min (max (s.fld Reg.bellLag F.BellLag.lagMax) lag) 0xFFFF)
  let s := if lag > 40 then s.satFld Reg.bellLag F.BellLag.lagOver 1 else s
  let c : Claim := { status := St.standin, result := sl.tplResult, neg := false, out := none,
                     standin := true, time := s.dtime }
  (s.claim id c).cancelWork id

/-- The order of R92: the earlier stand-in point first, then the lower slate ID. -/
def bellBefore (a b : Nat × Slate) : Bool :=
  decide (a.2.standinPt < b.2.standinPt) || (a.2.standinPt == b.2.standinPt && decide (a.1 < b.1))

/-- The first slate in the order of R92 among those that satisfy `f`. -/
def State.firstDue (s : State) (f : Nat → Slate → Bool) : Option Nat :=
  ((s.slates.filter (fun e => f e.1 e.2)).foldl
    (fun (m : Option (Nat × Slate)) e =>
      match m with
      | none => some e
      | some b => if bellBefore e b then some e else some b) none).map (·.1)

/-- A House's LIVE slate whose stand-in point device time has reached. -/
def State.isDue (s : State) (h : Nat) (sl : Slate) : Bool :=
  sl.st == .live && sl.armed && sl.house == h && decide (sl.standinPt ≤ s.dtime)

/-- Step device time forward: every LIVE slate whose stand-in point lies at or before the new device time
falls due at the moment of the step (R30, R95). DESIGN CHOICE (log 1). -/
def State.timeStep (s : State) (now : Nat) : State :=
  { s with
    dtime := now
    slates := s.slates.map (fun e =>
      if e.2.st = .live ∧ e.2.armed ∧ e.2.standinPt ≤ now then (e.1, { e.2 with dueAt := now }) else e) }

/-- How many slates the issue engine of House `h` has fired in the present step of device time. -/
def State.bellCount (s : State) (h : Nat) : Nat :=
  if (s.house h).bellAt = s.dtime then (s.house h).bellFired else 0

/-- The issue engine of House `h` fires the first due slate in order, at most 8 in one step (R92). -/
def State.bellFire (s : State) (h : Nat) : State :=
  match s.firstDue (fun _ sl => s.isDue h sl) with
  | some id =>
    if s.bellCount h < 8 then
      (s.modHouse h (fun v => { v with bellAt := s.dtime, bellFired := s.bellCount h + 1 })).standin id
    else s
  | none => s

/-- The first due slate of House `h` may not wait until device time has advanced by `d`: its issue delay would
exceed the 8 ns of a slate with Q = 1 (R92). -/
def State.bellLate (s : State) (h d : Nat) : Bool :=
  match s.firstDue (fun _ sl => s.isDue h sl) with
  | some id => decide ((s.slate id).dueAt + 8 < s.dtime + d)
  | none => false

/-- The issue engine of House `h` fires what may not wait for the next `d` ns (R92). DESIGN CHOICE (log 1). -/
def State.bellMust (s : State) (h d : Nat) : Nat → State
  | 0 => s
  | n + 1 => if s.bellLate h d then (s.bellFire h).bellMust h d n else s

/-- What waits while device time goes on is noted for the loans of the next boundary: a House's Thresher queue,
and its work of each type of mill (R211). -/
def State.noteWaiting (s : State) : State :=
  let s := (List.range 4).foldl (fun (s : State) h =>
    if (s.house h).queue.isEmpty then s else s.modHouse h (fun x => { x with queueUsed := true })) s
  { s with millWaited := s.millQ.foldl (fun (l : List (Bool × Nat)) e =>
      if l.contains (e.1, e.2.house) then l else l ++ [(e.1, e.2.house)]) s.millWaited }

/-- Every House's issue engine fires what may not wait for the next `d` ns. Because each step leaves no slate
that is first in order later than 8 ns, and fires 8, the issue delay of a slate is at most 4 + 4 ⌈Q / 8⌉ ns
(R92). -/
def State.bells (s : State) (d : Nat) : State :=
  (List.range 4).foldl (fun (s : State) h => s.bellMust h d 8) s.noteWaiting

/-! ### Dispatch (R104, R109, R113) -/

/-- Put a slate at the tail of its House's Thresher queue. -/
def State.enqueue (s : State) (id : Nat) : State :=
  let h := (s.slate id).house
  let s := s.modSlate id (fun x => { x with work := .queued })
  let s := s.modHouse h (fun v => { v with queue := v.queue ++ [id] })
  if s.lanesOf h = 0 then { s with poolQ := s.poolQ ++ [id] } else s

/-- Put a reissued slate at the head of its House's queue (R137). -/
def State.requeueHead (s : State) (id : Nat) : State :=
  let h := (s.slate id).house
  let s := s.modSlate id (fun x => { x with work := .queued, res := none })
  let s := s.modHouse h (fun v => { v with queue := id :: v.queue })
  if s.lanesOf h = 0 then { s with poolQ := id :: s.poolQ } else s

/-- Event 0x0103: a slate of House `h` was forwarded. It counts at one of the lanes that serve the House,
or of the pool's; which one is a free choice. DESIGN CHOICE (log 88). -/
def State.markForward (s : State) (h : Nat) : State :=
  let ls := (List.range 9).filter (fun n =>
    s.fld (Reg.thrLane n) F.ThrLane.state == unitService &&
    (if s.lanesOf h = 0 then (s.lane n).owner.isNone else (s.lane n).serves == some h))
  if ls.isEmpty then s
  else
    let c := s.choose ls.length
    c.2.markUnit (72 + ls.getD c.1 0) 0x0103 1

/-- Forward a fast-path slate to Tabqua (R113): it waits for a credit of the WORK Chute. -/
def State.forward (s : State) (id : Nat) : State :=
  let s := s.modSlate id (fun x => { x with fwd := true, path := .tabqua, work := .credit })
  let h := (s.slate id).house
  (s.satFld (Reg.thrCnt h) F.ThrCnt.fwd 1).markForward h

/-- All handles have resolved: the attribute checks of Table 4.3 and the forwarding decision (R107,
R108, R113). -/
def State.resolved (s : State) (id : Nat) : State :=
  let sl := s.slate id
  let ks := sl.keys.map (s.keyAt sl.house)
  match badKey 0 (fastReqs sl.pkt) ks with
  | some i => (s.fail id St.keyUsage i).leaveWork id
  | none => if forwards sl.pkt ks then s.forward id else s.enqueue id

/-- Resolve the handles of a fast-path slate from index `i` on (R107, R108): up to the first miss, the
first absent key, or the end. -/
def State.resolveFrom (s : State) (id i : Nat) : Nat → State
  | 0 => s.resolved id
  | f + 1 =>
    let sl := s.slate id
    match s.resolve sl.house (pkKey sl.pkt i) with
    | .absent => (s.fail id St.keyAbsent i).leaveWork id
    | .hit r _ =>
      let s := match r with
        | .cached v => s.cacheTouch v
        | _ => s
      (s.modSlate id (fun x => { x with keys := x.keys ++ [r] })).resolveFrom id (i + 1) f
    | .miss =>
      (s.satFld (Reg.kcCnt sl.house) F.KcCnt.miss 1).modSlate id
        (fun x => { x with work := .filling i })

/-- Start key resolution of a fast-path slate. -/
def State.startResolution (s : State) (id : Nat) : State :=
  s.resolveFrom id 0 (fastKeys (pkOpcode (s.slate id).pkt))

end Sys2Proof.Machine
end

