-- ==== Sys2Proof/Machine/OpTable.lean ====
section
/-! DEFINITION. The opcodes beside the fast path: who may send each, which key handles it uses, whether
it produces output, and the field checks of step 6 with the offsets of R462 (Tables 1.2b, 6.8, 6.9,
6.13, 7.3a, 7.3b, 8.5, 13.3, 14.8, 15.7, R303, R309). Operand places that the spec does not give are
log entry 16. -/

namespace Sys2Proof.Machine

/-- Who may send a command (Table 2.5 (b)). -/
inductive Auth where
  | any
  | owner
  | house
  | houseOrOwner
  | timeMaster
  | journalAdmin
  deriving DecidableEq, Repr

/-- An opcode outside the fast path. -/
structure OpDesc where
  auth : Auth
  /-- Key handles used. -/
  keys : Nat
  /-- Produces output beyond RESULT (R63). -/
  out : Bool

/-- The opcodes of every family beside the fast path (R58). -/
def opDesc (op : Nat) : Option OpDesc :=
  match op with
  | 0x0010 => some ⟨.any, 0, true⟩
  | 0x0080 | 0x0081 | 0x00A0 | 0x00A1 | 0x00A2 => some ⟨.owner, 0, false⟩
  | 0x00C0 | 0x00C1 | 0x00C2 | 0x00C3 | 0x00C4 => some ⟨.owner, 0, false⟩
  | 0x0101 | 0x0102 | 0x0103 | 0x0104 | 0x0105 | 0x0106 | 0x0107 | 0x010F => some ⟨.house, 0, false⟩
  | 0x0120 | 0x0121 | 0x0122 | 0x0123 | 0x0124 | 0x0125 => some ⟨.house, 0, false⟩
  | 0x0181 | 0x0182 | 0x0183 | 0x0184 | 0x0185 | 0x0186 | 0x0187 | 0x0188 | 0x018F =>
    some ⟨.owner, 0, false⟩
  | 0x0201 | 0x0202 => some ⟨.any, 1, true⟩
  | 0x0203 => some ⟨.any, 0, false⟩
  | 0x0281 => some ⟨.house, 1, true⟩
  | 0x0282 => some ⟨.house, 2, true⟩
  | 0x0283 | 0x0284 | 0x0287 | 0x0288 => some ⟨.house, 0, true⟩
  | 0x0285 => some ⟨.house, 1, false⟩
  | 0x0286 | 0x0289 | 0x028E | 0x028F => some ⟨.house, 0, false⟩
  | 0x02A0 | 0x02A1 | 0x02C0 | 0x02C1 => some ⟨.owner, 0, false⟩
  | 0x0801 | 0x0803 | 0x0804 | 0x0805 => some ⟨.any, 1, true⟩
  | 0x0802 => some ⟨.any, 1, false⟩
  | 0x0902 | 0x0903 | 0x0904 | 0x0905 | 0x0906 => some ⟨.any, 0, true⟩
  | 0x0A01 => some ⟨.any, 0, false⟩
  | 0x0B01 | 0x0B02 | 0x0B03 => some ⟨.any, 0, true⟩
  | 0x0B04 => some ⟨.journalAdmin, 0, false⟩
  | 0x0C01 => some ⟨.any, 0, true⟩
  | 0x0C02 => some ⟨.timeMaster, 0, true⟩
  | 0x0C03 => some ⟨.timeMaster, 0, false⟩
  | 0x0E01 | 0x0E03 | 0x0E30 => some ⟨.any, 0, true⟩
  | 0x0E02 | 0x0E31 => some ⟨.owner, 0, false⟩
  | 0x0E10 | 0x0E20 => some ⟨.houseOrOwner, 0, false⟩
  | 0x0E11 => some ⟨.house, 0, false⟩
  | 0x0E21 => some ⟨.any, 0, false⟩
  | 0x0F01 => some ⟨.houseOrOwner, 0, false⟩
  | 0x0F02 => some ⟨.owner, 0, false⟩
  | 0x0F03 => some ⟨.houseOrOwner, 0, true⟩
  | _ => none

/-- The family byte is one of Table 2.3 (R58). -/
def familyDefined (fam : Nat) : Bool := fam ≤ 0x0F && fam != 0x0D

/-- The signer is a House: its number. -/
def houseSigned (signer : Option Nat) : Bool :=
  match signer with
  | some n => n < 4
  | none => false

/-- A House-signed PASS_INSTALL grants only open enables, and HOUSES names that House alone (R309). -/
def passHouseOk (h : Nat) (p : List Byte) : Bool :=
  byteAt p (64 + 32) % 4 == 0 && byteAt p (64 + 33) == 2 ^ h

/-- A House-signed MARCH_RUN is preserving, on the Desk of one of the House's Tillers (Table 13.3). -/
def State.marchHouseOk (s : State) (h : Nat) (p : List Byte) : Bool :=
  param p 0 == 1 && param p 2 == 0 &&
  (List.range 64).any (fun t => (s.tiller t).pos == param p 1 && s.tillerHouse t == some h)

/-- Check (b) of step 6: function and signer permitted (R41, R176, R216, R309, R400, R419, R461). -/
def State.permitted (s : State) (g : Nat) (signer : Option Nat) (p : List Byte) : Bool :=
  let op := pkOpcode p
  let h := s.houseOf g
  if isFast op then s.flag (Reg.fnThr g) F.FnThr.fast
  else
    match opDesc op with
    | none => true
    | some d =>
      let base := match d.auth with
        | .any => true
        | .owner => signer == some ownerSigner
        | .house => houseSigned signer
        | .houseOrOwner => signer.isSome
        | .timeMaster =>
          s.flag Reg.timeCtl F.TimeCtl.masterEn && s.fld Reg.timeCtl F.TimeCtl.masterGfn == g
        | .journalAdmin => s.isJa h g
      let own (n : Nat) : Bool := 64 ≤ n || s.houseOf n == h
      base &&
      (match op with
       | 0x0101 => own (param p 0 % 64)
       | 0x0124 => own (byteAt p 73)
       | 0x0125 => own (param p 0 % 64)
       | 0x0E20 => !houseSigned signer || s.marchHouseOk h p
       | 0x0F01 => !houseSigned signer || passHouseOk h p
       | _ => true)

/-! ### Field checks -/

/-- A list of checks. -/
abbrev fields (l : List Check) : List Check := l

/-- The opcode takes exactly `n` own extension words, which its section fixes (R55). -/
def ownWords (p : List Byte) (n : Nat) : List Check := fields [(50, pkOwnWords p == n)]

/-- Field checks of a key specification in extension word `w` (R163, R164, R177). -/
def specChecks (p : List Byte) (w : Nat) : List Check :=
  let o := extOff w 0
  let a : Word := BitVec.ofNat 64 (le p o 8)
  let u := attrUsage a
  let ty := attrType a
  let kl := attrKlen a
  fields [(o, a.toNat % 256 == 0),
   (o + 1, kl == 0 || (16 ≤ kl && kl ≤ 32)),
   (o + 4, !attrBit a 32 && !attrBit a bSealed && !attrBit a bGenerated && !attrBit a bDual),
   (o + 5, !attrBit a 47),
   (o + 6, (1 ≤ ty && ty ≤ 6 || isAsym ty) && ((ty == 6) == (kl != 0))),
   (o + 7, usageType u ty && (attrModes a &&& usageModes u) == attrModes a),
   (o + 32, byteAt p (o + 32) ≤ 2 && !(attrCounted a && byteAt p (o + 32) == 1))] ++
  wordZero p w 33 36 ++ wordZero p w 40 64

/-- TYPE of the key specification in word `w`. -/
def specType (p : List Byte) (w : Nat) : Nat := byteAt p (extOff w 6)
/-- USAGE of the key specification in word `w`. -/
def specUsage (p : List Byte) (w : Nat) : Nat := byteAt p (extOff w 7)

/-- Length of a signature of a type. -/
def sigLen (ty : Nat) : Nat :=
  match ty with
  | 0x10 => 64 | 0x11 => 96 | 0x12 => 132 | 0x13 => 64
  | 0x14 => 256 | 0x15 => 384 | 0x16 => 512 | 0x17 => 128
  | 0x18 => 2420 | 0x19 => 3309 | 0x1A => 4627
  | _ => 0

/-- Length of an ML-KEM ciphertext. -/
def kemLen (ty : Nat) : Nat :=
  match ty with
  | 0x1B => 768 | 0x1C => 1088 | 0x1D => 1568
  | _ => 0

/-- The AUX_LEN that a family 0x08 operation requires is right (R189). -/
def auxOk (op alg n : Nat) : Bool :=
  match op with
  | 0x0802 => n == sigLen alg
  | 0x0804 => n == kemLen alg
  | 0x0805 => pubLen alg ≤ n && n ≤ 65536
  | _ => n == 0

/-- Field checks of family 0x08 (Table 6.13). -/
def signChecks (op : Nat) (p : List Byte) : List Check :=
  let alg := byteAt p 100
  let input := byteAt p 101
  let ctx := byteAt p 102
  let scheme := byteAt p 103
  ownWords p (if op ≥ 0x0803 then 2 else 1) ++ paramZero p 0 8 ++
  fields [(72, le p 72 4 ≤ 65536), (76, auxOk op alg (le p 76 4)),
   (96, pkKey p 0 != 0 || !(op == 0x0802 || op == 0x0803) || le p 96 4 == pubLen alg),
   (100, isAsym alg && (pkKey p 0 != 0 || ((op != 0x0802 || isSig alg) && (op != 0x0803 || isMlKem alg)))),
   (101, input == 0 || (input == 1 && (isEcc alg || isRsa alg || isMlDsa alg))),
   (102, ctx == 0 || (isMlDsa alg && ctx ≤ 24)),
   (103, if isRsa alg then scheme == 1 || scheme == 2 else scheme == 0)] ++
  wordZero p 0 (40 + min ctx 24) 64 ++
  (if op ≥ 0x0803 then
     specChecks p 1 ++ fields [(extOff 1 1, op == 0x0805 || specType p 1 != 6 || byteAt p (extOff 1 1) == 32),
       (extOff 1 6, op == 0x0805 && specType p 1 ≤ 6 || specType p 1 == 6 || specType p 1 == 3)]
   else [])

/-- Largest value of a counted share type (Table 7.3b); `none` for the mask types. -/
def shareMax (ty : Nat) : Option Nat :=
  match ty with
  | 0x01 => some 8 | 0x02 => some 16 | 0x03 => some 16
  | 0x06 => some 32768 | 0x07 => some 4096 | 0x08 => some 8192 | 0x09 => some 256
  | 0x0B => some 32768
  | 0x0C | 0x0D | 0x0E | 0x0F => some 64
  | _ => none

/-- Field checks of SHARE_SET (Tables 7.3a and 7.3b). -/
def shareChecks (p : List Byte) : List Check :=
  let ty := param p 1
  fields [(52, param p 0 ≤ 3), (53, 1 ≤ ty && ty ≤ 0x0F)] ++ paramZero p 6 8 ++
  (match shareMax ty with
   | some m => fields [(54, le p 54 4 ≤ m)]
   | none => if ty == 5 then paramZero p 4 6 else if ty == 4 || ty == 0x0A then paramZero p 2 6 else []) ++
  (if 1 ≤ ty && ty ≤ 0x0F then ownWords p (if ty == 4 || ty == 0x0A then 1 else 0) else []) ++
  (if ty == 4 then wordZero p 0 8 64 else if ty == 0x0A then wordZero p 0 32 64 else [])

/-- Field checks of DRAM_RGN_SET: the register layouts' reserved bits are 0, OWNER is 0 to 4 (R5, R461). -/
def regionChecks (p : List Byte) : List Check :=
  fields [(52, param p 0 ≤ 15)] ++ paramZero p 1 8 ++ ownWords p 1 ++
  wordZero p 0 2 4 ++ wordZero p 0 6 8 ++ fields [(72, byteAt p 72 ≤ 4), (73, byteAt p 73 &&& 0xCE == 0), (74, byteAt p 74 ≤ 15)] ++
  wordZero p 0 12 64

/-- The reserved bits of DC_CTL in word 0 of DRAM_SET, and the rest of the word, are 0 (R5, R400). -/
def channelChecks (p : List Byte) : List Check :=
  wordZero p 0 0 1 ++ fields [(65, byteAt p 65 % 16 == 0)] ++ wordZero p 0 2 3 ++
  fields [(69, byteAt p 69 % 16 == 0)] ++ wordZero p 0 17 64

/-- Field checks of TEMPLATE_WRITE (Table 7.3a). DEDUCED (log 78). -/
def templateChecks (p : List Byte) : List Check :=
  let i := le p 52 2
  let n := param p 2
  fields [(52, i ≤ 1023), (54, 1 ≤ n && n ≤ 48 && i + n ≤ 1024 && pkOwnWords p == ceilDiv n 8)] ++
  paramZero p 3 8 ++ tailZero p 0 (8 * n) ++
  (List.range (min n 48)).map (fun k => (64 + 8 * k + 6, le p (64 + 8 * k + 6) 2 % 2 ^ 15 == 0))

/-- A 4 KB aligned address field with no bit above bit 43 (R241). -/
def areaOk (v : Nat) : Bool := v % 4096 == 0 && v < 2 ^ 44

/-- Field checks of the journal settings (Table 8.5, R241). -/
def jsetChecks (op : Nat) (p : List Byte) : List Check :=
  match op with
  | 0x0120 => paramZero p 0 8 ++ ownWords p 1 ++ fields [(64, areaOk (le p 64 8)),
      (72, 12 ≤ byteAt p 72 && byteAt p 72 ≤ 28)] ++ wordZero p 0 9 64
  | 0x0121 => paramZero p 0 8 ++ ownWords p 1 ++ fields [(64, areaOk (le p 64 8)),
      (72, byteAt p 72 == 0 || (12 ≤ byteAt p 72 && byteAt p 72 ≤ 28))] ++ wordZero p 0 9 64
  | 0x0122 => ownWords p 0 ++ fields [(56, decide (le p 52 4 < le p 56 4))]
  | 0x0123 => paramZero p 0 8 ++ ownWords p 1 ++ fields [(64, areaOk (le p 64 8)),
      (72, 4 ≤ byteAt p 72 && byteAt p 72 ≤ 16), (73, 1 ≤ le p 73 4 && le p 73 4 ≤ 65536)] ++
      wordZero p 0 13 64
  | 0x0124 => paramZero p 0 8 ++ ownWords p 1 ++ fields [(64, le p 64 8 % 4096 == 0),
      (72, 4 ≤ byteAt p 72 && byteAt p 72 ≤ 20), (73, byteAt p 73 ≤ 63), (74, byteAt p 74 ≤ 1),
      (75, 10 ≤ le p 75 2)] ++ wordZero p 0 13 64
  | _ => ownWords p 0 ++ fields [(52, param p 0 ≤ 63), (53, param p 1 ≤ 1)] ++ paramZero p 2 8

/-- The range of JRNL_READ, JRNL_SEAL_READ and JRNL_RETIRE against the journal as it stands (R241). -/
def State.jrangeChecks (s : State) (h op : Nat) (p : List Byte) : List Check :=
  let j := (s.house h).j
  let v := le p 52 8
  match op with
  | 0x0B02 =>
    let n := le p 64 4
    fields [(52, j.retired ≤ v && decide (v < j.next)), (64, 1 ≤ n && n ≤ 4096 &&
      !(decide (j.retired ≤ v) && decide (v < j.next) && decide (j.next < v + n)))]
  | 0x0B03 =>
    let keep := 2 ^ s.fld (Reg.jrSeal h) F.JrSeal.slog2
    fields [(52, decide (v < j.sealno) && decide (j.sealno ≤ v + keep) && decide (j.sealFrom ≤ v))]
  | 0x0B04 => fields [(52, j.retired ≤ v && v ≤ j.next)]
  | _ => []

/-- Field checks of MARKS_CONFIG (Table 15.7): an all-zero unit entry is unused (log entry 16). -/
def marksChecks (p : List Byte) : List Check :=
  paramZero p 0 8 ++ ownWords p 1 ++
  fields [(64, areaOk (le p 64 8)), (72, 4 ≤ byteAt p 72 && byteAt p 72 ≤ 20)] ++ wordZero p 0 57 64 ++
  ((List.range 8).map (fun k =>
    let o := 73 + 6 * k
    let used := (slice p o 6).any (· != 0)
    fields [(o, !used || (72 ≤ le p o 2 && le p o 2 ≤ 187)), (o + 2, byteAt p (o + 2) ≤ 3),
     (o + 3, byteAt p (o + 3) ≤ 3)])).flatten

/-- Index range of a unit kind of Table 13.3. -/
def marchIndexOk (kind i : Nat) : Bool :=
  match kind with
  | 1 | 4 => i ≤ 71
  | 2 => i ≤ 17
  | 3 => i ≤ 7
  | _ => true

/-- PARAM is reserved and the opcode takes no own extension word. -/
def noFields (p : List Byte) : List Check := ownWords p 0 ++ paramZero p 0 8

/-- Field checks of an opcode beside the fast path (Table 2.5 (c)).
DESIGN CHOICE (log 16). DEDUCED (log 78, 79). -/
def State.opChecks (s : State) (h : Nat) (p : List Byte) : List Check :=
  let op := pkOpcode p
  match op with
  | 0x0080 => ownWords p 0 ++ fields [(52, param p 0 ≤ 2), (53, param p 1 ≤ 12), (54, param p 2 ≤ 50),
      (55, param p 3 ≤ 15), (56, 1 ≤ param p 4), (57, param p 5 ≤ 15),
      (58, 50 ≤ le p 58 2 && le p 58 2 ≤ 10000)]
  | 0x0081 => ownWords p 0 ++ fields [(52, !(param p 0).testBit 6)] ++ paramZero p 1 8
  | 0x00A0 => ownWords p 0 ++ fields [(52, le p 52 2 ≤ 155), (54, le p 54 2 ≤ 178 || le p 54 2 == 0xFFFF),
      (56, param p 4 ≤ 1)] ++ paramZero p 5 8
  | 0x00A1 => ownWords p 0 ++ fields [(52, le p 52 2 ≤ 63), (54, le p 54 2 ≤ 63)] ++ paramZero p 6 8
  | 0x00A2 => ownWords p 0 ++ fields [(52, le p 52 2 ≤ 155)] ++ paramZero p 2 8
  | 0x00C0 => ownWords p 0 ++ fields [(52, le p 52 4 ≤ 10000)] ++ paramZero p 4 8
  | 0x00C1 => ownWords p 1 ++ fields [(56, param p 4 ≤ 7)] ++ paramZero p 5 8 ++ wordZero p 0 8 64
  | 0x00C2 => ownWords p 0 ++ fields [(52, param p 0 ≤ 11), (53, param p 1 ≤ 1)] ++ paramZero p 2 8
  | 0x00C3 => ownWords p 1 ++ paramZero p 0 8 ++ fields [(72, le p 72 4 ≤ 2 ^ 25)] ++ wordZero p 0 12 64
  | 0x00C4 => ownWords p 0 ++ fields [(52, param p 0 ≤ 1)] ++ paramZero p 1 8
  | 0x0101 => ownWords p 1 ++ fields [(52, param p 0 ≤ 63), (53, le p 53 2 ≤ 32768), (55, param p 3 ≤ 1)] ++
      paramZero p 6 8 ++ fields [(64, le p 64 2 ≤ 1023), (66, le p 66 2 ≤ 1024)] ++ wordZero p 0 4 64
  | 0x0102 => templateChecks p
  | 0x0103 => ownWords p 0 ++ paramZero p 6 8
  | 0x0104 => ownWords p 0 ++ fields [(52, param p 0 ≤ 1)] ++ paramZero p 1 8
  | 0x0105 => ownWords p 0 ++ fields [(52, param p 0 ≤ 15)] ++ paramZero p 1 8
  | 0x0106 => ownWords p 0 ++ paramZero p 4 8
  | 0x0107 => ownWords p 0 ++ fields [(52, param p 0 ≤ 1)] ++ paramZero p 1 8
  | 0x0120 | 0x0121 | 0x0122 | 0x0123 | 0x0124 | 0x0125 => jsetChecks op p
  | 0x0181 => ownWords p 0 ++ fields [(52, param p 0 ≤ 3), (53, param p 1 ≤ 15)] ++ paramZero p 2 8
  | 0x0182 => shareChecks p
  | 0x0183 => regionChecks p
  | 0x0184 | 0x0185 | 0x0188 => ownWords p 0 ++ fields [(52, param p 0 ≤ 3)] ++ paramZero p 1 8
  | 0x0186 => ownWords p 0 ++ fields [(52, 10 ≤ le p 52 2 && le p 52 2 ≤ 10000)] ++ paramZero p 2 8
  | 0x0187 =>
    let n := le p 54 2
    fields [(52, param p 0 ≤ 3), (54, 1 ≤ n && n ≤ 384 && pkOwnWords p == wordsFor n)] ++
      paramZero p 1 2 ++ paramZero p 4 8 ++ tailZero p 0 n
  | 0x0203 =>
    if pkOwnWords p = 1 then paramZero p 0 8 ++ fields [(72, le p 72 4 == 4096)] ++ wordZero p 0 12 64
    else ownWords p 2 ++ paramZero p 0 8 ++ wordZero p 1 24 64
  | 0x0281 =>
    let n := le p 52 2
    fields [(52, 1 ≤ n && n ≤ 384 && pkOwnWords p == wordsFor n), (54, param p 2 ≤ 2)] ++
      paramZero p 3 4 ++ tailZero p 0 n
  | 0x0282 => ownWords p 0 ++ fields [(52, param p 0 == 0x42 || param p 0 == 0x44)] ++ paramZero p 1 8
  | 0x0283 => ownWords p 1 ++ paramZero p 0 8 ++ specChecks p 0 ++ fields [(70, specType p 0 != 0x17)]
  | 0x0284 => ownWords p 2 ++ paramZero p 0 8 ++ specChecks p 0 ++
      fields [(71, specUsage p 0 == 0x11 || specUsage p 0 == 0x13),
       (extOff 1 32, le p (extOff 1 32) 4 == pubLen (specType p 0)),
       (extOff 1 36, byteAt p (extOff 1 36) == specType p 0)] ++
      wordZero p 1 0 24 ++ wordZero p 1 37 64
  | 0x0286 => ownWords p 1 ++ fields [(52, param p 0 == 2 || param p 0 == 3)] ++ paramZero p 1 8 ++
      specChecks p 0 ++ fields [(70, specType p 0 ≤ 6)]
  | 0x0287 => ownWords p 0 ++ fields [(52, param p 0 ≤ 1)] ++ paramZero p 1 8
  | 0x02A1 => ownWords p 1 ++ paramZero p 0 8 ++ wordZero p 0 48 64
  | 0x02C0 => ownWords p 0 ++ fields [(53, param p 1 == 0), (54, param p 2 % 16 == 0)] ++ paramZero p 4 8
  | 0x0801 | 0x0802 | 0x0803 | 0x0804 | 0x0805 => signChecks op p
  | 0x0902 | 0x0903 | 0x0904 | 0x0905 | 0x0906 =>
    let n := le p 52 2
    fields [(52, n ≤ 448 && pkOwnWords p == max 1 (wordsFor n))] ++
      (if op == 0x0906 then fields [(54, 1 ≤ param p 2 && param p 2 ≤ 64)] ++ paramZero p 3 8
       else paramZero p 2 8) ++ tailZero p 0 n
  | 0x0A01 => fields [(54, decide (le p 54 2 < (s.chutesOf (s.chuteSide h)).length))] ++ paramZero p 4 8
  | 0x0B02 => ownWords p 1 ++ wordZero p 0 4 64 ++ s.jrangeChecks h op p
  | 0x0B03 | 0x0B04 => ownWords p 0 ++ s.jrangeChecks h op p
  | 0x0C02 => ownWords p 0 ++ fields [(52, le p 52 8 % 4 == 0)]
  | 0x0E11 => marksChecks p
  | 0x0E20 => ownWords p 0 ++ fields [(52, 1 ≤ param p 0 && param p 0 ≤ 4),
      (53, marchIndexOk (param p 0) (param p 1)), (54, param p 2 ≤ 1)] ++ paramZero p 3 8
  | 0x0E21 => ownWords p 0 ++ fields [(52, 1 ≤ param p 0 && param p 0 ≤ 4),
      (53, marchIndexOk (param p 0) (param p 1))] ++ paramZero p 2 8
  | 0x0E31 => ownWords p 1 ++ fields [(52, param p 0 ≤ 3)] ++ paramZero p 1 8 ++ channelChecks p
  | 0x0F01 => ownWords p 1 ++ paramZero p 0 8
  | _ => noFields p

/-- The header checks common to every opcode (Table 2.5 (c)): reserved FLAGS bits, PPHASE in an SQ
packet, OUTPTR alignment when OUT_EN is 1, reserved bits of EXT_COUNT and VECTOR, the unused key
handles, and the reserved bytes of the authentication word. -/
def headChecks (p : List Byte) (push : Bool) (keys : Nat) : List Check :=
  fields [(2, pkFlags p / 16 == 0 && (push || !pkPphase p)),
   (16, 0 < keys || pkKey p 0 == 0), (24, 1 < keys || pkKey p 1 == 0), (32, 2 < keys || pkKey p 2 == 0),
   (40, !pkOutEn p || pkOutPtr p % 64 == 0), (50, byteAt p 50 < 8), (51, byteAt p 51 < 64)] ++
  (if pkAuthExt p then zeroFrom (64 * pkExtCount p) (authWord p) 17 64 else [])

/-- TEMPLATE is valid, and the template it names: RESULT and TCODE (R96). -/
def State.template (s : State) (g : Nat) (t : Nat) : Option (BitVec 32 × BitVec 16) :=
  let n := min (s.fld (Reg.fnBell g) F.FnBell.tplCount) 1024
  let i := s.fld (Reg.fnBell g) F.FnBell.tplBase + t
  if n = 0 ∧ t = 0 then some (0, 0)
  else if t < n ∧ i < 1024 then
    let v := s.rd (Reg.tpl (1024 * s.houseOf g + i))
    if F.Tpl.valid.get v = 1 then
      some (BitVec.ofNat 32 (F.Tpl.result.get v), BitVec.ofNat 16 (F.Tpl.tcode.get v))
    else none
  else none

/-- The key handles an opcode uses. -/
def opKeys (op : Nat) : Nat :=
  if isFast op then fastKeys op else ((opDesc op).map (·.keys)).getD 0

/-- Does a packet's opcode produce output beyond RESULT? -/
def opOut (p : List Byte) : Bool :=
  if isFast (pkOpcode p) then decide (0 < fastOutLen p)
  else ((opDesc (pkOpcode p)).map (·.out)).getD false

/-- What step 6 decides (Table 2.5). -/
inductive Verdict where
  | pass
  | format (off : Nat)
  | notPermitted
  deriving DecidableEq, Repr

/-- Step 6: checks (a) to (e) in order (R65, R105). -/
def State.stepSix (s : State) (g : Nat) (push : Bool) (signer : Option Nat) (p : List Byte) : Verdict :=
  let op := pkOpcode p
  let h := s.houseOf g
  if !familyDefined (pkFamily p) then .format 1
  else if !isFast op && (opDesc op).isNone then .format 0
  else if !s.permitted g signer p then .notPermitted
  else
    let cs := headChecks p push (opKeys op) ++ fields [(48, (s.template g (pkTemplate p)).isSome)] ++
      (if isFast op then fastChecks p else s.opChecks h p)
    match lowestBad cs with
    | some o => .format o
    | none =>
      let outBad := if isFast op then opOut p != pkOutEn p else opOut p && !pkOutEn p
      if outBad then .format 2
      else if isFast op then
        match dispatchCount p with
        | some b => if s.bmax h < b then .format 0 else .pass
        | none => .pass
      else .pass

end Sys2Proof.Machine
end

