-- ==== Sys2Proof/Machine/Ingress.lean ====
section
/-! DEFINITION. The six ingress steps (Table 2.5): step 1 and the streams of a port, credits and reply
space, authentication with its counters and seals, slate allocation, the deadline test, dispatch
checks, arming and dispatch (R42 to R77, R82 to R87, R104, R463). -/

namespace Sys2Proof.Machine

/-! ### Wake events (R415) -/

/-- A wake source of WAKE_STAT. -/
inductive WakeSrc where
  | pin
  | time
  | doorbell (g : Nat)
  deriving DecidableEq, Repr

/-- Set the source's bit in WAKE_STAT; DB_GFN names the first waking doorbell. -/
def State.latchWake (s : State) (w : WakeSrc) : State :=
  match w with
  | .pin => s.setFlag Reg.wakeStat F.WakeStat.wakeIn true
  | .time => s.setFlag Reg.wakeStat F.WakeStat.time true
  | .doorbell g =>
    let s := if s.flag Reg.wakeStat F.WakeStat.doorbell then s
      else s.setFld Reg.wakeStat F.WakeStat.dbGfn g
    s.setFlag Reg.wakeStat F.WakeStat.doorbell true

/-- Begin the exit from STOP: VCORE_EN is driven high (R416 step 1). -/
def State.beginExit (s : State) : State :=
  (s.setFld Reg.pwrStat F.PwrStat.state pwrExiting).post (.vcoreEn true)

/-- A wake event by PWR_STAT.STATE (R415): in STOP it starts the exit; during entry it is latched and
LATE sets; during exit it merges; while entry is queued it removes the queued entry. DEDUCED (log 13). -/
def State.wake (s : State) (w : WakeSrc) : State :=
  let st := s.fld Reg.pwrStat F.PwrStat.state
  if st = pwrStop then (s.latchWake w).beginExit
  else if st = pwrEntering then
    let s := (s.latchWake w).setFlag Reg.wakeStat F.WakeStat.late true
    { s with power := { s.power with wakeLatched := true } }
  else if st = pwrExiting then s.latchWake w
  else if st = pwrQueued then
    s.unqueueStop
  else s

/-! ### Step 1 (R46, R47, R52, R66, R463) -/

/-- The function has a packet in its SQ stream for step 1. -/
def State.sqReady (s : State) (g : Nat) : Bool :=
  s.flag (Reg.fnCtl g) F.FnCtl.en &&
  s.fld (Reg.ringPtr g) F.RingPtr.sqHead != s.fld (Reg.ringPtr g) F.RingPtr.sqTail

/-- The function has a packet in its push stream for step 1. -/
def State.pushReady (s : State) (g : Nat) : Bool := !(s.fn g).pushQ.isEmpty

/-- The function that step 1 of a port serves next, round-robin (R463). -/
def State.stepOneFn (s : State) (port : Nat) : Option Nat :=
  ((List.range 16).map (fun i => 16 * port + ((s.port port).rr + i) % 16)).find?
    (fun g => s.sqReady g || s.pushReady g)

/-- Does the function's next turn go to its push stream? (R463) -/
def State.pushTurnNow (s : State) (g : Nat) : Bool :=
  s.pushReady g && (!s.sqReady g || (s.fn g).pushTurn)

/-- The bytes of the packet in push slot `n`. -/
def Fn.slotBytes (f : Fn) (n : Nat) : List Byte :=
  let b := Memory.bytes f.pushMem (512 * n) 512
  b.take (pkLength b)

/-- A packet fails step 1 and vanishes (R66). -/
def State.vanish (s : State) (g : Nat) (push : Option Nat) : State :=
  let s := s.satFld (Reg.errcnt g) F.Errcnt.hcFail 1
  let s := (s.setFlag (Reg.fnStat g) F.FnStat.hcFail true).markUnit (184 + portOf g) 0x0502 1
  let s := s.modFn g (fun f => { f with pushBusy := f.pushBusy.filter (fun n => push != some n) })
  if s.flag (Reg.fnCtl g) F.FnCtl.errNotify then s.msix g (s.fld (Reg.fnCtl g) F.FnCtl.errVec) else s

/-- A packet at step 1: the host check commits it to its stream, or it vanishes (R66, R139). -/
def State.hostCheck (s : State) (g : Nat) (push : Option Nat) (pkt : List Byte) (husk : Bool) : State :=
  if husk ∧ hcheckOk pkt then
    let c : Committed := { pkt := pkt, push := push, tc := s.dtime, epoch := (s.fn g).epoch }
    (s.markUnit (184 + portOf g) 0x0501 1).modFn g (fun f => if push.isSome then { f with waitPush := f.waitPush ++ [c] }
                        else { f with waitSq := f.waitSq ++ [c] })
  else s.vanish g push

/-- Bytes of the first read of an SQ entry: FETCH_LEN × 64, where 0 counts as 1 and values above 8 as 8
(R47). -/
def State.fetchBytes (s : State) (g : Nat) : Nat := 64 * max 1 (min (s.fld (Reg.fnCtl g) F.FnCtl.fetchLen) 8)

/-- The read requests for an SQ entry whose packet takes `n` bytes: the first, and one for the remainder where
EXT_COUNT needs more (R44, R47). -/
def State.fetchEntry (s : State) (g i n : Nat) : State :=
  let k := s.fetchBytes g
  let s := s.post (.fetch g (s.sqAddr g i) k)
  if k < n then s.post (.fetch g (s.sqAddr g i + k) (n - k)) else s

/-- The SQ packet of function `g` passes step 1: its entry is read and consumed (R47). -/
def State.stepOneSq (s : State) (g : Nat) (fetched : List Byte) (husk : Bool) : State :=
  let i := s.fld (Reg.ringPtr g) F.RingPtr.sqHead
  let s := s.fetchEntry g i (pkLength fetched)
  let pkt := slice fetched 0 (pkLength fetched)
  ((s.setFld (Reg.ringPtr g) F.RingPtr.sqHead ((i + 1) % s.sqSize g)).modFn g (fun f =>
    { f with pushTurn := true })).hostCheck g none pkt husk

/-- The oldest push packet of function `g` passes step 1 (R52). -/
def State.stepOnePush (s : State) (g : Nat) (husk : Bool) : State :=
  match (s.fn g).pushQ with
  | [] => s
  | n :: rest =>
    let pkt := (s.fn g).slotBytes n
    (s.modFn g (fun f => { f with pushQ := rest, pushTurn := false })).hostCheck g (some n) pkt husk

/-! ### Streams past step 1 -/

/-- The packets of a stream that wait at step 2. -/
def Fn.waiting (f : Fn) (st : Stream) : List Committed :=
  match st with
  | .sq => f.waitSq
  | .push => f.waitPush

/-- The stream's packet at step 3. -/
def Fn.sealing (f : Fn) (st : Stream) : Option Sealing :=
  match st with
  | .sq => f.sealSq
  | .push => f.sealPush

/-- Remove the stream's first waiting packet. -/
def State.popWaiting (s : State) (g : Nat) (st : Stream) : State :=
  s.modFn g (fun f => match st with
    | .sq => { f with waitSq := f.waitSq.drop 1 }
    | .push => { f with waitPush := f.waitPush.drop 1 })

/-- Set the stream's packet at step 3. -/
def State.setSealing (s : State) (g : Nat) (st : Stream) (v : Option Sealing) : State :=
  s.modFn g (fun f => match st with
    | .sq => { f with sealSq := v }
    | .push => { f with sealPush := v })

/-! ### Step 3 (R71 to R77) -/

/-- The House counter of a function: its value and its sealed value (R74). -/
def State.houseCtr (s : State) (g : Nat) : Nat × Nat := Map.get (0, 0) (s.house (s.houseOf g)).ctr g
/-- The counter in force for a signer. -/
def State.ctrOf (s : State) (g : Nat) (owner : Bool) : Nat × Nat :=
  if owner then s.ownerCtr else s.houseCtr g
/-- Set the counter of a signer. -/
def State.setCtr (s : State) (g : Nat) (owner : Bool) (v : Nat × Nat) : State :=
  if owner then { s with ownerCtr := v }
  else s.modHouse (s.houseOf g) (fun h => { h with ctr := Map.put (0, 0) h.ctr g v })

/-- The command authentication key of a signer, when it is loaded (R71). -/
def State.signKey (s : State) (h signer : Nat) : Option (List Byte) :=
  if signer = ownerSigner then s.dev.ock.map (fun k => toBytesBE k.toNat 32)
  else if signer = h ∧ h < 4 then (Map.find h s.dev.cmd).map (fun k => toBytesBE k.toNat 32)
  else none

/-- The command must be authenticated (R59). -/
def mustAuth (p : List Byte) : Bool := isCritical (pkOpcode p) || pkAuthExt p

/-- What step 3 decides (R73). -/
inductive AuthRes where
  | skip
  | fail
  | stale
  | accept (signer : Nat)
  | sealFirst (signer : Nat)
  deriving DecidableEq, Repr

/-- The authentication of a packet (R73 steps 1 to 6). -/
def State.authenticate (s : State) (g : Nat) (p : List Byte) : AuthRes :=
  if !mustAuth p then .skip
  else if !pkAuthExt p || pkExtCount p == 0 then .fail
  else
    match s.signKey (s.houseOf g) (authSigner p) with
    | none => .fail
    | some key =>
      if (cmacKey 3 key (authMessage g p)).take 8 ≠ authTag p then .fail
      else
        let c := s.ctrOf g (authSigner p == ownerSigner)
        if authCtr p ≤ c.1 then .stale
        else if authCtr p < c.2 + 4096 then .accept (authSigner p)
        else .sealFirst (authSigner p)

/-- The counter that a packet uses at step 3: the owner's (`some none`), or that of the packet's function
(R73, R74). -/
def State.ctrName (s : State) (g : Nat) (p : List Byte) : Option (Option Nat) :=
  if !mustAuth p || !pkAuthExt p || pkExtCount p == 0 then none
  else if authSigner p = ownerSigner then some none
  else if authSigner p = s.houseOf g then some (some g)
  else none

/-- A counter is being sealed for a command (R74). -/
def State.ctrBusy (s : State) (c : Option Nat) : Bool :=
  match c with
  | none => s.fns.any (fun e => [e.2.sealSq, e.2.sealPush].any (fun x => (x.map (·.owner)).getD false))
  | some g => [(s.fn g).sealSq, (s.fn g).sealPush].any (fun x => (x.map (fun y => !y.owner)).getD false)

/-! ### Step 2 (R49, R67, R68, R70) -/

/-- The packet needs a CQ entry: an SQ packet committed since the last function level reset (R411). -/
def State.needsCq (s : State) (g : Nat) (c : Committed) : Bool :=
  c.push.isNone && c.epoch == (s.fn g).epoch

/-- The packet may take a credit now (R67, R102, R237, R410). -/
def State.mayPass (s : State) (g : Nat) (c : Committed) : Bool :=
  let h := s.houseOf g
  s.inService h && !s.creditsStopped h g && decide ((s.fn g).inflight < s.credLimit g) &&
  (!s.needsCq g c || s.cqFree g)

/-- Take a credit and, for an SQ packet, a CQ reservation. -/
def State.takeCredit (s : State) (g : Nat) (c : Committed) : State :=
  let n := if s.needsCq g c then 1 else 0
  s.modFn g (fun f => { f with inflight := f.inflight + 1, cqReserved := f.cqReserved + n })

/-- Answer JOURNAL_FULL (R68). -/
def State.journalFull (s : State) (g : Nat) (c : Committed) : State :=
  let s := s.satFld (Reg.errcnt g) F.Errcnt.jfull 1
  if c.epoch = (s.fn g).epoch then
    s.deliver g c.push c.pkt
      { status := St.journalFull, result := 0, neg := false, padded := false, fwd := false,
        out := none, jseq := none }
  else s.modFn g (fun f => { f with pushBusy := f.pushBusy.filter (fun n => c.push != some n) })

/-- A rejection at step 3 or 4: its record, and its reply after the record (R226). -/
def State.reject (s : State) (g : Nat) (c : Committed) (status : Nat) : State :=
  let s := if status = St.authFail ∨ status = St.counterStale then
      s.satFld (Reg.errcnt g) F.Errcnt.authrej 1 else s
  s.record (s.houseOf g) (.reject
    (Reject.mk g c.epoch c.push c.pkt status s.dtime))

/-! ### Steps 4 to 6 (R82 to R87, R96) -/

/-- Slates of a House that are not FREE. -/
def State.slatesUsed (s : State) (h : Nat) : List (Nat × Slate) :=
  s.slates.filter (fun e => e.2.st != .free && e.2.house == h)

/-- The House's share has a slate entry and `w` operand words (R82). -/
def State.slateRoom (s : State) (h w : Nat) : Bool :=
  let us := s.slatesUsed h
  let share := s.slateShare h
  decide (us.length < share) &&
  decide ((us.map (fun e => 1 + pkExtCount e.2.pkt)).sum + w ≤ 2 * share)

/-- REPLY_ALLOW in force: values below 100 are taken as 100 (R84). -/
def State.replyAllow (s : State) (g : Nat) : Nat := max 100 (s.fld (Reg.fnBell g) F.FnBell.replyAllow)

/-- The EXAM regime is in force for a House. -/
def State.examOn (s : State) (h : Nat) : Bool := s.flag (Reg.thrHouse h) F.ThrHouse.exam

/-- A fast-path slate armed with its stand-in point before t_c + DECL counts in SHORT_DL (R221). -/
def State.countShort (s : State) (id : Nat) : State :=
  let sl := s.slate id
  let decl := s.fld (Reg.houseBound sl.house) F.HouseBound.decl
  if isFast (pkOpcode sl.pkt) ∧ decl ≠ 0 ∧ sl.standinPt < sl.tc + decl then
    s.satFld (Reg.houseCnt sl.house) F.HouseCnt.shortDl 1
  else s

/-- The path of an opcode (R104, R303). -/
def pathOf (op : Nat) : Path :=
  if isFast op then .thresher else if op = 0x0A01 then .carrel else .tabqua

/-- Dispatch a slate that has become LIVE: the EXAM decision of R103 and R132, then key resolution or
the wait for a Chute credit. For a packet beyond a lane limit R105 computes no B_d, and its release time is
taken with B_d = 0. DEDUCED (log 91). -/
def State.dispatch (s : State) (id : Nat) : State :=
  let sl := s.slate id
  let exam := s.examOn sl.house
  let s := s.setSlate id { sl with dispatched := true, exam := exam }
  if sl.path = .thresher then
    if exam then
      let bd := (dispatchCount sl.pkt).getD 0
      match s.examRelease sl.house sl.tc bd sl.pkt with
      | none => s
      | some r =>
        let s := s.modSlate id (fun x => { x with release := some r })
        if sl.standinPt < r then s else s.startResolution id
    else s.startResolution id
  else s.modSlate id (fun x => { x with work := .credit })

/-- The Bell arms a slate at the end of step 6 (R84, R86, R96): a stand-in point already reached is
claimed at once, otherwise the slate is LIVE and dispatched. -/
def State.arm (s : State) (id : Nat) (tpl : BitVec 32 × BitVec 16) : State :=
  let sl := s.slate id
  let pt := pkDeadline sl.pkt - s.replyAllow sl.gfn
  let s := s.setSlate id { sl with standinPt := pt, tplResult := tpl.1, tplTcode := tpl.2,
                                   dueAt := max pt s.dtime, path := pathOf (pkOpcode sl.pkt) }
  let s := s.countShort id
  if pt ≤ s.dtime then (s.modSlate id (fun x => { x with dueAt := s.dtime })).standin id
  else (s.modSlate id (fun x => { x with st := .live, armed := true })).dispatch id

/-- Steps 5 and 6 of an admitted slate. -/
def State.stepsFiveSix (s : State) (id : Nat) : State :=
  let sl := s.slate id
  if pkDeadline sl.pkt ≤ s.dtime then
    (s.satFld Reg.bellCnt F.BellCnt.late 1).fail id St.lateArrival 0
  else if s.dtime + 2 ^ 37 < pkDeadline sl.pkt then s.fail id St.format 8
  else
    match s.stepSix sl.gfn sl.push.isSome sl.signer sl.pkt with
    | .format o => s.fail id St.format o
    | .notPermitted => s.fail id St.notPermitted 0
    | .pass =>
      match s.template sl.gfn (pkTemplate sl.pkt) with
      | some t => s.arm id t
      | none => s

/-- Steps 4 to 6 of a packet that has passed step 3 (R82). Which free slate ID is taken is
unpredictable. -/
def State.stepFour (s : State) (g : Nat) (c : Committed) (signer : Option Nat) : State :=
  let h := s.houseOf g
  if s.slateRoom h (1 + pkExtCount c.pkt) then
    match s.pickFree 32768 (fun i => (s.slate i).st != .free) with
    | (some id, s) =>
      let sl : Slate :=
        { st := .admitted
          gen := (s.slate id).gen
          house := h
          gfn := g
          epoch := c.epoch
          push := c.push
          pkt := c.pkt
          tc := c.tc
          signer := signer }
      (s.setSlate id sl).stepsFiveSix id
    | (none, s) => s.reject g c St.noSlate
  else s.reject g c St.noSlate

/-- Step 3 and the steps after it, for a packet that holds its credit. -/
def State.stepThree (s : State) (g : Nat) (st : Stream) (c : Committed) : State :=
  match s.authenticate g c.pkt with
  | .skip => s.stepFour g c none
  | .fail => s.reject g c St.authFail
  | .stale => s.reject g c St.counterStale
  | .accept n =>
    let owner := n == ownerSigner
    (s.setCtr g owner (authCtr c.pkt, (s.ctrOf g owner).2)).stepFour g c (some n)
  | .sealFirst n =>
    s.setSealing g st (some ⟨c, authCtr c.pkt, n == ownerSigner, s.uptime⟩)

/-- A packet of the stream waits at step 3. -/
def State.atStepThree (s : State) (g : Nat) (st : Stream) : Bool :=
  s.stepQ.any (fun e => e.gfn == g && e.st == st)

/-- Two owner-signed packets arrive at step 3 together and the second is of a lower function: it goes first
(R74). -/
def Arrival.ahead (a b : Arrival) : Bool :=
  mustAuth a.pk.pkt && mustAuth b.pk.pkt && authSigner a.pk.pkt == ownerSigner &&
  authSigner b.pk.pkt == ownerSigner && a.time == b.time && decide (a.gfn < b.gfn)

/-- Insert an arrival before the first packet that it goes ahead of. -/
def arrive (a : Arrival) : List Arrival → List Arrival
  | [] => [a]
  | b :: l => if a.ahead b then a :: b :: l else b :: arrive a l

/-- A packet that has taken its credit arrives at step 3, behind the packets of its stream that wait there
(R74, R77). -/
def State.arriveThree (s : State) (g : Nat) (st : Stream) (c : Committed) : State :=
  let a : Arrival := ⟨g, st, c, s.dtime⟩
  { s with stepQ := if s.atStepThree g st then s.stepQ ++ [a] else arrive a s.stepQ }

/-- The first packet of the stream that waits at step 3, with the arrivals before and after it. -/
def splitArrival (g : Nat) (st : Stream) : List Arrival → Option (List Arrival × Arrival × List Arrival)
  | [] => none
  | e :: l =>
    if e.gfn = g ∧ e.st = st then some ([], e, l)
    else (splitArrival g st l).map (fun r => (e :: r.1, r.2.1, r.2.2))

/-- The first packet of the stream at step 3 goes on, once no packet of the stream waits for a seal and no
earlier command holds or waits for its counter (R74, R77). -/
def State.goThree (s : State) (g : Nat) (st : Stream) : State :=
  match (s.fn g).sealing st, splitArrival g st s.stepQ with
  | none, some (l, e, r) =>
    let c := s.ctrName g e.pk.pkt
    let waits := match c with
      | none => false
      | some n => s.ctrBusy n || l.any (fun x => s.ctrName x.gfn x.pk.pkt == c)
    if waits then s else { s with stepQ := l ++ r }.stepThree g st e.pk
  | _, _ => s

/-- The first waiting packet of a stream tries step 2: it is answered JOURNAL_FULL, waits, or takes its credit
and arrives at step 3 (R65, R67, R68). -/
def State.tryTwo (s : State) (g : Nat) (st : Stream) : State :=
  match (s.fn g).waiting st with
  | c :: _ =>
    if s.atFullMark (s.houseOf g) g then
      if !s.needsCq g c || s.cqFree g then (s.popWaiting g st).journalFull g c else s
    else if s.mayPass g c then ((s.popWaiting g st).takeCredit g c).arriveThree g st c
    else s
  | [] => s

/-- A stream's ingress advances by one event: its first packet at step 2 tries that step, and its first packet
at step 3 tries steps 3 to 6 (R65). DEDUCED (log 11). -/
def State.stepTwo (s : State) (g : Nat) (st : Stream) : State := (s.tryTwo g st).goThree g st

/-- SQ packets that wait for a CQ entry to be answered JOURNAL_FULL (R68). -/
def State.answerFull (s : State) (g : Nat) : Nat → State
  | 0 => s
  | f + 1 =>
    match (s.fn g).waitSq with
    | c :: _ =>
      if s.atFullMark (s.houseOf g) g && s.cqFree g then
        ((s.popWaiting g .sq).journalFull g c).answerFull g f
      else s
    | [] => s

end Sys2Proof.Machine
end

