-- ==== Sys2Proof/Machine/HostEvents.lean ====
section
/-! DEFINITION. The host's events: doorbells, FN_CTL, the push window, MSI-X unmasking, and the ingress
events of the Roll (R46 to R53, R65 to R79). A command whose condition does not hold has no effect
(log entry 2). -/

namespace Sys2Proof.Machine

/-- BAR0 of function `g` answers: its port's link is up and PORST_N is high (R407, R411). -/
def State.barUp (s : State) (g : Nat) : Bool :=
  decide (g < 64) && !s.power.porst && (s.port (portOf g)).linkUp

/-- A doorbell value out of range is ignored and sets DB_ERR (R46). -/
def State.doorbellError (s : State) (g : Nat) : State := s.setFlag (Reg.fnStat g) F.FnStat.dbErr true

/-- An SQ_TAIL write that is taken: the tail is recorded, and with WAKE_DB and EN it wakes (R46, R414,
R415). -/
def State.takeTail (s : State) (g tail : Nat) : State :=
  let s := s.setFld (Reg.ringPtr g) F.RingPtr.sqTail tail
  if s.flag Reg.pwrCtl F.PwrCtl.wakeDb ∧ s.flag (Reg.fnCtl g) F.FnCtl.en then s.wake (.doorbell g)
  else s

/-- A write of SQ_TAIL (R46). -/
def State.sqTailWrite (s : State) (g tail : Nat) : State :=
  if !s.barUp g then s
  else if s.sqSize g ≤ tail then s.doorbellError g
  else s.takeTail g tail

/-- SQ_TAIL_WRITE (R46). -/
def execSqTailWrite (g : Nat) (tail : BitVec 16) (s : State) : Out := .next (s.sqTailWrite g tail.toNat)

/-- A write of CQ_HEAD (R48): consumed entries are free, and packets that wait for one to be answered
JOURNAL_FULL are answered (R68). -/
def State.cqHeadWrite (s : State) (g head : Nat) : State :=
  if !s.barUp g then s
  else if s.cqSize g ≤ head then s.doorbellError g
  else
    let s := s.setFld (Reg.ringPtr g) F.RingPtr.cqHead head
    s.answerFull g (s.fn g).waitSq.length

/-- CQ_HEAD_WRITE (R48). -/
def execCqHeadWrite (g : Nat) (head : BitVec 16) (s : State) : Out := .next (s.cqHeadWrite g head.toNat)

/-- The FN_CTL value after a write: FETCH_LEN ignores the write while EN is 1 (R79). -/
def fnCtlAfter (old v : Word) : Word :=
  let n := F.FnCtl.errVec.set old (F.FnCtl.errVec.get v)
  let n := F.FnCtl.errNotify.set n (F.FnCtl.errNotify.get v)
  let n := F.FnCtl.en.set n (F.FnCtl.en.get v)
  if F.FnCtl.en.get old = 1 then n else F.FnCtl.fetchLen.set n (F.FnCtl.fetchLen.get v)

/-- A write of FN_CTL (R69, R79). -/
def State.fnCtlWrite (s : State) (g : Nat) (v : Word) : State :=
  if s.barUp g then s.wr (Reg.fnCtl g) (fnCtlAfter (s.rd (Reg.fnCtl g)) v) else s

/-- FN_CTL_WRITE (R69, R79). -/
def execFnCtlWrite (g : Nat) (v : BitVec 32) (s : State) : Out := .next (s.fnCtlWrite g (v.setWidth 64))

/-- Size of a function's push window (R42). -/
def pushSize (g : Nat) : Nat := if g % 16 = 0 then 2 ^ 20 else 2 ^ 16

/-- The part cannot take a write to push slot `n` (R52). DEDUCED (log 77). -/
def State.pushRefused (s : State) (g n : Nat) : Bool :=
  (s.fn g).pushBusy.contains n || !s.flag (Reg.fnCtl g) F.FnCtl.en || !s.power.service ||
  s.fld Reg.pwrStat F.PwrStat.state == pwrStop

/-- A discarded push write (R52). -/
def State.pushDiscard (s : State) (g : Nat) : State :=
  (s.satFld (Reg.errcnt g) F.Errcnt.pushOvr 1).setFlag (Reg.fnStat g) F.FnStat.pushOverrun true

/-- A write's part within push slot `n`, from slot offset `o`: it commits the slot for ingress when it covers
bytes 60 to 63 (R51). -/
def State.pushPart (s : State) (g n o : Nat) (data : List Byte) : State :=
  let s := s.modFn g (fun f => { f with pushMem := Memory.store f.pushMem (512 * n + o) data })
  if o ≤ 60 ∧ 64 ≤ o + data.length then
    s.modFn g (fun f => { f with pushBusy := f.pushBusy ++ [n], pushQ := f.pushQ ++ [n] })
  else s

/-- The push slots that `n` bytes from window offset `off` touch, in order. -/
def slotsTouched (off n : Nat) : List Nat :=
  (List.range ((off % 512 + n + 511) / 512)).map (fun i => off / 512 + i)

/-- A write of the push window: discarded whole where the part cannot take it for one of the slots that it
touches, otherwise taken slot by slot (R51, R52). DEDUCED (log 77). -/
def State.pushWrite (s : State) (g off : Nat) (data : List Byte) : State :=
  let ns := slotsTouched off data.length
  if ns.any (fun n => s.pushRefused g n) then s.pushDiscard g
  else ns.foldl (fun (s : State) n =>
    let lo := max off (512 * n)
    let hi := min (off + data.length) (512 * n + 512)
    s.pushPart g n (lo - 512 * n) ((data.drop (lo - off)).take (hi - lo))) s

/-- PUSH_WINDOW_WRITE (R51, R52): a write within the function's push window. -/
def execPushWindowWrite (g off : Nat) (data : List Byte) (s : State) : Out :=
  .next (
    if s.barUp g && decide (off + data.length ≤ pushSize g) && !data.isEmpty then s.pushWrite g off data
    else s)

/-- A host read of the push window returns zeros (R52). DESIGN CHOICE (log 93). -/
def pushRead (n : Nat) : List Byte := zeros n

/-- A vector is unmasked (R78): when pending it sends its message. -/
def State.msixUnmask (s : State) (g vec : Nat) : State :=
  let s := s.setFlag (Reg.msixData g vec) F.MsixData.masked false
  if (s.rd (Reg.msixPba g)).getLsbD vec then
    (s.wr (Reg.msixPba g) (s.rd (Reg.msixPba g) &&& ~~~BitVec.ofNat 64 (2 ^ vec))).sendMsix g vec
  else s

/-- MSIX_UNMASK (R78). -/
def execMsixUnmask (g vec : Nat) (s : State) : Out :=
  .next (if s.barUp g && decide (vec < 64) then s.msixUnmask g vec else s)

/-- PACKET_COMMIT (R66, R463): the next packet of the port's round-robin passes step 1. `fetched` is
what the SQ fetch read, and `husk` tells that every ingress husk verified. -/
def execPacketCommit (port : Nat) (fetched : List Byte) (husk : Bool) (s : State) : Out :=
  .next (
    if s.serving && s.power.rollOn && decide (port < 4) && (s.port port).linkUp then
      match s.stepOneFn port with
      | none => s
      | some g =>
        let s := s.modPort port (fun p => { p with rr := (g + 1) % 16 })
        if s.pushTurnNow g then s.stepOnePush g husk else s.stepOneSq g fetched husk
    else s)

/-- INGRESS_ADMIT (R65): the stream's ingress advances at steps 2 to 6. DEDUCED (log 11). -/
def execIngressAdmit (g : Nat) (st : Stream) (s : State) : Out :=
  .next (if s.serving && decide (g < 64) then s.stepTwo g st else s)

/-- A counter's seal has failed (R73 step 6): the packet ends INTEGRITY with no slate, a machine-check event
is raised, and the counters keep their values. -/
def State.sealFails (s : State) (g : Nat) (st : Stream) (x : Sealing) : State :=
  ((s.setSealing g st none).reject g x.pk St.integrity).machineCheck

/-- A counter's seal must complete within 10 ms (R73). -/
abbrev sealLimit : Nat := 10000000

/-- COUNTER_SEAL_COMPLETE (R73 step 6): within 10 ms the counter and SEALED become CTR and the packet leaves
step 3; later the seal has failed. -/
def execCounterSealComplete (g : Nat) (st : Stream) (s : State) : Out :=
  .next (
    match (s.fn g).sealing st with
    | none => s
    | some x =>
      if s.uptime ≤ x.since + sealLimit then
        ((s.setSealing g st none).setCtr g x.owner (x.ctr, x.ctr)).stepFour g x.pk (some (authSigner x.pk.pkt))
      else s.sealFails g st x)

/-- COUNTER_SEAL_TIMEOUT (R73 step 6): the write has not completed within 10 ms, or has failed its read-back. -/
def execCounterSealTimeout (g : Nat) (st : Stream) (s : State) : Out :=
  .next (
    match (s.fn g).sealing st with
    | none => s
    | some x => s.sealFails g st x)

end Sys2Proof.Machine
end

