-- ==== Sys2Proof/Machine/FastOps.lean ====
section
/-! DEFINITION. What each fast-path opcode computes from its operands and keys: the result word, the
cryptographic negative and the output (R115 to R130). -/

namespace Sys2Proof.Machine

/-- What a lane computes: a failure status with its result, or OK with reason and output. -/
structure FastRes where
  status : Nat := St.ok
  result : Nat := 0
  neg : Bool := false
  out : Option (List Byte) := none
  deriving DecidableEq, Repr

/-- Reason codes: a non-zero reason is a cryptographic negative (R115). -/
def verdict (reason : Nat) : FastRes := { result := reason, neg := reason != 0 }

/-- An output with a reason: on a negative every byte is 0 (R115). -/
def verdictOut (reason : Nat) (out : List Byte) : FastRes :=
  { result := reason, neg := reason != 0,
    out := some (if reason = 0 then out else zeros out.length) }

/-- FORMAT at execution, with its offset. -/
def formatAt (off : Nat) : FastRes := { status := St.format, result := off }

/-! ### PIN blocks (R117 to R120) -/

/-- The PAN digits of a packet. -/
def panDigits (p : List Byte) (panOff lenOff : Nat) : List Nat :=
  (nibbles (slice p panOff 10)).take (byteAt p lenOff)

/-- The PAN field of formats 0 and 3: four zero nibbles, then the 12 rightmost digits excluding the
check digit (R118), right-justified with zero fill where the PAN has only 11 of them (ISO 9564; log entry 7). -/
def panField8 (pan : List Nat) : List Byte :=
  let d := pan.dropLast
  let d := d.drop (d.length - 12)
  packNibbles (List.replicate (16 - d.length) 0 ++ d)

/-- The PAN field of format 4: PAN length less 12, the PAN, zero fill (ISO 9564; log entry 7). -/
def panField16 (pan : List Nat) : List Byte :=
  packNibbles (((pan.length - 12) :: pan) ++ List.replicate (31 - pan.length) 0)

/-- The plain-text PIN field of a deciphered block (R119). -/
def pinField (fmt ty : Nat) (key blk : List Byte) (pan : List Nat) : List Nat :=
  nibbles (match fmt with
    | 1 => blockD ty key blk
    | 4 => blockD ty key (xorBytes (blockD ty key blk) (panField16 pan))
    | _ => xorBytes (blockD ty key blk) (panField8 pan))

/-- The checks of R119, in order; 0 when they pass. -/
def pinReason (fmt : Nat) (ns : List Nat) : Nat :=
  let len := ns.getD 1 0
  let digits := (ns.drop 2).take len
  let fill := ((ns.take 16).drop (2 + len))
  if ns.getD 0 0 ≠ fmt then 0x01
  else if len < 4 ∨ 12 < len then 0x02
  else if !allDecimal digits then 0x03
  else
    let ok := match fmt with
      | 0 => fill.all (· == 15)
      | 3 => fill.all (fun n => 10 ≤ n)
      | 4 => fill.all (· == 10)
      | _ => true
    if ok then 0x00 else 0x03

/-- The PIN digits of a field. -/
def pinDigits (ns : List Nat) : List Nat := (ns.drop 2).take (ns.getD 1 0)

/-- Encode PIN digits in a format with random nibbles `rnd`, and encipher (R120). -/
def pinEncode (fmt ty : Nat) (key : List Byte) (pan digits : List Nat) (rnd : List Byte) :
    List Byte :=
  let r (i : Nat) : Nat := (rnd.getD i 0).toNat
  let n := digits.length
  let fill : List Nat := (List.range (14 - n)).map (fun i =>
    match fmt with
    | 0 => 15
    | 1 => r i % 16
    | 3 => 10 + r i % 6
    | _ => 10)
  let field := [fmt, n] ++ digits ++ fill
  match fmt with
  | 1 => blockE ty key (packNibbles field)
  | 4 =>
    let tail := (List.range 16).map (fun i => r i % 16)
    blockE ty key (xorBytes (blockE ty key (packNibbles (field ++ tail))) (panField16 pan))
  | _ => blockE ty key (xorBytes (packNibbles field) (panField8 pan))

/-- Translate a block to OUT_FMT under the out-zone key, with random bytes `rnd` (R119, R120). -/
def pinTranslate (p : List Byte) (tyIn : Nat) (keyIn : List Byte) (kOut : KeyEnt)
    (rnd : List Byte) : FastRes :=
  let pan := panDigits p 80 90
  let ns := pinField (param p 0) tyIn keyIn (slice p 64 (if param p 0 = 4 then 16 else 8)) pan
  let reason := pinReason (param p 0) ns
  let tyOut := attrType kOut.attr
  let outLen := if param p 1 = 4 then 16 else 8
  verdictOut reason (slice (pinEncode (param p 1) tyOut kOut.val pan (pinDigits ns) rnd) 0 outLen)

/-- PIN_XLATE (R120). -/
def pinXlate (p : List Byte) (k0 k1 : KeyEnt) (rnd : List Byte) : FastRes :=
  pinTranslate p (attrType k0.attr) k0.val k1 rnd

/-- Does the natural PIN with its offset match? (R121) -/
def offsetMatch (p : List Byte) (pvk : List Byte) (pin : List Nat) : Bool :=
  let hex := nibbles (tdesE pvk (slice p (extOff 0 36) 8))
  let tab := nibbles (slice p (extOff 0 28) 8)
  let off := nibbles (slice p (extOff 0 44) 6)
  let n := byteAt p (extOff 0 50)
  let want := (List.range n).map (fun i => (tab.getD (hex.getD i 0) 0 + off.getD i 0) % 10)
  decide (n ≤ pin.length) && pin.take n == want

/-- PIN_VERIFY_OFS (R121). -/
def pinVerifyOfs (p : List Byte) (k0 k1 : KeyEnt) : FastRes :=
  let ns := pinField (param p 0) (attrType k0.attr) k0.val
    (slice p 64 (if param p 0 = 4 then 16 else 8)) (panDigits p 80 90)
  let reason := pinReason (param p 0) ns
  verdict (if reason ≠ 0 then reason else if offsetMatch p k1.val (pinDigits ns) then 0 else 0x04)

/-- The four-digit verification value (R122). -/
def pinValue (p : List Byte) (pvk : List Byte) (pin : List Nat) : List Nat :=
  let pan := (panDigits p 80 90).dropLast
  let digits := pan.drop (pan.length - 11) ++ [byteAt p (extOff 0 30)] ++ pin.take 4
  let hex := nibbles (tdesE pvk (packNibbles digits))
  ((hex.filter (· ≤ 9)) ++ ((hex.filter (10 ≤ ·)).map (· - 10))).take 4

/-- PIN_VERIFY_VAL (R122). -/
def pinVerifyVal (p : List Byte) (k0 k1 : KeyEnt) : FastRes :=
  let ns := pinField (param p 0) (attrType k0.attr) k0.val
    (slice p 64 (if param p 0 = 4 then 16 else 8)) (panDigits p 80 90)
  let reason := pinReason (param p 0) ns
  verdict (if reason ≠ 0 then reason
    else if pinValue p k1.val (pinDigits ns) == nibbles (slice p (extOff 0 28) 2) then 0 else 0x04)

/-! ### Card cryptograms (R123 to R125) -/

/-- The session key of the transaction, in the TDES or the AES form of the derivation (R123). -/
def cardKey (p : List Byte) (k0 : KeyEnt) : List Byte :=
  Config.cardSession (isTdes (attrType k0.attr)) k0.val (slice p 64 10 ++ slice p 75 1) (slice p 76 2)

/-- The MAC of R124 under a session key of the master key's class. -/
def cardMac (ty : Nat) (sk msg : List Byte) : List Byte :=
  if isTdes ty then mac3 2 sk msg else cmac (aesE sk) 16 msg

/-- The verification's reason (R124). -/
def cardReason (p : List Byte) (k0 : KeyEnt) : Nat :=
  let msg := slice p 128 (le p 52 2)
  if (cardMac (attrType k0.attr) (cardKey p k0) msg).take 8 == slice p 78 8 then 0 else 0x06

/-- The response cryptogram (R125). Under an AES key, method 1 enciphers the 8 bytes followed by 8 zero bytes and
outputs the leftmost 8. DESIGN CHOICE (log 96). -/
def cardResponse (p : List Byte) (k0 : KeyEnt) : List Byte :=
  let ty := attrType k0.attr
  let sk := cardKey p k0
  if param p 2 = 1 then
    let x := xorBytes (slice p 78 8) (slice p 86 2 ++ zeros 6)
    slice (if isTdes ty then tdesE sk x else aesE sk (x ++ zeros 8)) 0 8
  else slice (cardMac ty sk (slice p 78 8 ++ slice p 88 4 ++ slice p 92 (byteAt p 100))) 0 4

/-- CRYPTO_VERIFY (R124). -/
def cryptoVerify (p : List Byte) (k0 : KeyEnt) : FastRes := verdict (cardReason p k0)
/-- CRYPTO_RESPOND (R125). -/
def cryptoRespond (p : List Byte) (k0 : KeyEnt) : FastRes := { out := some (cardResponse p k0) }
/-- CRYPTO_VERIFY_RESPOND: the response is generated whatever the verification says (R115, R125). -/
def cryptoVerifyRespond (p : List Byte) (k0 : KeyEnt) : FastRes :=
  { verdict (cardReason p k0) with out := some (cardResponse p k0) }

/-! ### MACs (R126) -/

/-- The message of a MAC opcode, from own word `w` on. -/
def macMessage (p : List Byte) (w : Nat) : List Byte := slice p (extOff w 0) (le p 54 2)

/-- The MAC of the ALG under the key's own type. -/
def macValue (alg ty : Nat) (key msg : List Byte) : List Byte :=
  if alg ≤ 2 then cmacKey ty key msg else macAlg alg key msg

/-- MAC_GEN (R126). -/
def macGen (p : List Byte) (k0 : KeyEnt) : FastRes :=
  { out := some (slice (macValue (param p 0) (attrType k0.attr) k0.val (macMessage p 0)) 0
      (param p 1)) }
/-- MAC_VERIFY (R126). -/
def macVerify (p : List Byte) (k0 : KeyEnt) : FastRes :=
  verdict (if slice (macValue (param p 0) (attrType k0.attr) k0.val (macMessage p 1)) 0 (param p 1)
    == slice p 64 (param p 1) then 0 else 0x05)

/-! ### DUKPT (R127, R128) -/

/-- Bits set in a number below 2^w. -/
def popCount (w n : Nat) : Nat := ((List.range w).filter (n.testBit ·)).length

/-- A KSN is valid for the BDK's class: the counter is not 0 and has at most 16 (AES) or 10 (TDES)
bits set; the two octets a TDES KSN leaves are 0 (R127). -/
def ksnOk (aes : Bool) (ksn : List Byte) : Bool :=
  if aes then
    let c := ofBytesBE (slice ksn 8 4)
    c != 0 && popCount 32 c ≤ 16
  else
    let c := ofBytesBE (slice ksn 0 10) % 2 ^ 21
    c != 0 && popCount 21 c ≤ 10 && (slice ksn 10 2).all (· == 0)

/-- A KSN of the BDK's length. -/
def ksnBytes (aes : Bool) (ksn : List Byte) : List Byte := if aes then ksn else ksn.take 10

/-- DUKPT_DECRYPT (R128). The KSN is checked first; then an L that an AES BDK does not allow, which only the
resolved key tells, ends FORMAT with the offset of L. DEDUCED (log 97). -/
def dukptDecrypt (p : List Byte) (k0 : KeyEnt) : FastRes :=
  let ty := attrType k0.attr
  let aes := isAes ty
  let ksn := slice p 64 12
  let len := le p 52 2
  if !ksnOk aes ksn then formatAt 64
  else if aes ∧ len % 16 ≠ 0 then formatAt 52
  else
    let wk := Config.dukptKey k0.val (ksnBytes aes ksn) 1
    { out := some (slice (cbcDecrypt ty wk (slice p 80 (blockLen ty)) (slice p 128 len)) 0 len) }

/-- DUKPT_PIN_XLATE (R128). -/
def dukptPinXlate (p : List Byte) (k0 k1 : KeyEnt) (rnd : List Byte) : FastRes :=
  let ty := attrType k0.attr
  let aes := isAes ty
  let ksn := slice p (extOff 0 28) 12
  if !ksnOk aes ksn then formatAt (extOff 0 28)
  else pinTranslate p ty (Config.dukptKey k0.val (ksnBytes aes ksn) 2) k1 rnd

/-- DUKPT_MAC_VERIFY (R128). -/
def dukptMacVerify (p : List Byte) (k0 : KeyEnt) : FastRes :=
  let ty := attrType k0.attr
  let aes := isAes ty
  let ksn := slice p (extOff 0 32) 12
  if !ksnOk aes ksn then formatAt (extOff 0 32)
  else
    let wk := Config.dukptKey k0.val (ksnBytes aes ksn) 3
    verdict (if slice (macValue (param p 0) ty wk (macMessage p 1)) 0 (param p 1)
      == slice p 64 (param p 1) then 0 else 0x05)

/-! ### FF1 and the short hash (R129, R130) -/

/-- The Luhn check digit of a digit string. -/
def luhn (ds : List Nat) : Nat :=
  let r := ds.reverse
  let t := (List.range r.length).map (fun i =>
    let d := r.getD i 0
    if i % 2 = 0 then (if d ≥ 5 then 2 * d - 9 else 2 * d) else d)
  (10 - t.sum % 10) % 10

/-- The tweak of R129: word 0, then word 1. -/
def ff1Tweak (p : List Byte) : List Byte :=
  let n := byteAt p 75
  slice p 76 (min n 8) ++ slice p 128 (n - 8)

/-- FF1_TOKENISE and FF1_DETOKENISE (R129). -/
def ff1Run (p : List Byte) (k0 : KeyEnt) (dec : Bool) : FastRes :=
  let len := byteAt p 74
  let ds := (nibbles (slice p 64 10)).take len
  let lead := param p 0
  let n := ff1Count p
  let mid := (ds.drop lead).take n
  let enc := (List.range n).map (fun i => Config.ff1 k0.val (ff1Tweak p) mid dec i % 10)
  let keep := (ds.drop (lead + n)).take (param p 1)
  let body := ds.take lead ++ enc ++ keep
  let res := if param p 2 % 2 = 1 then body ++ [luhn body] else body
  { out := some (packNibbles (res ++ List.replicate (20 - res.length) 15) ++ toBytes len 1 ++
      [0]) }

/-- SHA256_SHORT (R130). -/
def shaShort (p : List Byte) : FastRes := { out := some (sha256b (slice p 64 (le p 52 2))) }

/-- The result of a fast-path packet under its resolved keys and random bytes. -/
def fastRun (p : List Byte) (ks : List KeyEnt) (rnd : List Byte) : FastRes :=
  let k0 := ks.getD 0 {}
  let k1 := ks.getD 1 {}
  match pkOpcode p with
  | 0x0301 => pinXlate p k0 k1 rnd
  | 0x0302 => pinVerifyOfs p k0 k1
  | 0x0303 => pinVerifyVal p k0 k1
  | 0x0401 => cryptoVerify p k0
  | 0x0402 => cryptoRespond p k0
  | 0x0403 => cryptoVerifyRespond p k0
  | 0x0501 => macGen p k0
  | 0x0502 => macVerify p k0
  | 0x0601 => dukptDecrypt p k0
  | 0x0602 => dukptPinXlate p k0 k1 rnd
  | 0x0603 => dukptMacVerify p k0
  | 0x0701 => ff1Run p k0 false
  | 0x0702 => ff1Run p k0 true
  | _ => shaShort p

end Sys2Proof.Machine
end

