-- ==== Sys2Proof/Machine/Drbg.lean ====
section
/-! DEFINITION. Entropy health and the House DRBGs: the buffer, its requests and reseeds (R192 to
R194). -/

namespace Sys2Proof.Machine

/-- ENT_STAT.STATE of a healthy source in service. -/
def entService : Nat := unitService

/-- An in-service entropy source is healthy (R194). -/
def State.entropyHealthy (s : State) : Bool :=
  (List.range 3).any (fun e => s.fld (Reg.entStat e) F.EntStat.state == entService)

/-! ### CTR_DRBG of SP 800-90A with AES-256 and no derivation function (R193) -/

/-- The block of the keystream `i` past V. -/
def drbgBlock (key : BitVec 256) (v : BitVec 128) (i : Nat) : List Byte :=
  toBytesBE (Config.aesEnc (toBytesBE key.toNat 32) (v + BitVec.ofNat 128 i)).toNat 16

/-- Update Key and V with 48 bytes of provided data. -/
def Drbg.update (x : Drbg) (data : List Byte) : Drbg :=
  let t := xorBytes ((List.range 3).map (fun i => drbgBlock x.key x.v (i + 1))).flatten data
  { x with key := BitVec.ofNat 256 (ofBytesBE (t.take 32)), v := BitVec.ofNat 128 (ofBytesBE (t.drop 32)) }

/-- A generate request of 4,096 bytes enters the buffer, and the state moves on. -/
def Drbg.generate (x : Drbg) : Drbg :=
  Drbg.update { x with v := x.v + 256, buf := x.buf ++ [{ key := x.key, v := x.v }] } (zeros 48)

/-- Byte `i` of a generate request. -/
def DrbgRun.byte (r : DrbgRun) (i : Nat) : Byte := (drbgBlock r.key r.v (i / 16 + 1)).getD (i % 16) 0

/-- The first `n` bytes that a request still holds, and the buffer without them. -/
def Drbg.take (r : DrbgRun) (rest : List DrbgRun) (n : Nat) : List Byte × List DrbgRun :=
  ((List.range n).map (fun i => r.byte (r.drawn + i)),
   if r.drawn + n < 4096 then { r with drawn := r.drawn + n } :: rest else rest)

/-- Bytes in the buffer. -/
def Drbg.held (x : Drbg) : Nat := (x.buf.map (fun r => 4096 - r.drawn)).sum

/-- Change a House's DRBG. -/
def State.modDrbg (s : State) (h : Nat) (f : Drbg → Drbg) : State :=
  s.modHouse h (fun x => { x with drbg := f x.drbg })

/-- The personalisation string: DEV_SERIAL, then the House number. -/
def drbgPerson (h : Nat) : List Byte := toBytes Config.devSerial.toNat 8 ++ toBytes h 1

/-- REQS starts again, DRBG_WAIT is over, and a reseed, which an instantiation is not, counts. -/
def State.reseeded (s : State) (h : Nat) (live : Bool) : State :=
  let s := (s.setFld (Reg.drbgStat h) F.DrbgStat.reqs 0).setFlag (Reg.drbgStat h) F.DrbgStat.drbgWait false
  if live then s.satFld (Reg.drbgStat h) F.DrbgStat.reseeds 1 else s

/-- The DRBG takes 48 bytes of entropy: a reseed, or the instantiation of a DRBG whose state is cleared, from
a zero Key and V with the personalisation string folded in. -/
def Drbg.seed (x : Drbg) (h : Nat) (e : List Byte) : Drbg :=
  if x.live then x.update e
  else Drbg.update { x with live := true, key := 0, v := 0 } (xorBytes e (slice (drbgPerson h) 0 48))

/-- Reseed a House's DRBG now with 384 bits of entropy (R193). DEDUCED (log 46). -/
def State.reseed (s : State) (h : Nat) : State :=
  let e := s.entropyBytes 48
  (e.2.modDrbg h (fun x => x.seed h e.1)).reseeded h (s.house h).drbg.live

/-- A reseed falls due: it runs, or waits while no source is healthy (R194). -/
def State.reseedDue (s : State) (h : Nat) : State :=
  if s.entropyHealthy then s.reseed h else s.setFlag (Reg.drbgStat h) F.DrbgStat.drbgWait true

/-- A House's DRBG state is cleared, its buffer with it; the DRBG is to be instantiated anew (R195). -/
def State.drbgClear (s : State) (h : Nat) : State := s.modDrbg h (fun _ => {})

/-- Fill the buffer by one request of 4,096 bytes (R193). -/
def State.drbgRequest (s : State) (h : Nat) : State :=
  let n := s.fld (Reg.drbgStat h) F.DrbgStat.reqs + 1
  let s := s.modDrbg h Drbg.generate
  if n = 2 ^ 20 then s.reseedDue h else s.setFld (Reg.drbgStat h) F.DrbgStat.reqs n

/-- Refill while there is room for a request and no reseed waits. -/
def State.drbgRefill (s : State) (h : Nat) : State :=
  (List.range 4).foldl (fun (s : State) _ =>
    if s.flag (Reg.drbgStat h) F.DrbgStat.drbgWait ∨ 16384 - 4096 < (s.house h).drbg.held then s
    else s.drbgRequest h) s

/-- `n` random bytes can be drawn now. -/
def State.drbgReady (s : State) (h n : Nat) : Bool :=
  decide (n ≤ (s.house h).drbg.held) || !s.flag (Reg.drbgStat h) F.DrbgStat.drbgWait

/-- Take `n` bytes from a House's buffer, with requests as it runs empty; the first argument bounds the
rounds. -/
def State.drawFrom (s : State) (h : Nat) : Nat → Nat → List Byte × State
  | 0, _ => ([], s)
  | f + 1, n =>
    if n = 0 then ([], s)
    else
      match (s.house h).drbg.buf with
      | [] => (s.drbgRequest h).drawFrom h f n
      | r :: rest =>
        let m := min n (4096 - r.drawn)
        let t := Drbg.take r rest m
        let next := (s.modDrbg h (fun x => { x with buf := t.2 })).drawFrom h f (n - m)
        (t.1 ++ next.1, next.2)

/-- Draw `n` bytes from a House's DRBG, and refill its buffer (R193). DEDUCED (log 46). -/
def State.draw (s : State) (h n : Nat) : List Byte × State :=
  let r := s.drawFrom h (2 * (n / 4096 + 3)) n
  (r.1, r.2.drbgRefill h)

end Sys2Proof.Machine
end

