-- ==== Sys2Proof/Machine/SlateEvents.lean ====
section
/-! DEFINITION. The events of the Thresher, the Bell and the slate store (R80 to R112, R132, R133,
R465). -/

namespace Sys2Proof.Machine

/-! ### Lanes (R109 to R112) -/

/-- Lane `n` takes slates of House `h`: it serves the House and is not draining; a House without a
reserved lane is served by the lanes of the common pool (R146). -/
def State.laneTakes (s : State) (h n : Nat) : Bool :=
  let st := s.fld (Reg.thrLane n) F.ThrLane.state
  let l := s.lane n
  !l.draining &&
  (if s.lanesOf h = 0 ∧ l.lent ≠ some h then
     l.owner == none && l.lent == none && !s.wear.retired.contains (72 + n) &&
       (st == unitService || st == unitIdle || st == unitWorn)
   else l.serves == some h && (st == unitService || st == unitWorn))

/-- Lane `n` is one of the House's: reserved to it, or lent to it (R109, R112). -/
def State.laneOwned (s : State) (h n : Nat) : Bool := (s.lane n).serves == some h && (s.lanesOf h != 0 || (s.lane n).lent == some h)

/-- The head of the pool queue is a slate of House `h` (R146). -/
def State.poolHead (s : State) (h : Nat) : Bool := s.poolQ.head?.any (fun id => (s.slate id).house == h)

/-- The free positions that the next slate of House `h` may take, as lane × 4 + position: those of the House's
lanes, and those of the common pool's when its queue gives the turn to the House (R109, R146). -/
def State.freePositions (s : State) (h : Nat) : List Nat :=
  (List.range 36).filter (fun k =>
    s.laneTakes h (k / 4) && ((s.lane (k / 4)).pos.getD (k % 4) none).isNone &&
    (s.laneOwned h (k / 4) || s.poolHead h))

/-- The slate that takes the next free position of House `h`: the head of its queue (R109). -/
def State.queueHead (s : State) (h : Nat) : Option Nat := (s.house h).queue.head?

/-- The packet's opcode re-encodes a PIN in a format with random fill: 1, 3 or 4 (R120, R128). -/
def needsFill (p : List Byte) : Bool := (pkOpcode p == 0x0301 || pkOpcode p == 0x0602) && param p 1 != 0

/-- A slate takes position `k`. -/
def State.takePosition (s : State) (id k : Nat) : State :=
  let s := s.unqueue id
  let s := s.modSlate id (fun x => { x with
    work := .lane (k / 4) (k % 4)
    bop := laneCount x.pkt (x.keys.map (s.keyAt x.house)) })
  s.modLane (k / 4) (fun l => { l with pos := l.pos.set (k % 4) (some id), used := true })

/-- THRESHER_POSITION_TAKE (R109): which free position is taken is a free choice (log entry 9). -/
def execThresherPositionTake (h : Nat) (s : State) : Out :=
  .next (
    match s.queueHead h, s.freePositions h with
    | some id, k :: ks =>
      if needsFill (s.slate id).pkt && !s.drbgReady h 16 then s
      else
        let c := s.choose (ks.length + 1)
        c.2.takePosition id ((k :: ks).getD c.1 k)
    | _, _ => s)

/-- A lane's result reaches the slate's arbiter: it takes the claim, or is discarded (R88, R89). -/
def State.laneClaim (s : State) (id : Nat) (c : Claim) : State :=
  if (s.slate id).unclaimed then s.claim id { c with time := s.dtime } else s.dropResult

/-- LANE_RESULT (R110, R137): `husk` tells that the position's husks verified. -/
def execLaneResult (lane pos : Nat) (husk : Bool) (s : State) : Out :=
  .next (
    match (s.lane lane).pos.getD pos none with
    | none => s
    | some id =>
      if husk then
        match (s.slate id).res with
        | none => s
        | some c =>
          let s := s.markUnit (72 + lane) 0x0101 1
          let s := s.markUnit (72 + lane) 0x0102 (s.slate id).bop
          ((s.emptyPos lane pos).laneClaim id c).leaveWork id
      else
        let s := s.emptyPos lane pos
        ((s.laneClaim id (s.mkClaim St.integrity 0 false none)).leaveWork id).machineCheck)

/-- Report a lane's state, keeping a WORN or FAILED mark (R425, R426). -/
def State.laneState (s : State) (n st : Nat) : State :=
  let now := s.fld (Reg.thrLane n) F.ThrLane.state
  if now = unitWorn ∨ now = unitFailed then s else s.setFld (Reg.thrLane n) F.ThrLane.state st

/-- A drained lane starts serving its new House, or none (R112). -/
def State.laneServe (s : State) (n : Nat) : State :=
  let l := s.lane n
  let s := s.setLane n { l with draining := false, serves := l.nextHouse, nextHouse := none }
  match l.nextHouse with
  | some h => (s.laneState n unitService).setFld (Reg.thrLane n) F.ThrLane.house h
  | none => (s.laneState n unitIdle).setFld (Reg.thrLane n) F.ThrLane.house 0

/-- The S-mills bound to lane `n` (R111). -/
def State.boundMills (s : State) (n : Nat) : List Nat :=
  (List.range 36).filter (fun m => s.fld (Reg.millS m) F.MillS.lane == n)

/-- A worn lane has drained after its rotation: its S-mills return to fallow, or go to the lane that waits
for them (Table 15.2). -/
def State.laneGone (s : State) (n : Nat) : State :=
  let l := s.lane n
  let ms := s.boundMills n
  let s := s.setLane n {}
  match l.heir with
  | some m =>
    (ms.foldl (fun (s : State) k => s.setFld (Reg.millS k) F.MillS.lane m) s).laneServe m
  | none =>
    ms.foldl (fun (s : State) k =>
      (s.setFld (Reg.millS k) F.MillS.lane 0xF).setFld (Reg.millS k) F.MillS.state unitFallow) s

/-- LANE_DRAIN_COMPLETE (R112, Table 15.2). -/
def execLaneDrainComplete (lane : Nat) (s : State) : Out :=
  .next (
    let l := s.lane lane
    if l.draining && l.pos.all (·.isNone) then
      if l.retiring then s.laneGone lane
      else if s.lanes.any (fun (e : Nat × Lane) => e.2.heir == some lane) then s
      else s.laneServe lane
    else s)

/-! ### The Bell and EXAM -/

/-- BELL_FIRE (R92): the first due slate of the House in the order of R92, at most 8 in one step of device
time. -/
def execBellFire (h : Nat) (s : State) : Out := .next (s.bellFire h)

/-- The slate's reply is held for its EXAM release time, which device time has reached (R132). -/
def State.examDue (s : State) (h : Nat) (sl : Slate) : Bool :=
  sl.house == h && sl.heldRelease && !sl.waiting && decide (sl.release.getD 0 ≤ s.dtime)

/-- Another held reply of the House goes first: a lower R, or an equal R and a lower slate ID
(R465). -/
def State.examEarlier (s : State) (id : Nat) : Bool :=
  let sl := s.slate id
  s.slates.any (fun e => s.examDue sl.house e.2 &&
    (decide (e.2.release.getD 0 < sl.release.getD 0) ||
      (e.2.release == sl.release && decide (e.1 < id))))

/-- EXAM_RELEASE (R132, R465): the held reply commits with PADDED = 1. -/
def execExamRelease (id : Nat) (s : State) : Out :=
  .next (
    if s.examDue (s.slate id).house (s.slate id) && !s.examEarlier id then s.commitReply id true else s)

/-- SLATE_TAG_RELEASE (R81, R98): the lane or Tiller that still held a claimed slate's work releases
its tag. -/
def execSlateTagRelease (id : Nat) (s : State) : Out :=
  .next (
    if (s.slate id).claim.isSome then
      match (s.slate id).work with
      | .lane n p => (s.emptyPos n p).leaveWork id
      | .tiller _ => if (s.slate id).heldBy.isNone ∨ (s.slate id).replied then s.leaveWork id else s
      | _ => s
    else s)

end Sys2Proof.Machine
end

