-- ==== Sys2Proof/Machine/JournalEvents.lean ====
section
/-! DEFINITION. The journal's events: write responses, mirrors, seals, the flash checkpoint and the
JSEQ reserve (R60, R231 to R233, R239, R240). -/

namespace Sys2Proof.Machine

/-- A record whose write response has returned and that waits for no mirror. -/
def PendRec.done (p : PendRec) : Bool := p.written && p.mirror.isNone

/-- Release the replies of every record of House `h` that is written and mirrored, in JSEQ order. -/
def State.settleRecords (s : State) (h : Nat) : State :=
  let ready := (s.house h).j.pend.filter PendRec.done
  let s := s.modJ h (fun j => { j with pend := j.pend.filter (fun p => !p.done) })
  ready.foldl (fun (s : State) p => s.completeRecord p) s

/-- Mark the first record that satisfies `f`. -/
def markFirst (f : PendRec → Bool) (g : PendRec → PendRec) : List PendRec → List PendRec
  | [] => []
  | p :: ps => if f p then g p :: ps else p :: markFirst f g ps

/-- JOURNAL_WRITE_RESPONSE (R60): the oldest outstanding DRAM write of the House responds. -/
def execJournalWriteResponse (h : Nat) (s : State) : Out :=
  .next ((s.modJ h (fun j =>
    { j with pend := markFirst (fun p => !p.written) (fun p => { p with written := true }) j.pend })
    ).settleRecords h)

/-- The oldest record whose mirror completion is outstanding. -/
def Journal.mirroring (j : Journal) : Option PendRec := j.pend.find? (fun p => p.mirror.isSome)

/-- A mirror fails: mirroring is suspended, and no reply waits for a mirror any more (R240). -/
def State.mirrorFail (s : State) (h cause jseq : Nat) : State :=
  let s := s.modJ h (fun j => { j with pend := j.pend.map (fun p => { p with mirror := none }) })
  ((s.mirrorSuspend h cause jseq).buildAll h).settleRecords h

/-- MIRROR_COMPLETION (R239, R240): `ok` is false for an error completion. -/
def execMirrorCompletion (h : Nat) (ok : Bool) (s : State) : Out :=
  .next (
    match (s.house h).j.mirroring with
    | none => s
    | some p =>
      if ok then
        (s.modJ h (fun j => { j with
          pend := markFirst (fun q => q.mirror.isSome) (fun q => { q with mirror := none }) j.pend })
          ).settleRecords h
      else s.mirrorFail h 1 p.jseq)

/-- MR_TIMEOUT of House `h` in ns. -/
def State.mrTimeout (s : State) (h : Nat) : Nat := 1000 * s.fld (Reg.jrCtl h) F.JrCtl.mrTimeout

/-- MIRROR_TIMEOUT (R240). -/
def execMirrorTimeout (h : Nat) (s : State) : Out :=
  .next (
    match (s.house h).j.mirroring with
    | none => s
    | some p =>
      if p.mirror.getD 0 + s.mrTimeout h ≤ s.uptime then s.mirrorFail h 2 p.jseq else s)

/-- Suspend the mirror of House `h` for a cause that comes between records (R240, R411): the JSEQ is
that of the oldest record whose mirror is outstanding, and a free value where there is none. -/
def State.mirrorLost (s : State) (h cause : Nat) : State :=
  if s.mirrorOn h ∧ !(s.house h).j.susp then
    match (s.house h).j.mirroring with
    | some p => s.mirrorFail h cause p.jseq
    | none => s.freshWord.2.mirrorFail h cause s.freshWord.1.toNat
  else s

/-! ### Seals (R231, R232) -/

/-- The 64-byte seal message. -/
def sealMessage (h : Nat) (x : SealJob) : List Byte :=
  ascii "KT8400SL" ++ toBytes Config.devSerial.toNat 8 ++ toBytes h 1 ++ zeros 7 ++ toBytes x.s 8 ++
  toBytesBE x.head.toNat 32

/-- The seal block (Table 8.3): the audit keys' signatures over the message, with random bytes `rnd`. -/
def State.sealBlock (s : State) (h : Nat) (x : SealJob) (rnd : List Byte) : List Byte :=
  let m := sealMessage h x
  let key := toBytesBE (s.dev.audit.getD 0).toNat 32
  slice (m ++ (List.range 96).map (Config.pkOut 0x11 key m rnd 1) ++
    (List.range 3309).map (Config.pkOut 0x19 key m rnd 1)) 0 4096

/-- Address of the seal block SEALNO. -/
def State.sealAddr (s : State) (h no : Nat) : Nat :=
  4096 * s.fld (Reg.jrSeal h) F.JrSeal.addr + 4096 * (no % 2 ^ s.fld (Reg.jrSeal h) F.JrSeal.slog2)

/-- Write the block of a seal (R231). -/
def State.writeSealBlock (s : State) (h : Nat) (x : SealJob) : State :=
  let d := s.randomBytes 32
  d.2.putLines (s.sealAddr h x.no) (s.sealBlock h x d.1)

/-- One of a seal's two signatures has completed; with both, the seal block is written. -/
def State.sealSigned (s : State) (h no k : Nat) : State :=
  let j := (s.house h).j
  let upd (x : SealJob) : SealJob :=
    if x.no = no then { x with sig := if k = 0 then (true, x.sig.2) else (x.sig.1, true) } else x
  let seals := j.seals.map upd
  let s := s.modJ h (fun j => { j with seals := seals })
  match seals.find? (fun x => x.no == no && x.sig.1 && x.sig.2 && !x.block) with
  | some x =>
    (s.writeSealBlock h x).modJ h (fun j => { j with
      seals := j.seals.map (fun y => if y.no = no then { y with block := true } else y) })
  | none => s

/-- A seal's block write has returned: its SEAL record is asked for (R231). -/
def State.sealWritten (s : State) (h : Nat) (x : SealJob) : State :=
  (s.modJ h (fun j => { j with
    seals := j.seals.map (fun y => if y.no = x.no then { y with written := true } else y) })).recordEvent h
      (.sealed x.no x.s x.head)

/-- The oldest seal whose block write has not returned. -/
def Journal.sealing (j : Journal) : Option SealJob := j.seals.find? (fun x => !x.written)

/-- SEAL_BLOCK_WRITTEN (R231, R232): the write of the oldest pending seal's block has returned. -/
def execSealBlockWritten (h : Nat) (s : State) : Out :=
  .next (
    match (s.house h).j.sealing with
    | none => s
    | some x => if x.block && !s.lineHeld (s.sealAddr h x.no) then s.sealWritten h x else s)

/-- Write the latest S, H_S and SEALNO of a House to flash (R233). After a tamper hit nothing more is stored: the
next start links to the last seal stored before the hit (R235). -/
def State.checkpoint (s : State) (h : Nat) : State :=
  match (s.house h).j.sealed with
  | none => s
  | some (n, no, head) =>
    if (s.house h).j.noSeals then s
    else s.modJ h (fun j => { j with
      flashSeal := some (n, head), flashSealno := no, ckptSeals := 0, ckptTime := s.uptime })

/-- JOURNAL_FLASH_CHECKPOINT (R233): at most every 100 ms, at least once every 4,096 seals. A write that fails
its read-back raises a machine-check event, and is to be made again. -/
def execJournalFlashCheckpoint (w : FlashWrite) (s : State) : Out :=
  .next (
    let j := (s.house w.house).j
    if j.ckptTime + 100000000 ≤ s.uptime ∨ 4096 ≤ j.ckptSeals then
      if w.ok then s.checkpoint w.house else s.machineCheck
    else s)

/-- JSEQ_RESERVE_WRITE_COMPLETE (R233): records waiting in the writer proceed; a write that fails its
read-back is made again and raises a machine-check event. -/
def execJseqReserveWriteComplete (h : Nat) (ok : Bool) (s : State) : Out :=
  .next (
    match (s.house h).j.reserveNew with
    | none => s
    | some v =>
      if ok then
        let s := s.modJ h (fun j => reserveCheck { j with reserve := v, reserveNew := none })
        s.buildAll h
      else s.machineCheck)

end Sys2Proof.Machine
end

