-- ==== Sys2Proof/Machine/FastPath.lean ====
section
/-! DEFINITION. The fast-path commands (families 0x03 to 0x07 and SHA256_SHORT): in a lane position the
command computes the slate's result, which LANE_RESULT hands to the arbiter; a forwarded slate
completes on Tabqua (R104 to R130). -/

namespace Sys2Proof.Machine

/-! ### The Tabqua path (R91) -/

/-- A Tiller that serves the slate's House holds its work, for opcode `op` on the Tabqua path, and the claim is
open or held by that Tiller (R203). DEDUCED (log 62). -/
def State.atTabqua (s : State) (id op : Nat) : Bool :=
  let sl := s.slate id
  (match sl.work with
   | .tiller t => s.tillerServes t sl.house
   | _ => false) && sl.path == .tabqua && pkOpcode sl.pkt == op &&
  (sl.st == .live || (sl.st == .claimed && sl.heldBy.isSome))

/-- The work ends with content `c`: it takes the claim, fills the claim that its Tiller holds, or
fails under R89. DEDUCED (log 62). -/
def State.conclude (s : State) (id : Nat) (c : Claim) : State :=
  let sl := s.slate id
  match sl.heldBy, sl.claim with
  | some _, some old =>
    (s.setSlate id { sl with heldBy := none, claim := some { c with time := old.time } }).record
      sl.house (.slate id)
  | _, _ => if sl.unclaimed then s.claim id c else s.dropResult

/-- End the work of a slate with a status and result. -/
def State.finish (s : State) (id status result : Nat) (neg : Bool) (out : Option (List Byte)) : State :=
  (s.conclude id (s.mkClaim status result neg out)).leaveWork id

/-- End OK with an output. -/
def State.finishOut (s : State) (id : Nat) (out : List Byte) : State := s.finish id St.ok 0 false (some out)
/-- End OK with no output. -/
def State.finishOk (s : State) (id : Nat) : State := s.finish id St.ok 0 false none
/-- End OK with NEG = 1 and a reason code. -/
def State.finishNeg (s : State) (id reason : Nat) (out : Option (List Byte)) : State :=
  s.finish id St.ok reason true out
/-- End with a failure status. -/
def State.finishFail (s : State) (id status result : Nat) : State := s.finish id status result false none

/-! ### Fast-path results -/

/-- A fast-path result as a claim's content. -/
def State.fastClaim (s : State) (r : FastRes) : Claim := s.mkClaim r.status r.result r.neg r.out

/-- Random fill of 16 bytes for the packets that draw it (R120). -/
def State.fastDraw (s : State) (h : Nat) (p : List Byte) : List Byte × State :=
  if needsFill p then s.draw h 16 else ([], s)

/-- A COUNTED or POLICY key that may not be used now, by index (R166). -/
def State.badUse (s : State) : Nat → List KeyEnt → Option Nat
  | _, [] => none
  | i, k :: ks => if s.useOk k then s.badUse (i + 1) ks else some i

/-- A key that zeroisation cleared while the slate held it, by index (R195 to R197). -/
def goneKey : Nat → List KeyEnt → Option Nat
  | _, [] => none
  | i, k :: ks => if k.used then goneKey (i + 1) ks else some i

/-- Complete a forwarded fast-path slate on Tabqua (R113, R114, R166). One that needs random fill waits while its
House's DRBG has none (R194). -/
def State.runForwarded (s : State) (id : Nat) : State :=
  let sl := s.slate id
  let ks := sl.keys.map (s.keyAt sl.house)
  match goneKey 0 ks, s.badUse 0 ks with
  | some i, _ => s.finishFail id St.keyAbsent i
  | none, some i => s.finishFail id St.keyUsage i
  | none, none =>
    if needsFill sl.pkt && !s.drbgReady sl.house 16 then s
    else
    let d := s.fastDraw sl.house sl.pkt
    let s := sl.keys.foldl (fun (s : State) r => s.countUse r) d.2
    let r := fastRun sl.pkt ks d.1
    s.finish id r.status r.result r.neg r.out

/-- Compute the result of a slate in a lane position (R110); a slate whose key was zeroised ends
KEY_ABSENT (Table 6.15). -/
def State.runInLane (s : State) (id : Nat) : State :=
  let sl := s.slate id
  let d := s.fastDraw sl.house sl.pkt
  let ks := sl.keys.map (s.keyAt sl.house)
  let c := match goneKey 0 ks with
    | some i => s.mkClaim St.keyAbsent i false none
    | none => s.fastClaim (fastRun sl.pkt ks d.1)
  d.2.modSlate id (fun x => { x with res := some c })

/-- The slate is in a lane position, for opcode `op`, and its result is not computed yet. -/
def State.inLane (s : State) (id op : Nat) : Bool :=
  let sl := s.slate id
  (match sl.work with
   | .lane _ _ => true
   | _ => false) && pkOpcode sl.pkt == op && sl.res.isNone && sl.st == .live

/-- A fast-path command: in its lane, or forwarded on Tabqua. -/
def State.fastCommand (s : State) (id op : Nat) : State :=
  if s.inLane id op then s.runInLane id
  else if s.atTabqua id op then s.runForwarded id
  else s

/-- PIN_XLATE (R120). -/
def execPinXlate (id : Nat) (s : State) : Out := .next (s.fastCommand id 0x0301)
/-- PIN_VERIFY_OFS (R121). -/
def execPinVerifyOfs (id : Nat) (s : State) : Out := .next (s.fastCommand id 0x0302)
/-- PIN_VERIFY_VAL (R122). -/
def execPinVerifyVal (id : Nat) (s : State) : Out := .next (s.fastCommand id 0x0303)
/-- CRYPTO_VERIFY (R124). -/
def execCryptoVerify (id : Nat) (s : State) : Out := .next (s.fastCommand id 0x0401)
/-- CRYPTO_RESPOND (R125). -/
def execCryptoRespond (id : Nat) (s : State) : Out := .next (s.fastCommand id 0x0402)
/-- CRYPTO_VERIFY_RESPOND (R125). -/
def execCryptoVerifyRespond (id : Nat) (s : State) : Out := .next (s.fastCommand id 0x0403)
/-- MAC_GEN (R126). -/
def execMacGen (id : Nat) (s : State) : Out := .next (s.fastCommand id 0x0501)
/-- MAC_VERIFY (R126). -/
def execMacVerify (id : Nat) (s : State) : Out := .next (s.fastCommand id 0x0502)
/-- DUKPT_DECRYPT (R128). -/
def execDukptDecrypt (id : Nat) (s : State) : Out := .next (s.fastCommand id 0x0601)
/-- DUKPT_PIN_XLATE (R128). -/
def execDukptPinXlate (id : Nat) (s : State) : Out := .next (s.fastCommand id 0x0602)
/-- DUKPT_MAC_VERIFY (R128). -/
def execDukptMacVerify (id : Nat) (s : State) : Out := .next (s.fastCommand id 0x0603)
/-- FF1_TOKENISE (R129). -/
def execFf1Tokenise (id : Nat) (s : State) : Out := .next (s.fastCommand id 0x0701)
/-- FF1_DETOKENISE (R129). -/
def execFf1Detokenise (id : Nat) (s : State) : Out := .next (s.fastCommand id 0x0702)
/-- SHA256_SHORT (R130). -/
def execSha256Short (id : Nat) (s : State) : Out := .next (s.fastCommand id 0x0901)

end Sys2Proof.Machine
end

