-- ==== Sys2Proof/Machine/Caches.lean ====
section
/-! DEFINITION. The tags of the data caches, instruction caches, L2s and Granary (R263, R373 to R379).
Memory is coherent (R374), so its bytes are held once in `State.mem`; the caches hold line addresses
with dirty bits, and say what a load or a fetch finds, what a drain removes elsewhere, and what an
eviction writes back. -/

namespace Sys2Proof.Machine

/-- The 64-byte line of an address. -/
def lineOf (a : Nat) : Nat := a / 64 * 64

/-- A cache's lines, most recently used first. -/
abbrev Lines := List (Nat × Bool)

/-- Is a line held? -/
def Lines.has (l : Lines) (line : Nat) : Bool := l.any (fun e => e.1 == line)

/-- Remove a line. -/
def Lines.drop (l : Lines) (line : Nat) : Lines := l.filter (fun e => e.1 != line)

/-- Remove the last line that satisfies `f`. -/
def dropLast (f : Nat × Bool → Bool) (l : Lines) : Lines :=
  match l.reverse.find? f with
  | some v => l.drop v.1
  | none => l

/-- Use a line: it comes first, and the least recently used line of a set beyond `ways` leaves. A cache without a way
holds nothing. -/
def Lines.use (l : Lines) (ways : Nat) (set : Nat → Nat) (line : Nat) (dirty : Bool) : Lines :=
  let was := l.any (fun e => e.1 == line && e.2)
  let rest := l.drop line
  let same (e : Nat × Bool) : Bool := set e.1 == set line
  let rest := if ways ≤ (rest.filter same).length then dropLast same rest else rest
  if ways = 0 then rest else (line, dirty || was) :: rest

/-- Set of a line in a 32 KB, 4-way first-level cache. -/
def l1Set (line : Nat) : Nat := line / 64 % 128
/-- Set of a line in an L2: PA[17:6] (R376). -/
def l2Set (line : Nat) : Nat := line / 64 % 4096
/-- Logical Granary slice of a line (R377). -/
def sliceOf (a : Nat) : Nat :=
  Nat.xor (Nat.xor (a / 2 ^ 6 % 16) (a / 2 ^ 17 % 16)) (Nat.xor (a / 2 ^ 28 % 16) (a / 2 ^ 39 % 16))
/-- Slice and set of a line in the Granary: PA[16:6] (R377). -/
def granarySet (line : Nat) : Nat := sliceOf line * 2048 + line / 64 % 2048

/-! ### Errors (R371, R394, R395) -/

/-- Keys under which poison is kept: a DRAM line, or 8 bytes of a Desk (R371, R379, R395). -/
def poisonKeys (a n : Nat) : List Nat :=
  let g := if a < 0x008000000000 then 64 else 8
  (List.range ((a % g + n + g - 1) / g)).map (fun i => a / g * g + g * i)

/-- A read of the range meets poison. -/
def State.poisoned (s : State) (a n : Nat) : Bool := (poisonKeys a n).any (s.poison.contains ·)

/-- Poison a line. -/
def State.poisonLine (s : State) (line : Nat) : State := { s with poison := insertNat line s.poison }

/-- The channel of a DRAM address is frozen: it accepts no request. -/
def State.frozenAt (s : State) (a : Nat) : Bool :=
  match s.chanAt a with
  | some c => s.chanState c == chanFrozen
  | none => false

/-- Every access to a retired channel receives an error response (R394). -/
def State.retiredAt (s : State) (a : Nat) : Bool :=
  match s.chanAt a with
  | some c => s.chanState c == chanRetired
  | none => false

/-- A read receives an error response (R371, R394, R395). -/
def State.readError (s : State) (a n : Nat) : Bool := s.poisoned a n || s.retiredAt a

/-! ### The Granary and the L2s -/

/-- Owner of the DRAM region at an address: a House, or 4 for the device (R213). -/
def State.ownerAt (s : State) (a : Nat) : Nat :=
  match s.regionAt a with
  | some n => s.fld (Reg.dramRgnB n) F.DramRgnB.owner
  | none => 4

/-- Granary ways of House `h`. -/
def State.waysOf (s : State) (h : Nat) : Nat := s.fld (Reg.houseGway h) F.HouseGway.ways

/-- Bits set below `n`. -/
def popcount (n v : Nat) : Nat := ((List.range n).filter (v.testBit ·)).length

/-- Which ways a line's owner uses: its House's own, or the common ones, under key 4 (R378). -/
def State.granaryKey (s : State) (a : Nat) : Nat :=
  let o := s.ownerAt a
  if o < 4 ∧ s.waysOf o ≠ 0 then o else 4

/-- How many ways a key of the Granary has. -/
def State.granaryWays (s : State) (k : Nat) : Nat :=
  let held := ((List.range 4).map (fun h => popcount 16 (s.waysOf h))).sum
  if k < 4 then popcount 16 (s.waysOf k)
  else 16 - held - s.ways.length

/-- The first lines of each set, up to `ways` of them: what is left when a cache loses ways. -/
def Lines.trim (l : Lines) (ways : Nat) (set : Nat → Nat) : Lines :=
  l.foldl (fun (acc : Lines) e =>
    if (acc.filter (fun (x : Nat × Bool) => set x.1 == set e.1)).length < ways then acc ++ [e] else acc) []

/-- A way leaves its owner: every key of the Granary keeps the lines of the ways that it still has, and the
dirty ones beyond are written back (R209). Which lines a way holds is the part's choice; the least
recently used ones leave (log entry 40). -/
def State.trimGranary (s : State) : State :=
  { s with granary := s.granary.foldl (fun (m : List (Nat × Lines)) e =>
      Map.put [] m e.1 (Lines.trim e.2 (s.granaryWays e.1) granarySet)) s.granary }

/-- The physical slice that a logical slice is mapped to (R377). -/
def State.physSlice (s : State) (l : Nat) : Nat :=
  ((List.range 18).find? (fun n =>
    s.fld (Reg.gsStat n) F.GsStat.logical == l && s.fld (Reg.gsStat n) F.GsStat.state != unitFallow)).getD l

/-- Look up and allocate in the Granary (R378, R379): hits, misses and dirty write-backs count. -/
def State.granaryUse (s : State) (line : Nat) (dirty : Bool) : State :=
  let k := s.granaryKey line
  let old : Lines := Map.get [] s.granary k
  let l := old.use (s.granaryWays k) granarySet line dirty
  let u := 135 + s.physSlice (sliceOf line)
  let s := s.markUnit u (if old.has line then 0x0301 else 0x0302) 1
  let s := if old.any (fun e => e.2 && !l.has e.1) then s.markUnit u 0x0303 1 else s
  { s with granary := Map.put [] s.granary k l }

/-- The Sheaf of logical Tiller `t`. -/
def State.sheaf (s : State) (t : Nat) : Nat := sheafOf (s.tiller t).pos

/-- The L2 of a Sheaf. -/
def State.l2Of (s : State) (k : Nat) : Lines := Map.get [] s.l2 k
/-- Replace the L2 of a Sheaf. -/
def State.setL2 (s : State) (k : Nat) (l : Lines) : State := { s with l2 := Map.put [] s.l2 k l }

/-- Change every Tiller that differs from its reset value. -/
def State.mapTillers (s : State) (f : Nat → Tiller → Tiller) : State :=
  s.tillers.foldl (fun (s : State) e => s.setTiller e.1 (f e.1 e.2)) s

/-- An L2 uses a line; a line that leaves it leaves the Sheaf's first-level caches too (R374, R376). -/
def State.l2Use (s : State) (k line : Nat) (dirty : Bool) : State :=
  let old := s.l2Of k
  let l := old.use 8 l2Set line dirty
  let gone := old.filter (fun e => !l.has e.1)
  let s := s.setL2 k l
  gone.foldl (fun (s : State) e =>
    let s := if e.2 then s.granaryUse e.1 true else s
    s.mapTillers (fun _ x =>
      if sheafOf x.pos = k then { x with dcache := Lines.drop x.dcache e.1, icache := Lines.drop x.icache e.1 }
      else x)) s

/-- A load or fetch that missed obtains its line: Granary, L2 and the first-level cache (R373 to
R379). -/
def State.fill (s : State) (t line : Nat) (code : Bool) : State :=
  let s := s.granaryUse line false
  let s := s.l2Use (s.sheaf t) line false
  s.modTiller t (fun x =>
    if code then { x with icache := Lines.use x.icache 4 l1Set line false }
    else { x with dcache := Lines.use x.dcache 4 l1Set line false })

/-- A drained store obtains its line with no other copy in any cache, and dirties it (R373, R374). An L2 that gives
the line up takes it from the instruction caches of its Sheaf too, which it includes. -/
def State.own (s : State) (t line : Nat) : State :=
  let k := s.sheaf t
  let s := s.mapTillers (fun u x =>
    if u = t then x
    else { x with
      dcache := Lines.drop x.dcache line
      icache := if sheafOf x.pos = k then x.icache else Lines.drop x.icache line })
  let s := { s with l2 := s.l2.map (fun (e : Nat × Lines) => if e.1 = k then e else (e.1, e.2.drop line)) }
  let s := (s.granaryUse line false).l2Use k line true
  s.modTiller t (fun x => { x with dcache := Lines.use x.dcache 4 l1Set line true })

/-- Write back and empty a Tiller's data cache; its dirty lines stay in the L2 (R208, R432). -/
def Tiller.dropCaches (x : Tiller) : Tiller :=
  { x with dcache := [], icache := [], tlb := [], pred := [], fq := [] }

/-- Write back and empty the L2 of a Sheaf (R208). -/
def State.dropL2 (s : State) (k : Nat) : State :=
  let dirty := (s.l2Of k).filter (·.2)
  let s := dirty.foldl (fun (s : State) e => s.granaryUse e.1 true) s
  s.setL2 k []

end Sys2Proof.Machine
end

