-- ==== Sys2Proof/Machine/Sources.lean ====
section
/-! DEFINITION. The interrupt sources: level inputs, pending sources and what a Tiller can take
(R340 to R347, R351, R352). -/

namespace Sys2Proof.Machine

/-- The physical position that an address of position n's slot reaches: migration leaves an alias
(R432). -/
def State.aliasPos (s : State) (n : Nat) : Nat :=
  let a := s.fld Reg.rcAlias F.RcAlias.alias / 2 ^ (4 * (n / 9)) % 16
  if 8 ≤ a ∧ a % 8 = n % 9 ∧ n % 9 < 8 then n / 9 * 9 + 8 else n

/-- Physical address of the Desk of position `n` (R246). -/
def deskBase (n : Nat) : Nat := 0x080000000000 + n * 0x100000
/-- Physical address of the local window of position `n` (R339). -/
def windowBase (n : Nat) : Nat := deskBase n + 0x80000
/-- Desk offset of the control line (R351). -/
def controlLine : Nat := 0x1FFC0

/-- TCMP of Tiller `t`: bytes 56 to 63 of its Desk's control line. -/
def State.tcmp (s : State) (t : Nat) : Nat :=
  ofBytes (Memory.bytes s.mem (deskBase (s.tiller t).pos + controlLine + 56) 8)

/-- OWNER of Chute `c`. -/
def State.chuteOwner (s : State) (c : Nat) : Nat := s.fld (Reg.chCfg c) F.ChCfg.owner

/-- The Chute's reader is a Tiller in service (R352, R356). DEDUCED (log 25). -/
def State.chuteAttached (s : State) (c : Nat) : Bool :=
  (s.chuteRole c == roleWork || s.chuteRole c == roleTiller) &&
  (s.tiller (s.fld (Reg.chCfg c) F.ChCfg.reader)).on

/-- An enabled event of the Chute holds (R352, R356, R360). -/
def State.chuteEvent (s : State) (c t : Nat) : Bool :=
  let ch := s.chute c
  (s.flag (Reg.chCfg c) F.ChCfg.evNe && !ch.pkts.isEmpty) ||
  (s.flag (Reg.chCfg c) F.ChCfg.evStale && ch.stale) ||
  (s.flag (Reg.chCfg c) F.ChCfg.evCancel && (s.tiller t).cancel.any (fun e => e.2 == some c))

/-- ATTACHk of Tiller `t` is high. -/
def State.attach (s : State) (t k : Nat) : Bool :=
  (List.range 256).any (fun c =>
    s.chuteAttached c && s.fld (Reg.chCfg c) F.ChCfg.reader == t &&
    s.fld (Reg.chCfg c) F.ChCfg.slot == k && s.chuteEvent c t)

/-- A Marks counter of the Tiller has its overflow bit and its interrupt enable set. -/
def State.markOvf (s : State) (t : Nat) : Bool :=
  let p := (s.tiller t).pos
  (List.range 4).any (fun i =>
    (s.flag (Reg.mkoSel p i) F.MkoSel.ie && s.flag (Reg.mkoCnt p i) F.MkoCnt.ovf) ||
    (s.flag (Reg.mksSel p i) F.MksSel.ie && s.flag (Reg.mksCnt p i) F.MksCnt.ovf) ||
    (s.flag (Reg.mkoTctl p) F.MkoTctl.tdIe && s.flag (Reg.mkoTd p i) F.MkoTd.ovf) ||
    (s.flag (Reg.mksTctl p) F.MksTctl.tdIe && s.flag (Reg.mksTd p i) F.MksTd.ovf))

/-- A source is a level source (Table 12.2). -/
def isLevel (src : Nat) : Bool :=
  src == 0 || src == 10 || (12 ≤ src && src ≤ 27) || (160 ≤ src && src ≤ 163) ||
  (165 ≤ src && src ≤ 167) || src == 169

/-- A source number that Table 12.2 uses. -/
def srcUsed (src : Nat) : Bool := src ≤ 10 || (12 ≤ src && src ≤ 27) || (32 ≤ src && src ≤ 169)

/-- The input of a level source (Table 12.2). -/
def State.levelInput (s : State) (t src : Nat) : Bool :=
  if src = 0 then s.tcmp t != 0 && decide (s.tcmp t ≤ s.dtime)
  else if src = 10 then s.markOvf t
  else if 12 ≤ src ∧ src ≤ 27 then s.attach t (src - 12)
  else if 160 ≤ src ∧ src ≤ 163 then
    let h := src - 160
    s.ringOk h && decide (s.fld (Reg.jrMark h) F.JrMark.high ≤ (s.house h).j.u)
  else if src = 165 then s.flag Reg.tj F.Tj.tjHi
  else if src = 166 then s.flag Reg.vpolStat F.VpolStat.avsFault
  else if src = 167 then
    s.flag Reg.timeStat F.TimeStat.ppsMiss || s.flag Reg.timeStat F.TimeStat.ppsFar ||
    s.flag Reg.timeStat F.TimeStat.trefLost
  else if src = 169 then
    (List.range 256).any (fun c => (s.chute c).stale && !s.chuteAttached c)
  else false

/-- The configuration word of a source for Tiller `t`: PSRC or SSRC. -/
def State.srcWord (s : State) (t src : Nat) : Word := if src < 32 then s.psrc t src else s.ssrc src

/-- The source is enabled (R341). -/
def State.srcEn (s : State) (t src : Nat) : Bool :=
  srcUsed src && F.Ssrc.en.get (s.srcWord t src) == 1
/-- RING; 3 is taken as 2. -/
def State.srcRing (s : State) (t src : Nat) : Nat := min 2 (F.Ssrc.ring.get (s.srcWord t src))
/-- LEVEL; 0 is taken as 1. -/
def State.srcLevel (s : State) (t src : Nat) : Nat := max 1 (F.Ssrc.level.get (s.srcWord t src))
/-- The source targets Tiller `t`: private, or shared with TARGET t. -/
def State.srcTarget (s : State) (t src : Nat) : Bool :=
  decide (src < 32) || F.Ssrc.target.get (s.ssrc src) == t

/-- The source is on a claim stack: of Tiller `t`, or of any Tiller when it is shared (R342). -/
def State.srcClaimed (s : State) (t src : Nat) : Bool :=
  (s.tiller t).claims.any (fun e => e.1 == src) ||
  (decide (32 ≤ src) && s.tillers.any (fun x => x.2.claims.any (fun e => e.1 == src)))

/-- The source is pending for Tiller `t` (R342). -/
def State.srcPending (s : State) (t src : Nat) : Bool :=
  srcUsed src && s.srcTarget t src &&
  (if isLevel src then s.levelInput t src && !s.srcClaimed t src
   else if src < 32 then (s.tiller t).edges.contains src
   else s.sharedEdges.contains src)

/-- Conditions 1 and 3 of R343 for code of ring `r`. -/
def State.srcClaimable (s : State) (t r src : Nat) : Bool :=
  s.srcEn t src && s.srcPending t src && decide (s.srcRing t src ≤ r)

/-- The lowest-numbered source that ICU_CLAIM takes for ring `r` (R345). -/
def State.claimable (s : State) (t r : Nat) : Option Nat :=
  (List.range 170).find? (fun src => s.srcClaimable t r src)

/-- Conditions 1 to 3 of R343. -/
def State.srcDeliverable (s : State) (t src : Nat) : Bool :=
  let x := s.tiller t
  let r := s.srcRing t src
  s.srcClaimable t x.ring src &&
  decide ((if r ≤ 1 then x.maskSecure else x.maskOpen) < s.srcLevel t src)

/-- The source that the ICU delivers at the next boundary (R343). -/
def State.deliverable (s : State) (t : Nat) : Option Nat :=
  (List.range 170).find? (fun src => s.srcDeliverable t src)

/-- Claiming an edge source clears its pending bit (R342). -/
def State.clearEdge (s : State) (t src : Nat) : State :=
  if src < 32 then s.modTiller t (fun x => { x with edges := x.edges.filter (· != src) })
  else { s with sharedEdges := s.sharedEdges.filter (· != src) }

/-- Set an edge source's pending bit again (R348, R350), unless it has been disabled (R341). -/
def State.setEdge (s : State) (t src : Nat) : State :=
  if isLevel src || !s.srcEn t src then s
  else if src < 32 then s.modTiller t (fun x => { x with edges := insertNat src x.edges })
  else { s with sharedEdges := insertNat src s.sharedEdges }

/-- Claim a source: push it, and open its EMPTY window if it is a level source (R345, R347). -/
def State.pushClaim (s : State) (t src : Nat) : State :=
  let s := if isLevel src then s else s.clearEdge t src
  s.modTiller t (fun x => { x with
    claims := (src, false) :: x.claims
    emptyWin := if isLevel src then some src else none })

/-- While the EMPTY window of Tiller `t` is open, a low input marks the claim EMPTY (R347). -/
def State.senseOne (s : State) (t : Nat) : State :=
  match (s.tiller t).emptyWin with
  | some src =>
    if s.levelInput t src then s
    else s.modTiller t (fun x => { x with
      claims := x.claims.map (fun e => if e.1 = src then (e.1, true) else e) })
  | none => s

/-- Level inputs may have fallen: each claim whose EMPTY window is open and whose input is low is marked EMPTY,
also where the input rises again before the window closes (R347). -/
def State.sense (s : State) : State :=
  (s.tillers.map (·.1)).foldl (fun (s : State) t => s.senseOne t) s

/-- Close the EMPTY window at the first instruction after the claim (R347). -/
def State.closeWindow (s : State) (t : Nat) : State :=
  (s.senseOne t).modTiller t (fun x => { x with emptyWin := none })

/-- Empty the claim stack: DFLAG clears, and every edge source on it is pending again (R348, R350).
DEDUCED (log 76). -/
def State.emptyStack (s : State) (t : Nat) : State :=
  let cs := (s.tiller t).claims
  let s := s.modTiller t (fun x => { x with claims := [], dflag := false, emptyWin := none })
  cs.foldl (fun (s : State) e => s.setEdge t e.1) s

end Sys2Proof.Machine
end

