-- ==== Sys2Proof/Machine/Tillers.lean ====
section
/-! DEFINITION. A logical Tiller: general registers, control registers, EFLAGS, the Marks counters,
retirement of an instruction, and the store buffer as its own loads see it (R245, R255, R256, R271,
R272, R284, R285, R435 to R438). -/

namespace Sys2Proof.Machine

/-! ### General registers (R245) -/

/-- g0 reads 0. -/
def Tiller.get (x : Tiller) (r : Fin 32) : Word := if r = 0 then 0 else x.g[r]
/-- A write to g0 is discarded. -/
def Tiller.put (x : Tiller) (r : Fin 32) (v : Word) : Tiller :=
  if r = 0 then x else { x with g := x.g.set r v }
/-- A general register of Tiller `t`. -/
def State.gr (s : State) (t : Nat) (r : Fin 32) : Word := (s.tiller t).get r
/-- Write a general register of Tiller `t`. -/
def State.setGr (s : State) (t : Nat) (r : Fin 32) (v : Word) : State := s.modTiller t (fun x => x.put r v)

/-! ### Rings and worlds (Table 10.1) -/

/-- Rings 0 and 1 are secure. -/
def secureRing (r : Nat) : Bool := decide (r ≤ 1)
/-- The Tiller runs in the secure world. -/
def Tiller.secure (x : Tiller) : Bool := secureRing x.ring
/-- Custody: from a cold or warm reset until service (R304). -/
def State.custody (s : State) : Bool := !s.power.service
/-- MASK of the bank of a world. -/
def Tiller.mask (x : Tiller) (sec : Bool) : Nat := if sec then x.maskSecure else x.maskOpen
/-- Write MASK of a bank. -/
def Tiller.setMask (x : Tiller) (sec : Bool) (v : Nat) : Tiller :=
  if sec then { x with maskSecure := v } else { x with maskOpen := v }
/-- PTBASE of a world's bank. -/
def Tiller.pt (x : Tiller) (sec : Bool) : Word := if sec then x.ptSecure else x.ptOpen

/-- A banked register by ring. -/
def bank (v : Vector Word 4) (r : Nat) : Word := v[r % 4]
/-- Write a banked register. -/
def setBank (v : Vector Word 4) (r : Nat) (w : Word) : Vector Word 4 :=
  v.set (r % 4) w (by omega)

/-- EFLAGS of running code (R284). -/
def Tiller.eflags (x : Tiller) : Word :=
  BitVec.ofNat 64 (x.ring + (if x.secure then 4 else 0) + (if x.progress then 8 else 0) +
    (match x.carrel with
     | some c => 256 + 65536 * c
     | none => 0))

/-- The Tiller belongs to a House: TID.HVALID. -/
def State.tid (s : State) (t : Nat) : Word :=
  let x := s.tiller t
  BitVec.ofNat 64 (t + 256 * (x.pos / 9) + 4096 * (x.pos % 9) +
    (match s.tillerHouse t with
     | some h => 2 ^ 18 + 2 ^ 16 * h
     | none => 0) + 2 ^ 24 * (x.term % 256))

/-- Prediction is in effect (R266). -/
def State.predicting (s : State) (t : Nat) : Bool :=
  (s.tiller t).predEn &&
  (match s.tillerFor t with
   | some h => !s.flag (Reg.houseCfg h) F.HouseCfg.exam
   | none => true)

/-- WORLD (R304, R290). -/
def State.worldWord (s : State) (t : Nat) : Word :=
  let x := s.tiller t
  BitVec.ofNat 64 ((if x.secure then 1 else 0) + (if x.openEn then 2 else 0) +
    (if s.custody then 256 else 0))

/-! ### Control registers (Tables 9.7 and 10.2) -/

/-- A register number of Table 9.7. -/
def csrKnown (n : Nat) : Bool :=
  [0x000, 0x001, 0x002, 0x010, 0x011, 0x012, 0x013, 0x018, 0x019, 0x01A, 0x01B, 0x020, 0x021, 0x022,
   0x030, 0x031, 0x032, 0x040, 0x041].contains n

/-- A CSRW is held pending until CSYNC or entry (Table 9.7). -/
def csrSync (n : Nat) : Bool :=
  [0x010, 0x011, 0x012, 0x013, 0x018, 0x019, 0x01A, 0x01B, 0x020, 0x021, 0x030, 0x031, 0x032].contains n

/-- May the ring read the register? (Tables 9.7 and 10.2) -/
def csrReadable (n r : Nat) : Bool :=
  match n with
  | 0x010 | 0x018 | 0x031 | 0x032 => r == 0
  | 0x011 | 0x019 => r ≤ 1
  | 0x012 | 0x01A | 0x020 | 0x030 => r ≤ 2
  | _ => true

/-- May the ring write the register? -/
def csrWritable (n r : Nat) : Bool :=
  match n with
  | 0x000 | 0x001 | 0x002 | 0x022 => true
  | 0x010 | 0x018 | 0x031 | 0x032 => r == 0
  | 0x011 | 0x019 => r ≤ 1
  | 0x012 | 0x013 | 0x01A | 0x01B | 0x020 | 0x021 | 0x030 => r ≤ 2
  | _ => false

/-- Defined bits of CAUSE. -/
def causeBits : Word := 0x8F000000FFFFFFFF#64
/-- PTBASE's defined bits. -/
def ptBits : Word := 0xFFFF0FFFFFFFF001#64

/-- The key under which a pending write is held: MASK and PTBASE are banked per world, so the open bank
has numbers of its own. -/
def pendKey (n r : Nat) : Nat := if (n = 0x020 ∨ n = 0x030) ∧ !secureRing r then n + 0x1000 else n

/-- The value in force of a control register, as ring `r` sees it. -/
def State.csrNow (s : State) (t n r : Nat) : Word :=
  let x := s.tiller t
  match n with
  | 0x000 => bank x.cause r
  | 0x001 => bank x.epc r
  | 0x002 => x.eflags
  | 0x010 | 0x011 | 0x012 | 0x013 => bank x.entry (n - 0x010)
  | 0x018 | 0x019 | 0x01A | 0x01B => bank x.sp (n - 0x018)
  | 0x020 => BitVec.ofNat 64 (x.mask (secureRing r))
  | 0x021 => BitVec.ofNat 64 ((if x.predEn then 1 else 0) + (if s.predicting t then 256 else 0))
  | 0x022 => x.arith
  | 0x030 => x.pt (secureRing r)
  | 0x031 => if s.custody then x.carrelCsr &&& ~~~1#64 else x.carrelCsr
  | 0x032 => s.worldWord t
  | 0x040 => s.tid t
  | _ => BitVec.ofNat 64 s.dtime

/-- What a read shows of a pending write: writable fields from it, the others from the present. -/
def State.csrShown (s : State) (t n r : Nat) (v : Word) : Word :=
  let now := s.csrNow t n r
  match n with
  | 0x013 => v &&& ~~~2#64
  | 0x010 | 0x011 | 0x012 => v &&& ~~~3#64
  | 0x020 => v &&& 3#64
  | 0x021 => (v &&& 1#64) ||| (now &&& 256#64)
  | 0x030 => v &&& ptBits
  | 0x031 => if s.custody then v &&& 0xFFFFFFFC000#64 else v &&& 0xFFFFFFFC001#64
  | 0x032 => (v &&& 2#64) ||| (now &&& ~~~2#64)
  | _ => v

/-- CSRR: a pending value is read back (R272). -/
def State.csrRead (s : State) (t n r : Nat) : Word :=
  match Map.find (pendKey n r) (s.tiller t).pendCsr with
  | some v => s.csrShown t n r v
  | none => s.csrNow t n r

/-- Flush the direction predictor and the fetch queue (R263, R265). -/
def Tiller.flushPred (x : Tiller) : Tiller := { x with pred := [], fq := [] }

/-- Put a control register's value in force. -/
def State.csrPut (s : State) (t key : Nat) (v : Word) : State :=
  let open_ := decide (0x1000 ≤ key)
  let n := key % 0x1000
  s.modTiller t (fun x =>
    let w := s.csrShown t n (if open_ then 2 else 0) v
    match n with
    | 0x010 | 0x011 | 0x012 | 0x013 => { x with entry := setBank x.entry (n - 0x010) w }
    | 0x018 | 0x019 | 0x01A | 0x01B => { x with sp := setBank x.sp (n - 0x018) w }
    | 0x020 => x.setMask (!open_) w.toNat
    | 0x021 =>
      let x := { x with predEn := v.getLsbD 0 }
      if v.getLsbD 1 then x.flushPred else x
    | 0x030 => if open_ then { x with ptOpen := w } else { x with ptSecure := w }
    | 0x031 => { x with carrelCsr := w }
    | 0x032 => { x with openEn := w.getLsbD 1 }
    | _ => x)

/-- Apply the pending control register writes (R272). -/
def State.applyPending (s : State) (t : Nat) : State :=
  let s := (s.tiller t).pendCsr.foldl (fun (s : State) e => s.csrPut t e.1 e.2) s
  s.modTiller t (fun x => { x with pendCsr := [] })

/-- CSRW (R271, R272, Table 10.2): at once, or held pending. -/
def State.csrWrite (s : State) (t n r : Nat) (v : Word) : State :=
  if csrSync n then
    s.modTiller t (fun x => { x with pendCsr := Map.insert (pendKey n r) v x.pendCsr })
  else
    s.modTiller t (fun x =>
      match n with
      | 0x000 => { x with cause := setBank x.cause r (v &&& causeBits) }
      | 0x001 => { x with epc := setBank x.epc r v }
      | 0x002 => { x with progress := v.getLsbD 3 }
      | 0x022 => { x with arith := (x.arith &&& ~~~(v &&& 0x300#64) &&& 0x300#64) ||| (v &&& 3#64) }
      | _ => x)

/-! ### Marks (R435 to R438) -/

/-- Event numbers of Table 15.5. -/
abbrev evRetired : Nat := 0x0001
abbrev evRun : Nat := 0x0002
abbrev evBranch : Nat := 0x0003
abbrev evMispredict : Nat := 0x0004
abbrev evAnnulled : Nat := 0x0005
abbrev evDMiss : Nat := 0x0006
abbrev evIMiss : Nat := 0x0007
abbrev evTlbMiss : Nat := 0x0008
abbrev evException : Nat := 0x000C
abbrev evInterrupt : Nat := 0x000D
abbrev evWrongPath : Nat := 0x000E

/-- Count an event of a Tiller in ring `r` (R436). -/
def State.mark (s : State) (t r ev n : Nat) : State :=
  let p := (s.tiller t).pos
  (List.range 4).foldl (fun (s : State) i =>
    let o := s.rd (Reg.mkoSel p i)
    let k := s.rd (Reg.mksSel p i)
    let s := if F.MkoSel.en.get o = 1 ∧ F.MkoSel.event.get o = ev ∧ 2 ≤ r ∧
        (F.MkoSel.rmask.get o).testBit (r - 2) then s.countMark (Reg.mkoCnt p i) n else s
    if F.MksSel.en.get k = 1 ∧ F.MksSel.event.get k = ev ∧ (F.MksSel.rmask.get k).testBit r then
      s.countMark (Reg.mksCnt p i) n
    else s) s

/-- Count `n` beats in a top-down slot of the world and as run beats (R438). DESIGN CHOICE (log 3). -/
def State.topDown (s : State) (t r k n : Nat) : State :=
  let p := (s.tiller t).pos
  let a := if secureRing r then Reg.mksTd p k else Reg.mkoTd p k
  (s.countMark a n).mark t r evRun n

/-! ### The store buffer as its Tiller sees it (R255, R256) -/

/-- The youngest buffered byte at an address. -/
def Tiller.buffered (x : Tiller) (a : Nat) : Option Byte :=
  (x.sb.reverse.findSome? (fun e => if e.side then none else
    if e.line = lineOf a then Map.find (a % 64) e.bytes else none))

/-- A byte of the boot ROM, or of DRAM and Desks. DESIGN CHOICE (log 5). -/
def State.memByte (s : State) (a : Nat) : Byte :=
  if 0x0F0000000000 ≤ a then Config.bootRom (a - 0x0F0000000000) else Memory.byte s.mem a

/-- `n` bytes of memory. -/
def State.bytesAt (s : State) (a n : Nat) : List Byte := (List.range n).map (fun i => s.memByte (a + i))

/-- `n` bytes as Tiller `t` sees them, its own stores first. -/
def State.viewBytes (s : State) (t a n : Nat) : List Byte :=
  (List.range n).map (fun i => ((s.tiller t).buffered (a + i)).getD (s.memByte (a + i)))

/-- Some byte of the range lies in the store buffer. -/
def Tiller.anyBuffered (x : Tiller) (a n : Nat) : Bool :=
  (List.range n).any (fun i => (x.buffered (a + i)).isSome)
/-- Every byte of the range lies in the store buffer. -/
def Tiller.allBuffered (x : Tiller) (a n : Nat) : Bool :=
  (List.range n).all (fun i => (x.buffered (a + i)).isSome)

/-- A buffered store of the Tiller's own lies in the line, beside side-effect ones. -/
def Tiller.holdsLine (x : Tiller) (line : Nat) : Bool := x.sb.any (fun e => !e.side && e.line == line)

/-- A side-effect store to the line is buffered, or accepted and not performed: it is never forwarded. -/
def Tiller.sideLine (x : Tiller) (line : Nat) : Bool := (x.posted ++ x.sb).any (fun e => e.side && lineOf e.line == line)

/-- A store to a side-effect region is still buffered. -/
def Tiller.sidePending (x : Tiller) : Bool := x.sb.any (fun e => e.side)

/-- List bytes by offset, a younger byte replacing an older. -/
def putBytes (o : Nat) : List Byte → List (Nat × Byte) → List (Nat × Byte)
  | [], m => m
  | b :: bs, m => putBytes (o + 1) bs (Map.insert o b m)

/-- The open entry of a line that takes a merge. -/
def openEntry (line : Nat) (e : SbEntry) : Bool := e.isOpen && !e.side && e.line == line

/-- Put bytes of one line into the store buffer: merge, or take an entry (R255). An entry whose line may be cached
is marked so. -/
def Tiller.buffer (x : Tiller) (a : Nat) (bs : List Byte) (cached : Bool) : Tiller :=
  let line := lineOf a
  if x.sb.any (openEntry line) then
    { x with sb := x.sb.map (fun e =>
        if openEntry line e then { e with bytes := putBytes (a % 64) bs e.bytes } else e) }
  else
    { x with sb := x.sb ++ [⟨line, putBytes (a % 64) bs [], false, true, true, x.fenceNo, 64, x.ring, cached⟩] }

/-- Room for a store of bytes in one line. DEDUCED (log 27). -/
def Tiller.room (x : Tiller) (a : Nat) : Bool :=
  x.sb.any (openEntry (lineOf a)) || decide (x.sb.length < 8)

/-- Close every open entry (R260). DEDUCED (log 31). -/
def Tiller.fenceW (x : Tiller) : Tiller :=
  { x with sb := x.sb.map (fun e => { e with isOpen := false }), fenceNo := x.fenceNo + 1 }

/-! ### Retiring (R244, R268) -/

/-- Physical address of the current instruction: its place in a line of the fetch queue. -/
def Tiller.curPa (x : Tiller) : Option Nat :=
  (x.fq.find? (fun e => e.1 == lineOf x.pc.toNat)).map (fun e => e.2 + x.pc.toNat % 64)

/-- Step over a completed instruction: to the delay slot's recorded target, or to the next word. -/
def Tiller.advance (x : Tiller) : Tiller :=
  { x with
    prevPa := x.curPa
    noEntryCheck := false
    progress := false
    dbgStep := false
    lineWait := []
    pc := x.dslot.getD (x.pc + 4)
    dslot := none }

/-- Retire an instruction of `beats` beats. DESIGN CHOICE (log 3). -/
def State.retire (s : State) (t beats : Nat) : State :=
  let r := (s.tiller t).ring
  (((s.modTiller t Tiller.advance).closeWindow t).mark t r evRetired 1).topDown t r 0 beats

end Sys2Proof.Machine
end

