-- ==== Sys2Proof/Machine/Translate.lean ====
section
/-! DEFINITION. From a virtual address to a checked physical address: page tables, the TLB, custody's
second stage, the memory map, watermarks, House bounds, carrels and region attributes (R14, R295,
R297 to R299, R305, R314 to R322, R327 to R331, R339, R437). -/

namespace Sys2Proof.Machine

/-- CAUSE codes of Table 10.3. -/
abbrev Ex.illegal : Nat := 0x0001
abbrev Ex.priv : Nat := 0x0002
abbrev Ex.align : Nat := 0x0003
abbrev Ex.atomicTarget : Nat := 0x0004
abbrev Ex.divZero : Nat := 0x0005
abbrev Ex.overflow : Nat := 0x0006
abbrev Ex.privReturn : Nat := 0x0007
abbrev Ex.gate : Nat := 0x0008
abbrev Ex.pcall : Nat := 0x0009
abbrev Ex.fetchXlate : Nat := 0x0010
abbrev Ex.loadXlate : Nat := 0x0011
abbrev Ex.storeXlate : Nat := 0x0012
abbrev Ex.access : Nat := 0x0013
abbrev Ex.dirty : Nat := 0x0014
abbrev Ex.walkDevice : Nat := 0x0015
abbrev Ex.walkError : Nat := 0x0016
abbrev Ex.watermark : Nat := 0x0020
abbrev Ex.carrelAccess : Nat := 0x0021
abbrev Ex.carrelEntry : Nat := 0x0022
abbrev Ex.custodyXlate : Nat := 0x0023
abbrev Ex.escalated : Nat := 0x0030
abbrev Ex.icuFault : Nat := 0x0031
abbrev Ex.machineCheck : Nat := 0x0032

/-- The translation fault of an access kind. -/
def xlateFault (k : Acc) : Nat :=
  match k with
  | .fetch => Ex.fetchXlate
  | .load => Ex.loadXlate
  | .store | .atomic => Ex.storeXlate

/-- Priority within one instruction: the order of Table 10.3. -/
def causeOrder : List Nat :=
  [0x10, 0x22, 0x01, 0x02, 0x03, 0x04, 0x11, 0x12, 0x13, 0x14, 0x15, 0x16, 0x23, 0x20, 0x21, 0x05, 0x06,
   0x07]

/-- The first of some faults in the order of Table 10.3. -/
def firstFault (fs : List Nat) : Option Nat := causeOrder.find? (fun c => fs.contains c)

/-! ### The memory map (R14, R339, R385) -/

/-- What lies at a physical address. -/
inductive Place where
  | dram
  /-- Desk of a position, and the offset in it. -/
  | desk (n off : Nat)
  | window (n off : Nat)
  | regs
  | rom
  | unmapped
  deriving DecidableEq, Repr

/-- The upper half of a House's symmetric key-table area, which holds the twins (R385). -/
def State.inTwins (s : State) (a : Nat) : Bool :=
  (List.range 4).any (fun h =>
    let base := 4096 * s.fld (Reg.ktSym h) F.KtSym.base
    let n := 128 * s.tableCount h false
    decide (base + n ≤ a) && decide (a < base + 2 * n))

/-- The physical address that an address reaches, with slot aliases applied (R432). -/
def State.norm (s : State) (a : Nat) : Nat :=
  if 0x080000000000 ≤ a ∧ a < deskBase 72 then
    deskBase (s.aliasPos ((a - 0x080000000000) / 0x100000)) + a % 0x100000
  else a

/-- What lies at a normalised physical address (Table 0.8). -/
def State.placeOf (s : State) (a : Nat) : Place :=
  if a < 0x008000000000 then
    if (s.regionAt a).isSome ∧ !s.inTwins a then .dram else .unmapped
  else if 0x080000000000 ≤ a ∧ a < deskBase 72 then
    let n := (a - 0x080000000000) / 0x100000
    let o := a % 0x100000
    if o < 0x20000 then .desk n o else if 0x80000 ≤ o then .window n (o - 0x80000) else .unmapped
  else if 0x0C0000000000 ≤ a ∧ a < 0x0C0010000000 then .regs
  else if 0x0F0000000000 ≤ a ∧ a < 0x0F0000100000 then .rom
  else .unmapped

/-- Ring 0 only, or rings 0 and 1 only: the blocks of R313, R338, R420, R368, R401 and R441.
DEDUCED (log 19). -/
def blockRing (a : Nat) : Nat :=
  let b := (a - 0x0C0000000000) / 0x10000
  if b = 6 ∨ b = 7 ∨ b = 10 then 0 else 1

/-- The Chute that a window offset belongs to (Table 12.1). -/
def windowChute (o : Nat) : Option Nat :=
  if 0x2000 ≤ o ∧ o < 0x2800 then some ((o - 0x2000) / 8)
  else if 0x2800 ≤ o ∧ o < 0x3000 then some ((o - 0x2800) / 8)
  else if 0x40000 ≤ o then some ((o - 0x40000) / 0x400)
  else none

/-- The Hopper channel that a window offset belongs to. -/
def windowHop (o : Nat) : Option Nat := if 0x8000 ≤ o ∧ o < 0x8800 then some ((o - 0x8000) / 0x80) else none

/-- DTIME, which every ring and world may load. -/
def isDtime (a : Nat) : Bool := a / 8 == Reg.dtime / 8

/-- Step 4: is the address secure? (R295, R339) DEDUCED (log 20). -/
def State.secureAt (s : State) (a : Nat) : Bool :=
  match s.placeOf a with
  | .dram => decide (a < s.fld Reg.swmDram F.SwmDram.swm * 2 ^ 28)
  | .desk n o => decide (o < min 32 (s.fld (Reg.swmDesk n) F.SwmDesk.swm) * 4096)
  | .window n o =>
    if o < 0x2000 then false
    else match windowChute o, windowHop o with
      | some c, _ => decide (4 ≤ s.chuteOwner c)
      | _, some k => !s.flag (Reg.hpOwn (16 * (n / 9) + k)) F.HpOwn.openF
      | _, _ => !(0x6000 ≤ o && o < 0x7000)
  | .regs => !isDtime a
  | .rom => true
  | .unmapped => false

/-- The logical Tiller at a position. -/
def State.tillerAt (s : State) (n : Nat) : Option Nat := (List.range 64).find? (fun t => (s.tiller t).pos == n)

/-- The House of a position's Tiller. -/
def State.posHouse (s : State) (n : Nat) : Option Nat := (s.tillerAt n).bind s.tillerFor

/-- Step 5: the addresses, not secure, that open-world code of House `h` may reach (R328, R339, R437). -/
def State.houseReach (s : State) (h : Nat) (k : Acc) (ring a : Nat) : Bool :=
  match s.placeOf a with
  | .dram => s.ownerAt a == h
  | .desk n _ => s.posHouse n == some h
  | .window n o =>
    if o < 0x2000 then true
    else match windowChute o, windowHop o with
      | some c, _ => s.chuteOwner c == h
      | _, some c => s.fld (Reg.hpOwn (16 * (n / 9) + c)) F.HpOwn.house == h
      | _, _ => s.posHouse n == some h &&
          (ring != 3 || (k == .load && s.flag (Reg.mkoTctl n) F.MkoTctl.user))
  | .regs => isDtime a && k == .load
  | _ => false

/-! ### Carrels (Table 10.6, R298, R299) -/

/-- A carrel table entry. -/
structure Carrel where
  codeBase : Nat
  codeLimit : Nat
  dataBase : Nat
  dataLimit : Nat
  entry : Nat
  house : Nat
  valid : Bool
  deriving DecidableEq, Repr

/-- The carrel table of Tiller `t`. -/
def State.carrelBase (s : State) (t : Nat) : Nat := (s.tiller t).carrelCsr.toNat / 2 ^ 14 * 2 ^ 14 % 2 ^ 44

/-- A carrel's ranges as the addresses that they reach: one that lies in a Desk follows its Tiller's migration
(R432). -/
def State.normCarrel (s : State) (k : Carrel) : Carrel :=
  { k with
    codeBase := s.norm k.codeBase
    codeLimit := s.norm k.codeBase + (k.codeLimit - k.codeBase)
    dataBase := s.norm k.dataBase
    dataLimit := s.norm k.dataBase + (k.dataLimit - k.dataBase) }

/-- Entry `c` of the carrel table. -/
def State.carrel (s : State) (t c : Nat) : Carrel :=
  let b := Memory.bytes s.mem (s.carrelBase t + 64 * c) 38
  s.normCarrel ⟨le b 0 8, le b 8 8, le b 16 8, le b 24 8, le b 32 4, byteAt b 36, (byteAt b 37).testBit 0⟩

/-- The Tiller applies the carrel checks (R297). -/
def State.carrelsOn (s : State) (t : Nat) : Bool := !s.custody && (s.tiller t).carrelCsr.getLsbD 0

/-- The address lies in a carrel's code range. -/
def Carrel.inCode (c : Carrel) (a : Nat) : Bool := c.valid && decide (c.codeBase ≤ a) && decide (a < c.codeLimit)
/-- The address lies in a carrel's data range. -/
def Carrel.inData (c : Carrel) (a : Nat) : Bool := c.valid && decide (c.dataBase ≤ a) && decide (a < c.dataLimit)

/-- The carrel whose code holds an address. -/
def State.codeCarrel (s : State) (t a : Nat) : Option Nat :=
  if s.carrelsOn t then (List.range 256).find? (fun c => (s.carrel t c).inCode a) else none
/-- The carrel whose data holds an address. -/
def State.dataCarrel (s : State) (t a : Nat) : Option Nat :=
  if s.carrelsOn t then (List.range 256).find? (fun c => (s.carrel t c).inData a) else none

/-- Step 6 passes for an open-world access by the instruction at `ipa` (R298). -/
def State.carrelOk (s : State) (t : Nat) (k : Acc) (ipa : Option Nat) (a : Nat) : Bool :=
  let own (c : Nat) : Bool := (ipa.map (fun p => (s.carrel t c).inCode p)).getD false
  (match s.dataCarrel t a with
   | some c => k != .fetch && own c
   | none => true) &&
  (match s.codeCarrel t a with
   | some c => k == .fetch || (k == .load && own c)
   | none => true)

/-! ### Region attributes (R329, R330) -/

/-- The type of an address. -/
structure AddrType where
  side : Bool
  /-- Early write acknowledgement allowed. -/
  ewa : Bool
  /-- May be held in the data cache and the L2. -/
  cached : Bool
  deriving DecidableEq, Repr

/-- The first enabled region attribute entry of a position that covers an address. -/
def State.rat (s : State) (pos a : Nat) : Option Nat :=
  (List.range 16).find? (fun e =>
    let r := s.rd (Reg.ratA (16 * pos + e))
    s.flag (Reg.ratB (16 * pos + e)) F.RatB.en &&
    decide (F.RatA.base.get r ≤ a / 4096) && decide (a / 4096 < F.RatA.limit.get r))

/-- The type of an address for the Tiller at a position. -/
def State.addrType (s : State) (pos a : Nat) : AddrType :=
  let e := s.rat pos a
  let f (x : Fld) : Bool := (e.map (fun n => s.flag (Reg.ratB (16 * pos + n)) x)).getD false
  match s.placeOf a with
  | .window _ _ | .regs => ⟨true, f F.RatB.ewa, false⟩
  | .dram => if f F.RatB.se then ⟨true, f F.RatB.ewa, false⟩ else ⟨false, true, !f F.RatB.nc⟩
  | _ => if f F.RatB.se then ⟨true, f F.RatB.ewa, false⟩ else ⟨false, true, false⟩

/-- What fails at step 7 for `n` bytes at an address, of an access that is naturally aligned or not (R329 to R331,
R339, R7, R254, R262). -/
def State.attrFaults (s : State) (pos : Nat) (k : Acc) (a n : Nat) (al : Bool) : List Nat :=
  let ty := s.addrType pos a
  let isDesk := match s.placeOf a with
    | .desk _ _ => true
    | _ => false
  let isWin := match s.placeOf a with
    | .window _ _ => true
    | _ => false
  (if k = .fetch ∧ ty.side then [Ex.fetchXlate] else []) ++
  (if (k = .store ∨ k = .atomic) ∧ s.placeOf a = .rom then [Ex.storeXlate] else []) ++
  (if k = .atomic ∧ (!isDesk ∨ ty.side) then [Ex.atomicTarget] else []) ++
  (if (ty.side ∨ k = .atomic) ∧ !al then [Ex.align] else []) ++
  (if isWin && n != 8 && k != Acc.fetch then [Ex.align] else [])

/-- Step 3 of Table 11.4 for the Tiller at a position: the memory map holds the address. DEDUCED (log 19). -/
def State.mapped (s : State) (pos ring a : Nat) : Bool :=
  match s.placeOf a with
  | .unmapped => false
  | .window m _ => decide (m = pos)
  | .regs => decide (ring ≤ blockRing a) || !secureRing ring
  | _ => true

/-- Steps 3 to 7 of Table 11.4 for `n` bytes of one line, by the instruction at `ipa`: the fault, if any. `al` says
whether the whole access is naturally aligned. DEDUCED (log 19). -/
def State.physFault (s : State) (t ring : Nat) (k : Acc) (ipa : Option Nat) (a n : Nat)
    (al : Bool := a % n == 0) : Option Nat :=
  let pos := (s.tiller t).pos
  if !s.mapped pos ring a then some (xlateFault k)
  else if secureRing ring then firstFault (s.attrFaults pos k a n al)
  else if s.secureAt a then some Ex.watermark
  else
    let reach := match s.tillerFor t with
      | some h => s.houseReach h k ring a
      | none => false
    firstFault ((if reach then [] else [xlateFault k]) ++
      (if s.carrelOk t k ipa a then [] else [Ex.carrelAccess]) ++ s.attrFaults pos k a n al)

/-! ### Page tables (R315 to R318) -/

/-- How an access fares at translation. -/
inductive Xl where
  | ok (pa : Nat)
  | fault (code tval : Nat)
  /-- A TLB miss: the walk starts. -/
  | miss
  deriving DecidableEq, Repr

/-- Canonical: bits [63:39] all equal bit 38 (R314). -/
def canonical (va : Nat) : Bool := va / 2 ^ 38 == 0 || va / 2 ^ 38 == 2 ^ 26 - 1

/-- An entry's bits [62:60], R W X from bit 2, permit an access. -/
def secondPermits (b : BitVec 3) (k : Acc) : Bool :=
  match k with
  | .fetch => b.getLsbD 0
  | .load => b.getLsbD 2
  | .store => b.getLsbD 1
  | .atomic => b.getLsbD 2 && b.getLsbD 1

/-- Entry of custody's second-stage table for an IPA (R305). -/
def State.secondEntry (s : State) (ipa : Nat) : Nat :=
  ofBytes (Memory.bytes s.mem (s.fld Reg.custS2 F.CustS2.base * 2 ^ 21 + 8 * (ipa / 2 ^ 21)) 8)

/-- Custody's second stage (R305). DEDUCED (log 26). -/
def State.secondStage (s : State) (k : Acc) (ipa : Nat) : Option Nat :=
  if ipa < 2 ^ 39 then
    let e := s.secondEntry ipa
    if e.testBit 63 && secondPermits (BitVec.ofNat 3 (e / 2 ^ 60)) k then
      some (e / 2 ^ 21 % 2 ^ 23 * 2 ^ 21 + ipa % 2 ^ 21)
    else none
  else none

/-- The open world in custody translates through two stages. -/
def State.twoStage (s : State) (ring : Nat) : Bool :=
  s.custody && !secureRing ring && s.flag Reg.custS2 F.CustS2.en

/-- A physical address from the address that the first stage gives. -/
def State.toPhys (s : State) (ring : Nat) (k : Acc) (a : Nat) : Xl :=
  if s.twoStage ring then
    match s.secondStage k a with
    | some p => .ok (s.norm p)
    | none => .fault Ex.custodyXlate a
  else .ok (s.norm a)

/-- Leaf bits [8:2] as a vector: R W X U G A D. -/
abbrev LeafBits := BitVec 7

/-- R317: the leaf permits the access of the ring. -/
def leafPermits (b : LeafBits) (k : Acc) (ring : Nat) : Bool :=
  (match k with
   | .fetch => b.getLsbD 2
   | .load => b.getLsbD 0
   | .store | .atomic => b.getLsbD 0 && b.getLsbD 1) &&
  (if ring % 2 = 1 then b.getLsbD 3 else !(k == .fetch && b.getLsbD 3))

/-- R317 and R318 on a leaf: the fault, if any. -/
def leafFault (b : LeafBits) (k : Acc) (ring : Nat) : Option Nat :=
  if !leafPermits b k ring then some (xlateFault k)
  else if !b.getLsbD 5 then some Ex.access
  else if (k == .store || k == .atomic) && !b.getLsbD 6 then some Ex.dirty
  else none

/-- A TLB entry maps the address for the world and ASID (R314, R322). -/
def TlbEntry.maps (e : TlbEntry) (sec : Bool) (asid va : Nat) : Bool :=
  canonical va && e.secure == sec && (e.bits.getLsbD 4 || e.asid == asid) && e.vpn == va % 2 ^ 39 / 2 ^ e.size

/-- The physical address through an entry (R321). -/
def TlbEntry.addr (e : TlbEntry) (va : Nat) : Nat := e.ppn / 2 ^ e.size * 2 ^ e.size + va % 2 ^ e.size

/-- ASID of the world's PTBASE. -/
def Tiller.asid (x : Tiller) (sec : Bool) : Nat := (x.pt sec).toNat / 2 ^ 48
/-- Table base of the world's PTBASE. -/
def Tiller.root (x : Tiller) (sec : Bool) : Nat := (x.pt sec).toNat / 2 ^ 12 % 2 ^ 32 * 2 ^ 12

/-- The TLB entry that an access uses: an unpredictable one where several match (R322). -/
def State.tlbHit (s : State) (t : Nat) (sec : Bool) (va : Nat) : Option TlbEntry × State :=
  let x := s.tiller t
  let l := x.tlb.filter (fun e => e.maps sec (x.asid sec) va)
  match l with
  | [] => (none, s)
  | [e] => (some e, s)
  | _ => let c := s.choose l.length; (l[c.1]?, c.2)

/-- Discard a TLB entry. -/
def State.tlbDrop (s : State) (t : Nat) (e : TlbEntry) : State :=
  s.modTiller t (fun x => { x with tlb := x.tlb.filter (· != e) })

/-- The physical address through an entry that permits the access: of a combined translation also by its second
stage (R305). -/
def State.through (s : State) (k : Acc) (va : Nat) (e : TlbEntry) : Xl :=
  match e.second with
  | some (ipa, b) =>
    if secondPermits b k then .ok (s.norm (e.addr va)) else .fault Ex.custodyXlate (ipa + va % 2 ^ e.size)
  | none => .ok (s.norm (e.addr va))

/-- Step 1 and 2 of Table 11.4: translate one address (R305, R314, R317, R318, R322). -/
def State.translate (s : State) (t ring : Nat) (k : Acc) (va : Nat) : Xl × State :=
  let sec := secureRing ring
  let x := s.tiller t
  if (x.pt sec).getLsbD 0 then
    if canonical va then
      let h := s.tlbHit t sec va
      match h.1 with
      | none => (.miss, h.2)
      | some e =>
        match leafFault e.bits k ring with
        | some c =>
          if c = Ex.dirty then (.miss, h.2.tlbDrop t e) else (.fault c va, h.2)
        | none => (h.2.through k va e, h.2)
    else (.fault (xlateFault k) va, s)
  else if va < 2 ^ 44 then (s.toPhys ring k va, s)
  else (.fault (xlateFault k) va, s)

/-! ### Walks (R315, R316, R319, R321) -/

/-- What one walk read leads to. -/
inductive WalkRes where
  | next (level entry : Nat)
  | leaf (e : TlbEntry)
  | fault (code tval : Nat)
  deriving DecidableEq, Repr

/-- Address of the entry that a walk reads first. -/
def State.walkRoot (s : State) (t ring va : Nat) : Nat :=
  (s.tiller t).root (secureRing ring) + 8 * (va / 2 ^ 30 % 512)

/-- The size of a leaf's mapping. -/
def leafSize (level : Nat) (cont : Bool) : Nat :=
  if level = 1 then 30 else if level = 2 then (if cont then 25 else 21) else (if cont then 16 else 12)

/-- What an entry value read at a level gives (R316 to R318). -/
def walkEntry (x : Tiller) (ring : Nat) (k : Acc) (va level e : Nat) : WalkRes :=
  let bad := WalkRes.fault (xlateFault k) va
  let ppn := e / 2 ^ 12 % 2 ^ 32 * 2 ^ 12
  if !e.testBit 0 || e / 2 ^ 44 % 2 ^ 19 != 0 then bad
  else if e.testBit 1 then
    if level = 3 then bad
    else .next (level + 1) (ppn + 8 * (va / 2 ^ (if level = 1 then 21 else 12) % 512))
  else
    let b : LeafBits := BitVec.ofNat 7 (e / 4)
    let cont := e.testBit 9
    if (level = 1 ∧ (ppn % 2 ^ 30 ≠ 0 ∨ cont)) ∨ (level = 2 ∧ ppn % 2 ^ 21 ≠ 0) ∨
        (!b.getLsbD 0 ∧ b.getLsbD 1) then bad
    else match leafFault b k ring with
      | some c => .fault c va
      | none =>
        let sz := leafSize level cont
        .leaf ⟨secureRing ring, x.asid (secureRing ring), va % 2 ^ 39 / 2 ^ sz, sz, ppn, b, none⟩

/-- Where a walk read goes: its physical address, or the fault of R319. A failure of steps 3 to 5 raises the
translation fault of the access kind. DEDUCED (log 18). -/
def State.walkAddr (s : State) (t ring : Nat) (k : Acc) (va entry : Nat) : Xl :=
  match s.toPhys ring .load entry with
  | .ok a =>
    let pos := (s.tiller t).pos
    let reach := secureRing ring ||
      (!s.secureAt a && ((s.tillerFor t).map (fun h => s.houseReach h .load ring a)).getD false)
    if !s.mapped pos ring a || !reach then .fault (xlateFault k) va
    else if (s.addrType pos a).side then .fault Ex.walkDevice va
    else .ok a
  | r => r

/-- A leaf of the open world in custody, combined with the second stage: the part of it that one 2 MB block of the
second stage maps, or CUSTODY_XLATE (R305). DEDUCED (log 26). -/
def State.combined (s : State) (ring : Nat) (k : Acc) (va : Nat) (e : TlbEntry) : WalkRes :=
  if s.twoStage ring then
    let ipa := e.addr va
    match s.secondStage k ipa with
    | none => .fault Ex.custodyXlate ipa
    | some p =>
      let sz := min e.size 21
      .leaf { e with
        vpn := va % 2 ^ 39 / 2 ^ sz
        size := sz
        ppn := p / 2 ^ sz * 2 ^ sz
        second := some (ipa / 2 ^ sz * 2 ^ sz, BitVec.ofNat 3 (s.secondEntry ipa / 2 ^ 60)) }
  else .leaf e

/-- One walk read of an entry that memory returns. DEDUCED (log 18). -/
def State.walkRead (s : State) (t ring : Nat) (k : Acc) (va level entry : Nat) : WalkRes :=
  match s.walkAddr t ring k va entry with
  | .ok a =>
    match walkEntry (s.tiller t) ring k va level (ofBytes (s.bytesAt a 8)) with
    | .leaf e => s.combined ring k va e
    | r => r
  | .fault c v => .fault c v
  | .miss => .fault (xlateFault k) va

/-- The entry of the one page of a group that `va` lies in, at the group's physical address (R321).
DESIGN CHOICE (log 84). -/
def TlbEntry.page (e : TlbEntry) (va : Nat) : TlbEntry :=
  let sz := if e.size = 16 then 12 else 21
  { e with
    vpn := va % 2 ^ 39 / 2 ^ sz
    size := sz
    ppn := e.addr va / 2 ^ sz * 2 ^ sz
    second := e.second.map (fun x => ((x.1 + va % 2 ^ e.size) / 2 ^ sz * 2 ^ sz, x.2)) }

/-- What the TLB holds of a walked leaf: for a leaf with CONT = 1, the whole group or the one page; which
one is a free choice (R321). DESIGN CHOICE (log 84). -/
def State.tlbHold (s : State) (va : Nat) (e : TlbEntry) : TlbEntry × State :=
  if e.size = 16 ∨ e.size = 25 then
    let c := s.choose 2
    (if c.1 = 0 then e else e.page va, c.2)
  else (e, s)

/-- Fill the TLB: an invalid entry, or one chosen at random among the 48 (R322). DEDUCED (log 26). -/
def State.tlbFill (s : State) (t va : Nat) (e : TlbEntry) : State :=
  let h := s.tlbHold va e
  let e := h.1
  let s := h.2
  if (s.tiller t).tlb.length < 48 then s.modTiller t (fun x => { x with tlb := x.tlb ++ [e] })
  else
    let c := s.choose 48
    c.2.modTiller t (fun x => { x with tlb := x.tlb.set c.1 e })

/-- A walk read at `a` waits for a frozen channel, or receives an error response (R319, R394). -/
def State.walkStops (s : State) (a va : Nat) : Option Xl :=
  if s.frozenAt a then some .miss
  else if s.readError a 8 then some (.fault Ex.walkError va)
  else none

/-- A whole walk at once, as an exception's frame and a gate read make it; `miss` while a frozen channel holds a
read. -/
def State.walkAll (s : State) (t ring : Nat) (k : Acc) (va level entry : Nat) : Nat → Xl × State
  | 0 => (.fault (xlateFault k) va, s)
  | f + 1 =>
    let stop := match s.walkAddr t ring k va entry with
      | .ok a => s.walkStops a va
      | _ => none
    match stop with
    | some r => (r, s)
    | none =>
      match s.walkRead t ring k va level entry with
      | .fault c v => (.fault c v, s)
      | .leaf e => (s.through k va e, s.tlbFill t va e)
      | .next l e => s.walkAll t ring k va l e f

/-- Translate, walking at once on a miss. DESIGN CHOICE (log 37). -/
def State.translateNow (s : State) (t ring : Nat) (k : Acc) (va : Nat) : Xl × State :=
  match s.translate t ring k va with
  | (.miss, s) => s.walkAll t ring k va 1 (s.walkRoot t ring va) 3
  | r => r

/-- The parts of `n` bytes at `va` within one line each (R254). -/
def pieces (va n : Nat) : List (Nat × Nat) :=
  let room := 64 - va % 64
  if n ≤ room then [(va, n)] else [(va, room), (va + room, n - room)]

/-- Check a translated piece, the only one of its access or not: the physical address, or the fault with its virtual
address. -/
def State.checked (s : State) (t ring : Nat) (k : Acc) (ipa : Option Nat) (va n : Nat) (one : Bool) (r : Xl) : Xl :=
  match r with
  | .ok a =>
    match s.physFault t ring k ipa a n (one && a % n == 0) with
    | some c => .fault c va
    | none => .ok a
  | r => r

/-- An access whose pieces all pass. -/
inductive Acs where
  /-- Physical address and length of each piece. -/
  | ok (l : List (Nat × Nat))
  | fault (code tval : Nat)
  | miss (va : Nat)
  deriving DecidableEq, Repr

/-- Translate and check the pieces of an access, which is one piece or more; `now` walks at once. -/
def State.eachPiece (s : State) (now one : Bool) (t ring : Nat) (k : Acc) (ipa : Option Nat) :
    List (Nat × Nat) → Acs × State
  | [] => (.ok [], s)
  | (va, n) :: ps =>
    let va := va % 2 ^ 64
    let r := if now then s.translateNow t ring k va else s.translate t ring k va
    match r.2.checked t ring k ipa va n one r.1 with
    | .fault c v => (.fault c v, r.2)
    | .miss => (.miss va, r.2)
    | .ok a =>
      match r.2.eachPiece now one t ring k ipa ps with
      | (.ok l, s) => (.ok ((a, n) :: l), s)
      | o => o

/-- Translate and check every piece of an access; `now` walks at once. -/
def State.accessPieces (s : State) (now : Bool) (t ring : Nat) (k : Acc) (ipa : Option Nat)
    (ps : List (Nat × Nat)) : Acs × State :=
  s.eachPiece now (decide (ps.length ≤ 1)) t ring k ipa ps

/-- Every check of Table 11.4 for a data access of the current instruction. -/
def State.access (s : State) (t : Nat) (k : Acc) (va n : Nat) : Acs × State :=
  let x := s.tiller t
  let one := k == .atomic
  s.accessPieces false t x.ring k x.curPa (if one then [(va, n)] else pieces va n)

end Sys2Proof.Machine
end

