-- ==== Sys2Proof/Machine/Exceptions.lean ====
section
/-! DEFINITION. Taking an exception and returning from one: which ring takes it, escalation, the
frame, the carrel save, halting, and the checks and restores of RETX (R270, R286 to R291, R300,
R301). -/

namespace Sys2Proof.Machine

/-! ### Work held by a Tiller (R99, R291) -/

/-- Slates whose work Tiller `t` holds. -/
def State.heldBy (s : State) (t : Nat) : List Nat :=
  (s.slates.filter (fun e => e.2.work == .tiller t)).map (·.1)

/-- The Tiller's work on a slate is lost: a failure claim of UNIT_RESET where the claim is open or the
Tiller's own, and the slate leaves the Tiller. -/
def State.loseWork (s : State) (t id : Nat) : State :=
  let sl := s.slate id
  if sl.unclaimed ∨ sl.heldBy = some t then s.finishFail id St.unitReset 0 else s.leaveWork id

/-- End every slate whose work the Tiller holds (R291). -/
def State.loseAllWork (s : State) (t : Nat) : State :=
  (s.heldBy t).foldl (fun (s : State) id => s.loseWork t id) s

/-- The House-supervisor event on the House's other Tillers (R291). DEDUCED (log 63). -/
def State.hsEvent (s : State) (t : Nat) : State :=
  match s.tillerFor t with
  | some h => (List.range 64).foldl (fun (s : State) u =>
      if u ≠ t ∧ s.tillerFor u = some h then s.raisePrivate u srcHsEvent else s) s
  | none => s

/-- The Proctor's answer to an escalation or a WATERMARK fault in the open world (R291). -/
def State.closeWorld (s : State) (t : Nat) : State :=
  ((s.modTiller t (fun x => { x with openEn := false })).loseAllWork t).hsEvent t

/-! ### Carrel save area (Table 10.7) -/

/-- g1 to g31 as bytes. -/
def Tiller.gBytes (x : Tiller) : List Byte :=
  ((List.range 31).map (fun i => toBytes (x.get (Fin.ofNat 32 (i + 1))).toNat 8)).flatten

/-- EFLAGS with DSLOT set as in a frame. -/
def Tiller.frameFlags (x : Tiller) : Word :=
  x.eflags ||| (if x.dslot.isSome then 16#64 else 0#64)

/-- Write bytes into memory past the Tiller's own buffered bytes, which are older. -/
def State.writeThrough (s : State) (t a : Nat) (bs : List Byte) : State :=
  let s := { s with mem := Memory.store s.mem a bs }
  s.modTiller t (fun x => { x with
    sb := x.sb.map (fun e => if e.side then e else
      { e with bytes := e.bytes.filter (fun b => !(a ≤ e.line + b.1 && decide (e.line + b.1 < a + bs.length))) }) })

/-- Save the state of carrel `c` (R300): `called` for a GCALL. DEDUCED (log 21, 28). -/
def State.carrelSave (s : State) (t c : Nat) (epc : Word) (called : Bool) : State :=
  let x := s.tiller t
  let a := s.norm (s.carrel t c).dataBase
  let tail := toBytes epc.toNat 8 ++ toBytes x.frameFlags.toNat 8 ++
    toBytes (x.dslot.getD 0).toNat 8
  if called then
    (s.writeThrough t (a + 248) tail).writeThrough t (a + 280) (toBytes 2 8)
  else
    let s := s.writeThrough t a (x.gBytes ++ tail ++ toBytes x.maskOpen 8 ++ toBytes 1 8)
    s.modTiller t (fun x => { x with g := Vector.replicate 32 0 })

/-- The token that stands for carrel `c` in a frame (R300). -/
def carrelToken (c : Nat) : Word := BitVec.ofNat 64 (1 + 256 * c)

/-! ### Entry (R286 to R289) -/

/-- An exception about to be entered. DEDUCED (log 29). -/
structure Entry where
  /-- Ring that takes it. -/
  ring : Nat
  code : Nat
  intr : Bool
  /-- Original code when `code` is ESCALATED. -/
  orig : Nat
  /-- Ring aimed at before redirection. -/
  tring : Nat
  tval : Word
  epc : Word
  /-- GCALL: no register is cleared and the entry address is the gate's. -/
  gate : Option Word
  deriving DecidableEq, Repr

/-- CAUSE of an entry raised in ring `fring`. -/
def Entry.cause (e : Entry) (fring : Nat) : Word :=
  BitVec.ofNat 64 (e.code + 65536 * e.orig + 2 ^ 56 * fring + 2 ^ 58 * e.tring +
    (if e.intr then 2 ^ 63 else 0))

/-- The Tiller halts: HALT_STAT, HALT_REC and a machine check elsewhere (R288). DEDUCED (log 22). -/
def State.halt (s : State) (t : Nat) (e : Entry) : State :=
  let r := (s.tiller t).ring
  let s := s.modTiller t (fun x => { x with halted := true })
  let s := s.wr (Reg.haltRec t) (BitVec.ofNat 64 (e.code + 65536 * e.orig + 2 ^ 32 * r))
  s.machineCheck

/-- Where a frame goes. -/
inductive FramePlace where
  | at (a : Nat)
  /-- SP is not aligned, or the store faults. -/
  | faults
  /-- A frozen channel holds a read of its walk. -/
  | wait
  deriving DecidableEq, Repr

/-- Where the frame of ring `r` goes: its physical address, when SP is aligned and the store passes.
DESIGN CHOICE (log 37). -/
def State.frameAt (s : State) (t r : Nat) : FramePlace × State :=
  let sp := (bank (s.tiller t).sp r).toNat
  if sp % 64 ≠ 0 then (.faults, s)
  else
    match s.accessPieces true t r .store none [((sp + 2 ^ 64 - 64) % 2 ^ 64, 64)] with
    | (.ok [(a, _)], s) => (if (s.addrType (s.tiller t).pos a).side then .faults else .at a, s)
    | (.miss _, s) => (.wait, s)
    | (_, s) => (.faults, s)

/-- The frame's bytes (Table 10.4). -/
def Tiller.frame (x : Tiller) (e : Entry) (token : Option Word) : List Byte :=
  let sec := secureRing e.ring
  let msave := x.mask sec + (if sec then 256 else 0)
  let flags := if token.isSome then x.eflags &&& ~~~8#64 else x.frameFlags
  toBytes (token.getD e.epc).toNat 8 ++ toBytes flags.toNat 8 ++ toBytes (e.cause x.ring).toNat 8 ++
  toBytes e.tval.toNat 8 ++ toBytes (if token.isSome then 0 else (x.dslot.getD 0).toNat) 8 ++
  toBytes (if token.isSome then 0 else msave) 8 ++ toBytes (x.get 30).toNat 8 ++ toBytes (x.get 31).toNat 8

/-- Steps 2 to 6 of R288 with the frame at physical address `a`; `none` while no store buffer entry is
free for it. A BCOPY of overlapping ranges is remembered with its frame (R279). -/
def State.enterAt (s : State) (t : Nat) (e : Entry) (a : Nat) : Option State :=
  let x := s.tiller t
  let token := x.carrel.map carrelToken
  let s1 := match x.carrel with
    | some c => s.carrelSave t c e.epc e.gate.isSome
    | none => s
  let y := s1.tiller t
  let sec := secureRing e.ring
  if !y.room a then none
  else
    let fr := (if e.gate.isSome then { y with g := x.g } else y).frame e token
    let s2 := s1.modTiller t (fun y =>
      let y := y.buffer a fr (s1.addrType y.pos a).cached
      let y := { y with
        sp := setBank y.sp e.ring (bank y.sp e.ring - 64)
        cause := setBank y.cause e.ring (e.cause x.ring)
        epc := setBank y.epc e.ring (token.getD e.epc)
        ring := e.ring
        carrel := none
        progress := false
        dslot := none
        noEntryCheck := false
        dbgStep := false
        lineWait := []
        overlap := false
        overFrames := if x.progress && x.overlap then (e.ring, (bank y.sp e.ring).toNat - 64) :: y.overFrames
          else y.overFrames
        fq := []
        stall := .none }
      let y := y.setMask sec 3
      let y := if secureRing x.ring = sec then y else y.flushPred
      { y with pc := e.gate.getD (bank y.entry e.ring &&& ~~~3#64) })
    let s3 := s2.mark t x.ring evException 1
    let s3 := if e.intr then s3.mark t x.ring evInterrupt 1 else s3
    some (if !x.secure ∧ !e.intr ∧ (e.code = Ex.escalated ∨ e.code = Ex.watermark) then s3.closeWorld t
      else s3)

/-- The escalation of an entry that cannot be made (R287, R288). DEDUCED (log 17). -/
def Entry.escalate (e : Entry) : Entry :=
  { e with ring := 0, code := Ex.escalated, intr := false, gate := none
           orig := if e.code = Ex.escalated then e.orig else e.code }

/-- Enter a ring (R288): escalate where the frame cannot be written, halt where the escalation cannot
be entered either. `none` while the frame must wait. DEDUCED (log 27). -/
def State.enter (s : State) (t : Nat) (e : Entry) : Option State :=
  let s := s.applyPending t
  match s.frameAt t e.ring with
  | (.wait, _) => none
  | (.at a, s) => s.enterAt t e a
  | (.faults, s) =>
    if e.code = Ex.escalated ∧ e.ring = 0 then some (s.halt t e)
    else
      match s.frameAt t 0 with
      | (.wait, _) => none
      | (.at a, s) => s.enterAt t e.escalate a
      | (.faults, s) => some (s.halt t e.escalate)

/-- Level of a fault code (Table 10.3). DEDUCED (log 29). -/
def faultLevel (code : Nat) : Nat :=
  if code = Ex.walkError ∨ code = Ex.custodyXlate ∨ code = Ex.watermark ∨ code = Ex.escalated ∨
    code = Ex.icuFault ∨ code = Ex.machineCheck then 4 else 3

/-- Ring 3 takes its own arithmetic trap (R286 rule 3). -/
def State.ownTrap (s : State) (t : Nat) : Bool :=
  let x := s.tiller t
  let e := bank x.entry 3
  e.getLsbD 0 &&
  (match x.carrel with
   | none => true
   | some c =>
     match (s.translateNow t 3 .fetch (e &&& ~~~3#64).toNat).1 with
     | .ok a => (s.carrel t c).inCode a
     | _ => false)

/-- The ring that takes a fault (R286). -/
def State.faultRing (s : State) (t code : Nat) : Nat :=
  let r := (s.tiller t).ring
  if faultLevel code = 4 then 0
  else if r = 3 then
    if (code = Ex.divZero ∨ code = Ex.overflow) ∧ s.ownTrap t then 3 else 2
  else r

/-- The entry that a fault of the current instruction makes, or `none` where ring 0 faults while its
MASK is 3 (R286 to R288). WALK_ERROR always escalates (R319). -/
def State.faultEntry (s : State) (t code : Nat) (tval : Word) : Entry :=
  let x := s.tiller t
  let r := s.faultRing t code
  let tv := if x.carrel.isSome then tval &&& ~~~0xFFF#64 else tval
  let e : Entry := ⟨r, code, false, 0, r, tv, x.pc, none⟩
  if code = Ex.walkError ∨ (faultLevel code = 3 ∧ x.mask x.secure = 3) then e.escalate else e

/-- Take a fault of the current instruction. DEDUCED (log 22). -/
def State.takeFault (s : State) (t code : Nat) (tval : Word) : Option State :=
  let x := s.tiller t
  let e := s.faultEntry t code tval
  if x.ring = 0 ∧ x.maskSecure = 3 then some (s.halt t e) else s.enter t e

/-! ### Return (R290, R301) -/

/-- A 64-byte frame read back. -/
structure Frame where
  epc : Word
  flags : Word
  dtarget : Word
  msave : Word
  g30 : Word
  g31 : Word
  deriving DecidableEq, Repr

/-- Read a frame's fields. -/
def Frame.of (b : List Byte) : Frame :=
  let w (o : Nat) : Word := BitVec.ofNat 64 (le b o 8)
  ⟨w 0, w 8, w 32, w 40, w 48, w 56⟩

/-- Ring of a frame. -/
def Frame.ring (f : Frame) : Nat := f.flags.toNat % 4
/-- SECURE of a frame. DEDUCED (log 23). -/
def Frame.sec (f : Frame) : Bool := f.flags.getLsbD 2

/-- The carrel that a token in a frame names. DEDUCED (log 23). -/
def Frame.token (f : Frame) : Option Nat :=
  if f.epc.getLsbD 0 then some (f.epc.toNat / 256 % 256) else none

/-- STATE of a carrel's save area. -/
def State.saveState (s : State) (t c : Nat) : Nat :=
  (Memory.byte s.mem (s.norm (s.carrel t c).dataBase + 280)).toNat % 4

/-- Checks 2 to 6 of R290 on a frame at ring `r`. DEDUCED (log 23). -/
def State.frameOk (s : State) (t r : Nat) (f : Frame) : Bool :=
  decide (r ≤ f.ring) && (f.sec == secureRing r || r == 0) && (secureRing f.ring == f.sec) &&
  (f.sec || (s.tiller t).openEn) &&
  (match f.token with
   | none => true
   | some c => (r == 0 || r == 2) && (s.carrel t c).valid && s.saveState t c != 0)

/-- Restore the state of carrel `c`: the ring is the RING of the saved EFLAGS (R301). DEDUCED (log 28, 86). -/
def State.carrelRestore (s : State) (t c : Nat) : State :=
  let a := s.norm (s.carrel t c).dataBase
  let b := Memory.bytes s.mem a 288
  let w (o : Nat) : Word := BitVec.ofNat 64 (le b o 8)
  let st := s.saveState t c
  let s := { s with mem := Memory.store s.mem (a + 280) (zeros 8) }
  s.modTiller t (fun x =>
    let x := if st = 1 then
        { x with
          g := Vector.ofFn (fun i : Fin 32 => if i = 0 then 0 else w (8 * (i.val - 1)))
          maskOpen := (w 272).toNat % 4 }
      else x
    let fl := w 256
    { x with
      pc := w 248 &&& ~~~3#64
      ring := fl.toNat % 4
      progress := fl.getLsbD 3
      dslot := if fl.getLsbD 4 then some (w 264 &&& ~~~3#64) else none
      carrel := some c
      noEntryCheck := true })

/-- Restore from a frame that passed its checks (R290); a change of the world flushes the predictor
(R265). -/
def State.restore (s : State) (t r : Nat) (f : Frame) : State :=
  let wasSec := (s.tiller t).secure
  let s := s.modTiller t (fun x =>
    let key := (r, (bank x.sp r).toNat)
    let x := { x with
      sp := setBank x.sp r (bank x.sp r + 64)
      ring := f.ring
      lineWait := []
      overlap := x.overFrames.contains key
      overFrames := x.overFrames.filter (· != key)
      fq := []
      stall := .none
      pcall := none }
    if f.token.isSome then x else
      ((({ x with
        pc := f.epc &&& ~~~3#64
        progress := f.flags.getLsbD 3
        dslot := if f.flags.getLsbD 4 then some (f.dtarget &&& ~~~3#64) else none
        carrel := if f.flags.getLsbD 8 then some (f.flags.toNat / 65536 % 256) else none }).put 30 f.g30
        ).put 31 f.g31).setMask (f.msave.getLsbD 8) (f.msave.toNat % 4))
  let s := match f.token with
    | some c => s.carrelRestore t c
    | none => s
  s.modTiller t (fun x => if x.secure = wasSec then x else x.flushPred)

end Sys2Proof.Machine
end

