-- ==== Sys2Proof/Machine/Dram.lean ====
section
/-! DEFINITION. Memory writes with their side effects, errors and the freeze of a DRAM channel (R351,
R371, R379, R392 to R396). -/

namespace Sys2Proof.Machine

/-- Ring the doorbells that a write to a Desk touches (R351). -/
def State.ring (s : State) (n off len : Nat) : State :=
  match s.tillerAt n with
  | some t =>
    (List.range 7).foldl (fun (s : State) k =>
      let w := controlLine + 8 * k
      if off < w + 8 ∧ w < off + len then s.raisePrivate t (1 + k) else s) s
  | none => s

/-- Write bytes to DRAM or a Desk: the doorbells of a control line ring once for the write. -/
def State.memWrite (s : State) (a : Nat) (bs : List Byte) : State :=
  let s := ({ s with mem := Memory.store s.mem a bs }).clearPoison a bs.length
  match s.placeOf a with
  | .desk n off => if controlLine < off + bs.length then s.ring n off bs.length else s
  | _ => s

/-- Write zero through a range of memory. -/
def State.zeroRange (s : State) (a n : Nat) : State :=
  { s with
    mem := s.mem.filter (fun c => !(decide (a ≤ c.1) && decide (c.1 < a + n)))
    poison := s.poison.filter (fun k => !(decide (a ≤ k) && decide (k < a + n))) }

/-! ### Errors of a channel (R392, R393, R396) -/

/-- The rows queued for hard repair as DC_STAT counts them. -/
def State.queueRow (s : State) (c row : Nat) : State :=
  let s := s.modChan c (fun x => { x with ppr := insertNat row x.ppr })
  s.setFld (Reg.dcStat c) F.DcStat.pprPend (s.chan c).ppr.length

/-- A corrected error: counted, and its row queued for repair at 16 within 24 hours (R392, R396). -/
def State.corrected (s : State) (c line : Nat) : State :=
  let s := s.satFld (Reg.dcStat c) F.DcStat.ceCnt 1
  let row := Config.lineRow line
  let day := 86400000000000
  let l := s.uptime :: (Map.get [] (s.chan c).ceRows row).filter (fun u => decide (s.uptime < u + day))
  let s := s.modChan c (fun x => { x with ceRows := Map.put [] x.ceRows row l })
  if 16 ≤ l.length then s.queueRow c row else s

/-- KIND values of DC_ERR. -/
abbrev errRead : Nat := 1
abbrev errWriteCrc : Nat := 2
abbrev errParity : Nat := 3
abbrev errTraining : Nat := 4

/-- The bank groups that may hold a line: those of BGMASK in a BANKGROUP region, else all eight (R213). -/
def State.groupsAt (s : State) (line : Nat) : List Nat :=
  match s.regionAt line with
  | some n =>
    if s.fld (Reg.dramRgnB n) F.DramRgnB.mode = 1 then
      (List.range 8).filter ((s.fld (Reg.dramRgnB n) F.DramRgnB.bgmask).testBit ·)
    else List.range 8
  | none => List.range 8

/-- The bank of a channel that holds a line: one of its region's bank groups, and the bank within the group
(R213). DESIGN CHOICE (log 53). -/
def State.bankOf (s : State) (line : Nat) : Nat :=
  let gs := s.groupsAt line
  let w := Config.lineRow line / 2 ^ 18
  4 * gs.getD (w / 4 % gs.length) 0 + w % 4

/-- The channel freezes (R393): the record and the machine check; each requester
waits with its request. -/
def State.freeze (s : State) (c kind cls line : Nat) : State :=
  if s.chanState c = chanFrozen then s
  else
    let s := s.setFld (Reg.dcStat c) F.DcStat.state chanFrozen
    let w := s.freshWord
    let s := w.2.wr (Reg.dcErr c) (BitVec.ofNat 64
      (w.1.toNat / 2 ^ 32 * 2 ^ 32 + w.1.toNat / 2 ^ 22 % 4 * 2 ^ 22 + s.bankOf line % 32 * 2 ^ 17 + 16 * cls + kind))
    let s := s.wr (Reg.dcErraddr c) (BitVec.ofNat 64
      (Config.lineRow line % 2 ^ 18 * 2 ^ 46 + line % 2 ^ 44 / 64 * 64))
    let s := if kind = errRead then s.queueRow c (Config.lineRow line) else s
    (s.modChan c (fun x => { x with failLine := line, frozenAt := s.uptime })).machineCheck

/-- An activate of the bank of a line marks it for refresh management with probability 2^−k; one that would add a
third mark waits for the bank's next window (R389). DESIGN CHOICE (log 3). -/
def State.activate (s : State) (c line : Nat) : State :=
  let r := s.choose (2 ^ max 6 (min 14 (s.fld (Reg.dcCtl c) F.DcCtl.rfmK)))
  let b := s.bankOf line
  if r.1 ≠ 0 then r.2
  else r.2.modChan c (fun x =>
    if (x.marks.filter (· == b)).length < 2 then { x with marks := b :: x.marks } else { x with full := insertNat b x.full })

/-- An activate of the bank of a line waits for the bank's window (R389). -/
def State.bankWaits (s : State) (c line : Nat) : Bool := (s.chan c).full.contains (s.bankOf line)

/-- An uncorrectable word of a Desk counts (R371). -/
def State.countUe (s : State) (a : Nat) : State :=
  match s.placeOf a with
  | .desk n _ => s.satFld (Reg.deskStat n) F.DeskStat.ue 1
  | _ => s

/-- An uncorrectable read of a Desk: the words keep their bad check bits until they are replaced (R371). -/
def State.deskError (s : State) (a n : Nat) : State :=
  match s.placeOf a with
  | .desk _ _ =>
    (poisonKeys a n).foldl (fun (s : State) k => s.poisonLine k) s
  | _ => s

/-- How a read of a line from its channel comes back: with data, with an error response, or not yet. -/
inductive ReadRes where
  | data
  | error
  | held
  deriving DecidableEq, Repr

/-- A read of `n` bytes reaches its channel with the given ECC outcome (R392 to R395). -/
def State.chanRead (s : State) (a n cls : Nat) (ecc : Ecc) : ReadRes × State :=
  match s.chanAt a with
  | none =>
    if s.poisoned a n || ecc == .failed then (.error, s.deskError a n)
    else
      match s.placeOf a, ecc with
      | .desk m _, .corrected => (.data, s.satFld (Reg.deskStat m) F.DeskStat.ce 1)
      | _, _ => (.data, s)
  | some c =>
    if s.chanState c = chanFrozen then (.held, s)
    else if s.readError a n then (.error, s)
    else if s.bankWaits c (lineOf a) then (.held, s)
    else
      let s := (s.markUnit (180 + c) (0x0401 + cls) 1).activate c (lineOf a)
      if s.bankWaits c (lineOf a) then (.held, s)
      else match ecc with
      | .ok => (.data, s)
      | .corrected => (.data, s.corrected c (lineOf a))
      | .failed => (.held, s.freeze c errRead cls (lineOf a))

/-- The Granary holds a line. -/
def State.inGranary (s : State) (line : Nat) : Bool := Lines.has (Map.get [] s.granary (s.granaryKey line)) line

/-- A read of `n` bytes at the Granary: a line that it holds is read there, where a corrected error counts and an
uncorrectable one poisons the line (R371, R379); any other goes to its channel. -/
def State.granaryRead (s : State) (a n cls : Nat) (ecc : Ecc) : ReadRes × State :=
  if !s.inGranary (lineOf a) then s.chanRead a n cls ecc
  else if s.poisoned a n then (.error, s)
  else match ecc with
    | .ok => (.data, s)
    | .corrected => (.data, s.satFld (Reg.gsStat (s.physSlice (sliceOf a))) F.GsStat.ce 1)
    | .failed => (.error, s.poisonLine (lineOf a))

end Sys2Proof.Machine
end

