-- ==== Sys2Proof/Machine/Chutes.lean ====
section
/-! DEFINITION. Chutes: writing, committing and reading packets, claim requests, answers, reply
packets and cancellation (R352 to R361). -/

namespace Sys2Proof.Machine

/-- A Chute holds at most 64 packets (R352). -/
def chuteCap : Nat := 64

/-- Add a committed packet; the stale timer restarts when it becomes the head (R356). -/
def State.chutePush (s : State) (c : Nat) (p : Packet) : State :=
  s.modChute c (fun x => { x with
    staleAt := if x.pkts.isEmpty then s.uptime else x.staleAt
    pkts := x.pkts ++ [p] })

/-! ### Writing (R353) -/

/-- The open write buffer of Tiller `t`. -/
def Chute.buf (x : Chute) (t : Nat) : List Host.Cell := Map.get [] x.bufs t
/-- Replace it. -/
def Chute.setBuf (x : Chute) (t : Nat) (b : List Host.Cell) : Chute :=
  { x with bufs := Map.put [] x.bufs t b }

/-- Every byte of `n` from offset `o` has been written. -/
def bufHas (b : List Host.Cell) (o n : Nat) : Bool :=
  (List.range n).all (fun i => (Map.find (o + i) b).isSome)

/-- LEN of an open packet, once byte 5 of word 0 has been written. -/
def bufLen (b : List Host.Cell) : Option Nat := (Map.find 5 b).map BitVec.toNat

/-- The write that covers bytes 56 to 63 of word LEN − 1 has drained: the packet waits to commit. A
length outside 1 to 8 is complete with word 0. -/
def bufDone (b : List Host.Cell) : Bool :=
  match bufLen b with
  | some n => bufHas b (64 * (if 1 ≤ n ∧ n ≤ 8 then n - 1 else 0) + 56) 8
  | none => false

/-- A rewound packet vanishes and counts (R353). -/
def State.rewind (s : State) (t c : Nat) : State :=
  s.modChute c (fun x =>
    let x := x.setBuf t []
    { x with rewind := min (x.rewind + 1) (2 ^ 32 - 1) })

/-- List bytes by offset in a write buffer. -/
def bufPut (b : List Host.Cell) (o : Nat) : List Byte → List Host.Cell
  | [] => b
  | v :: vs => bufPut (Map.insert o v b) (o + 1) vs

/-- The bytes of a complete write buffer. -/
def bufBytes (b : List Host.Cell) (n : Nat) : List Byte := (List.range n).map (fun i => Map.get 0 b i)

/-- KIND of a packet written by a Tiller (Table 12.3). -/
def pkKind (p : List Byte) : Nat := byteAt p 4
/-- KIND of a claim request. -/
abbrev kindClaim : Nat := 3

/-- A complete packet is rewound at its commit, whatever its husks say (R353). -/
def State.bufBad (s : State) (c : Nat) (b : List Host.Cell) : Bool :=
  let n := (bufLen b).getD 0
  !(1 ≤ n && n ≤ 8) || !bufHas b 0 (64 * n) || s.chuteRole c == roleWork || s.chuteRole c == 3

/-- A complete packet asks for a claim (R358). -/
def State.bufClaims (s : State) (c : Nat) (b : List Host.Cell) : Bool :=
  s.chuteRole c == roleReply && pkKind (bufBytes b 64) == kindClaim

/-- The commit of a complete packet of Tiller `t` must wait: the Chute has no room beside the packets that have
left a store buffer and are about to commit, or the Tiller has four answers outstanding (R354, R358). -/
def State.bufWaits (s : State) (t c : Nat) (b : List Host.Cell) : Bool :=
  !s.bufBad c b &&
  (decide (chuteCap ≤ (s.chute c).pkts.length + ((s.chute c).bufs.filter (fun e => bufDone e.2)).length) ||
   (s.bufClaims c b && decide (4 ≤ (s.tiller t).ans.length)))

/-- A drained write of 8 bytes to a write buffer (R353, R354); `none` while a complete packet waits to commit,
or while the commit that this write makes must wait. A write to word 0 after word 0 has been fully written
begins a new packet. -/
def State.chuteWrite (s : State) (t c off : Nat) (bs : List Byte) : Option State :=
  let b := (s.chute c).buf t
  let anew := decide (off < 64) && bufHas b 0 64
  let b' := bufPut (if anew then [] else b) off bs
  if bufDone b || (bufDone b' && s.bufWaits t c b') then none
  else if anew then some ((s.rewind t c).modChute c (fun x => x.setBuf t b'))
  else some (s.modChute c (fun x => x.setBuf t b'))

/-- CHUTE_PACKET_COMMIT (R353, R354, R358): the packet joins the Chute, or is rewound. -/
def State.chuteCommit (s : State) (t c : Nat) (husk : Bool) : State :=
  let s := s.sense
  let b := (s.chute c).buf t
  if !bufDone b then s
  else if s.bufBad c b || !husk then s.rewind t c
  else if chuteCap ≤ (s.chute c).pkts.length then s
  else if s.bufClaims c b ∧ 4 ≤ (s.tiller t).ans.length then s
  else
    let s1 := s.modChute c (fun x => x.setBuf t [])
    let s1 := if s.bufClaims c b then s1.modTiller t (fun x => { x with ans := x.ans ++ [(c, none)] }) else s1
    s1.chutePush c ⟨bufBytes b (64 * (bufLen b).getD 0), some t, (s.tiller t).term⟩

/-! ### Reading (R355, R356) -/

/-- The head packet leaves; a WORK packet's slate is then held by its reader. -/
def State.chutePop (s : State) (c : Nat) : State :=
  match (s.chute c).pkts with
  | [] => s
  | p :: ps =>
    let s := s.modChute c (fun x => { x with pkts := ps, taken := [] })
    if s.chuteRole c = roleWork then
      match s.tagSlate (workTag p) with
      | some id =>
        if (s.slate id).work = .chute c then
          s.modSlate id (fun x => { x with work := .tiller (s.chuteReader c) })
        else s
      | none => s
    else s

/-- Length in words of a packet in a Chute. -/
def Packet.words (p : Packet) : Nat := p.bytes.length / 64

/-- An 8-byte load at offset `o` of the read window by the reader: the value, and the state.
DESIGN CHOICE (log 33). -/
def State.chuteReadAt (s : State) (c o : Nat) : Word × State :=
  let s := s.modChute c (fun x => { x with staleAt := s.uptime })
  match (s.chute c).pkts with
  | [] => ((s.chute c).lastRead, s.modChute c (fun x => { x with underrun := true }))
  | p :: _ =>
    if p.words ≤ o / 64 then (0, s.modChute c (fun x => { x with lastRead := 0 }))
    else
      let v := BitVec.ofNat 64 (le p.bytes o 8)
      let s := s.modChute c (fun x => { x with
        lastRead := v, taken := if x.taken.contains (o / 8) then x.taken else x.taken ++ [o / 8] })
      if o = 64 * p.words - 8 then (v, s.chutePop c) else (v, s)

/-- The words of the head packet `p` that are not read whole. DEDUCED (log 82). -/
def Chute.unread (x : Chute) (p : Packet) : Nat :=
  (List.range p.words).countP (fun k => (List.range 8).any (fun j => !x.taken.contains (8 * k + j)))

/-- A load from CH_DROP (R355): the rest of the head packet is discarded, and its words are counted.
DEDUCED (log 82). -/
def State.chuteDrop (s : State) (c : Nat) : Word × State :=
  match (s.chute c).pkts with
  | [] => (0, s.modChute c (fun x => { x with underrun := true }))
  | p :: _ => (BitVec.ofNat 64 ((s.chute c).unread p), s.chutePop c)

/-- A load from CH_ANS (R358): the oldest answer, `none` while it has not arrived. DEDUCED (log 25). -/
def State.chuteAnswer (s : State) (t : Nat) : Option Word × State :=
  match (s.tiller t).ans with
  | [] =>
    let c := match s.tillerFor t with
      | some h => s.fld (Reg.chHouse h) F.ChHouse.rq
      | none => 0
    (some 0, s.modChute c (fun x => { x with underrun := true }))
  | (_, none) :: _ => (none, s)
  | (_, some v) :: rest => (some v, s.modTiller t (fun x => { x with ans := rest }))

/-- A load from CH_CANCEL (R360). -/
def State.chuteCancel (s : State) (t : Nat) : Word × State :=
  match (s.tiller t).cancel with
  | [] => (0, s)
  | (tag, _) :: rest =>
    (BitVec.ofNat 64 (2 ^ 31 + tag), s.modTiller t (fun x => { x with cancel := rest }))

/-- CH_STAT of Chute `c`, and its RCL fields cleared by the read. -/
def State.chuteStat (s : State) (c : Nat) : Word × State :=
  let x := s.chute c
  (BitVec.ofNat 64 (2 ^ 32 * x.rewind + 16 * x.pkts.length + (if x.cancelOvf then 8 else 0) +
     (if x.stale then 4 else 0) + (if x.underrun then 2 else 0) + (if x.pkts.isEmpty then 0 else 1)),
   s.modChute c (fun x => { x with rewind := 0, cancelOvf := false, stale := false, underrun := false }))

/-! ### The Roll's commits (R354, R357) -/

/-- The WORK packet of a slate (R357). -/
def State.workPacket (s : State) (id : Nat) : Packet :=
  let sl := s.slate id
  ⟨slice sl.pkt 0 60 ++ toBytes (slateTag id sl) 3 ++ toBytes (s.replyChute sl) 1 ++ sl.pkt.drop 64, none, 0⟩

/-- WORK_PACKET_COMMIT (R354, R357): the slate's packet takes a credit of its WORK Chute. -/
def execWorkPacketCommit (id : Nat) (s : State) : Out :=
  .next (
    let sl := s.slate id
    if sl.work = .credit ∧ sl.st = .live then
      match s.workChute sl with
      | some c =>
        if (s.chute c).pkts.length < chuteCap then
          (s.sense.modSlate id (fun x => { x with work := .chute c })).chutePush c (s.workPacket id)
        else s
      | none => s
    else s)

/-- CHUTE_PACKET_COMMIT (R353): `husk` is false where a husk fails on a word. -/
def execChutePacketCommit (t c : Nat) (husk : Bool) (s : State) : Out := .next (s.chuteCommit t c husk)

/-- CHUTE_STALE (R356). -/
def execChuteStale (c : Nat) (s : State) : Out :=
  .next (
    let ns := 64 * s.fld (Reg.chCfg c) F.ChCfg.staleNs
    let x := s.chute c
    if ns ≠ 0 ∧ !x.pkts.isEmpty ∧ x.staleAt + ns ≤ s.uptime then
      s.sense.modChute c (fun x => { x with stale := true })
    else s)

/-! ### Claims and replies (R358, R359) -/

/-- The answer `w` arrives for the oldest unanswered request in reply Chute `c`: a Chute answers its requests
in their order (R358). -/
def answerFirst (c : Nat) (w : Word) : List (Nat × Option Word) → List (Nat × Option Word)
  | [] => []
  | (d, none) :: l => if d = c then (d, some w) :: l else (d, none) :: answerFirst c w l
  | a :: l => a :: answerFirst c w l

/-- The head of a REPLY Chute leaves it. -/
def State.replyHead (s : State) (c : Nat) : Option Packet :=
  if s.chuteRole c = roleReply then (s.chute c).pkts.head? else none

/-- The writer of a packet holds the work of the slate that its tag names, in the term in which it wrote the
packet (R99, R359). -/
def State.holds (s : State) (p : Packet) (id : Nat) : Bool :=
  match p.writer with
  | some t => (s.slate id).work == .tiller t && (s.tiller t).term == p.term
  | none => false

/-- CLAIM_REQUEST (R91, R358): the arbiter answers the request at the head of the reply Chute; VALID
is 1 in every answer. DEDUCED (log 82). -/
def State.claimRequest (s : State) (c : Nat) (p : Packet) : State :=
  let t := p.writer.getD 0
  let tag := tagOf p.bytes
  let ans (s : State) (won : Bool) : State :=
    let w : Word := BitVec.ofNat 64 (tag + (if won then 2 ^ 24 else 0) + 2 ^ 25)
    s.modTiller t (fun x => { x with ans := answerFirst c w x.ans })
  let s := (s.chutePop c).settleAll
  match s.tagSlate tag with
  | none => (ans s false).dropResult
  | some id =>
    let sl := s.slate id
    if sl.unclaimed && s.holds p id then
      let c := s.mkClaim St.ok 0 false none
      ans (s.modSlate id (fun x =>
        { x with st := .claimed, armed := false, heldBy := some t, claim := some c })) true
    else (ans s false).dropResult

/-- CLAIM_REQUEST (R358). -/
def execClaimRequest (c : Nat) (s : State) : Out :=
  .next (
    match s.replyHead c with
    | some p => if pkKind p.bytes = kindClaim then s.claimRequest c p else s
    | none => s)

/-- STATUS codes that a reply packet may carry: OK and the failures of R88. -/
def replyStatusOk (n : Nat) : Bool :=
  [St.ok, St.keyAbsent, St.keyUsage, St.format, St.integrity, St.unitReset, St.leased,
   St.notPermitted].contains n

/-- RESULT of a reply whose status its packet gives (R62): OK keeps the word, FORMAT its offset, the key
failures the index of a handle, 0 to 2, and any other status has 0. DEDUCED (log 92). -/
def resultFor (status w : Nat) : Nat :=
  if status = St.ok then w
  else if status = St.format then w % 2 ^ 16
  else if status = St.keyAbsent ∨ status = St.keyUsage then min w 2
  else 0

/-- REPLY_PACKET (R359): the content that a reply packet gives its slate. -/
def State.replyClaim (s : State) (id : Nat) (p : List Byte) : Claim :=
  let sl := s.slate id
  let n := le p 12 2
  if !replyStatusOk (le p 6 2) then s.mkClaim St.format 0xFFFF false none
  else if 0 < n ∧ !pkOutEn sl.pkt then s.mkClaim St.format 2 false none
  else s.mkClaim (le p 6 2) (resultFor (le p 6 2) (le p 8 4)) (le p 6 2 == St.ok && (byteAt p 14).testBit 0)
    (if 0 < n then some (slice p 64 n) else none)

/-- REPLY_PACKET (R359): the head of the reply Chute reaches the reply writer. -/
def State.replyPacket (s : State) (c : Nat) (p : Packet) : State :=
  let s := (s.chutePop c).settleAll
  match s.tagSlate (tagOf p.bytes) with
  | none => s.dropResult
  | some id =>
    let sl := s.slate id
    if s.holds p id ∧ (sl.unclaimed ∨ sl.heldBy = p.writer) then
      (s.conclude id (s.replyClaim id p.bytes)).leaveWork id
    else s.dropResult

/-- REPLY_PACKET (R359). -/
def execReplyPacket (c : Nat) (s : State) : Out :=
  .next (
    match s.replyHead c with
    | some p => if pkKind p.bytes = kindClaim then s else s.replyPacket c p
    | none => s)

/-! ### Resets (R350, R361) -/

/-- Discard a Tiller's open write buffers and its answer and cancel queues. DEDUCED (log 76). -/
def State.dropTillerChutes (s : State) (t : Nat) : State :=
  let s := s.modTiller t (fun x => { x with ans := [], cancel := [] })
  s.chutes.foldl (fun (s : State) e => s.modChute e.1 (fun x => x.setBuf t [])) s

/-- Empty a Chute and its open write buffers (R361). -/
def State.emptyChute (s : State) (c : Nat) : State :=
  (s.modChute c (fun x => { x with pkts := [], taken := [], bufs := [], stale := false })).settleAll

end Sys2Proof.Machine
end

