-- ==== Sys2Proof/Machine/HopperCtl.lean ====
section
/-! DEFINITION. A Hopper channel's registers and control: the geometry check, GO, and the clearing of EN
(R362, R363, R364, R367, Table 12.10). -/

namespace Sys2Proof.Machine

/-- One side of a channel: address, line length, lines and stride. -/
structure HopSide where
  addr : Nat
  len : Nat
  lines : Nat
  stride : Nat
  deriving DecidableEq, Repr

/-- Source side of channel `k`. -/
def State.hopSrc (s : State) (e k : Nat) : HopSide :=
  ⟨s.fld (Reg.hcSrc e k) F.HcSrc.addr, s.fld (Reg.hcSgeo e k) F.HcSgeo.len,
   s.fld (Reg.hcSgeo e k) F.HcSgeo.lines, s.fld (Reg.hcSstr e k) F.HcSstr.stride⟩
/-- Destination side of channel `k`. -/
def State.hopDst (s : State) (e k : Nat) : HopSide :=
  ⟨s.fld (Reg.hcDst e k) F.HcDst.addr, s.fld (Reg.hcDgeo e k) F.HcDgeo.len,
   s.fld (Reg.hcDgeo e k) F.HcDgeo.lines, s.fld (Reg.hcDstr e k) F.HcDstr.stride⟩

/-- Bytes of a side. -/
def HopSide.total (h : HopSide) : Nat := h.len * h.lines
/-- Address of byte `i` of the stream (R363). -/
def HopSide.byteAddr (h : HopSide) (i : Nat) : Nat := h.addr + i / h.len * h.stride + i % h.len
/-- Every address, length and stride is a multiple of 8 (R364). -/
def HopSide.eights (h : HopSide) : Bool := h.addr % 8 == 0 && h.len % 8 == 0 && h.stride % 8 == 0

/-- MODE; 3 is taken as 0. -/
def State.hopMode (s : State) (e k : Nat) : Nat := s.fld (Reg.hcIlv e k) F.HcIlv.mode % 3
/-- F, the number of fields. -/
def State.hopF (s : State) (e k : Nat) : Nat := s.fld (Reg.hcIlv e k) F.HcIlv.fields + 1
/-- W, the bytes of a field. -/
def State.hopW (s : State) (e k : Nat) : Nat := s.fld (Reg.hcIlv e k) F.HcIlv.flen + 1

/-- The type of an address for a channel: the attributes of its Sheaf's slot 0 position.
DESIGN CHOICE (log 101). -/
def State.hopSide (s : State) (e a : Nat) : Bool := (s.addrType (9 * e) (s.norm a)).side

/-- Some address of a side is side-effect. -/
def State.hopAnySide (s : State) (e : Nat) (h : HopSide) : Bool :=
  (List.range h.total).any (fun i => s.hopSide e (h.byteAddr i))

/-- The geometry check (R363, R364). -/
def State.hopGeometry (s : State) (e k : Nat) : Bool :=
  let a := s.hopSrc e k
  let b := s.hopDst e k
  let f := s.hopF e k
  let w := s.hopW e k
  let mode := s.hopMode e k
  let tot := a.total
  a.len != 0 && a.lines != 0 && b.len != 0 && b.lines != 0 && a.total == b.total &&
  (decide (b.len ≤ b.stride) || b.lines == 1) &&
  (mode == 0 || tot % (f * w) == 0) &&
  (mode != 1 || (b.lines == f && b.len == tot / (f * w) * w)) &&
  (mode != 2 || (a.lines == f && a.len == tot / (f * w) * w)) &&
  (a.eights || !s.hopAnySide e a) && (b.eights || !s.hopAnySide e b)

/-- HOP_e_k is raised when IE is 1 (R365, R366). -/
def State.hopRaise (s : State) (e k : Nat) : State :=
  if s.flag (Reg.hcCtl e k) F.HcCtl.ie then s.raiseShared (srcHop e k) else s

/-- The channel is QUEUED or BUSY. -/
def State.hopActive (s : State) (e k : Nat) : Bool :=
  s.flag (Reg.hcStat e k) F.HcStat.queued || s.flag (Reg.hcStat e k) F.HcStat.busy

/-- ERR_CODE values. -/
abbrev hopGeometryErr : Nat := 1
abbrev hopCheckErr : Nat := 2
abbrev hopCarrelErr : Nat := 3
abbrev hopResponseErr : Nat := 4

/-- GO is set (R362). -/
def State.hopGo (s : State) (e k : Nat) : State :=
  if !s.flag (Reg.hcCtl e k) F.HcCtl.en ∨ s.hopActive e k then s
  else if s.hopGeometry e k then
    (s.modHopper e (fun x => { x with queue := x.queue ++ [k] })).setFlag (Reg.hcStat e k) F.HcStat.queued
      true
  else
    ((s.setFlag (Reg.hcStat e k) F.HcStat.err true).setFld (Reg.hcStat e k) F.HcStat.errCode
      hopGeometryErr).hopRaise e k

/-- EN is cleared (R367): QUEUED clears, and a running channel's writes settle later. -/
def State.hopClear (s : State) (e k : Nat) : State :=
  let s := s.setFlag (Reg.hcCtl e k) F.HcCtl.en false
  let s := s.setFlag (Reg.hcStat e k) F.HcStat.queued false
  let s := s.modHopper e (fun x => { x with queue := x.queue.filter (· != k) })
  if (s.hopper e).running = some k then
    s.modHopper e (fun x => { x with running := none, dropping := insertNat k x.dropping })
  else s

/-- A software write of a channel register (Table 12.10): `o` is the offset in the channel. -/
def State.hopWrite (s : State) (e k o : Nat) (v : Word) : State :=
  if o = 0x48 then
    let was := s.flag (Reg.hcCtl e k) F.HcCtl.en
    let en := v.getLsbD 0
    let s := s.setFlag (Reg.hcCtl e k) F.HcCtl.ie (v.getLsbD 2)
    let s := if en then s.setFlag (Reg.hcCtl e k) F.HcCtl.en true
      else if was then s.hopClear e k else s
    if v.getLsbD 1 then s.hopGo e k else s
  else if o = 0x50 then s.softWrite (Reg.hcStat e k) v
  else if o ≤ 0x40 then
    if s.hopActive e k then s else s.softWrite (Reg.hcSrc e k + o) v
  else s

/-- Clear a Hopper's channels when a House's last Tiller leaves the Sheaf (R208): every field returns to
its reset value. -/
def State.hopReset (s : State) (e : Nat) : State :=
  let s := s.setHopper e {}
  { s with regs := s.regs.filter (fun r =>
      !(decide (Reg.hcSrc e 0 ≤ r.1) && decide (r.1 < Reg.hcSrc e 16))) }

/-- HOPPER_GO (R362). -/
def execHopperGo (e k : Nat) (s : State) : Out := .next (s.hopGo e k)

/-- HOPPER_EN_CLEAR (R367). -/
def execHopperEnClear (e k : Nat) (s : State) : Out :=
  .next (if s.flag (Reg.hcCtl e k) F.HcCtl.en then s.hopClear e k else s)

/-- HOPPER_CHANNEL_START (R362): the engine starts the next queued channel. -/
def execHopperChannelStart (e : Nat) (s : State) : Out :=
  .next (
    match (s.hopper e).running, (s.hopper e).queue with
    | none, k :: ks =>
      let s := s.modHopper e (fun x => { x with running := some k, queue := ks })
      (s.setFlag (Reg.hcStat e k) F.HcStat.queued false).setFlag (Reg.hcStat e k) F.HcStat.busy true
    | _, _ => s)

end Sys2Proof.Machine
end

