-- ==== Sys2Proof/Machine/Units.lean ====
section
/-! DEFINITION. The units of Table 15.1: their states, terms, and the marks WORN and FAILED with the
rotations these queue (R421, R425, R426, R428, R430, R433, R434). -/

namespace Sys2Proof.Machine

/-- Kind of a rotatable unit: 0 Tiller, 1 lane, 2 S-mill, 3 P-mill, 4 Granary slice, 5 entropy source. -/
def unitKind (u : Nat) : Option Nat :=
  if u ≤ 71 then some 0
  else if u ≤ 80 then some 1
  else if u ≤ 116 then some 2
  else if u ≤ 134 then some 3
  else if u ≤ 152 then some 4
  else if u ≤ 155 then some 5
  else none

/-- The units of a kind. -/
def unitsOf (k : Nat) : List Nat := (List.range 156).filter (fun u => unitKind u == some k)

/-- The register that holds a unit's state. -/
def unitReg (u : Nat) : Nat :=
  match unitKind u with
  | some 1 => Reg.thrLane (u - 72)
  | some 2 => Reg.millS (u - 81)
  | some 3 => Reg.millP (u - 117)
  | some 4 => Reg.gsStat (u - 135)
  | some 5 => Reg.entStat (u - 153)
  | _ => Reg.rcUnit u

/-- The field of that register. -/
def unitFld (u : Nat) : Fld :=
  match unitKind u with
  | some 1 => F.ThrLane.state
  | some 2 => F.MillS.state
  | some 3 => F.MillP.state
  | some 4 => F.GsStat.state
  | some 5 => F.EntStat.state
  | _ => F.RcUnit.state

/-- State of a unit: 0 FALLOW, 1 SERVICE, 2 DRAINING, 3 WORN, 4 FAILED, 5 IDLE. -/
def State.unitState (s : State) (u : Nat) : Nat := s.fld (unitReg u) (unitFld u)
/-- Set it. -/
def State.setUnitState (s : State) (u v : Nat) : State := s.setFld (unitReg u) (unitFld u) v

/-- The unit is in service: not fallow, and not taken out. -/
def State.unitServing (s : State) (u : Nat) : Bool :=
  s.unitState u != unitFallow && !s.wear.retired.contains u

/-- Take a unit out of service until the next start. -/
def State.retireUnit (s : State) (u : Nat) : State :=
  { s with wear := { s.wear with retired := insertNat u s.wear.retired } }

/-- The logical Tiller at a position. -/
def State.tillerOn (s : State) (p : Nat) : Option Nat := (List.range 64).find? (fun t => (s.tiller t).pos == p)

/-- Increment a unit's term number (R412). -/
def State.bumpTerm (s : State) (u : Nat) : State :=
  match unitKind u with
  | some 0 =>
    match s.tillerOn u with
    | some t => s.modTiller t (fun x => { x with term := (x.term + 1) % 256 })
    | none => s
  | some 1 => s.countFld (Reg.thrLane (u - 72)) F.ThrLane.term 1
  | some 2 => s.countFld (Reg.millS (u - 81)) F.MillS.term 1
  | some 3 => s.countFld (Reg.millP (u - 117)) F.MillP.term 1
  | some 4 => s.countFld (Reg.gsStat (u - 135)) F.GsStat.term 1
  | _ => s

/-! ### Chutes of a House (R352) -/

/-- A House's CHUTES share counts the Chutes whose OWNER is the House. DEDUCED (log 35). -/
def State.countChutes (s : State) : State :=
  (List.range 4).foldl (fun (s : State) h =>
    s.setFld (Reg.houseShr h) F.HouseShr.chutes (s.chutesOf h).length) s

/-! ### The field repair log (R433, R434) -/

/-- Append an entry: fused while VPP_FUSE is in range, else pending; with 256 entries nothing is added. -/
def State.logRepair (s : State) (e : BitVec 32) : State :=
  let s := s.setFlag Reg.rlogStat F.RlogStat.vppAbsent !s.power.vpp
  if 256 ≤ s.flash.fuseLog.length + s.flash.pendLog.length then s
  else if s.power.vpp then
    { s with flash := { s.flash with fuseLog := s.flash.fuseLog ++ s.flash.pendLog ++ [e], pendLog := [] } }
  else { s with flash := { s.flash with pendLog := s.flash.pendLog ++ [e] } }

/-- The entry that retires unit `u` (Table 15.4). -/
def retireEntry (u : Nat) : BitVec 32 := BitVec.ofNat 32 (2 ^ 31 + u * 2 ^ 22)

/-- Units that the log retires. -/
def State.loggedRetired (s : State) : List Nat :=
  ((s.flash.fuseLog ++ s.flash.pendLog).filter (fun e => e.toNat / 2 ^ 30 == 2)).map (fun e => e.toNat / 2 ^ 22 % 256)

/-! ### Queued rotations (R428, R429) -/

/-- A rotation of `u` is queued. -/
def State.rotQueued (s : State) (u : Nat) : Bool := s.wear.rots.any (fun r => r.u == u)

/-- Queue a rotation: one for a FAILED unit goes ahead of every one for a WORN unit, and replaces the
unit's own. -/
def State.queueRot (s : State) (r : Rot) : State :=
  let l := s.wear.rots.filter (fun x => x.u != r.u)
  let l := if r.failed then l.filter (·.failed) ++ [r] ++ l.filter (fun x => !x.failed) else l ++ [r]
  { s with wear := { s.wear with rots := l } }

/-- The rotation that a FAILED mark starts, keeping a target already chosen. -/
def State.failRot (s : State) (u : Nat) : Rot :=
  match s.wear.rots.find? (fun r => r.u == u) with
  | some r => { r with failed := true, now := true }
  | none => ⟨u, true, true, none, false, false⟩

/-- A unit is marked FAILED (R426). A fallow unit is no target any more; one in service is rotated at
once where ROT_POL says so. -/
def State.failUnit (s : State) (u : Nat) : State :=
  if s.unitState u = unitFailed then s
  else
    let serving := s.unitServing u
    let s := s.setUnitState u unitFailed
    match unitKind u with
    | none => s
    | some k =>
      if !serving then s.retireUnit u
      else if (s.fld Reg.rotPol F.RotPol.autoFail).testBit k || s.rotQueued u then s.queueRot (s.failRot u)
      else s

/-- A unit is marked WORN (R425): its source is raised, and it is rotated at a boundary where ROT_POL says
so. -/
def State.wearUnit (s : State) (u : Nat) : State :=
  let serving := s.unitServing u
  let s := (s.setUnitState u unitWorn).raiseShared srcWorn
  match unitKind u with
  | none => s
  | some k =>
    if !serving then s.retireUnit u
    else if (s.fld Reg.rotPol F.RotPol.autoWorn).testBit k && !s.rotQueued u then
      s.queueRot ⟨u, false, false, none, false, false⟩
    else s

end Sys2Proof.Machine
end

