-- ==== Sys2Proof/Machine/Shown.lean ====
section
/-! DEFINITION. What a software read of a memory-mapped register shows. A field that only reports
something held elsewhere in the state is computed here from its owner (log entry 6); every other field
is read as it is held (R6, R219, R220, R225, R241, R311, R368). -/

namespace Sys2Proof.Machine

/-! ### Isolation (Table 7.4) -/

/-- Regions in use that House `h` owns. -/
def State.regionsOf (s : State) (o : Nat) : List Nat :=
  (List.range 16).filter (fun n => s.fld (Reg.dramRgnB n) F.DramRgnB.mode != 3 &&
    s.fld (Reg.dramRgnB n) F.DramRgnB.owner == o)

/-- Slots of House `h` on channel `c` in 64ths. -/
def State.bwOf (s : State) (h c : Nat) : Nat := Fld.get ⟨32 + 8 * c, 8⟩ (s.rd (Reg.houseGway h))

/-- Does region `n` hold lines in bank group `b` of channel `c`? -/
def State.regionBank (s : State) (n c b : Nat) : Bool :=
  (s.fld (Reg.dramRgnB n) F.DramRgnB.chmask).testBit c &&
  (s.fld (Reg.dramRgnB n) F.DramRgnB.mode != 1 || (s.fld (Reg.dramRgnB n) F.DramRgnB.bgmask).testBit b)

/-- Two regions share a bank. -/
def State.regionsMeet (s : State) (m n : Nat) : Bool :=
  (List.range 4).any (fun c => (List.range 8).any (fun b => s.regionBank m c b && s.regionBank n c b))

/-- SHARE_OK. DEDUCED (log 35). -/
def State.shareOk (s : State) (h : Nat) : Bool :=
  let shr := s.rd (Reg.houseShr h)
  let sat := s.rd (Reg.satHouse h)
  F.HouseShr.lanes.get shr != 0 && F.HouseShr.smills.get shr != 0 && F.HouseShr.pmills.get shr != 0 &&
  s.rd (Reg.houseTil h) != 0 && s.waysOf h != 0 &&
  F.SatHouse.symShare.get sat != 0 &&
  F.SatHouse.kcShare.get sat != 0 && F.SatHouse.kcaShare.get sat != 0 &&
  F.HouseShr.chutes.get shr != 0 && F.HouseShr.slates.get shr != 0 &&
  (s.regionsOf h).all (fun n => (channelsOf (s.fld (Reg.dramRgnB n) F.DramRgnB.chmask)).all
    (fun c => s.bwOf h c != 0))

/-- DRAM_OK. -/
def State.dramOk (s : State) (h : Nat) : Bool :=
  (s.regionsOf h).all (fun n => s.fld (Reg.dramRgnB n) F.DramRgnB.mode != 0 &&
    (List.range 5).all (fun o => o == h || (s.regionsOf o).all (fun m => !s.regionsMeet m n)))

/-- Every in-service Tiller of a Sheaf belongs to House `h` (R204). -/
def State.sheafOfHouse (s : State) (k h : Nat) : Bool :=
  (List.range 64).all (fun t => s.sheaf t != k || !(s.tiller t).on || s.tillerHouse t == some h)

/-- SHEAF_OK. -/
def State.sheafOk (s : State) (h : Nat) : Bool :=
  (List.range 64).all (fun t => s.tillerHouse t != some h || s.sheafOfHouse (s.sheaf t) h)

/-- DBG_OK. -/
def State.dbgOk (s : State) (h : Nat) : Bool :=
  let p := s.rd Reg.passStat
  let en := F.PassStat.enables.get p
  !(F.PassStat.active.get p == 1 && (en.testBit 0 ||
    (en.testBit 2 && (F.PassStat.houses.get p).testBit h && !(F.PassStat.zeroised.get p).testBit h)))

/-- DL_OK (R220). -/
def State.dlOk (s : State) (h : Nat) : Bool :=
  let exam := s.flag (Reg.houseCfg h) F.HouseCfg.exam
  decide (s.lhFloor h < 0xFFFFFFFF) &&
  decide (s.lhFloor h + (if exam then 4 else 0) ≤ s.fld (Reg.houseBound h) F.HouseBound.decl)

/-- A truth value as a bit. -/
def bit (b : Bool) : Nat := if b then 1 else 0

/-- ISO_STAT of House `h` (R219). -/
def State.isoStat (s : State) (h : Nat) : Word :=
  let l := [s.flag (Reg.houseCfg h) F.HouseCfg.sealed, s.shareOk h,
    !s.flag (Reg.houseCfg h) F.HouseCfg.loan, s.dramOk h, s.sheafOk h, s.dbgOk h, s.dlOk h]
  let l := l ++ [l.all id]
  BitVec.ofNat 64 ((l.zipIdx.map (fun (e : Bool × Nat) => bit e.1 * 2 ^ e.2)).sum +
    65536 * s.floorCode h)

/-- House `h` is ISOLATED. -/
def State.isolated (s : State) (h : Nat) : Bool := (s.isoStat h).getLsbD 7

/-! ### Registers that report other state -/

/-- Set several fields of a word. -/
def withFields (v : Word) (l : List (Fld × Nat)) : Word := l.foldl (fun w e => e.1.set w e.2) v

/-- How many slates satisfy `f`. -/
def State.countSlates (s : State) (f : Slate → Bool) : Nat := (s.slates.filter (fun e => f e.2)).length

/-- Bits set for the numbers below `n` that satisfy `f`. -/
def bitsOf (n : Nat) (f : Nat → Bool) : Nat := ((List.range n).map (fun i => bit (f i) * 2 ^ i)).sum

/-- JR_STAT of House `h` (R237, R238, R240, R241). -/
def State.jrStat (s : State) (h : Nat) : Word :=
  let j := (s.house h).j
  let ok := s.ringOk h
  withFields (s.rd (Reg.jrStat h)) [(F.JrStat.effFull, s.effFull h), (F.JrStat.held, min 64 j.held.length),
    (F.JrStat.sealPend, min 16 j.seals.length), (F.JrStat.mirSusp, bit j.susp),
    (F.JrStat.hard, bit (ok && decide (s.hardMark h ≤ j.u))),
    (F.JrStat.full, bit (ok && decide (s.effFull h ≤ j.u))),
    (F.JrStat.high, bit (ok && decide (s.fld (Reg.jrMark h) F.JrMark.high ≤ j.u))),
    (F.JrStat.ringOk, bit ok)]

/-- The index of an element of a register array: from the base and stride. -/
def idx (a base stride : Nat) : Nat := (a - base) / stride

/-- What the named register shows at address `a`, given the word it holds. -/
def State.shownOf (s : State) (name : String) (a : Nat) (v : Word) : Word :=
  match name with
  | "DTIME" => BitVec.ofNat 64 s.dtime
  | "TIME_STAT" => s.timeStat v
  | "FN_ID" =>
    let g := idx a (Reg.fnId 0) 0x10000
    withFields v [(F.FnId.house, s.houseOf g), (F.FnId.gfn, g), (F.FnId.port, g / 16), (F.FnId.func, g % 16)]
  | "DEV_SERIAL" => Config.devSerial
  | "FN_STAT" =>
    let g := idx a (Reg.fnStat 0) 0x10000
    F.FnStat.active.set v (bit (s.flag (Reg.fnCtl g) F.FnCtl.en && (s.port (g / 16)).linkUp))
  | "CREDIT" =>
    let g := idx a (Reg.credit 0) 0x10000
    withFields v [(F.Credit.inflight, (s.fn g).inflight), (F.Credit.limit, s.credLimit g)]
  | "HCTR" => BitVec.ofNat 64 (s.houseCtr (idx a (Reg.hctr 0) 0x10000)).1
  | "OCTR" => BitVec.ofNat 64 s.ownerCtr.1
  | "BELL_STAT" =>
    withFields v [(F.BellStat.due, s.countSlates (fun x => x.armed && decide (x.standinPt ≤ s.dtime))),
      (F.BellStat.armed, s.countSlates (fun x => x.st == .live && x.armed))]
  | "SLATE_STAT" =>
    withFields v [(F.SlateStat.claimed, s.countSlates (fun x => x.st == .claimed)),
      (F.SlateStat.live, s.countSlates (fun x => x.st == .admitted || x.st == .live)),
      (F.SlateStat.draining, s.countSlates (fun x => x.st == .draining)),
      (F.SlateStat.free, 32768 - s.countSlates (fun x => x.st != .free))]
  | "THR_STAT" =>
    (List.range 4).foldl (fun (w : Word) h => (Fld.mk (8 * h) 8).set w
      (min 255 (s.house h).queue.length)) v
  | "THR_LANE" =>
    F.ThrLane.occ.set v ((s.lane (idx a (Reg.thrLane 0) 8)).pos.filter Option.isSome).length
  | "THR_HOUSE" =>
    let h := idx a (Reg.thrHouse 0) 8
    withFields v [(F.ThrHouse.ct, s.ct h), (F.ThrHouse.lanes, s.lanesOf h)]
  | "SAT_STAT" =>
    withFields v [(F.SatStat.symFree, 32768 - (s.symSlots.filter (fun e => e.2.used)).length),
      (F.SatStat.asymFree, 4096 - (s.asymSlots.filter (fun e => e.2.used)).length),
      (F.SatStat.ownerState, if s.rekeyAt.isSome then 2 else bit s.dev.ownerMaster.isSome),
      (F.SatStat.tamper, s.fld Reg.tampStat F.TampStat.latch)]
  | "KC_CNT" =>
    let h := idx a (Reg.kcCnt 0) 8
    let l := s.keyCache h false ++ s.keyCache h true
    F.KcCnt.pinned.set v (l.filter (fun e => s.pinned e.handle)).length
  | "HOUSE_BOUND" => F.HouseBound.lhFloor.set v (s.lhFloor (idx a (Reg.houseBound 0) 8))
  | "ISO_STAT" => s.isoStat (idx a (Reg.isoStat 0) 8)
  | "JR_NEXT" => BitVec.ofNat 64 (s.house (idx a (Reg.jrNext 0) 0x80)).j.next
  | "JR_RETIRED" => BitVec.ofNat 64 (s.house (idx a (Reg.jrRetired 0) 0x80)).j.retired
  | "JR_SEALED" =>
    match (s.house (idx a (Reg.jrSealed 0) 0x80)).j.sealed with
    | some x => BitVec.ofNat 64 x.1
    | none => 0xFFFFFFFFFFFFFFFF#64
  | "JR_STAT" => s.jrStat (idx a (Reg.jrStat 0) 0x80)
  | "LEASE_STAT" =>
    withFields v [(F.LeaseStat.queued, bitsOf 12 (fun d => s.power.offQueue.any (fun e => e.1 == d))),
      (F.LeaseStat.leased, bitsOf 12 (fun d => Map.get 0 s.power.leases d != 0))]
  | "HALT_STAT" => BitVec.ofNat 64 (bitsOf 64 (fun t => (s.tiller t).halted))
  | "RC_STAT" =>
    withFields v [(F.RcStat.queued, min 255 s.wear.rots.length), (F.RcStat.pass, bit s.wear.passRunning)]
  | "RC_UNIT" => F.RcUnit.state.set v (s.unitState (idx a (Reg.rcUnit 0) 8))
  | "RLOG_STAT" =>
    let n := s.flash.fuseLog.length + s.flash.pendLog.length
    withFields v [(F.RlogStat.full, bit (decide (256 ≤ n))), (F.RlogStat.used, n)]
  | "RLOG" =>
    let i := idx a (Reg.rlog 0) 8
    let f := s.flash.fuseLog.length
    match (s.flash.fuseLog ++ s.flash.pendLog)[i]? with
    | some e => BitVec.ofNat 64 (e.toNat + (if i < f then 2 ^ 32 else 2 ^ 33))
    | none => 0
  | "MILL_S" => F.MillS.house.set v (Map.get 0 s.millOwn (81 + idx a (Reg.millS 0) 8))
  | "MILL_P" => F.MillP.house.set v (Map.get 0 s.millOwn (117 + idx a (Reg.millP 0) 8))
  | "HC_CTL" =>
    let e := idx a (Reg.hcSrc 0 0) 0x900000
    let k := (a - Reg.hcSrc e 0) / 0x80
    let own := s.rd (Reg.hpOwn (16 * e + k))
    withFields v [(F.HcCtl.house, F.HpOwn.house.get own), (F.HcCtl.openF, F.HpOwn.openF.get own)]
  | _ => v

/-- A software read of the 8-byte register word at `a`: 0 where no register lies. DEDUCED (log 6). -/
def State.shownReg (s : State) (a : Nat) : Word :=
  match regAt a with
  | some d => d.shown (s.shownOf d.name a (s.rd a))
  | none => 0

/-- The RCL fields that `n` bytes at offset `o` of a register word touch are cleared. -/
def State.clearRead (s : State) (a o n : Nat) : State :=
  match regAt a with
  | some d =>
    let part := BitVec.ofNat 64 ((2 ^ (8 * n) - 1) * 2 ^ (8 * o))
    let old := s.rd a
    s.wr a ((d.afterRead old &&& part) ||| (old &&& ~~~part))
  | none => s

/-- A software read of `n` bytes at `a` (R6, R7): a read of 1 or 2 bytes acts as one of the containing
4-byte word. DEDUCED (log 6). -/
def State.regRead (s : State) (a n : Nat) : List Byte × State :=
  let w := a / 8 * 8
  let o := a % 8
  let v := s.shownReg w
  let s := if n = 8 then s.clearRead w 0 8 else s.clearRead w (o / 4 * 4) 4
  (slice (toBytes v.toNat 8) o n, s)

end Sys2Proof.Machine
end

