-- ==== Sys2Proof/Machine/TimeOps.lean ====
section
/-! DEFINITION. The time base, the PPS pins, the junction temperature, the voltage policy and AVSBus, and
the time and voltage commands (chapter 1, R23 to R41). -/

namespace Sys2Proof.Machine

/-- One second of device time in ns. -/
abbrev second : Nat := 1000000000
/-- 1.5 s in ns. -/
abbrev edgeLimit : Nat := 1500000000

/-- The time base runs: VAON is in range and PORST_N is high (R24). -/
def State.timeRuns (s : State) : Bool := !s.power.porst && s.power.vaon

/-- One time-base cycle: 4 ns, or 0 or 8 ns on a slewed cycle, of which there is at most one in every
65,536 (R24 to R26), after the Bell has fired what may not wait for it (R92). Device time does not wrap at 2^64 ns.
DESIGN CHOICE (log 1, 90). -/
def State.tick (s : State) : State :=
  if !s.timeRuns then s
  else
    let s := { s with tb := { s.tb with cycles := s.tb.cycles + 1 } }
    if 65536 ≤ s.tb.sinceSlew ∧ s.tb.slew > 0 then
      { s with tb := { s.tb with slew := s.tb.slew - 4, sinceSlew := 1 } }
    else if 65536 ≤ s.tb.sinceSlew ∧ s.tb.slew < 0 then
      let s := s.bells 8
      { s with dtime := s.dtime + 8, tb := { s.tb with slew := s.tb.slew + 4, sinceSlew := 1 } }
    else
      let s := s.bells 4
      { s with dtime := s.dtime + 4, tb := { s.tb with sinceSlew := min (s.tb.sinceSlew + 1) 65536 } }

/-! ### Pending TIME_SET (R30) -/

/-- The pending TIME_SET lapses. -/
def State.lapse (s : State) : State :=
  let s := { s with tb := { s.tb with pendSet := none } }
  (s.setFlag Reg.timeStat F.TimeStat.setPending false).setFlag Reg.timeStat F.TimeStat.setLapsed true

/-- The pending TIME_SET loads. -/
def State.loadPending (s : State) (t : Nat) : State :=
  let s := (s.timeStep t).sense.setFlag Reg.timeStat F.TimeStat.setPending false
  { s with tb := { s.tb with pendSet := none, slew := 0 } }

/-- PPS_IN_EN has been cleared: a pending value lapses and PPS_LOCK reads 0 (R30, TIME_CTL). What is left of
a slew in progress is dropped. DEDUCED (log 91). -/
def State.ppsOff (s : State) : State :=
  let s := if s.tb.pendSet.isSome then s.lapse else s
  let s := s.setFlag Reg.timeStat F.TimeStat.ppsLock false
  { s with tb := { s.tb with good := 0, lastEdge := none, slew := 0 } }

/-! ### PPS (R26, R27, R29) -/

/-- The whole second nearest to a device time (R26): at exactly half a second the later one.
DESIGN CHOICE (log 90). -/
def nearestSecond (t : Nat) : Nat := (t + second / 2) / second * second

/-- Signed phase error of a device time (R26). -/
def phaseError (t : Nat) : Int := (t : Int) - (nearestSecond t : Int)

/-- Record the phase error: the register, PPS_FAR, the slew and PPS_LOCK (R26, R27). -/
def State.recordPhase (s : State) (e : Int) : State :=
  let near := decide (e.natAbs ≤ 50)
  let far := decide (1000 < e.natAbs)
  let good := if near then min (s.tb.good + 1) 4 else 0
  let s := s.setFld Reg.timeStat F.TimeStat.phaseErr (satSigned 32 e)
  let s := if far then s.setFlag Reg.timeStat F.TimeStat.ppsFar true else s
  let s := if !near then s.setFlag Reg.timeStat F.TimeStat.ppsLock false
    else if good = 4 then s.setFlag Reg.timeStat F.TimeStat.ppsLock true else s
  { s with tb := { s.tb with good := good, slew := if far then 0 else e } }

/-- No edge has come within 1.5 s of the previous one: PPS_LOCK clears and PPS_MISS sets (R27). -/
def State.edgeMiss (s : State) : State :=
  match s.tb.lastEdge with
  | some e =>
    if s.timeRuns && decide (e + edgeLimit ≤ s.uptime) then
      let s := s.setFlag Reg.timeStat F.TimeStat.ppsLock false
      let s := s.setFlag Reg.timeStat F.TimeStat.ppsMiss true
      { s with tb := { s.tb with good := 0, lastEdge := none } }
    else s
  | none => s

/-- A pending value whose 1.5 s have passed lapses (R30). -/
def State.setExpire (s : State) : State :=
  match s.tb.pendSet with
  | some (_, t) => if t + edgeLimit ≤ s.uptime then s.lapse else s
  | none => s

/-- PPS_IN_EDGE (R26, R27, R30). -/
def execPpsInEdge (s : State) : Out :=
  .next (
    if s.timeRuns && s.flag Reg.timeCtl F.TimeCtl.ppsInEn then
      let s := s.edgeMiss.setExpire.recordPhase (phaseError s.dtime)
      let s := match s.tb.pendSet with
        | some (t, _) => if t < s.dtime then s.lapse else s.loadPending t
        | none => s
      { s with tb := { s.tb with lastEdge := some s.uptime } }
    else s)

/-- PPS_EDGE_TIMEOUT (R27). -/
def execPpsEdgeTimeout (s : State) : Out := .next s.edgeMiss

/-- PENDING_TIME_SET_TIMEOUT (R30). -/
def execPendingTimeSetTimeout (s : State) : Out := .next s.setExpire

/-- Drive PPS_OUT active or inactive (R29). -/
def State.drivePps (s : State) (active : Bool) : State :=
  { s with tb := { s.tb with ppsOut := active } }.post
    (.ppsOut (active != s.flag Reg.timeCtl F.TimeCtl.ppsPol))

/-- PPS_OUT_START (R29): within 8 ns of a whole second. -/
def execPpsOutStart (s : State) : Out :=
  .next (
    let off := s.dtime % second
    let near := off ≤ 8 || second - 8 ≤ off
    if s.timeRuns && s.flag Reg.timeCtl F.TimeCtl.ppsOutEn && !s.tb.ppsOut && near &&
        s.fld Reg.pwrStat F.PwrStat.state != pwrStop &&
        decide (s.tb.ppsOutStart + second / 2 < s.dtime + 8) then
      let w := max 1 (s.fld Reg.timeCtl F.TimeCtl.ppsOutW)
      { s with tb := { s.tb with ppsOutStart := s.dtime, ppsOutSince := s.uptime, ppsOutWidth := w } }.drivePps
        true
    else s)

/-- PPS_OUT_END (R29). The width runs on the time base's cycles, so that a TIME_SET step leaves the pulse as
long as it is. DEDUCED (log 91). -/
def execPpsOutEnd (s : State) : Out :=
  .next (
    if s.tb.ppsOut && decide (s.tb.ppsOutSince + 1000000 * s.tb.ppsOutWidth ≤ s.uptime) then
      s.drivePps false
    else s)

/-! ### TREF (R28) -/

/-- TREF_LOSS (R28). -/
def execTrefLoss (s : State) : Out :=
  .next (
    if s.timeRuns then
      ((s.setFlag Reg.timeStat F.TimeStat.trefLost true).setFlag Reg.timeStat F.TimeStat.holdover
        true).machineCheck
    else s)

/-- TREF_RELOCK (R28). -/
def execTrefRelock (s : State) : Out :=
  .next (if s.timeRuns then s.setFlag Reg.timeStat F.TimeStat.holdover false else s)

/-! ### Junction temperature (R23) -/

/-- The 8-bit two's-complement code of a temperature. -/
def tempCode (t : Int) : Nat := (t % 256).toNat

/-- DRIFT_T of channel `c` sets while retraining is off and TJ has moved by more than 20 °C (R391). -/
def State.driftCheck (s : State) (c : Nat) : State :=
  let d := signed 8 (s.fld Reg.tj F.Tj.tj) - (s.chan c).trainedTj
  if s.fld (Reg.dcTrn c) F.DcTrn.period = 0 ∧ 20 < d.natAbs then
    s.setFlag (Reg.dcStat c) F.DcStat.driftT true
  else s

/-- TJ_SENSOR_READ (R23): readings in tenths of a °C; TJ reports the highest, in whole °C rounded
up. -/
def execTjSensorRead (readings : List Int) (s : State) : Out :=
  .next (
    match readings.max? with
    | none => s
    | some r =>
      let t : Int := (r + 9) / 10
      let s := s.setFld Reg.tj F.Tj.tj (tempCode t)
      let s := if signed 8 (s.fld Reg.tj F.Tj.tjAlert) ≤ t then s.setFlag Reg.tj F.Tj.tjHi true else s
      let s := (List.range 4).foldl (fun (s : State) c => s.driftCheck c) s
      s.refreshTau)

/-! ### Voltage policy (R31 to R36) -/

/-- POLICY in force: 3 is taken as SPRINT. -/
def State.policy (s : State) : Nat :=
  let p := s.fld Reg.vpolCtl F.VpolCtl.policy
  if p = 3 then 0 else p

/-- The margin m of R32 in percent: MARGIN under STEADY, at most 50, and 0 under LEAN. -/
def State.policyMargin (s : State) : Nat :=
  if s.policy = 1 then min 50 (s.fld Reg.vpolCtl F.VpolCtl.margin) else 0

/-- The declared bound of House `h` holds at code `c` with the policy's margin (R32). -/
def State.boundHolds (s : State) (h c : Nat) : Bool :=
  let decl := s.fld (Reg.houseBound h) F.HouseBound.decl
  if !s.inService h || decl == 0 then true
  else
    match s.houseBound h (s.tauAt c, 1) with
    | none => false
    | some f => decide (f.1 * (100 + s.policyMargin) ≤ decl * 100 * f.2)

/-- The policy's target and whether some code meets the condition (R32, R33). -/
def State.policyTarget (s : State) : Nat × Bool :=
  if s.policy = 0 then (12, true)
  else
    let floor := min 12 (s.fld Reg.vpolCtl F.VpolCtl.floor)
    match (List.range 13).find? (fun c =>
        decide (floor ≤ c) && (List.range 4).all (fun h => s.boundHolds h c)) with
    | some c => (c, true)
    | none => (12, false)

/-- The House floor h of VFLOOR; 13 to 15 are taken as 12 (R31, R34). -/
def State.vfloorOf (s : State) (h : Nat) : Nat := min 12 (Fld.get ⟨4 * h, 4⟩ (s.rd Reg.vfloor))

/-- The effective target (R34). -/
def State.effTarget (s : State) : Nat :=
  (List.range 4).foldl (fun m h => max m (s.vfloorOf h)) s.policyTarget.1

/-- The setpoint that a fall counts from (R35): the one being written, else the last acknowledged one; before
the first write, code 12, which is requested first. DEDUCED (log 91). -/
def State.avsSetpoint (s : State) : Nat := s.avs.writing.getD (s.avs.current.getD 12)

/-- The code that is requested for a target (R35): a rise in one write, a fall by one code. -/
def State.avsStep (s : State) (t : Nat) : Nat := if t < s.avsSetpoint then s.avsSetpoint - 1 else t

/-- An evaluation of the policy (R33 to R35). -/
def State.evaluate (s : State) : State :=
  let t := s.effTarget
  let met := s.policyTarget.2
  let s := (s.setFld Reg.vpolStat F.VpolStat.target t).setFlag Reg.vpolStat F.VpolStat.boundUnmet !met
  { s with avs := { s.avs with request := s.avsStep t, evalNow := false, lastEval := s.uptime } }

/-- VPOLICY_EVALUATION (R35): every PERIOD × 50 µs, and at once after a change. -/
def execVpolicyEvaluation (s : State) : Out :=
  .next (
    let period := 50000 * max 1 (s.fld Reg.vpolCtl F.VpolCtl.period)
    if s.running && (s.avs.evalNow || decide (s.avs.lastEval + period ≤ s.uptime)) then s.evaluate else s)

/-! ### AVSBus (R36 to R39) -/

/-- 50 µs have passed since the last voltage write was issued (R38). -/
def State.avsSpaced (s : State) : Bool :=
  match s.avs.lastWrite with
  | none => true
  | some t => decide (t + 50000 ≤ s.uptime)

/-- Issue an AVSBus voltage write of code `c` (R37 step 1). -/
def State.avsIssue (s : State) (c : Nat) (retry : Bool) : State :=
  let s := { s with avs := { s.avs with writing := some c, retried := retry, lastWrite := some s.uptime,
                                        again := false, failed := false } }
  let s := s.setFlag Reg.vpolStat F.VpolStat.busy true
  (s.post (.avs (s.fld Reg.avsCtl F.AvsCtl.avsRail) (setpointMv c))).refreshTau

/-- The first write of a start or of an exit from STOP: at once, or when the 50 µs since the last write have
passed and AVS_FAULT is clear (R37, R38). -/
def State.avsBegin (s : State) (c : Nat) : State :=
  let s := { s with avs := { request := c, again := true, lastWrite := s.avs.lastWrite, lastEval := s.uptime } }
  let s := (s.setFlag Reg.vpolStat F.VpolStat.busy false).refreshTau
  if s.avsSpaced && !s.flag Reg.vpolStat F.VpolStat.avsFault then s.avsIssue c false else s

/-- AVS_VOLTAGE_WRITE (R37, R38): a new setpoint, or the retry of a write that has failed. -/
def execAvsVoltageWrite (s : State) : Out :=
  .next (
    if !s.running || !s.avsSpaced || s.flag Reg.vpolStat F.VpolStat.avsFault then s
    else if s.flag Reg.vpolStat F.VpolStat.busy then
      match s.avs.writing with
      | some c => if s.avs.failed then s.avsIssue c true else s
      | none => s
    else if s.avs.again || s.avs.current != some s.avs.request then s.avsIssue s.avs.request false
    else s)

/-- AVS_TIMEOUT in ns, within 50 to 10,000 µs (AVS_CTL). -/
def State.avsLimit (s : State) : Nat := 1000 * max 50 (min (s.fld Reg.avsCtl F.AvsCtl.avsTimeout) 10000)

/-- The write in progress can still complete: it has not failed, and its AVS_TIMEOUT has not passed. -/
def State.avsInTime (s : State) : Bool :=
  !s.avs.failed && (match s.avs.lastWrite with
    | some t => decide (s.uptime ≤ t + s.avsLimit)
    | none => false)

/-- AVS_TRANSITION_COMPLETE (R37 step 3). -/
def execAvsTransitionComplete (s : State) : Out :=
  .next (
    match s.avs.writing with
    | some c =>
      if s.flag Reg.vpolStat F.VpolStat.busy && s.avsInTime then
        let s := { s with avs := { s.avs with current := some c, writing := none } }
        ((s.setFld Reg.vpolStat F.VpolStat.ack c).setFlag Reg.vpolStat F.VpolStat.busy false).refreshTau
      else s
    | none => s)

/-- AVS_TIMEOUT (R37): a write that is not acknowledged, whose frame fails its check, or that does not
complete in time is retried once, as soon as R38 allows; a retry that fails sets AVS_FAULT. -/
def execAvsTimeout (s : State) : Out :=
  .next (
    match s.avs.writing with
    | some c =>
      if s.flag Reg.vpolStat F.VpolStat.busy && !s.avs.failed then
        if s.avs.retried then
          ((s.setFlag Reg.vpolStat F.VpolStat.avsFault true).setFlag Reg.vpolStat F.VpolStat.busy
            false).refreshTau
        else if s.avsSpaced then s.avsIssue c true
        else { s with avs := { s.avs with failed := true } }
      else s
    | none => s)

/-- Software has cleared AVS_FAULT: the effective target is requested again, also where it equals the last
acknowledged code (R37); a fall goes by one code (R35). The greater τ stays assumed until that write is
issued. DEDUCED (log 91). -/
def State.avsResume (s : State) : State :=
  let t := s.fld Reg.vpolStat F.VpolStat.target
  let c := s.avs.current.getD 12
  { s with avs := { s.avs with request := if t < c then c - 1 else t, again := true } }.refreshTau

/-- AVS_FAULT_CLEAR (R37). -/
def execAvsFaultClear (s : State) : Out :=
  .next (
    if s.flag Reg.vpolStat F.VpolStat.avsFault then
      (s.setFlag Reg.vpolStat F.VpolStat.avsFault false).avsResume
    else s)

/-- Report a PMBus readback (R39). -/
def State.readback (s : State) (vout iout : BitVec 16) : State :=
  if s.running && s.flag Reg.avsCtl F.AvsCtl.pmbEn then
    (s.setFld Reg.vread F.Vread.vout vout.toNat).setFld Reg.vread F.Vread.iout iout.toNat
  else s

/-- PMBUS_READBACK (R39). -/
def execPmbusReadback (vout iout : BitVec 16) (s : State) : Out := .next (s.readback vout iout)

/-- PMB_ALERT (R448): PMB_ALERT_N low triggers an immediate readback. -/
def execPmbAlert (vout iout : BitVec 16) (s : State) : Out := .next (s.readback vout iout)

/-! ### Commands (Table 1.2b) -/

/-- Run `f` on a slate that Tabqua holds with opcode `op`. DEDUCED (log 62). -/
def State.onTabqua (s : State) (id op : Nat) (f : State → State) : State :=
  if s.atTabqua id op then f s else s

/-- The packet of slate `id`. -/
def State.pktOf (s : State) (id : Nat) : List Byte := (s.slate id).pkt
/-- The House of slate `id`. -/
def State.houseOfSlate (s : State) (id : Nat) : Nat := (s.slate id).house

/-- TIME_READ (Table 1.2b). -/
def execTimeRead (id : Nat) (s : State) : Out :=
  .next (s.onTabqua id 0x0C01 (fun s =>
    s.finishOut id (toBytes s.dtime 8 ++ toBytes (s.timeStat (s.rd Reg.timeStat)).toNat 8)))

/-- A PPS_IN edge has arrived within the last 1.5 s. -/
def State.edgeRecent (s : State) : Bool :=
  match s.tb.lastEdge with
  | some e => decide (s.uptime ≤ e + edgeLimit)
  | none => false

/-- Apply T_new (R30 items 1 to 3). -/
def State.timeSet (s : State) (id : Nat) : State :=
  let t := le (s.pktOf id) 52 8
  let out := some (toBytes t 8)
  if t < s.dtime then s.finishFail id St.notPermitted 0
  else if s.flag Reg.timeCtl F.TimeCtl.ppsInEn && s.edgeRecent then
    if t % second ≠ 0 then s.finishFail id St.format 52
    else
      let tc := s.uptime - (s.dtime - (s.slate id).tc)
      let s := (s.finish id St.ok 1 false out).setFlag Reg.timeStat F.TimeStat.setPending true
      { s with tb := { s.tb with pendSet := some (t, tc) } }
  else ((s.finish id St.ok 0 false out).timeStep t).sense

/-- TIME_SET (R30). -/
def execTimeSet (id : Nat) (s : State) : Out :=
  .next (s.onTabqua id 0x0C02 (fun s => s.timeSet id))

/-- TIME_CANCEL (R30, R41). -/
def execTimeCancel (id : Nat) (s : State) : Out :=
  .next (s.onTabqua id 0x0C03 (fun s =>
    if s.tb.pendSet.isSome then (s.finish id St.ok 1 false none).lapse
    else s.finish id St.ok 0 false none))

/-- TIME_MASTER_SET (R41). -/
def execTimeMasterSet (id : Nat) (s : State) : Out :=
  .next (s.onTabqua id 0x0081 (fun s =>
    let b := param (s.pktOf id) 0
    ((s.finishOk id).setFld Reg.timeCtl F.TimeCtl.masterGfn (b % 64)).setFlag Reg.timeCtl
      F.TimeCtl.masterEn (b.testBit 7)))

/-- A setting of the policy changed: evaluate at once (R35). -/
def State.evalSoon (s : State) : State := { s with avs := { s.avs with evalNow := true } }

/-- VPOLICY_SET (R40, R41). -/
def execVpolicySet (id : Nat) (s : State) : Out :=
  .next (s.onTabqua id 0x0080 (fun s =>
    let p := s.pktOf id
    let s := s.finishOk id
    let s := s.setFld Reg.vpolCtl F.VpolCtl.policy (param p 0)
    let s := s.setFld Reg.vpolCtl F.VpolCtl.floor (param p 1)
    let s := s.setFld Reg.vpolCtl F.VpolCtl.margin (param p 2)
    let s := s.setFld Reg.vpolCtl F.VpolCtl.tjGuard (param p 3)
    let s := s.setFld Reg.vpolCtl F.VpolCtl.period (param p 4)
    let s := s.setFld Reg.avsCtl F.AvsCtl.avsRail (param p 5)
    let s := s.setFld Reg.avsCtl F.AvsCtl.avsTimeout (le p 58 2)
    s.refreshTau.evalSoon))

end Sys2Proof.Machine
end

