-- ==== Sys2Proof/Machine/Window.lean ====
section
/-! DEFINITION. Software writes of memory-mapped registers, and loads from and stores to a Tiller's
local window: the ICU page, the completion page, the Chute pages, and the Hopper and Marks registers
(R5 to R8, R79, R296, R306, R339, R345 to R349, R353 to R356, R367). -/

namespace Sys2Proof.Machine

/-! ### Register writes -/

/-- The bytes of a word that a write of `n` bytes at offset `o` touches. -/
def partMask (o n : Nat) : Word := BitVec.ofNat 64 ((2 ^ (8 * n) - 1) * 2 ^ (8 * o))

/-- The plain write by access type, limited to the bytes in `part`. -/
def State.plainWrite (s : State) (a : Nat) (v part : Word) : State :=
  match regAt a with
  | some d =>
    let old := s.rd a
    s.wr a ((d.afterWrite old v &&& part) ||| (old &&& ~~~part))
  | none => s

/-- A disabled edge source keeps no pending state (R341). -/
def State.dropDisabled (s : State) (a : Nat) : State :=
  if a < Reg.ssrc 0 then
    let i := idx a (Reg.psrc 0) 8
    if F.Psrc.en.get (s.rd a) = 0 then s.clearEdge (i / 32) (i % 32) else s
  else if F.Ssrc.en.get (s.rd a) = 0 then s.clearEdge 0 (32 + idx a (Reg.ssrc 0) 8) else s

/-- A write to the named register: `v` holds the bytes in place and `part` names them. The Thresher's settings
change only through commands of family 0x01 (R138). -/
def State.writeOf (s : State) (name : String) (a : Nat) (v part : Word) : State :=
  let old := s.rd a
  let plain := s.plainWrite a v part
  let merged := (v &&& part) ||| (old &&& ~~~part)
  match name with
  | "TIME_CTL" =>
    let was := F.TimeCtl.ppsInEn.get old
    let p := if was = 1 ∧ F.TimeCtl.ppsInEn.get merged = 0 then plain.ppsOff else plain
    if p.tb.ppsOut ∧ F.TimeCtl.ppsOutEn.get merged = 0 then p.drivePps false else p
  | "VPOL_CTL" | "VFLOOR" => if merged = old then plain else plain.refreshTau.evalSoon
  | "VPOL_STAT" =>
    if F.VpolStat.avsFault.get old = 1 ∧ F.VpolStat.avsFault.get (v &&& part) = 1 then plain.avsResume
    else plain
  | "SWM_DRAM" => if F.SwmDram.lock.get old = 1 then s else plain
  | "SWM_DESK" => if F.SwmDesk.lock.get old = 1 then s else plain
  | "CUST_S2" =>
    if s.power.service then s.wr a (F.CustS2.en.set (s.plainWrite a v part |>.rd a) (F.CustS2.en.get old))
    else plain
  | "THR_HOUSE" | "THR_EXAM" | "FN_THR" => s
  | "ICU_CTL" =>
    if (v &&& part).getLsbD 0 then plain.emptyStack (idx a (Reg.icuCtl 0) 8) else plain
  | "PSRC" | "SSRC" => plain.dropDisabled a
  | "CH_CFG" => plain.countChutes
  | "DC_ACT" =>
    let act := (merged &&& 7#64).toNat
    if s.chanState (idx a (Reg.dcAct 0) 8) = chanFrozen ∧ 1 ≤ act ∧ act ≤ 3 then s.wr a (merged &&& 7#64) else s
  | "SQ_BASE" => if s.flag (Reg.fnCtl (idx a (Reg.sqBase 0) 0x10000)) F.FnCtl.en then s else plain
  | "CQ_BASE" => if s.flag (Reg.fnCtl (idx a (Reg.cqBase 0) 0x10000)) F.FnCtl.en then s else plain
  | "REPLY_BASE" => if s.flag (Reg.fnCtl (idx a (Reg.replyBase 0) 0x10000)) F.FnCtl.en then s else plain
  | "RING_SIZE" => if s.flag (Reg.fnCtl (idx a (Reg.ringSize 0) 0x10000)) F.FnCtl.en then s else plain
  | "FN_CTL" => s.fnCtlWrite (idx a (Reg.fnCtl 0) 0x10000) merged
  | "SQ_TAIL" =>
    if part.getLsbD 0 then s.sqTailWrite (idx a (Reg.sqTail 0) 0x10000) (merged.toNat % 65536) else s
  | "CQ_HEAD" =>
    if part.getLsbD 0 then s.cqHeadWrite (idx a (Reg.cqHead 0) 0x10000) (merged.toNat % 65536) else s
  | "MSIX_DATA" =>
    let o := a - Reg.msixData 0 0
    if F.MsixData.masked.get old = 1 ∧ F.MsixData.masked.get merged = 0 then
      plain.msixUnmask (o / 0x10000) (o % 0x10000 / 16)
    else plain
  | _ => plain

/-- A Hopper channel register at address `a`: its engine, channel and offset. -/
def hopReg (a : Nat) : Option (Nat × Nat × Nat) :=
  if a < Reg.hcSrc 0 0 then none
  else
    let o := a - Reg.hcSrc 0 0
    if o / 0x900000 < 8 ∧ o % 0x900000 < 0x800 then
      some (o / 0x900000, o % 0x900000 / 0x80, o % 0x80)
    else none

/-- A software write of `n` bytes at `a` (R7, R8): aligned, of 4 or 8 bytes; any other is ignored. -/
def State.regWrite (s : State) (a n v : Nat) : State :=
  if (n = 4 ∨ n = 8) ∧ a % n = 0 then
    let w := a / 8 * 8
    let o := a % 8
    let v : Word := BitVec.ofNat 64 (v % 2 ^ (8 * n) * 2 ^ (8 * o))
    match hopReg w with
    | some (e, k, off) => if n = 8 then s.hopWrite e k off v else s
    | none =>
      match regAt w with
      | some d => s.writeOf d.name w v (partMask o n)
      | none => s
  else s

/-- The registers answer: BAR0 where the port is up, the others while the part runs (R407, R411). -/
def State.regsAnswer (s : State) (a : Nat) : Bool :=
  if bar0 0 ≤ a then s.barUp ((a - bar0 0) / 0x10000) else s.running

/-- A host access of `n` bytes at an address is aligned (R7). -/
def hostAligned (a n : Nat) : Bool := decide (n ∈ [1, 2, 4, 8]) && decide (a % n = 0)

/-- What a host read of a BAR0 register gives: its bytes, or an unsupported request (R7). -/
inductive HostRead where
  | data (b : List Byte)
  | unsupported
  deriving DecidableEq, Repr

/-- A host read of `n` bytes at offset `off` of function `g`'s BAR0, with the side effects of the read (R6, R7,
R79). The opcode table has no row for it (log entry 93). DESIGN CHOICE (log 93). -/
def State.hostRead (s : State) (g off n : Nat) : HostRead × State :=
  if s.barUp g && decide (off + n ≤ 0x10000) && hostAligned off n then
    let r := s.regRead (bar0 g + off) n
    (.data r.1, r.2)
  else (.unsupported, s)

/-- REGISTER_WRITE (R6): software's write, and a host's through BAR0, where an unaligned access completes as an
unsupported request (R7). -/
def execRegisterWrite (addr size : Nat) (v : Word) (s : State) : Out :=
  .next (
    if !s.regsAnswer addr then s
    else if bar0 0 ≤ addr ∧ !hostAligned addr size then
      s.post (.unsupported ((addr - bar0 0) / 0x10000) ((addr - bar0 0) % 0x10000))
    else (s.regWrite addr size v.toNat).sense)

/-! ### The ICU page (R345 to R348) -/

/-- WHY of ICU_STAT. -/
abbrev whyOrder : Nat := 1
abbrev whyDepth : Nat := 2
abbrev whyIdle : Nat := 3
abbrev whyRing : Nat := 4
abbrev whyHold : Nat := 5

/-- Record the reason of an ICU_FAULT (R348). -/
def State.icuWhy (s : State) (t w : Nat) : State := s.modTiller t (fun x => { x with why := w })

/-- What an 8-byte load from the window gives: a value, a fault, or a wait. -/
inductive WinRes where
  | val (v : Word) (s : State)
  | icuFault (s : State)
  | wait
  deriving DecidableEq, Repr

/-- ICU_STAT. -/
def Tiller.icuStat (x : Tiller) : Word :=
  BitVec.ofNat 64 (min x.emptyCount (2 ^ 32 - 1) * 2 ^ 32 + x.why * 256 + bit x.dflag * 8 + x.claims.length)

/-- ICU_STACK: ENTRY0 is the first claim pushed. -/
def Tiller.icuStack (x : Tiller) : Word :=
  let l := x.claims.reverse.map (fun (e : Nat × Bool) => e.1 + 32768 * bit e.2)
  BitVec.ofNat 64 (((List.range 4).map (fun i => l.getD i 0xFFFF * 65536 ^ i)).sum)

/-- Claims and completions need DFLAG, and the ring that took the delivery or ring 0 (R348). -/
def Tiller.claimFault (x : Tiller) (ring : Nat) : Option Nat :=
  if !x.dflag then some whyIdle
  else if ring ≠ 0 ∧ ring ≠ x.dring then some whyRing
  else none

/-- A load from ICU_CLAIM (R345). -/
def State.icuClaim (s : State) (t ring : Nat) : WinRes :=
  let x := s.tiller t
  match x.claimFault ring with
  | some w => .icuFault (s.icuWhy t w)
  | none =>
    match s.claimable t x.dring with
    | none => .val (BitVec.ofNat 64 (2 ^ 63 + x.claims.length * 65536)) s
    | some src =>
      if 4 ≤ x.claims.length then .icuFault (s.icuWhy t whyDepth)
      else .val (BitVec.ofNat 64 ((x.claims.length + 1) * 65536 + src)) (s.pushClaim t src)

/-- A load from ICU_EOI[src] (R346). -/
def State.icuEoi (s : State) (t ring src : Nat) : WinRes :=
  let x := s.tiller t
  match x.claimFault ring with
  | some w => .icuFault (s.icuWhy t w)
  | none =>
    match x.claims with
    | [] => .icuFault (s.icuWhy t whyOrder)
    | e :: rest =>
      if e.1 ≠ src then .icuFault (s.icuWhy t whyOrder)
      else
        let high := isLevel src && s.levelInput t src
        let s := s.modTiller t (fun x => { x with
          claims := rest
          dflag := !rest.isEmpty
          emptyCount := if isLevel src && !high && e.2 then min (x.emptyCount + 1) (2 ^ 32 - 1)
            else x.emptyCount })
        .val (BitVec.ofNat 64 (8 * bit high + rest.length)) s

/-- ICU_PEND word `w`. -/
def State.icuPend (s : State) (t w : Nat) : Word :=
  BitVec.ofNat 64 (bitsOf 64 (fun j => s.srcPending t (64 * w + j)))

/-- A load from a Chute's port: only the reader reads the read window (R355). A Tiller that moves takes no new
WORK packet: it finds the Chute as an empty one (R208). DEDUCED (log 45). -/
def State.chutePort (s : State) (t c o : Nat) : Word × State :=
  if 0x200 ≤ o ∧ (s.chuteRole c = roleWork ∨ s.chuteRole c = roleTiller) ∧ s.chuteReader c = t then
    if s.tillerMoves t ∧ s.chuteRole c = roleWork ∧ (s.chute c).taken.isEmpty then ((s.chute c).lastRead, s)
    else s.chuteReadAt c (o - 0x200)
  else s.freshWord

/-- An 8-byte load at offset `o` of Tiller `t`'s own window (Table 12.1). DESIGN CHOICE (log 33). -/
def State.winLoad (s : State) (t o : Nat) : WinRes :=
  let x := s.tiller t
  let r := x.ring
  if o = 0 then .val x.icuStat (s.modTiller t (fun x => { x with emptyCount := 0, why := 0 }))
  else if o = 8 then s.icuClaim t r
  else if o = 0x10 then .val x.icuStack s
  else if 0x40 ≤ o ∧ o < 0x68 then .val (s.icuPend t ((o - 0x40) / 8)) s
  else if 0x1000 ≤ o ∧ o < 0x1900 then s.icuEoi t r ((o - 0x1000) / 8)
  else if 0x2000 ≤ o ∧ o < 0x2800 then let v := s.chuteStat ((o - 0x2000) / 8); .val v.1 v.2
  else if 0x2800 ≤ o ∧ o < 0x3000 then
    let c := (o - 0x2800) / 8
    if (s.chuteRole c = roleWork ∨ s.chuteRole c = roleTiller) ∧ s.chuteReader c = t then
      let v := s.chuteDrop c; .val v.1 v.2
    else let v := s.freshWord; .val v.1 v.2
  else if o = 0x3000 then
    match s.chuteAnswer t with
    | (some v, s) => .val v s
    | (none, _) => .wait
  else if o = 0x3008 then let v := s.chuteCancel t; .val v.1 v.2
  else if 0x40000 ≤ o then
    let v := s.chutePort t ((o - 0x40000) / 0x400) (o % 0x400); .val v.1 v.2
  else
    let base := if 0x8000 ≤ o ∧ o < 0x8800 then windowBase (x.pos / 9 * 9) else windowBase x.pos
    .val (s.shownReg (base + o)) (s.clearRead (base + o) 0 8)

/-- A store of 8 bytes at offset `o` of the window drains; `none` while it must wait. -/
def State.winStore (s : State) (t o : Nat) (bs : List Byte) : Option State :=
  if 0x40000 ≤ o then
    if o % 0x400 < 0x200 then s.chuteWrite t ((o - 0x40000) / 0x400) (o % 0x400) bs else some s
  else if 0x6000 ≤ o ∧ o < 0x8800 then
    let x := s.tiller t
    let base := if 0x8000 ≤ o then windowBase (x.pos / 9 * 9) else windowBase x.pos
    some (s.regWrite (base + o) 8 (ofBytes bs))
  else some s

/-- ICU_RESET (R348): the Proctor's write to ICU_RESET[t]. -/
def execIcuReset (t : Nat) (s : State) : Out :=
  .next (if t < 64 then s.emptyStack t else s)

end Sys2Proof.Machine
end

