-- ==== Sys2Proof/Machine/Hopper.lean ====
section
/-! DEFINITION. The end of a Hopper channel: its whole stream moved, an error, or a drop (R298, R327,
R363 to R367). -/

namespace Sys2Proof.Machine

/-! ### The checks of steps 3 to 7 -/

/-- The channel belongs to the secure world. -/
def State.hopSecure (s : State) (e k : Nat) : Bool := !s.flag (Reg.hpOwn (16 * e + k)) F.HpOwn.openF
/-- The channel's House. -/
def State.hopHouse (s : State) (e k : Nat) : Nat := s.fld (Reg.hpOwn (16 * e + k)) F.HpOwn.house

/-- An address lies in a carrel range of some Tiller's table (R298). -/
def State.inCarrel (s : State) (a : Nat) : Bool :=
  (List.range 64).any (fun t => (s.codeCarrel t a).isSome || (s.dataCarrel t a).isSome)

/-- The failure of one access of the channel, as an error code (R366). -/
def State.hopFault (s : State) (e k : Nat) (kind : Acc) (a : Nat) : Option Nat :=
  let sec := s.hopSecure e k
  let mapped := match s.placeOf a with
    | .unmapped => false
    | .window _ _ => false
    | .regs => !sec || decide (1 ≤ blockRing a)
    | .rom => kind != .store
    | _ => true
  if !mapped || (!sec && (s.secureAt a || !s.houseReach (s.hopHouse e k) kind 2 a)) then some hopCheckErr
  else if s.inCarrel a then some hopCarrelErr
  else if kind == .load && s.readError a 1 then some hopResponseErr
  else if s.retiredAt a then some hopResponseErr
  else none

/-- Every byte of a side passes. -/
def State.hopSidePasses (s : State) (e k : Nat) (kind : Acc) (h : HopSide) : Bool :=
  (List.range h.total).all (fun i => (s.hopFault e k kind (s.norm (h.byteAddr i))).isNone)

/-- A frozen channel holds an access of the side (R394). -/
def State.hopHeld (s : State) (h : HopSide) : Bool :=
  (List.range h.total).any (fun i => s.frozenAt (s.norm (h.byteAddr i)))

/-! ### The stream (R363) -/

/-- Where source byte `i` goes in the destination stream. -/
def hopPlace (mode f w tot i : Nat) : Nat :=
  let r := tot / (f * w)
  if mode = 1 then i / w % f * (r * w) + i / (f * w) * w + i % w
  else if mode = 2 then i / w % r * (f * w) + i / (r * w) * w + i % w
  else i

/-- Read 8 aligned bytes of a side-effect side: of a register, or of memory that an attribute makes side-effect. -/
def State.hopTake (s : State) (a : Nat) : List Byte × State :=
  match s.placeOf a with
  | .regs => s.regRead a 8
  | _ => (s.bytesAt a 8, s)

/-- The source stream, of which `m` bytes are read: a side-effect source is read once, in order, 8 bytes at a time,
and no further (R364). -/
def State.hopRead (s : State) (e : Nat) (h : HopSide) (m : Nat) : List Byte × State :=
  if s.hopAnySide e h then
    (List.range (min ((m + 7) / 8) (h.total / 8))).foldl (fun (r : List Byte × State) i =>
      let v := r.2.hopTake (r.2.norm (h.byteAddr (8 * i)))
      (r.1 ++ v.1, v.2)) ([], s)
  else ((List.range h.total).map (fun i => s.memByte (s.norm (h.byteAddr i))), s)

/-- No cache keeps its own copy of a line that another unit writes (R373, R374). -/
def State.dropCopies (s : State) (line : Nat) : State :=
  let s := s.mapTillers (fun _ x => { x with dcache := Lines.drop x.dcache line })
  { s with l2 := s.l2.map (fun (x : Nat × Lines) => (x.1, x.2.drop line)) }

/-- Write `n` bytes of a destination line, split at 64-byte lines of memory. -/
def State.hopPut (s : State) (a : Nat) (bs : List Byte) : State :=
  (pieces' a bs bs.length).foldl (fun (s : State) p =>
    (s.dropCopies (lineOf p.1)).memWrite p.1 p.2) s
where
  /-- The parts of some bytes within one line each. -/
  pieces' (a : Nat) (bs : List Byte) : Nat → List (Nat × List Byte)
    | 0 => []
    | f + 1 =>
      if bs.isEmpty then []
      else
        let n := 64 - a % 64
        (a, bs.take n) :: pieces' (a + n) (bs.drop n) f

/-- Write 8 aligned bytes of a side-effect side. -/
def State.hopGive (s : State) (a : Nat) (bs : List Byte) : State :=
  match s.placeOf a with
  | .regs => s.regWrite a 8 (ofBytes bs)
  | _ => s.hopPut a bs

/-- The destination stream, up to `n` bytes of it. -/
def State.hopWriteOut (s : State) (e : Nat) (h : HopSide) (bs : List Byte) (n : Nat) : State :=
  if s.hopAnySide e h then
    (List.range (n / 8)).foldl (fun (s : State) i => s.hopGive (s.norm (h.byteAddr (8 * i))) (slice bs (8 * i) 8)) s
  else
    (List.range h.lines).foldl (fun (s : State) l =>
      let part := (bs.take n).drop (l * h.len)
      s.hopPut (s.norm (h.addr + l * h.stride)) (part.take h.len)) s

/-- Bytes of the destination stream, from those of the source. -/
def hopArrange (mode f w : Nat) (src : List Byte) : List Byte :=
  let m := (List.range src.length).foldl (fun (m : List Host.Cell) i =>
    Map.insert (hopPlace mode f w src.length i) (byteOf src i) m) []
  (List.range src.length).map (fun i => Map.get 0 m i)
where
  /-- A byte of a list. -/
  byteOf (b : List Byte) (i : Nat) : Byte := b.getD i 0

/-- How much of the source the first `n` bytes of the destination stream come from. -/
def hopNeeds (mode f w tot n : Nat) : Nat :=
  (List.range tot).foldl (fun m i => if hopPlace mode f w tot i < n then i + 1 else m) 0

/-- How much of the destination stream comes from the first `m` bytes of the source. -/
def hopPrefix (mode f w tot m : Nat) : Nat :=
  (List.range tot).foldl (fun n i => if m ≤ i then min n (hopPlace mode f w tot i) else n) tot

/-- Where an address lies in the stream of a side. -/
def State.hopIndex (s : State) (h : HopSide) (a : Nat) : Option Nat :=
  (List.range h.total).find? (fun i => s.norm (h.byteAddr i) == a)

/-- The destination from position `n` of the stream on: memory holds free values, and each write of a register
that the bytes `bs` before position `m` allow is performed or not (R366, R367). DESIGN CHOICE (log 101). -/
def State.hopUnknown (s : State) (e : Nat) (h : HopSide) (bs : List Byte) (n m : Nat) : State :=
  if s.hopAnySide e h then
    (List.range (h.total / 8 - n / 8)).foldl (fun (s : State) i =>
      let o := 8 * (n / 8 + i)
      let a := s.norm (h.byteAddr o)
      if s.placeOf a = .regs then
        let c := s.choose 2
        if c.1 = 1 && decide (o + 8 ≤ m) then c.2.hopGive a (slice bs o 8) else c.2
      else
        let v := s.freshWord
        v.2.hopPut a (toBytes v.1.toNat 8)) s
  else
    (List.range (h.total - n)).foldl (fun (s : State) i =>
      let v := s.freshWord
      v.2.hopPut (s.norm (h.byteAddr (n + i))) [v.1.setWidth 8]) s

/-- A channel no longer runs: BUSY clears. -/
def State.hopStop (s : State) (e k : Nat) : State :=
  (s.modHopper e (fun x => { x with running := none })).setFlag (Reg.hcStat e k) F.HcStat.busy false

/-- Every write of channel `k` has its response (R365). -/
def State.hopDone (s : State) (e k : Nat) : State :=
  let src := s.hopSrc e k
  let dst := s.hopDst e k
  if s.hopSidePasses e k .load src && s.hopSidePasses e k .store dst && !s.hopHeld src && !s.hopHeld dst then
    let s := s.sense
    let d := s.hopRead e src src.total
    let bs := hopArrange (s.hopMode e k) (s.hopF e k) (s.hopW e k) d.1
    let s := d.2.hopWriteOut e dst bs bs.length
    let s := s.wr (Reg.hcProg e k) (BitVec.ofNat 64 bs.length)
    ((s.setFlag (Reg.hcStat e k) F.HcStat.done true).hopStop e k).hopRaise e k
  else s

/-- HOPPER_CHANNEL_DONE (R365). -/
def execHopperChannelDone (e : Nat) (s : State) : Out :=
  .next (
    match (s.hopper e).running with
    | some k => s.hopDone e k
    | none => s)

/-- Error code of a failing access. -/
def hopCode (w : HopFail) : Nat :=
  match w with
  | .check => hopCheckErr
  | .carrel => hopCarrelErr
  | .response => hopResponseErr

/-- A stream of the channel's length that begins with the bytes read, as the destination has it. -/
def State.hopStream (s : State) (e k : Nat) (read : List Byte) : List Byte :=
  hopArrange (s.hopMode e k) (s.hopF e k) (s.hopW e k) (slice read 0 (s.hopSrc e k).total)

/-- The channel ends on the access at `addr` (R366). The writes of a prefix of the destination stream were all
performed: `done` bytes, or as many as the failing access allows. A failing source access is the last one; before a
failing write the engine may have read any part of the source. DESIGN CHOICE (log 101). -/
def State.hopError (s : State) (e k code addr done : Nat) : State :=
  let src := s.hopSrc e k
  let dst := s.hopDst e k
  let mode := s.hopMode e k
  let f := s.hopF e k
  let w := s.hopW e k
  let reach := min done (match s.hopIndex src addr, s.hopIndex dst addr with
    | some i, _ => hopPrefix mode f w src.total i
    | none, some j => j
    | none, none => dst.total)
  let n := if s.hopAnySide e dst then reach / 8 * 8 else reach
  let need := hopNeeds mode f w src.total n
  let c := s.choose (src.total - need + 1)
  let m := ((s.hopIndex src addr).map (fun i => i / 8 * 8)).getD (need + c.1)
  let d := c.2.hopRead e src m
  let bs := s.hopStream e k d.1
  let s := (d.2.hopWriteOut e dst bs n).hopUnknown e dst bs n (hopPrefix mode f w src.total m)
  let s := s.wr (Reg.hcErraddr e k) (BitVec.ofNat 64 (addr % 2 ^ 44))
  let s := s.wr (Reg.hcProg e k) (BitVec.ofNat 64 n)
  let s := (s.setFlag (Reg.hcStat e k) F.HcStat.err true).setFld (Reg.hcStat e k) F.HcStat.errCode code
  (s.hopStop e k).hopRaise e k

/-- The access of the channel at `addr` fails in the named way: a check fails by the channel's own rules, and an
error response may come to any access. -/
def State.hopFails (s : State) (e k : Nat) (why : HopFail) (addr : Nat) : Bool :=
  let src := (s.hopIndex (s.hopSrc e k) addr).isSome
  let dst := (s.hopIndex (s.hopDst e k) addr).isSome
  (src || dst) && (why == .response || (src && s.hopFault e k .load addr == some (hopCode why)) ||
    (dst && s.hopFault e k .store addr == some (hopCode why)))

/-- HOPPER_CHANNEL_ERROR (R366): `addr` is the failing access, and the first `done` bytes of the
destination stream were performed. -/
def execHopperChannelError (e : Nat) (why : HopFail) (addr done : Nat) (s : State) : Out :=
  .next (
    match (s.hopper e).running with
    | some k =>
      if s.hopFails e k why addr then
        (if s.readError addr 1 then s.countUe addr else s).hopError e k (hopCode why) addr done
      else s
    | none => s)

/-- What a dropped channel leaves: it has read a free part of its source, and the destination is UNKNOWN (R367).
DESIGN CHOICE (log 101). -/
def State.hopDrop (s : State) (e k : Nat) : State :=
  let src := s.hopSrc e k
  let dst := s.hopDst e k
  let c := s.choose (src.total + 1)
  let d := c.2.hopRead e src c.1
  d.2.hopUnknown e dst (s.hopStream e k d.1) 0 (hopPrefix (s.hopMode e k) (s.hopF e k) (s.hopW e k) src.total c.1)

/-- HOPPER_DROP_COMPLETE (R367): none of the dropped channel's writes is outstanding; PROG and the
destination are UNKNOWN. -/
def execHopperDropComplete (e k : Nat) (s : State) : Out :=
  .next (
    if (s.hopper e).dropping.contains k then
      let w := (s.hopDrop e k).freshWord
      let s := (w.2.wr (Reg.hcProg e k) w.1).setFlag (Reg.hcStat e k) F.HcStat.busy false
      s.modHopper e (fun x => { x with dropping := x.dropping.filter (· != k) })
    else s)

end Sys2Proof.Machine
end

