-- ==== Sys2Proof/Machine/Instrs.lean ====
section
/-! DEFINITION. How a Tiller runs one instruction: what waits at the boundary before it, its fetch, the
carrel entry check, its data accesses, and the taking of the fault it raises (R244, R248, R253 to R256,
R263, R264, R269, R270, R275, R288, R299, R324, R343, R376). A waiting instruction has no effect and runs
when its command comes again. -/

namespace Sys2Proof.Machine

/-- How an instruction's own effect ends. -/
inductive Res where
  /-- Completed and retired. -/
  | done (s : State)
  /-- A fault with its TVAL. -/
  | fault (s : State) (code : Nat) (tval : Word)
  /-- It waits: for a walk, a fill, a load's data, a drain or a mill. -/
  | wait (s : State)
  deriving DecidableEq, Repr

/-- An address as a word. -/
abbrev asWord (a : Nat) : Word := BitVec.ofNat 64 a

/-- A TLB miss starts a walk (R315, R322). DESIGN CHOICE (log 61). -/
def State.beginWalk (s : State) (t : Nat) (k : Acc) (va : Nat) : State :=
  let r := (s.tiller t).ring
  (s.modTiller t (fun x => { x with stall := .walk k va 1 (s.walkRoot t r va) })).mark t r evTlbMiss 1

/-! ### Fetch (R263, R264) -/

/-- R299: what the instruction at `a` needs of the carrel whose code holds it. -/
def State.entryOk (s : State) (t c a : Nat) : Bool :=
  let x := s.tiller t
  let e := s.carrel t c
  x.ring == 3 &&
  (x.noEntryCheck || a == e.codeBase + e.entry || (x.prevPa.map e.inCode).getD false)

/-- The carrel whose instruction faults in its own fetch at `a`: one that goes on in the carrel's code, or enters it
where it may (R300). DEDUCED (log 21). -/
def State.fetchIn (s : State) (t a : Nat) : Option Nat :=
  let x := s.tiller t
  if x.ring ≠ 3 then none
  else match s.codeCarrel t a with
    | some c => if s.entryOk t c a then some c else none
    | none => none

/-- The line after `va`'s, where fetch has run ahead onto it: only over TLB and instruction-cache hits, and without
a fault (R264). How far it has run ahead is a free choice. DESIGN CHOICE (log 37). -/
def State.runAhead (s : State) (t va : Nat) : List (Nat × Nat) × State :=
  let x := s.tiller t
  let c := s.choose 2
  if c.1 = 0 then ([], c.2)
  else match c.2.translate t x.ring .fetch ((va + 64) % 2 ^ 64) with
    | (.ok a, s) =>
      if (s.physFault t x.ring .fetch none a 4).isNone && (s.addrType x.pos a).cached &&
          Lines.has x.icache (lineOf a) then ([((va + 64) % 2 ^ 64, lineOf a)], s)
      else ([], s)
    | (_, s) => ([], s)

/-- Obtain the current instruction's line in the fetch queue. DESIGN CHOICE (log 37). -/
def State.fetch (s : State) (t : Nat) : Res :=
  let x := s.tiller t
  let pc := x.pc.toNat
  match x.curPa with
  | some _ => .done s
  | none =>
    match s.translate t x.ring .fetch pc with
    | (.miss, s) => .wait (s.beginWalk t .fetch pc)
    | (.fault c v, s) => .fault s c (asWord v)
    | (.ok a, s) =>
      match s.physFault t x.ring .fetch none a 4 with
      | some c => .fault (s.modTiller t (fun x => { x with carrel := s.fetchIn t a })) c (asWord pc)
      | none =>
        let line := lineOf a
        let cached := (s.addrType x.pos a).cached
        if cached && Lines.has x.icache line then
          let r := s.runAhead t (lineOf pc)
          .done (r.2.modTiller t (fun x => { x with
            fq := (lineOf pc, line) :: r.1
            icache := Lines.use x.icache 4 l1Set line false }))
        else
          .wait ((s.modTiller t (fun x => { x with stall := .fetch line cached })).mark t x.ring evIMiss 1)

/-- The carrel whose code holds the current instruction. -/
def State.nowIn (s : State) (t : Nat) : Option Nat :=
  let x := s.tiller t
  if x.secure then none else x.curPa.bind (fun a => s.codeCarrel t a)

/-- The check of R299 before the instruction executes; EFLAGS.INC and CIDX follow the instruction. One that fails the
check never enters the carrel, so no carrel's state is saved. DEDUCED (log 21). -/
def State.enterCarrel (s : State) (t : Nat) : Res :=
  match s.nowIn t with
  | some c =>
    if s.entryOk t c (((s.tiller t).curPa).getD 0) then
      .done (s.modTiller t (fun x => { x with carrel := some c }))
    else .fault (s.modTiller t (fun x => { x with carrel := none })) Ex.carrelEntry (s.tiller t).pc
  | none => .done (s.modTiller t (fun x => { x with carrel := none }))

/-! ### The boundary before an instruction -/

/-- The Tiller may work: one that moves does, until it holds no work of the losing House (R208). -/
def State.tillerWorks (s : State) (t : Nat) : Bool :=
  !s.tillerMoves t || ((Map.find t s.leaving).isSome && !(s.heldBy t).isEmpty)

/-- The Tiller can run: in service, powered and not halted, and it does work; the debug port stops it by a halt
or at a breakpoint, but for a single step (R308). -/
def State.tillerRuns (s : State) (t : Nat) : Bool :=
  let x := s.tiller t
  decide (t < 64) && s.running && x.on && !x.halted && s.tillerWorks t && (x.dbgStep || (!x.dbgHalt && !x.breaks.contains x.pc))

/-- Some interrupt source of the Tiller is pending, masked or not (R275). -/
def State.anyPending (s : State) (t : Nat) : Bool :=
  (List.range 170).any (fun src => s.srcEn t src && s.srcPending t src)

/-- A WAITI completes once a source is pending. -/
def State.endWait (s : State) (t : Nat) : State :=
  if (s.tiller t).stall = .waiti ∧ s.anyPending t then
    (s.modTiller t (fun x => { x with stall := .none })).retire t 0
  else s

/-- A machine-check event, or a HOLD fault, is due at the boundary (R288, R349): code of the entry.
DESIGN CHOICE (log 24). -/
def Tiller.due (x : Tiller) : Option Nat :=
  if x.dslot.isSome then none
  else if x.mcheck then some Ex.machineCheck
  else if x.holdDue then some Ex.icuFault
  else none

/-- Take what is due: EPC holds the next instruction. DEDUCED (log 22). DESIGN CHOICE (log 24). -/
def State.takeDue (s : State) (t code : Nat) : Option State :=
  let x := s.tiller t
  let s := s.modTiller t (fun x =>
    if code = Ex.machineCheck then { x with mcheck := false }
    else { x with holdDue := false, why := whyHold })
  s.enter t ⟨0, code, false, 0, 0, 0, x.pc, none⟩

/-- Take the fault that an instruction raises; without room for its frame it waits. DESIGN CHOICE (log 2). -/
def Res.settle (r : Res) (s0 : State) (t : Nat) : State :=
  match r with
  | .done s => s
  | .wait s => s
  | .fault s c v => (s.takeFault t c v).getD s0

/-- Continue where a step completed. -/
def Res.andThen (r : Res) (f : State → Res) : Res :=
  match r with
  | .done s => f s
  | r => r

/-- An instruction that R269 forbids in a delay slot raises ILLEGAL there. -/
def State.slotCheck (s : State) (t : Nat) (slotOk : Bool) : Res :=
  let x := s.tiller t
  if x.dslot.isSome && !slotOk then .fault s Ex.illegal x.pc else .done s

/-- Tiller `t` runs the instruction whose own effect is `f`. DESIGN CHOICE (log 2). -/
def State.instr (s : State) (t : Nat) (slotOk : Bool) (f : State → Res) : State :=
  if s.tillerRuns t then
    let s := s.endWait t
    if (s.tiller t).stall = .none then
      match (s.tiller t).due with
      | some c => (s.takeDue t c).getD s
      | none =>
        ((((s.fetch t).andThen (fun s => s.enterCarrel t)).andThen (fun s => s.slotCheck t slotOk)).andThen
          f).settle s t
    else s
  else s

/-- A fault of the current instruction with its own address as TVAL (log entry 29). -/
def State.trap (s : State) (t code : Nat) : Res := .fault s code (s.tiller t).pc

/-! ### Data accesses (R253, R254, R327) -/

/-- Check and translate `n` bytes at `va`, then go on with the physical pieces. -/
def State.data (s : State) (t : Nat) (k : Acc) (va n : Nat) (f : List (Nat × Nat) → State → Res) : Res :=
  match s.access t k va n with
  | (.miss v, s) => .wait (s.beginWalk t k v)
  | (.fault c v, s) => .fault s c (asWord v)
  | (.ok ps, s) => f ps s

/-- The value of a load's bytes, extended (R253). -/
def extend (sg : Bool) (bs : List Byte) : Word :=
  let n := 8 * bs.length
  let v := ofBytes bs
  if sg && v.testBit (n - 1) then BitVec.ofInt 64 ((v : Int) - 2 ^ n) else BitVec.ofNat 64 v

/-- Complete a load. -/
def State.loaded (s : State) (t : Nat) (rd : Fin 32) (sg : Bool) (bs : List Byte) (beats : Nat) : State :=
  (s.setGr t rd (extend sg bs)).retire t beats

/-- The bytes of all pieces, as the Tiller sees them. -/
def State.pieceBytes (s : State) (t : Nat) (ps : List (Nat × Nat)) : List Byte :=
  (ps.map (fun p => s.viewBytes t p.1 p.2)).flatten

/-- Retire an instruction that opens an EMPTY window of its own: only an earlier one closes (R347). -/
def State.retireKeep (s : State) (t beats : Nat) : State :=
  let r := (s.tiller t).ring
  ((s.modTiller t Tiller.advance).mark t r evRetired 1).topDown t r 0 beats

/-- An 8-byte load at offset `o` of the Tiller's own window (14 b, R339). -/
def State.windowLoad (s : State) (t : Nat) (rd : Fin 32) (o va : Nat) : Res :=
  match s.winLoad t o with
  | .icuFault s => .fault s Ex.icuFault (asWord va)
  | .wait => .wait s
  | .val _ _ =>
    match (s.closeWindow t).winLoad t o with
    | .val v s => .done ((s.sense.setGr t rd v).retireKeep t 14)
    | _ => .wait s

/-- The target that an address reaches: a DRAM channel, a Desk, a window, a register block or the boot ROM. -/
def State.targetOf (s : State) (a : Nat) : Nat × Nat :=
  match s.placeOf a with
  | .dram => (0, (s.chanAt a).getD 4)
  | .desk n _ => (1, n)
  | .window n _ => (2, n)
  | .regs => (3, a / 0x10000)
  | .rom => (4, 0)
  | .unmapped => (5, 0)

/-- A side-effect access to `a`, or any access to its line, comes behind one of some accepted stores: the requests
of one master to one target arrive in order (R331), and so do those to one byte (R333). -/
def State.behind (s : State) (l : List SbEntry) (a : Nat) (side : Bool) : Bool :=
  l.any (fun p => (side && s.targetOf p.line == s.targetOf a) || lineOf p.line == lineOf a)

/-- A side-effect access to `a` must wait: for an earlier side-effect store that has not drained, or for an accepted
one that its target has not performed (R256, R331). -/
def State.sideWaits (s : State) (t a : Nat) : Bool :=
  (s.tiller t).sidePending || s.behind (s.tiller t).posted a true

/-- A load whose pieces have passed every check (R256, R331, R376). One that only some buffered bytes serve waits
until every entry of its lines has drained. -/
def State.loadPieces (s : State) (t : Nat) (rd : Fin 32) (sg : Bool) (va : Nat) (ps : List (Nat × Nat)) :
    Res :=
  let x := s.tiller t
  let a := (ps.head?.map Prod.fst).getD 0
  let k := ps.length
  let ty := s.addrType x.pos a
  let cs := ps.map (fun p => (s.addrType x.pos p.1).cached)
  let away := Res.wait (s.modTiller t (fun x => { x with stall := .load ps cs sg va rd }))
  if ty.side then
    if s.sideWaits t a then .wait s
    else
      match s.placeOf a with
      | .window _ o => s.windowLoad t rd o va
      | _ => away
  else if x.lineWait.any x.holdsLine || ps.any (fun p => x.sideLine (lineOf p.1)) then .wait s
  else if ps.all (fun p => x.allBuffered p.1 p.2) then
    .done (s.loaded t rd sg (s.pieceBytes t ps) (7 * k))
  else if ps.any (fun p => x.anyBuffered p.1 p.2) then
    .wait (s.modTiller t (fun x => { x with lineWait := ps.map (fun p => lineOf p.1) }))
  else
    let own := match s.placeOf a with
      | .desk n _ => decide (n = x.pos)
      | _ => false
    let hit := cs.all id && ps.all (fun p => Lines.has x.dcache (lineOf p.1))
    if own || hit then
      match ps.find? (fun p => s.poisoned p.1 p.2) with
      | some p => .fault (s.countUe p.1) Ex.machineCheck (asWord va)
      | none =>
        let s := if hit then s.modTiller t (fun x => { x with
            dcache := ps.foldl (fun (l : Lines) p => l.use 4 l1Set (lineOf p.1) false) x.dcache }) else s
        .done (s.loaded t rd sg (s.pieceBytes t ps) (if own then 6 * k else 7 * k))
    else if ty.cached then
      match away with
      | .wait s => .wait (s.mark t x.ring evDMiss 1)
      | r => r
    else away

/-- The bytes that an instruction reads beside a plain load: a frame, a gate descriptor or a request block. In a
side-effect region they are read 8 bytes at a time, in ascending order, behind every earlier side-effect store
(R331). DEDUCED (log 30). -/
def State.takeBytes (s : State) (t va : Nat) (ps : List (Nat × Nat)) (f : List Byte → State → Res) : Res :=
  let x := s.tiller t
  let a := (ps.head?.map Prod.fst).getD 0
  let n := (ps.map Prod.snd).sum
  if (s.addrType x.pos a).side then
    if s.sideWaits t a then .wait s
    else match s.placeOf a with
      | .window _ o =>
        match s.winLoad t o with
        | .icuFault s => .fault s Ex.icuFault (asWord va)
        | .wait => .wait s
        | .val v s => f (toBytes v.toNat 8) s.sense
      | .regs =>
        let r := (List.range (n / 8)).foldl (fun (r : List Byte × State) i =>
          let v := r.2.regRead (a + 8 * i) 8
          (r.1 ++ v.1, v.2)) ([], s)
        f r.1 r.2
      | _ => f (s.bytesAt a n) s
  else if ps.any (fun p => x.sideLine (lineOf p.1) || s.frozenAt p.1) then .wait s
  else match ps.find? (fun p => !x.allBuffered p.1 p.2 && s.readError p.1 p.2) with
    | some p => .fault (s.countUe p.1) Ex.machineCheck (asWord va)
    | none => f (s.pieceBytes t ps) s

/-- A load of `n` bytes at a virtual address. -/
def State.loadAt (s : State) (t : Nat) (rd : Fin 32) (va n : Nat) (sg : Bool) : Res :=
  s.data t .load va n (fun ps s => s.loadPieces t rd sg va ps)

/-- A store of bytes at a virtual address (R253 to R255): checked in full, then buffered. -/
def State.storeAt (s : State) (t va : Nat) (bs : List Byte) : Res :=
  s.data t .store va bs.length (fun ps s =>
    let x := s.tiller t
    let a := (ps.head?.map Prod.fst).getD 0
    let ty := s.addrType x.pos a
    if ty.side then
      if x.sb.length < 8 then
        .done ((s.modTiller t (fun x => { x with
          sb := x.sb ++ [⟨a, putBytes 0 bs [], true, ty.ewa, false, x.fenceNo, bs.length, x.ring, false⟩] })).retire
            t 5)
      else .wait s
    else
      match ps with
      | [(a, n), (b, _)] =>
        let y := x.buffer a (bs.take n) ty.cached
        if x.room a && y.room b then
          .done ((s.setTiller t (y.buffer b (bs.drop n) (s.addrType x.pos b).cached)).retire t 10)
        else .wait s
      | _ => if x.room a then .done ((s.modTiller t (fun x => x.buffer a bs ty.cached)).retire t 5) else .wait s)

/-! ### The loads of the local window that have rows of their own -/

/-- An 8-byte load at offset `o` of the own window, by a Tiller that reaches its physical address. -/
def State.windowInstr (s : State) (t : Nat) (rd : Fin 32) (o : Nat) : State :=
  s.instr t true (fun s =>
    let x := s.tiller t
    let a := windowBase x.pos + o
    match s.physFault t x.ring .load x.curPa a 8 with
    | some c => .fault s c (asWord a)
    | none => if s.sideWaits t a then .wait s else s.windowLoad t rd o a)

/-- ICU_CLAIM (R345). -/
def execIcuClaim (t : Nat) (rd : Fin 32) (s : State) : Out := .next (s.windowInstr t rd 8)

/-- ICU_EOI (R346): completion of source `src`, 0 to 287. -/
def execIcuEoi (t : Nat) (rd : Fin 32) (src : Nat) (s : State) : Out :=
  .next (if src < 288 then s.windowInstr t rd (0x1000 + 8 * src) else s)

/-- CHUTE_READ (R355): bytes `off` to `off + 7` of the read window of Chute `c`. -/
def execChuteRead (t : Nat) (rd : Fin 32) (c off : Nat) (s : State) : Out :=
  .next (if c < 256 ∧ off < 512 then s.windowInstr t rd (0x40000 + 0x400 * c + 0x200 + off) else s)

/-- CH_DROP (R355). -/
def execChDrop (t : Nat) (rd : Fin 32) (c : Nat) (s : State) : Out :=
  .next (if c < 256 then s.windowInstr t rd (0x2800 + 8 * c) else s)

/-- CH_ANS (R358). -/
def execChAns (t : Nat) (rd : Fin 32) (s : State) : Out := .next (s.windowInstr t rd 0x3000)

/-- CH_CANCEL (R360). -/
def execChCancel (t : Nat) (rd : Fin 32) (s : State) : Out := .next (s.windowInstr t rd 0x3008)

end Sys2Proof.Machine
end

