-- ==== Sys2Proof/Machine/Flags.lean ====
section
/-! DEFINITION. The arithmetic conditions of ARITH: signed overflow and division by zero, their traps and
their sticky bits (R251, Table 9.5). -/

namespace Sys2Proof.Machine

/-- The exact signed result does not fit in 64 bits. -/
def overflows (z : Int) : Bool := decide (z < -(2 ^ 63)) || decide (2 ^ 63 ≤ z)

/-- Overflow of an addition. -/
def addOv (a b : Word) : Bool := overflows (a.toInt + b.toInt)
/-- Overflow of a subtraction. -/
def subOv (a b : Word) : Bool := overflows (a.toInt - b.toInt)
/-- Overflow of MUL's full signed product. -/
def mulOv (a b : Word) : Bool := overflows (a.toInt * b.toInt)
/-- Overflow of a signed division. -/
def divOv (a b : Word) : Bool := a == 0x8000000000000000#64 && b == 0xFFFFFFFFFFFFFFFF#64

/-- ARITH.DZ_EN. -/
def Tiller.dzEn (x : Tiller) : Bool := x.arith.getLsbD 0
/-- ARITH.OV_EN. -/
def Tiller.ovEn (x : Tiller) : Bool := x.arith.getLsbD 1

/-- ARITH after an instruction that did not trap: OV_S and DZ_S stick. -/
def Tiller.stick (x : Tiller) (ov dz : Bool) : Tiller :=
  { x with arith := x.arith ||| (if ov then 0x200#64 else 0#64) ||| (if dz then 0x100#64 else 0#64) }

/-- Write a result, or trap: an enabled condition writes nothing (R251). -/
def State.arithDone (s : State) (t : Nat) (rd : Fin 32) (v : Word) (ov dz : Bool) (beats : Nat) : Res :=
  let x := s.tiller t
  if dz && x.dzEn then s.trap t Ex.divZero
  else if ov && x.ovEn then s.trap t Ex.overflow
  else .done ((s.modTiller t (fun x => (x.stick ov dz).put rd v)).retire t beats)

end Sys2Proof.Machine
end

