-- ==== Sys2Proof/Machine/Alu.lean ====
section
/-! DEFINITION. The register and immediate ALU, shifts, multiplies and divides (R247, R249, R251, R252). -/

namespace Sys2Proof.Machine

/-- A sign-extended 16-bit immediate. -/
def sx (imm : BitVec 16) : Word := imm.signExtend 64
/-- A zero-extended 16-bit immediate (ANDI, ORI, XORI). -/
def zx (imm : BitVec 16) : Word := imm.zeroExtend 64

/-- An instruction that cannot trap writes a value of two registers. -/
def State.alu (s : State) (t : Nat) (rd rs1 rs2 : Fin 32) (f : Word → Word → Word) (beats : Nat) : State :=
  s.instr t true (fun s =>
    .done ((s.setGr t rd (f (s.gr t rs1) (s.gr t rs2))).retire t beats))

/-- The immediate form. -/
def State.aluImm (s : State) (t : Nat) (rd rs1 : Fin 32) (f : Word → Word) (beats : Nat) : State :=
  s.instr t true (fun s => .done ((s.setGr t rd (f (s.gr t rs1))).retire t beats))

/-- An instruction whose signed result may overflow. -/
def State.aluOv (s : State) (t : Nat) (rd rs1 rs2 : Fin 32) (f : Word → Word → Word)
    (ov : Word → Word → Bool) (beats : Nat) : State :=
  s.instr t true (fun s =>
    let a := s.gr t rs1
    let b := s.gr t rs2
    s.arithDone t rd (f a b) (ov a b) false beats)

/-- Magnitude of a signed or unsigned operand. -/
def magnitude (sg : Bool) (a : Word) : Nat := if sg then a.toInt.natAbs else a.toNat

/-- Bit length of a magnitude. -/
def bitLen (n : Nat) : Nat := ((List.range 65).find? (fun k => decide (n < 2 ^ k))).getD 65

/-- Beats of DIV, DIVU, REM and REMU (R252). DEDUCED (log 34). -/
def divBeats (sg : Bool) (a b : Word) : Nat :=
  let m := magnitude sg a
  let n := magnitude sg b
  if n = 0 ∨ m < n then 12 else 12 + 7 * ((min 64 (bitLen m + 1 - bitLen n) + 7) / 8)

/-- Quotient (Table 9.5). -/
def quotient (sg : Bool) (a b : Word) : Word :=
  if b = 0 then 0xFFFFFFFFFFFFFFFF#64
  else if sg then BitVec.ofInt 64 (a.toInt.tdiv b.toInt) else a / b

/-- Remainder (Table 9.5). -/
def remainder (sg : Bool) (a b : Word) : Word :=
  if b = 0 then a else if sg then BitVec.ofInt 64 (a.toInt.tmod b.toInt) else a % b

/-- A divide or remainder. Only DIV and DIVC overflow (R251). -/
def State.divide (s : State) (t : Nat) (rd rs1 rs2 : Fin 32) (sg rem fixed : Bool) : State :=
  s.instr t true (fun s =>
    let a := s.gr t rs1
    let b := s.gr t rs2
    s.arithDone t rd (if rem then remainder sg a b else quotient sg a b) (sg && !rem && divOv a b)
      (b == 0) (if fixed then 68 else divBeats sg a b))

/-- One where the condition holds, else zero. -/
def truth (b : Bool) : Word := if b then 1 else 0

/-- ADD (R251). -/
def execAdd (t : Nat) (rd rs1 rs2 : Fin 32) (s : State) : Out :=
  .next (s.aluOv t rd rs1 rs2 (· + ·) addOv 4)
/-- SUB (R251). -/
def execSub (t : Nat) (rd rs1 rs2 : Fin 32) (s : State) : Out :=
  .next (s.aluOv t rd rs1 rs2 (· - ·) subOv 4)
/-- AND (R247). -/
def execAnd (t : Nat) (rd rs1 rs2 : Fin 32) (s : State) : Out :=
  .next (s.alu t rd rs1 rs2 (fun a b => a &&& b) 4)
/-- OR (R247). -/
def execOr (t : Nat) (rd rs1 rs2 : Fin 32) (s : State) : Out :=
  .next (s.alu t rd rs1 rs2 (fun a b => a ||| b) 4)
/-- XOR (R247). -/
def execXor (t : Nat) (rd rs1 rs2 : Fin 32) (s : State) : Out :=
  .next (s.alu t rd rs1 rs2 (fun a b => a ^^^ b) 4)
/-- SLT (R247). -/
def execSlt (t : Nat) (rd rs1 rs2 : Fin 32) (s : State) : Out :=
  .next (s.alu t rd rs1 rs2 (fun a b => truth (a.slt b)) 4)
/-- SLTU (R247). -/
def execSltu (t : Nat) (rd rs1 rs2 : Fin 32) (s : State) : Out :=
  .next (s.alu t rd rs1 rs2 (fun a b => truth (a.ult b)) 4)
/-- SLL (R247): shift amount rs2[5:0]. -/
def execSll (t : Nat) (rd rs1 rs2 : Fin 32) (s : State) : Out :=
  .next (s.alu t rd rs1 rs2 (fun a b => a <<< (b.toNat % 64)) 4)
/-- SRL (R247). -/
def execSrl (t : Nat) (rd rs1 rs2 : Fin 32) (s : State) : Out :=
  .next (s.alu t rd rs1 rs2 (fun a b => a >>> (b.toNat % 64)) 4)
/-- SRA (R247). -/
def execSra (t : Nat) (rd rs1 rs2 : Fin 32) (s : State) : Out :=
  .next (s.alu t rd rs1 rs2 (fun a b => a.sshiftRight (b.toNat % 64)) 4)
/-- ROR (R247). -/
def execRor (t : Nat) (rd rs1 rs2 : Fin 32) (s : State) : Out :=
  .next (s.alu t rd rs1 rs2 (fun a b => a.rotateRight (b.toNat % 64)) 4)
/-- MUL (R251): the low 64 bits. -/
def execMul (t : Nat) (rd rs1 rs2 : Fin 32) (s : State) : Out :=
  .next (s.aluOv t rd rs1 rs2 (· * ·) mulOv 9)
/-- MULH (R247): the high 64 bits of the signed product. -/
def execMulh (t : Nat) (rd rs1 rs2 : Fin 32) (s : State) : Out :=
  .next (s.alu t rd rs1 rs2 (fun a b => BitVec.ofInt 64 (a.toInt * b.toInt / 2 ^ 64)) 9)
/-- MULHU (R247): the high 64 bits of the unsigned product. -/
def execMulhu (t : Nat) (rd rs1 rs2 : Fin 32) (s : State) : Out :=
  .next (s.alu t rd rs1 rs2 (fun a b => BitVec.ofNat 64 (a.toNat * b.toNat / 2 ^ 64)) 9)
/-- DIV (R252). -/
def execDiv (t : Nat) (rd rs1 rs2 : Fin 32) (s : State) : Out :=
  .next (s.divide t rd rs1 rs2 true false false)
/-- DIVU (R252). -/
def execDivu (t : Nat) (rd rs1 rs2 : Fin 32) (s : State) : Out :=
  .next (s.divide t rd rs1 rs2 false false false)
/-- REM (R252). -/
def execRem (t : Nat) (rd rs1 rs2 : Fin 32) (s : State) : Out :=
  .next (s.divide t rd rs1 rs2 true true false)
/-- REMU (R252). -/
def execRemu (t : Nat) (rd rs1 rs2 : Fin 32) (s : State) : Out :=
  .next (s.divide t rd rs1 rs2 false true false)
/-- DIVC (R252): the constant-time form. -/
def execDivc (t : Nat) (rd rs1 rs2 : Fin 32) (s : State) : Out :=
  .next (s.divide t rd rs1 rs2 true false true)
/-- DIVCU (R252). -/
def execDivcu (t : Nat) (rd rs1 rs2 : Fin 32) (s : State) : Out :=
  .next (s.divide t rd rs1 rs2 false false true)
/-- REMC (R252). -/
def execRemc (t : Nat) (rd rs1 rs2 : Fin 32) (s : State) : Out :=
  .next (s.divide t rd rs1 rs2 true true true)
/-- REMCU (R252). -/
def execRemcu (t : Nat) (rd rs1 rs2 : Fin 32) (s : State) : Out :=
  .next (s.divide t rd rs1 rs2 false true true)
/-- ADDI (R251): overflow as ADD. -/
def execAddi (t : Nat) (rd rs1 : Fin 32) (imm : BitVec 16) (s : State) : Out :=
  .next (s.instr t true (fun s =>
    let a := s.gr t rs1
    s.arithDone t rd (a + sx imm) (addOv a (sx imm)) false 4))
/-- SLTI (R247). -/
def execSlti (t : Nat) (rd rs1 : Fin 32) (imm : BitVec 16) (s : State) : Out :=
  .next (s.aluImm t rd rs1 (fun a => truth (a.slt (sx imm))) 4)
/-- SLTIU (R247). -/
def execSltiu (t : Nat) (rd rs1 : Fin 32) (imm : BitVec 16) (s : State) : Out :=
  .next (s.aluImm t rd rs1 (fun a => truth (a.ult (sx imm))) 4)
/-- ANDI (R247). -/
def execAndi (t : Nat) (rd rs1 : Fin 32) (imm : BitVec 16) (s : State) : Out :=
  .next (s.aluImm t rd rs1 (fun a => a &&& zx imm) 4)
/-- ORI (R247). -/
def execOri (t : Nat) (rd rs1 : Fin 32) (imm : BitVec 16) (s : State) : Out :=
  .next (s.aluImm t rd rs1 (fun a => a ||| zx imm) 4)
/-- XORI (R247). -/
def execXori (t : Nat) (rd rs1 : Fin 32) (imm : BitVec 16) (s : State) : Out :=
  .next (s.aluImm t rd rs1 (fun a => a ^^^ zx imm) 4)
/-- LUI (R247): the sign-extended immediate shifted left by 16. -/
def execLui (t : Nat) (rd : Fin 32) (imm : BitVec 21) (s : State) : Out :=
  .next (s.aluImm t rd 0 (fun _ => imm.signExtend 64 <<< 16) 4)
/-- SLLI (R247). -/
def execSlli (t : Nat) (rd rs1 : Fin 32) (sh : BitVec 6) (s : State) : Out :=
  .next (s.aluImm t rd rs1 (fun a => a <<< sh.toNat) 4)
/-- SRLI (R247). -/
def execSrli (t : Nat) (rd rs1 : Fin 32) (sh : BitVec 6) (s : State) : Out :=
  .next (s.aluImm t rd rs1 (fun a => a >>> sh.toNat) 4)
/-- SRAI (R247). -/
def execSrai (t : Nat) (rd rs1 : Fin 32) (sh : BitVec 6) (s : State) : Out :=
  .next (s.aluImm t rd rs1 (fun a => a.sshiftRight sh.toNat) 4)
/-- RORI (R247). -/
def execRori (t : Nat) (rd rs1 : Fin 32) (sh : BitVec 6) (s : State) : Out :=
  .next (s.aluImm t rd rs1 (fun a => a.rotateRight sh.toNat) 4)

/-- ILLEGAL (R248): a word that encodes no instruction. DESIGN CHOICE (log 60). -/
def execIllegal (t : Nat) (w : BitVec 32) (s : State) : Out :=
  .next (if (decodeWord w).isSome then s else s.instr t true (fun s => s.trap t Ex.illegal))

end Sys2Proof.Machine
end

