-- ==== Sys2Proof/Machine/Branch.lean ====
section
/-! DEFINITION. Control transfers: the direction predictor, targets, delay slots and their annulment
(R263, R266 to R270, R435, R438). -/

namespace Sys2Proof.Machine

/-- Index of a branch in the predictor: PC[11:2] (R263). -/
def predIdx (pc : Word) : Nat := pc.toNat / 4 % 1024

/-- The counter of a branch: 1 after a flush. -/
def Tiller.counter (x : Tiller) (pc : Word) : Nat := Map.get 1 x.pred (predIdx pc)

/-- The counter moves towards the outcome. -/
def Tiller.train (x : Tiller) (pc : Word) (taken : Bool) : Tiller :=
  let c := x.counter pc
  { x with pred := Map.put 1 x.pred (predIdx pc) (if taken then min 3 (c + 1) else c - 1) }

/-- Retire a control transfer of 4 b, or of 7 b of which 3 are wasted (R266, R438). -/
def State.retireBranch (s : State) (t : Nat) (slow : Bool) : State :=
  let r := (s.tiller t).ring
  let s := s.retire t 4
  if slow then s.topDown t r 1 3 else s

/-- The next instruction is the delay slot, and then the target (R268). -/
def Tiller.toSlot (x : Tiller) (target : Word) : Tiller := { x with dslot := some target }

/-- The delay slot is annulled: it takes 2 b and nothing else happens (R268). -/
def State.annul (s : State) (t : Nat) : State :=
  let r := (s.tiller t).ring
  ((s.modTiller t (fun x => { x with pc := x.pc + 4 })).mark t r evAnnulled 1).topDown t r 1 2

/-- A mispredicted branch: the fetch queue is discarded (R263), and whether the wrong-path fetch had stopped on a
miss, which a Mark counts, is free (R264). DESIGN CHOICE (log 3). -/
def State.mispredict (s : State) (t : Nat) : State :=
  let x := s.tiller t
  let c := s.choose 2
  ((c.2.modTiller t (fun x => { x with fq := [] })).mark t x.ring evMispredict 1).mark t x.ring evWrongPath c.1

/-- A conditional branch whose condition has been decided. -/
def State.branchTo (s : State) (t : Nat) (taken a : Bool) (target : Word) : State :=
  let x := s.tiller t
  let pc := x.pc
  let wrong := s.predicting t && (decide (2 ≤ x.counter pc) != taken)
  let s := s.modTiller t (fun x => x.train pc taken)
  let s := s.mark t x.ring evBranch 1
  let s := s.retireBranch t (wrong || !s.predicting t)
  let s := if wrong then s.mispredict t else s
  if !taken && a then s.annul t
  else s.modTiller t (fun x => x.toSlot (if taken then target else pc + 8))

/-- A displacement in words. -/
def disp15 (d : BitVec 15) : Word := d.signExtend 64 * 4
/-- A displacement of J and JAL. -/
def disp26 (d : BitVec 26) : Word := d.signExtend 64 * 4

/-- A conditional branch (R267). -/
def State.branch (s : State) (t : Nat) (rs1 rs2 : Fin 32) (a : Bool) (d : BitVec 15)
    (f : Word → Word → Bool) : State :=
  s.instr t false (fun s =>
    .done (s.branchTo t (f (s.gr t rs1) (s.gr t rs2)) a ((s.tiller t).pc + disp15 d)))

/-- A jump to a target, with the link in `rd` (R267). DEDUCED (log 36). -/
def State.jumpTo (s : State) (t : Nat) (rd : Fin 32) (target : Word) : State :=
  let pc := (s.tiller t).pc
  let s := s.setGr t rd (pc + 8)
  (s.retireBranch t (!s.predicting t)).modTiller t (fun x => x.toSlot target)

/-- BEQ (R267). -/
def execBeq (t : Nat) (rs1 rs2 : Fin 32) (a : Bool) (disp : BitVec 15) (s : State) : Out :=
  .next (s.branch t rs1 rs2 a disp (fun x y => x == y))
/-- BNE (R267). -/
def execBne (t : Nat) (rs1 rs2 : Fin 32) (a : Bool) (disp : BitVec 15) (s : State) : Out :=
  .next (s.branch t rs1 rs2 a disp (fun x y => x != y))
/-- BLT (R267). -/
def execBlt (t : Nat) (rs1 rs2 : Fin 32) (a : Bool) (disp : BitVec 15) (s : State) : Out :=
  .next (s.branch t rs1 rs2 a disp (fun x y => x.slt y))
/-- BGE (R267). -/
def execBge (t : Nat) (rs1 rs2 : Fin 32) (a : Bool) (disp : BitVec 15) (s : State) : Out :=
  .next (s.branch t rs1 rs2 a disp (fun x y => !x.slt y))
/-- BLTU (R267). -/
def execBltu (t : Nat) (rs1 rs2 : Fin 32) (a : Bool) (disp : BitVec 15) (s : State) : Out :=
  .next (s.branch t rs1 rs2 a disp (fun x y => x.ult y))
/-- BGEU (R267). -/
def execBgeu (t : Nat) (rs1 rs2 : Fin 32) (a : Bool) (disp : BitVec 15) (s : State) : Out :=
  .next (s.branch t rs1 rs2 a disp (fun x y => !x.ult y))

/-- J (R267). -/
def execJ (t : Nat) (disp : BitVec 26) (s : State) : Out :=
  .next (s.instr t false (fun s => .done (s.jumpTo t 0 ((s.tiller t).pc + disp26 disp))))

/-- JAL (R267): the link goes to g31. -/
def execJal (t : Nat) (disp : BitVec 26) (s : State) : Out :=
  .next (s.instr t false (fun s => .done (s.jumpTo t 31 ((s.tiller t).pc + disp26 disp))))

/-- JALR (R267): rs1 is read before rd is written; a misaligned target raises ALIGN. It takes 7 b.
DEDUCED (log 36). -/
def execJalr (t : Nat) (rd rs1 : Fin 32) (s : State) : Out :=
  .next (s.instr t false (fun s =>
    let target := s.gr t rs1
    if target.toNat % 4 ≠ 0 then .fault s Ex.align target
    else
      let x := s.tiller t
      let r := x.ring
      let pc := x.pc
      let s := s.setGr t rd (pc + 8)
      let slow := !s.predicting t
      let s := if slow then (s.retire t 4).topDown t r 1 3 else s.retire t 7
      .done (s.modTiller t (fun x => x.toSlot target))))

end Sys2Proof.Machine
end

