-- ==== Sys2Proof/Machine/Memory.lean ====
section
/-! DEFINITION. Loads, stores and the Desk atomics, and what their background events do: the return of
load data, line fills, walk reads, and the drain of the store buffer (R253 to R257, R262, R264, R315 to
R322, R332, R371, R376). -/

namespace Sys2Proof.Machine

/-- rs1 + imm16. -/
def State.ea (s : State) (t : Nat) (rs1 : Fin 32) (imm : BitVec 16) : Nat := (s.gr t rs1 + sx imm).toNat

/-- A load of `n` bytes (R253). -/
def State.load (s : State) (t : Nat) (rd rs1 : Fin 32) (imm : BitVec 16) (n : Nat) (sg : Bool) : State :=
  s.instr t true (fun s => s.loadAt t rd (s.ea t rs1 imm) n sg)

/-- A store of `n` bytes (R253). -/
def State.store (s : State) (t : Nat) (rs2 rs1 : Fin 32) (imm : BitVec 16) (n : Nat) : State :=
  s.instr t true (fun s => s.storeAt t (s.ea t rs1 imm) (toBytes (s.gr t rs2).toNat n))

/-- LB (R253). -/
def execLb (t : Nat) (rd rs1 : Fin 32) (imm : BitVec 16) (s : State) : Out := .next (s.load t rd rs1 imm 1 true)
/-- LBU (R253). -/
def execLbu (t : Nat) (rd rs1 : Fin 32) (imm : BitVec 16) (s : State) : Out :=
  .next (s.load t rd rs1 imm 1 false)
/-- LH (R253). -/
def execLh (t : Nat) (rd rs1 : Fin 32) (imm : BitVec 16) (s : State) : Out := .next (s.load t rd rs1 imm 2 true)
/-- LHU (R253). -/
def execLhu (t : Nat) (rd rs1 : Fin 32) (imm : BitVec 16) (s : State) : Out :=
  .next (s.load t rd rs1 imm 2 false)
/-- LW (R253). -/
def execLw (t : Nat) (rd rs1 : Fin 32) (imm : BitVec 16) (s : State) : Out := .next (s.load t rd rs1 imm 4 true)
/-- LWU (R253). -/
def execLwu (t : Nat) (rd rs1 : Fin 32) (imm : BitVec 16) (s : State) : Out :=
  .next (s.load t rd rs1 imm 4 false)
/-- LD (R253). -/
def execLd (t : Nat) (rd rs1 : Fin 32) (imm : BitVec 16) (s : State) : Out :=
  .next (s.load t rd rs1 imm 8 false)
/-- LDPC (R247): 8 bytes at (PC with [2:0] cleared) + imm16 × 8. -/
def execLdpc (t : Nat) (rd : Fin 32) (imm : BitVec 16) (s : State) : Out :=
  .next (s.instr t true (fun s =>
    s.loadAt t rd (((s.tiller t).pc &&& ~~~7#64) + sx imm * 8).toNat 8 false))
/-- SB (R253). -/
def execSb (t : Nat) (rs2 rs1 : Fin 32) (imm : BitVec 16) (s : State) : Out := .next (s.store t rs2 rs1 imm 1)
/-- SH (R253). -/
def execSh (t : Nat) (rs2 rs1 : Fin 32) (imm : BitVec 16) (s : State) : Out := .next (s.store t rs2 rs1 imm 2)
/-- SW (R253). -/
def execSw (t : Nat) (rs2 rs1 : Fin 32) (imm : BitVec 16) (s : State) : Out := .next (s.store t rs2 rs1 imm 4)
/-- SD (R253). -/
def execSd (t : Nat) (rs2 rs1 : Fin 32) (imm : BitVec 16) (s : State) : Out := .next (s.store t rs2 rs1 imm 8)

/-! ### Desk atomics (R262) -/

/-- Read, modify and write 8 bytes of a Desk as one operation; `f` gives the new value from the old. On
another Tiller's Desk the network's time stands in place of the 10 b of Table 9.4. DEDUCED (log 87). -/
def State.atomic (s : State) (t : Nat) (rd rs1 : Fin 32) (f : Word → Word) : State :=
  s.instr t true (fun s =>
    let va := (s.gr t rs1).toNat
    s.data t .atomic va 8 (fun ps s =>
      let x := s.tiller t
      let a := (ps.head?.map Prod.fst).getD 0
      if x.holdsLine (lineOf a) || x.sideLine (lineOf a) then .wait s
      else if s.poisoned a 8 then .fault (s.countUe a) Ex.machineCheck (asWord va)
      else
        let old : Word := BitVec.ofNat 64 (ofBytes (s.bytesAt a 8))
        let own := match s.placeOf a with
          | .desk n _ => decide (n = x.pos)
          | _ => false
        let s := s.sense.memWrite a (toBytes (f old).toNat 8)
        .done ((s.setGr t rd old).retire t (if own then 10 else 0))))

/-- DADD (R262). -/
def execDadd (t : Nat) (rd rs1 rs2 : Fin 32) (s : State) : Out :=
  .next (s.atomic t rd rs1 (fun old => old + s.gr t rs2))
/-- DSWP (R262). -/
def execDswp (t : Nat) (rd rs1 rs2 : Fin 32) (s : State) : Out :=
  .next (s.atomic t rd rs1 (fun _ => s.gr t rs2))

/-! ### Data returns (R371, R376, R393 to R395) -/

/-- A read of Tiller `t` for a line that its L2 holds goes no further, and one for a line that the Granary holds does not
reach the channel (R376). -/
def State.tillerRead (s : State) (t a n : Nat) (ecc : Ecc) : ReadRes × State :=
  if (s.l2Of (s.sheaf t)).has (lineOf a) && !s.poisoned a n then (.data, s) else s.granaryRead a n 1 ecc

/-- Read the pieces of a load, each with its cacheability, in order: the bytes, `none` while a channel holds the request, and
whether an error response came. -/
def State.readPieces (s : State) (t : Nat) (ecc : Ecc) :
    List ((Nat × Nat) × Bool) → (Option (List Byte) × Bool) × State
  | [] => ((some [], false), s)
  | ((a, n), cached) :: ps =>
    let r : (Option (List Byte) × Bool) × State :=
      match s.placeOf a with
      | .regs => let v := s.regRead a n; ((some v.1, false), v.2)
      | _ =>
        match s.tillerRead t a n ecc with
        | (.held, s) => ((none, false), s)
        | (.error, s) => ((some [], true), s.countUe a)
        | (.data, s) =>
          let s := if cached then s.fill t (lineOf a) false else s
          ((some (s.viewBytes t a n), false), s)
    match r with
    | ((some b, false), s) =>
      match s.readPieces t ecc ps with
      | ((some bs, e), s) => ((some (b ++ bs), e), s)
      | x => x
    | x => x

/-- LOAD_DATA_RETURN (R376): the load completes, raises MACHINE_CHECK with the load's virtual address in
TVAL (Table 10.4), or stays held by a frozen channel. -/
def execLoadDataReturn (t : Nat) (ecc : Ecc) (s : State) : Out :=
  .next (
    match (s.tiller t).stall with
    | .load ps cs sg va rd =>
      if s.tillerRuns t then
        match s.readPieces t ecc (ps.zip cs) with
        | ((none, _), s) => s
        | ((some _, true), s1) =>
          let s2 := s1.modTiller t (fun x => { x with stall := .none })
          (s2.takeFault t Ex.machineCheck (asWord va)).getD s
        | ((some bs, false), s) =>
          (s.modTiller t (fun x => { x with stall := .none })).loaded t rd sg bs (7 * ps.length)
      else s
    | _ => s)

/-- FETCH_FILL (R264): the line arrives, and the fetch queue holds it. A line whose DRAM data cannot be
corrected raises MACHINE_CHECK in the fetching Tiller. -/
def execFetchFill (t : Nat) (s : State) : Out :=
  .next (
    let x := s.tiller t
    match x.stall with
    | .fetch line cached =>
      if s.tillerRuns t then
        match s.tillerRead t line 64 .ok with
        | (.held, s) => s
        | (.error, s1) =>
          let s2 := s1.modTiller t (fun x => { x with stall := .none })
          (s2.takeFault t Ex.machineCheck x.pc).getD s
        | (.data, s) =>
          let s := if cached then s.fill t line true else s
          s.modTiller t (fun x => { x with stall := .none, fq := [(lineOf x.pc.toNat, line)] })
      else s
    | _ => s)

/-- WALK_READ_RETURN (R319): the walk goes on, fills the TLB, or faults. -/
def execWalkReadReturn (t : Nat) (ecc : Ecc) (s : State) : Out :=
  .next (
    let x := s.tiller t
    match x.stall with
    | .walk k va level entry =>
      if s.tillerRuns t then
        let free (s : State) : State := s.modTiller t (fun x => { x with stall := .none })
        let fault (s' : State) (c v : Nat) : State := ((free s').takeFault t c (asWord v)).getD s
        match s.walkAddr t x.ring k va entry with
        | .fault c v => fault s c v
        | .miss => s
        | .ok a =>
          match s.tillerRead t a 8 ecc with
          | (.held, s) => s
          | (.error, s) => fault s Ex.walkError va
          | (.data, s) =>
            match s.walkRead t x.ring k va level entry with
            | .fault c v => fault s c v
            | .leaf e => free (s.tlbFill t va e)
            | .next l e => s.modTiller t (fun x => { x with stall := .walk k va l e })
      else s
    | _ => s)

/-! ### Drains (R257, R332) -/

/-- Entry `i` may drain: no entry that an earlier fence closed is left, side-effect stores go in program order, and
so do stores to one line (R257, R333). DEDUCED (log 31). -/
def Tiller.mayDrain (x : Tiller) (i : Nat) : Bool :=
  match x.sb[i]? with
  | some e =>
    x.sb.all (fun o => decide (e.grp ≤ o.grp)) &&
    !(x.sb.take i).any (fun o => (e.side && o.side) || lineOf o.line == lineOf e.line)
  | none => false

/-- The contiguous runs of an entry's bytes, by address. -/
def runsOf (base : Nat) : List (Nat × Byte) → List (Nat × List Byte)
  | [] => []
  | (o, b) :: l =>
    match runsOf base l with
    | (a, bs) :: r => if a = base + o + 1 then (base + o, b :: bs) :: r else (base + o, [b]) :: (a, bs) :: r
    | [] => [(base + o, [b])]

/-- The bytes of a side-effect store, in order. -/
def SbEntry.sideBytes (e : SbEntry) : List Byte := (List.range e.size).map (fun i => Map.get 0 e.bytes i)

/-- Write an entry to its target, with the attributes that its store had; `none` while it must wait. -/
def State.drainTo (s : State) (t : Nat) (e : SbEntry) : Option State :=
  let s := s.sense
  if e.side then
    match s.placeOf e.line with
    | .window _ o => (s.winStore t o e.sideBytes).map State.sense
    | .regs => some (s.regWrite e.line e.size (ofBytes e.sideBytes)).sense
    | _ => some (s.memWrite e.line e.sideBytes)
  else
    let s := if e.cached then s.own t e.line else s
    some ((runsOf e.line e.bytes).foldl (fun (s : State) r => s.memWrite r.1 r.2) s)

/-- The channel of the entry is frozen: its write is held (R394). -/
def State.drainHeld (s : State) (e : SbEntry) : Bool := s.placeOf e.line == .dram && s.frozenAt e.line

/-- The target performs a store: the write, or the machine check of an error response (R257). `none` while it must
wait. -/
def State.perform (s : State) (t : Nat) (e : SbEntry) (err : Bool) : Option State :=
  if s.drainHeld e then none
  else if err || (s.placeOf e.line == .dram && s.retiredAt e.line) then some s.machineCheck
  else s.drainTo t e

/-- Drain every store of a Tiller, accepted ones first, in program order; `none` while one must wait. -/
def State.drainAll (s : State) (t : Nat) : Option State :=
  let x := s.tiller t
  ((x.posted ++ x.sb).foldlM (fun (s : State) e => s.perform t e false) s).map (fun s =>
    s.modTiller t (fun x => { x with sb := [], posted := [] }))

/-- A drain of entry `i` of Tiller `t`: it is performed, or accepted by the network where early acknowledgement is
allowed; an entry beyond the store buffer's is an accepted store, which its target performs (R332).
DEDUCED (log 31). -/
def State.drainEntry (s : State) (t i : Nat) (err : Bool) : State :=
  let x := s.tiller t
  match x.sb[i]? with
  | some e =>
    let gone (s : State) : State := s.modTiller t (fun x => { x with sb := x.sb.eraseIdx i })
    if !x.mayDrain i || s.behind x.posted e.line (e.side && !e.ewa) then s
    else if e.side && e.ewa then (gone s).modTiller t (fun x => { x with posted := x.posted ++ [e] })
    else match s.perform t e err with
      | some s => gone s
      | none => s.modTiller t (fun x => { x with sb := x.sb.modify i (fun e => { e with isOpen := false }) })
  | none =>
    let k := i - x.sb.length
    match x.posted[k]? with
    | some e =>
      if s.behind (x.posted.take k) e.line true then s
      else match s.perform t e err with
        | some s => s.modTiller t (fun x => { x with posted := x.posted.eraseIdx k })
        | none => s
    | none => s

end Sys2Proof.Machine
end

