-- ==== Sys2Proof/Machine/System.lean ====
section
/-! DEFINITION. Control registers, synchronisation, fences, gates, PCALL, RETX and TLB maintenance
(R258 to R261, R271 to R276, R285, R290, R292 to R294, R323, R324). -/

namespace Sys2Proof.Machine

/-! ### Control registers (R271 to R273, R285) -/

/-- CSRR (R271): 4 b. -/
def execCsrr (t : Nat) (rd : Fin 32) (csr : BitVec 12) (s : State) : Out :=
  .next (s.instr t true (fun s =>
    let r := (s.tiller t).ring
    let n := csr.toNat
    if !csrKnown n then s.trap t Ex.illegal
    else if !csrReadable n r then s.trap t Ex.priv
    else .done ((s.setGr t rd (s.csrRead t n r)).retire t 4)))

/-- CSRW (R272): 5 b. EFLAGS.PROGRESS keeps the value written. -/
def execCsrw (t : Nat) (csr : BitVec 12) (rs1 : Fin 32) (s : State) : Out :=
  .next (s.instr t true (fun s =>
    let r := (s.tiller t).ring
    let n := csr.toNat
    if !csrKnown n then s.trap t Ex.illegal
    else if !csrWritable n r then s.trap t Ex.priv
    else
      let v := s.gr t rs1
      let s := (s.retire t 5).csrWrite t n r v
      .done s))

/-- MASKUP n (R273, R285): 4 b. -/
def execMaskup (t : Nat) (n : BitVec 2) (s : State) : Out :=
  .next (s.instr t true (fun s =>
    let x := s.tiller t
    if x.ring = 3 then s.trap t Ex.priv
    else
      .done ((s.modTiller t (fun x => x.setMask x.secure (max (x.mask x.secure) n.toNat))).retire t 4)))

/-- Discard the fetch queue. -/
def State.refetch (s : State) (t : Nat) : State := s.modTiller t (fun x => { x with fq := [] })

/-- CSYNC (R272): 12 b. -/
def execCsync (t : Nat) (s : State) : Out :=
  .next (s.instr t false (fun s => .done (((s.retire t 12).applyPending t).refetch t)))

/-- IFENCE (R276): 10 b. -/
def execIfence (t : Nat) (s : State) : Out :=
  .next (s.instr t false (fun s => .done ((s.retire t 10).refetch t)))

/-! ### Fences (R259 to R261) -/

/-- FENCE.RW (R259): waits for every earlier drain, which for a store with early acknowledgement is its
acceptance (R332); 6 b. -/
def execFenceRw (t : Nat) (s : State) : Out :=
  .next (s.instr t true (fun s =>
    if !(s.tiller t).sb.isEmpty then .wait s
    else .done ((s.modTiller t Tiller.fenceW).retire t 6)))

/-- FENCE.W (R260): 4 b. -/
def execFenceW (t : Nat) (s : State) : Out :=
  .next (s.instr t true (fun s => .done ((s.modTiller t Tiller.fenceW).retire t 4)))

/-- A side-effect store's write response is outstanding: it is buffered, or its target has not performed it.
DEDUCED (log 31). -/
def Tiller.ioPending (x : Tiller) : Bool := x.sidePending || !x.posted.isEmpty

/-- FENCE.IO (R261): waits for the write responses of side-effect stores; 6 b. -/
def execFenceIo (t : Nat) (s : State) : Out :=
  .next (s.instr t true (fun s => if (s.tiller t).ioPending then .wait s else .done (s.retire t 6)))

/-- ICINV rs1 (R276): 8 b. The line is found by a translation and check as of a load. -/
def execIcinv (t : Nat) (rs1 : Fin 32) (s : State) : Out :=
  .next (s.instr t true (fun s =>
    s.data t .load (s.gr t rs1).toNat 1 (fun ps s =>
      let x := s.tiller t
      let line := lineOf ((ps.head?.map Prod.fst).getD 0)
      if x.holdsLine line || x.sideLine line then .wait s
      else
        let dirty := x.dcache.any (fun e => e.1 == line && e.2)
        let s := if dirty then s.l2Use (s.sheaf t) line true else s
        .done ((s.modTiller t (fun x => { x with
          dcache := x.dcache.map (fun (e : Nat × Bool) => if e.1 = line then (line, false) else e)
          icache := Lines.drop x.icache line })).retire t 8))))

/-! ### WAITI (R275) -/

/-- WAITI: it completes when a source is pending; its time is no run beat. -/
def execWaiti (t : Nat) (s : State) : Out :=
  .next (s.instr t false (fun s =>
    if s.anyPending t then .done (s.retire t 0)
    else .wait (s.modTiller t (fun x => { x with stall := .waiti }))))

/-! ### TLB maintenance (R323, R324) -/

/-- Remove the TLB entries that satisfy `f`. -/
def State.tlbi (s : State) (t : Nat) (f : TlbEntry → Bool) : State :=
  (s.modTiller t (fun x => { x with tlb := x.tlb.filter (fun e => !f e) })).retire t 6

/-- TLBIVA (R323). -/
def execTlbiva (t : Nat) (rs1 : Fin 32) (s : State) : Out :=
  .next (s.instr t true (fun s =>
    let x := s.tiller t
    if x.ring = 3 then s.trap t Ex.priv
    else .done (s.tlbi t (fun e => e.maps x.secure (x.asid x.secure) (s.gr t rs1).toNat))))

/-- TLBIASID (R323): rs1[63:16] must be 0; where they are not, the low 16 bits are taken. DEDUCED (log 83). -/
def execTlbiasid (t : Nat) (rs1 : Fin 32) (s : State) : Out :=
  .next (s.instr t true (fun s =>
    let x := s.tiller t
    if x.ring = 3 then s.trap t Ex.priv
    else
      let asid := (s.gr t rs1).toNat % 65536
      .done (s.tlbi t (fun e => e.secure == x.secure && e.asid == asid && !e.bits.getLsbD 4))))

/-- TLBIWORLD (R323). -/
def execTlbiworld (t : Nat) (s : State) : Out :=
  .next (s.instr t true (fun s =>
    let x := s.tiller t
    if x.ring = 3 then s.trap t Ex.priv else .done (s.tlbi t (fun e => e.secure == x.secure))))

/-- TLBIALL (R323): ring 0 only. -/
def execTlbiall (t : Nat) (s : State) : Out :=
  .next (s.instr t true (fun s =>
    if (s.tiller t).ring ≠ 0 then s.trap t Ex.priv else .done (s.tlbi t (fun _ => true))))

/-! ### RETX (R290, R301) -/

/-- The instruction retires without stepping on: what follows sets the pc. -/
def State.retireHere (s : State) (t beats : Nat) : State :=
  let x := s.tiller t
  let s := s.modTiller t (fun x => { x with prevPa := x.curPa, noEntryCheck := false, dbgStep := false })
  ((s.closeWindow t).mark t x.ring evRetired 1).topDown t x.ring 0 beats

/-- Return through a frame that has been read (R290). -/
def State.returnThrough (s : State) (t : Nat) (f : Frame) : Res :=
  let x := s.tiller t
  if !s.frameOk t x.ring f then s.trap t Ex.privReturn
  else if f.sec != x.secure && !x.sb.isEmpty then .wait s
  else .done ((s.retireHere t 20).restore t x.ring f)

/-- RETX (R290): pending control register writes apply first (R272). -/
def execRetx (t : Nat) (s : State) : Out :=
  .next (s.instr t false (fun s =>
    let s := s.applyPending t
    let x := s.tiller t
    let sp := (bank x.sp x.ring).toNat
    if sp % 64 ≠ 0 then s.trap t Ex.privReturn
    else s.data t .load sp 64 (fun ps s =>
      s.takeBytes t sp ps (fun b s => s.returnThrough t (Frame.of b)))))

/-! ### PCALL (R274, R294) -/

/-- Proctor services (Table 10.5). -/
abbrev svcCreate : Nat := 0x0001
abbrev svcDestroy : Nat := 0x0002
abbrev svcReopen : Nat := 0x0003
abbrev svcYield : Nat := 0x0010
abbrev svcLeaseTake : Nat := 0x0020
abbrev svcLeaseRelease : Nat := 0x0021
abbrev svcOff : Nat := 0x0022
abbrev svcOn : Nat := 0x0023

/-- The rings from which a service may be called; an empty list is an undefined service. -/
def svcRings (n : Nat) : List Nat :=
  match n with
  | 0x0001 | 0x0002 | 0x0003 => [2]
  | 0x0010 | 0x0020 | 0x0021 => [1]
  | 0x0022 | 0x0023 => [1, 2]
  | _ => []

/-- The frame on top of ring 0's stack. -/
def State.topFrame (s : State) (t : Nat) : Option Frame × State :=
  match s.accessPieces true t 0 .load none [((bank (s.tiller t).sp 0).toNat, 64)] with
  | (.ok [(a, n)], s) => (some (Frame.of (s.viewBytes t a n)), s)
  | (_, s) => (none, s)

/-- The Proctor returns from a service: status in g1, value in g2 (R294); `none` while the frame cannot be read.
DESIGN CHOICE (log 32). -/
def State.proctorReturn (s : State) (t status : Nat) (value : Word) : Option State :=
  match s.topFrame t with
  | (some f, s) => some (((s.restore t 0 f).setGr t 1 (BitVec.ofNat 64 status)).setGr t 2 value)
  | (none, _) => none

/-- The Proctor answers an undefined service with FORMAT. A return to the open world drains the store buffer first
(R258, R290); `none` while a store must wait. -/
def State.undefinedService (s : State) (t : Nat) (sec : Bool) : Option State :=
  let w := s.freshWord
  (if sec then some w.2 else w.2.drainAll t).bind (fun s => s.proctorReturn t St.format w.1)

/-- PCALL imm16 (R274, R294): from rings 1 to 3. A call that leaves the open world drains the store
buffer first. An undefined service returns FORMAT. DESIGN CHOICE (log 32). -/
def execPcall (t : Nat) (imm : BitVec 16) (s : State) : Out :=
  .next (s.instr t false (fun s =>
    let x := s.tiller t
    if x.ring = 0 then s.trap t Ex.illegal
    else if !x.secure && !x.sb.isEmpty then .wait s
    else
      let n := imm.toNat
      let s0 := s
      match (s.retireHere t 24).enter t ⟨0, Ex.pcall, false, 0, 0, BitVec.ofNat 64 n, x.pc + 4, none⟩ with
      | none => .wait s
      | some s =>
        if (bank (s.tiller t).cause 0).toNat % 65536 ≠ Ex.pcall ∨ (s.tiller t).halted then .done s
        else if (svcRings n).isEmpty then
          match s.undefinedService t x.secure with
          | some s => .done s
          | none => .wait s0
        else .done (s.modTiller t (fun y => { y with pcall := some (n, x.ring) }))))

/-! ### GCALL (R292, R293) -/

/-- The gate descriptor permits a call from a ring; its entry offset. -/
def gateOffset (d ring : Nat) : Option Nat :=
  let off := d / 4 % 1024 * 4
  if d.testBit 63 && d.testBit (56 + ring) && decide (0x800 ≤ off) then some off else none

/-- GCALL imm16 (R293): 16 b. DESIGN CHOICE (log 37). -/
def execGcall (t : Nat) (imm : BitVec 16) (s : State) : Out :=
  .next (s.instr t false (fun s =>
    let x := s.tiller t
    let n := imm.toNat
    let ring := n / 256 % 4
    let tv : Word := BitVec.ofNat 64 n
    if n / 1024 ≠ 0 then s.trap t Ex.illegal
    else if ring = 0 ∨ secureRing ring ≠ x.secure ∨ x.ring < ring then .fault s Ex.priv tv
    else
      let page := (bank x.entry ring).toNat / 4096 * 4096
      let va := page + 8 * (n % 256)
      match s.accessPieces true t ring .load none [(va, 8)] with
      | (.fault c v, s) => .fault s c (asWord v)
      | (.miss _, s) => .wait s
      | (.ok ps, s) =>
        s.takeBytes t va ps (fun b s =>
          match gateOffset (ofBytes b) x.ring with
          | none => .fault s Ex.priv tv
          | some off =>
            match (s.retireHere t 16).enter t
                ⟨ring, Ex.gate, false, 0, ring, tv, x.pc + 4, some (asWord (page + off))⟩ with
            | some s => .done s
            | none => .wait s)))

end Sys2Proof.Machine
end

