-- ==== Sys2Proof/Machine/LongOps.lean ====
section
/-! DEFINITION. The resumable long memory instructions BCOPY, BFILL and HUSKSUM, one block for each command
(R278, R279, Table 9.8). PROGRESS is set from the first block on and by a fault, so an exception at a block boundary finds it set and
the operand registers advanced. -/

namespace Sys2Proof.Machine

/-- Bytes of the next block: up to the next 64-byte boundary after `a`. -/
def stretchLen (a len : Nat) : Nat := min len (64 - a % 64)

/-- Two ranges of `n` bytes overlap. -/
def rangesOverlap (a b n : Nat) : Bool := decide (a < b + n) && decide (b < a + n)

/-- A resumable long instruction: a fault during it is taken at a boundary, with PROGRESS set in its frame (R278). -/
def Res.inLong (r : Res) (t : Nat) : Res :=
  match r with
  | .fault s c v => .fault (s.modTiller t (fun x => { x with progress := true })) c v
  | r => r

/-- A piece lies in a side-effect region, which no long instruction may read or write (log entry 30).
DEDUCED (log 30). -/
def State.anySide (s : State) (t : Nat) (ps : List (Nat × Nat)) : Bool :=
  ps.any (fun p => (s.addrType (s.tiller t).pos p.1).side)

/-- A block's source: its bytes, or what stops it. -/
def State.blockSource (s : State) (t src n : Nat) (f : List Byte → State → Res) : Res :=
  s.data t .load src n (fun ps s =>
    let x := s.tiller t
    if s.anySide t ps then .fault s Ex.align (asWord src)
    else if x.lineWait.any x.holdsLine || ps.any (fun p => x.sideLine (lineOf p.1)) then .wait s
    else if ps.any (fun p => x.anyBuffered p.1 p.2) && !ps.all (fun p => x.allBuffered p.1 p.2) then
      .wait (s.modTiller t (fun x => { x with lineWait := ps.map (fun p => lineOf p.1) }))
    else if ps.any (fun p => s.frozenAt p.1) then .wait s
    else match ps.find? (fun p => s.readError p.1 p.2) with
    | some p => .fault (s.countUe p.1) Ex.machineCheck (asWord src)
    | none =>
      let bs := s.pieceBytes t ps
      f bs (ps.foldl (fun (s : State) p =>
        if (s.addrType x.pos p.1).cached && !x.allBuffered p.1 p.2 then s.fill t (lineOf p.1) false else s) s))

/-- A block's destination: buffered, or what stops it. -/
def State.blockDest (s : State) (t dst : Nat) (bs : List Byte) (f : State → Res) : Res :=
  s.data t .store dst bs.length (fun ps s =>
    let x := s.tiller t
    let a := (ps.head?.map Prod.fst).getD 0
    if s.anySide t ps then .fault s Ex.align (asWord dst)
    else if x.room a then f (s.modTiller t (fun x => x.buffer a bs (s.addrType x.pos a).cached))
    else .wait s)

/-- Step a register by `n`. -/
def State.bump (s : State) (t : Nat) (r : Fin 32) (n : Nat) : State := s.setGr t r (s.gr t r + asWord n)
/-- Lower a register by `n`. -/
def State.drop' (s : State) (t : Nat) (r : Fin 32) (n : Nat) : State := s.setGr t r (s.gr t r - asWord n)

/-- A block is done: the instruction completes, or PROGRESS is set and it goes on. -/
def State.blockDone (s : State) (t beats : Nat) (last : Bool) : State :=
  let x := s.tiller t
  let b := if x.progress then beats else 8 + beats
  if last then s.retire t b
  else (s.modTiller t (fun x => { x with progress := true, lineWait := [] })).topDown t x.ring 0 b

/-- `n` UNKNOWN bytes. -/
def State.unknownBytes (s : State) (n : Nat) : List Byte × State :=
  let r := s.freshWords n
  (r.1.map (fun w => w.setWidth 8), r.2)

/-- One block of BCOPY (R279). -/
def State.copyBlock (s : State) (t : Nat) (rd rs1 rs2 : Fin 32) : Res :=
  let dst := (s.gr t rd).toNat
  let src := (s.gr t rs1).toNat
  let len := (s.gr t rs2).toNat
  let x := s.tiller t
  if len = 0 then .done (s.retire t (if x.progress then 0 else 8))
  else
    let n := stretchLen dst len
    let over' := rangesOverlap dst src len || (x.progress && x.overlap)
    s.blockSource t src n (fun bs s =>
      let r := if over' then s.unknownBytes n else (bs, s)
      r.2.blockDest t dst r.1 (fun s =>
        let s := s.modTiller t (fun x => { x with overlap := over' })
        .done ((((s.bump t rd n).bump t rs1 n).drop' t rs2 n).blockDone t 14 (decide (len = n)))))

/-- BCOPY (R279): 8 b and 14 b per block. -/
def execBcopy (t : Nat) (rd rs1 rs2 : Fin 32) (s : State) : Out :=
  .next (s.instr t false (fun s => (s.copyBlock t rd rs1 rs2).inLong t))

/-- One block of BFILL: the byte at address a takes byte a mod 8 of rs1. -/
def State.fillBlock (s : State) (t : Nat) (rd rs1 rs2 : Fin 32) : Res :=
  let dst := (s.gr t rd).toNat
  let len := (s.gr t rs2).toNat
  if len = 0 then .done (s.retire t (if (s.tiller t).progress then 0 else 8))
  else
    let n := stretchLen dst len
    let w := toBytes (s.gr t rs1).toNat 8
    let bs := (List.range n).map (fun i => w.getD ((dst + i) % 8) 0)
    s.blockDest t dst bs (fun s =>
      .done (((s.bump t rd n).drop' t rs2 n).blockDone t 8 (decide (len = n))))

/-- BFILL (R279): 8 b and 8 b per block. -/
def execBfill (t : Nat) (rd rs1 rs2 : Fin 32) (s : State) : Out :=
  .next (s.instr t false (fun s => (s.fillBlock t rd rs1 rs2).inLong t))

/-- One block of HUSKSUM: a CRC-32C update of rd[31:0] over the source bytes. -/
def State.sumBlock (s : State) (t : Nat) (rd rs1 rs2 : Fin 32) : Res :=
  let src := (s.gr t rs1).toNat
  let len := (s.gr t rs2).toNat
  if len = 0 then .done (s.retire t (if (s.tiller t).progress then 0 else 8))
  else
    let n := stretchLen src len
    s.blockSource t src n (fun bs s =>
      let c := bs.foldl crcByte ((s.gr t rd).setWidth 32)
      let s := s.setGr t rd (c.setWidth 64)
      .done (((s.bump t rs1 n).drop' t rs2 n).blockDone t 12 (decide (len = n))))

/-- HUSKSUM (R279): 8 b and 12 b per block. -/
def execHusksum (t : Nat) (rd rs1 rs2 : Fin 32) (s : State) : Out :=
  .next (s.instr t false (fun s => (s.sumBlock t rd rs1 rs2).inLong t))

end Sys2Proof.Machine
end

