-- ==== Sys2Proof/Machine/Interrupts.lean ====
section
/-! DEFINITION. Delivery at an instruction boundary, the timer, and the HOLD check (R286, R294, R343, R344,
R349, R351). -/

namespace Sys2Proof.Machine

/-- The entry that an interrupt of source `src` makes (R286): in the open world ring 0 stands in for ring
1, and CAUSE.TRING records 1. -/
def State.intrEntry (s : State) (t src : Nat) : Entry :=
  let x := s.tiller t
  let r := s.srcRing t src
  let dest := if r = 1 ∧ !x.secure then 0 else r
  ⟨dest, src, true, 0, r, 0, x.pc, none⟩

/-- The Proctor passes to ring 1 a secure interrupt that ring 0 took in the open world under the secure MASK `m`: it
keeps the open world's frame on SP0 and enters ENTRY1 with the interrupt's CAUSE (R294). -/
def State.passToOne (s : State) (t m : Nat) : State :=
  s.modTiller t (fun x => { x with
    keptMask := some m
    ring := 1
    cause := setBank x.cause 1 (bank x.cause 0)
    epc := setBank x.epc 1 (bank x.epc 0)
    pc := bank x.entry 1 &&& ~~~3#64
    fq := [] })

/-- Deliver a source (R343): claim it, set DFLAG, and enter its ring. The claim stands whether the entry
is made, escalates or halts the Tiller. DEDUCED (log 85). -/
def State.deliverSource (s : State) (t src : Nat) : Option State :=
  let e := s.intrEntry t src
  match s.enter t e with
  | none => none
  | some s1 =>
    let x := s1.tiller t
    let entered := (bank x.cause e.ring).getLsbD 63 && !x.halted && x.ring == e.ring
    let s2 := s1.pushClaim t src
    let s3 := s2.modTiller t (fun x => { x with dflag := true, dflagAt := s.uptime, dring := e.tring })
    some (if entered && e.ring != e.tring then s3.passToOne t (s.tiller t).maskSecure else s3)

/-- The boundary lies between instructions: no control transfer waits for its delay slot (R270), and the
Tiller is not in the middle of a memory access. A WAITI and a MILLCALL at a mill step are boundaries. -/
def Tiller.atBoundary (x : Tiller) : Bool :=
  x.dslot.isNone &&
  (match x.stall with
   | .none | .waiti | .mill _ _ => true
   | _ => false)

/-- A MILLCALL that an exception interrupts leaves its ticket in rd, with PROGRESS set (R282). -/
def State.suspendMill (s : State) (t : Nat) : State :=
  match (s.tiller t).stall with
  | .mill k rd =>
    let seq := match (s.tiller t).slots[k % 4] with
      | .running q .. => q
      | .ready q .. => q
      | .empty => 0
    (s.setGr t rd (BitVec.ofNat 64 (2 ^ 63 + seq % 2 ^ 24 * 256 + k % 4))).modTiller t (fun x =>
      { x with stall := .none, progress := true })
  | _ => s

/-- INTERRUPT_DELIVERY (R343): a fault due at the boundary comes first; then the lowest eligible source
while DFLAG is 0. DESIGN CHOICE (log 24). -/
def execInterruptDelivery (t : Nat) (s : State) : Out :=
  .next (
    if s.tillerRuns t && (s.tiller t).atBoundary then
      let s0 := s
      let s := s.endWait t
      match (s.tiller t).due with
      | some c => ((s.suspendMill t).takeDue t c).getD s0
      | none =>
        if (s.tiller t).dflag then s
        else
          match s.deliverable t with
          | some src => ((s.suspendMill t).deliverSource t src).getD s0
          | none => s
    else s)

/-- TIMER_COMPARE (R351): DTIME has reached TCMP, so TIMER is pending; a WAITI ends. -/
def execTimerCompare (t : Nat) (s : State) : Out :=
  .next (if s.tillerRuns t && s.levelInput t 0 then s.endWait t else s)

/-- A source that targets ring 0 or ring 1 is pending. -/
def State.securePending (s : State) (t : Nat) : Bool :=
  (List.range 170).any (fun src => s.srcEn t src && s.srcPending t src && decide (s.srcRing t src ≤ 1))

/-- HOLD_TIMEOUT (R349): DFLAG has stayed 1 for longer than HOLD µs while a secure source is pending;
ICU_FAULT is due at the next boundary. -/
def execHoldTimeout (t : Nat) (s : State) : Out :=
  .next (
    let x := s.tiller t
    let hold := 1000 * s.fld (Reg.icuCtl t) F.IcuCtl.hold
    if s.tillerRuns t && x.dflag && hold != 0 && decide (x.dflagAt + hold < s.uptime) && s.securePending t then
      s.modTiller t (fun x => { x with holdDue := true })
    else s)

end Sys2Proof.Machine
end

