-- ==== Sys2Proof/Machine/Resets.lean ====
section
/-! DEFINITION. The reset of a Tiller, function level reset, the ports, and the switching of power domains
(R99, R240, R284, R311, R312, R350, R361, R372, R407, R411, R412, R417). -/

namespace Sys2Proof.Machine

/-! ### A Tiller (R284, R350, R361, R412) -/

/-- An operation that never reaches a mill no longer carries its slate's tag (R81). -/
def State.millGone (s : State) (o : MillOp) : State :=
  match o.tag with
  | some (id, gen) =>
    if (s.slate id).gen = gen ∧ (s.slate id).st ≠ .free then s.modSlate id (fun x => { x with mills := x.mills - 1 })
    else s
  | none => s

/-- Mill operations of a Tiller's completion slots are cancelled (R283). -/
def State.dropTillerMills (s : State) (t : Nat) : State :=
  let mine (o : MillOp) : Bool := match o.user with
    | .tiller u _ => u == t
    | _ => false
  let off (o : MillOp) : MillOp := if mine o then { o with cancelled := true } else o
  let gone := s.millQ.filter (fun (e : Bool × MillOp) => mine e.2)
  let s := { s with
    smills := s.smills.map (fun (e : Nat × MillOp) => (e.1, off e.2))
    pmills := s.pmills.map (fun (e : Nat × MillOp) => (e.1, off e.2))
    millQ := s.millQ.filter (fun (e : Bool × MillOp) => !mine e.2) }
  (gone.foldl (fun (s : State) e => s.millGone e.2) s).settleAll

/-- Work of a reset Tiller (R99): a slate whose claim is open is reissued through its WORK Chute; one whose
claim the Tiller holds ends UNIT_RESET. DEDUCED (log 76). -/
def State.reissueWork (s : State) (t : Nat) : State :=
  (s.heldBy t).foldl (fun (s : State) id =>
    if (s.slate id).unclaimed then s.modSlate id (fun x => { x with work := .credit })
    else s.loseWork t id) s

/-- A Tiller with g1 to g31 UNKNOWN. DEDUCED (log 76). -/
def unknownGs (l : List Word) : Vector Word 32 :=
  Vector.ofFn (fun i : Fin 32 => if i = 0 then 0 else l.getD (i.val - 1) 0)

/-- Reset a Tiller: ring 0 at ENTRY0 with MASK 3 in both banks, its claim stack, store buffer, Chute
buffers and queues gone; `bump` for a unit reset, which counts the term. DEDUCED (log 76). -/
def State.tillerReset (s : State) (t : Nat) (bump : Bool) : State :=
  let s := ((s.emptyStack t).dropTillerChutes t).dropTillerMills t
  let r := s.freshWords 31
  let s := r.2
  let x := s.tiller t
  let s := s.setTiller t
    { g := unknownGs r.1
      pos := x.pos
      edges := x.edges
      posted := x.posted
      on := x.on
      term := if bump then (x.term + 1) % 256 else x.term }
  s.wr (Reg.haltRec t) 0

/-- STOP entry drains every store (R258, R413); one to a Chute that must wait goes with the Chutes. `none` while
a frozen channel holds one. -/
def State.drainStop (s : State) (t : Nat) : Option State :=
  let x := s.tiller t
  ((x.posted ++ x.sb).foldlM (fun (s : State) e =>
    if s.drainHeld e then none else some ((s.perform t e false).getD s)) s).map (fun s =>
      s.modTiller t (fun x => { x with sb := [], posted := [] }))

/-! ### Functions and ports (R407, R411) -/

/-- The registers that a function level reset clears (R79, R411). -/
def flrRegs (g : Nat) : List Nat :=
  [Reg.fnCtl g, Reg.sqBase g, Reg.cqBase g, Reg.replyBase g, Reg.ringSize g, Reg.ringPtr g, Reg.msixPba g] ++
  (List.range 64).map (fun i => Reg.msixAddr g i) ++ (List.range 64).map (fun i => Reg.msixData g i)

/-- Function level reset (R411): committed packets go on, and their replies are discarded. -/
def State.flr (s : State) (g : Nat) : State :=
  let s := { s with regs := s.regs.filter (fun e => !(flrRegs g).contains e.1) }
  let s := s.modFn g (fun f => { f with
    pushMem := []
    pushBusy := f.pushBusy.filter (fun n => !f.pushQ.contains n)
    pushQ := []
    pushTurn := false
    cqReserved := 0
    phase := true
    epoch := f.epoch + 1 })
  (List.range 4).foldl (fun (s : State) h => if s.mirrorFn h = g then s.mirrorLost h 4 else s) s

/-- The sixteen functions of a port. -/
def portFns (p : Nat) : List Nat := (List.range 16).map (fun i => 16 * p + i)

/-- The link of port `p` is down: mirrors that it carries suspend (R240). -/
def State.linkDown (s : State) (p : Nat) : State :=
  let s := s.modPort p (fun x => { x with linkUp := false, training := false })
  (List.range 4).foldl (fun (s : State) h => if portOf (s.mirrorFn h) = p then s.mirrorLost h 3 else s) s

/-- PERST# of port `p` goes low (R411). -/
def State.perstLow (s : State) (p : Nat) : State :=
  let s := (s.linkDown p).modPort p (fun x => { x with perstLow := true })
  (portFns p).foldl (fun (s : State) g => s.flr g) s

/-- PERST_ASSERT (R411). -/
def execPerstAssert (port : Nat) (s : State) : Out :=
  .next (if port < 4 ∧ !s.power.porst then s.perstLow port else s)

/-- The PHY domain of a port is switched off. -/
def State.domainIsOff (s : State) (d : Nat) : Bool := (s.fld Reg.leaseStat F.LeaseStat.off).testBit d

/-- Drive Pn_WAKE#, where it changes (R449). DEDUCED (log 75). -/
def State.driveWake (s : State) (p : Nat) (low : Bool) : State :=
  if (s.port p).wakeLow == low then s
  else (s.modPort p (fun x => { x with wakeLow := low })).post (.portWake p low)

/-- PERST_RELEASE (R411, R449): the link trains, and Pn_WAKE# is released. -/
def execPerstRelease (port : Nat) (s : State) : Out :=
  .next (
    if port < 4 ∧ !s.power.porst ∧ (s.port port).perstLow then
      (s.modPort port (fun x => { x with perstLow := false, training := !s.domainIsOff (8 + port) })).driveWake
        port false
    else s)

/-- PORT_LINK_UP (R407, R411): the link reaches L0, and configuration space and BAR0 answer. -/
def execPortLinkUp (port : Nat) (s : State) : Out :=
  .next (
    let x := s.port port
    if port < 4 ∧ !s.power.porst ∧ !x.perstLow ∧ x.training ∧ !s.domainIsOff (8 + port) then
      s.modPort port (fun x => { x with linkUp := true, training := false })
    else s)

/-- PORT_LINK_DOWN (R240): the link is lost, and trains again while PERST# is high. -/
def execPortLinkDown (port : Nat) (s : State) : Out :=
  .next (
    if port < 4 ∧ (s.port port).linkUp then
      (s.linkDown port).modPort port (fun x => { x with training := true })
    else s)

/-- FUNCTION_LEVEL_RESET (R411). -/
def execFunctionLevelReset (gfn : Nat) (s : State) : Out :=
  .next (if s.barUp gfn then s.flr gfn else s)

/-! ### Domains (R311, R312, R417) -/

/-- Logical Tillers whose position lies in a Sheaf. -/
def State.sheafTillers (s : State) (k : Nat) : List Nat := (List.range 64).filter (fun t => s.sheaf t == k)

/-- Set or clear a domain's OFF bit. -/
def State.setOff (s : State) (d : Nat) (b : Bool) : State :=
  s.setFld Reg.leaseStat ⟨16 + d, 1⟩ (bit b)

/-- Stop every Hopper channel of an engine as if EN were cleared. -/
def State.stopHopper (s : State) (e : Nat) : State :=
  (List.range 16).foldl (fun (s : State) k =>
    if s.flag (Reg.hcCtl e k) F.HcCtl.en then s.hopClear e k else s) s

/-- A Sheaf domain may not be switched off while one of its Tillers belongs to a House. -/
def State.sheafHeld (s : State) (k : Nat) : Bool := (s.sheafTillers k).any (fun t => (s.tillerFor t).isSome)

/-- Switch a Sheaf off: stores drain, the L2 is written back, the Hopper stops; `none` while a store must
wait. -/
def State.sheafOff (s : State) (k : Nat) : Option State :=
  let ts := s.sheafTillers k
  (ts.foldlM (fun (s : State) t => s.drainAll t) s).map (fun s =>
    let s := ts.foldl (fun (s : State) t => s.modTiller t (fun x => x.dropCaches)) s
    let s := (s.dropL2 k).stopHopper k
    (ts.foldl (fun (s : State) t => s.modTiller t (fun x => { x with on := false })) s).setOff k true)

/-- Switch a Sheaf on: its Desks are zero and its Tillers start at ENTRY0. -/
def State.sheafOn (s : State) (k : Nat) : State :=
  let s := (List.range 9).foldl (fun (s : State) i => s.zeroRange (deskBase (9 * k + i)) 0x20000) s
  let ts := s.sheafTillers k
  (ts.foldl (fun (s : State) t =>
    (s.tillerReset t false).modTiller t (fun x => { x with on := true })) s).setOff k false

/-- How a switch-off ends: done, refused (R417), or waiting for stores to drain. -/
inductive OffEnd where
  | done (s : State)
  | refused
  | wait
  deriving DecidableEq, Repr

/-- Switch a domain off (R417). -/
def State.domainOff (s : State) (d : Nat) : OffEnd :=
  if s.domainIsOff d then .done s
  else if d < 8 then
    if s.sheafHeld d then .refused
    else match s.sheafOff d with
      | some s => .done s
      | none => .wait
  else .done (((s.perstLow (d - 8)).modPort (d - 8) (fun x => { x with perstLow := (s.port (d - 8)).perstLow })
    ).setOff d true)

/-- Switch a domain on. -/
def State.domainOn (s : State) (d : Nat) : State :=
  if !s.domainIsOff d then s
  else if d < 8 then s.sheafOn d
  else (s.setOff d false).modPort (d - 8) (fun x => { x with training := !x.perstLow })

/-- How many leases a domain holds. -/
def State.leaseCount (s : State) (d : Nat) : Nat := Map.get 0 s.power.leases d
/-- Set a domain's lease count. -/
def State.setLease (s : State) (d n : Nat) : State :=
  { s with power := { s.power with leases := Map.put 0 s.power.leases d n } }

/-- A Sheaf domain is leased, which holds STOP entry back (R413). -/
def State.sheafLeased (s : State) : Bool := (List.range 8).any (fun d => s.leaseCount d != 0)

/-- Queue a switch-off behind a lease: each domain queues one (R312). -/
def State.queueOff (s : State) (d : Nat) (r : OffReq) : State :=
  if s.power.offQueue.any (fun e => e.1 == d) then s
  else { s with power := { s.power with offQueue := s.power.offQueue ++ [(d, r)] } }

/-- Remove a domain's queued switch-off; a queued STOP entry goes whole. DEDUCED (log 13). -/
def State.unqueueOff (s : State) (d : Nat) : State :=
  let s := if s.power.offQueue.contains (d, OffReq.stop) then s.unqueueStop else s
  { s with power := { s.power with offQueue := s.power.offQueue.filter (fun e => e.1 != d) } }

/-- The completion event of a queued switch-off. -/
def State.offDone (s : State) (r : OffReq) : State :=
  match r with
  | .tiller t => s.raisePrivate t srcLeaseDone
  | _ => s

/-- A queued switch-off whose domain is no longer leased proceeds; one whose stores must wait stays queued, and
STOP entry waits until no Sheaf is leased (R312, R413). -/
def State.runQueued (s : State) (e : Nat × OffReq) : State :=
  if !s.power.offQueue.contains e || s.leaseCount e.1 != 0 then s
  else if e.2 = .stop then (if s.sheafLeased then s else s.unqueueStop.beginStop)
  else match s.domainOff e.1 with
    | .done s => (s.unqueueOff e.1).offDone e.2
    | .refused => (s.unqueueOff e.1).offDone e.2
    | .wait => s

/-- What is queued behind leases that are gone proceeds, in the order in which it was queued (R312). -/
def State.runOffQueue (s : State) : State :=
  s.power.offQueue.foldl (fun (s : State) e => s.runQueued e) s

/-- Request to switch a domain off: queued behind a lease, refused, waiting for stores to drain, or done. -/
inductive OffRes where
  | leased (s : State)
  | refused
  | wait
  | done (s : State)
  deriving DecidableEq, Repr

/-- DOMAIN_OFF or the host's DOMAIN_SET (R312, R417). -/
def State.requestOff (s : State) (d : Nat) (r : OffReq) : OffRes :=
  if s.leaseCount d ≠ 0 then .leased (s.queueOff d r)
  else match s.domainOff d with
    | .done s => .done s
    | .refused => .refused
    | .wait => .wait

/-- STOP entry behind leased Sheaves: it queues on each that has nothing queued (R312, R413). -/
def State.queueStop (s : State) : State :=
  let s := (List.range 8).foldl (fun (s : State) d => if s.leaseCount d = 0 then s else s.queueOff d .stop) s
  if s.stopQueued then s.setFld Reg.pwrStat F.PwrStat.state pwrQueued else s

/-- DOMAIN_ON: a queued switch-off is removed; otherwise the domain is switched on. -/
def State.requestOn (s : State) (d : Nat) : State :=
  if s.power.offQueue.any (fun e => e.1 == d) then s.unqueueOff d else s.domainOn d

/-! ### Drains (R257, R332) -/

/-- STORE_BUFFER_DRAIN (R257): entry `i` of Tiller `t` drains; with `err` the drain receives an error
response, and a machine-check event is raised. Beyond the store buffer's entries come the stores that the network
has accepted, which their targets perform. What waited for the drain proceeds. -/
def execStoreBufferDrain (t i : Nat) (err : Bool) (s : State) : Out :=
  .next (if s.running then (s.drainEntry t i err).runOffQueue else s)

end Sys2Proof.Machine
end

