-- ==== Sys2Proof/Machine/Proctor.lean ====
section
/-! DEFINITION. The Proctor's services: carrels, reopening a Tiller's open world, YIELD, domain leases and
domain switches (R291, R294, R297, R302, R311, R312, R417, Table 10.5). A service runs while the PCALL
that named it is open on the Tiller, and returns to the caller with a status in g1 and a value in g2. -/

namespace Sys2Proof.Machine

/-- What a service answers: the state, the status and the value. -/
abbrev Svc := State × Nat × Word

/-- Run a service for the PCALL open on Tiller `t`; one that answers `none` waits. The return to the open world waits
for the store buffer (R290). DESIGN CHOICE (log 32). -/
def State.service (s : State) (t n : Nat) (f : State → Nat → Option Svc) : State :=
  match (s.tiller t).pcall with
  | some (m, r) =>
    if m = n ∧ s.tillerRuns t ∧ (s.tiller t).stall = .none ∧ (secureRing r ∨ (s.tiller t).sb.isEmpty) then
      if (svcRings n).contains r then
        ((f s r).bind (fun v => v.1.proctorReturn t v.2.1 v.2.2)).getD s
      else
        let w := s.freshWord
        (w.2.proctorReturn t St.notPermitted w.1).getD s
    else s
  | none => s

/-- A status without a value: g2 holds a free value. -/
def State.status (s : State) (n : Nat) : Svc := let w := s.freshWord; (w.2, n, w.1)

/-! ### Carrels (R297, R302) -/

/-- An open page that a carrel range of House `h` may hold. -/
def State.carrelPage (s : State) (h a : Nat) : Bool :=
  !s.secureAt a &&
  (match s.placeOf a with
   | .dram => s.ownerAt a == h
   | .desk n _ => s.posHouse n == some h
   | _ => false)

/-- A range is non-empty, aligned, and wholly open memory of House `h`. -/
def State.carrelRange (s : State) (h a b : Nat) : Bool :=
  a % 4096 == 0 && b % 4096 == 0 && decide (a < b) &&
  (List.range ((b - a) / 4096)).all (fun i => s.carrelPage h (a + 4096 * i))

/-- Two ranges have an address in common. -/
def rangesMeet (a b c d : Nat) : Bool := decide (a < d) && decide (c < b)

/-- No range of the descriptor meets the other or a range of a valid carrel. -/
def State.carrelFree (s : State) (t : Nat) (k : Carrel) : Bool :=
  !rangesMeet k.codeBase k.codeLimit k.dataBase k.dataLimit &&
  (List.range 256).all (fun c =>
    let e := s.carrel t c
    !e.valid ||
    (!rangesMeet k.codeBase k.codeLimit e.codeBase e.codeLimit &&
     !rangesMeet k.codeBase k.codeLimit e.dataBase e.dataLimit &&
     !rangesMeet k.dataBase k.dataLimit e.codeBase e.codeLimit &&
     !rangesMeet k.dataBase k.dataLimit e.dataBase e.dataLimit))

/-- CARREL_CREATE accepts the descriptor. -/
def State.carrelAccepted (s : State) (t h : Nat) (k : Carrel) : Bool :=
  s.carrelRange h k.codeBase k.codeLimit && s.carrelRange h k.dataBase k.dataLimit && s.carrelFree t k &&
  k.entry % 4 == 0 && decide (k.codeBase + k.entry < k.codeLimit)

/-- The descriptor at the virtual address in g1, read with the caller's rights. -/
def State.readDescriptor (s : State) (t ring : Nat) : Option (List Byte) × State :=
  match s.accessPieces true t ring .load none (pieces (s.gr t 1).toNat 64) with
  | (.ok ps, s) => (some (s.pieceBytes t ps), s)
  | (_, s) => (none, s)

/-- A descriptor as a carrel of House `h`. -/
def State.carrelOf (s : State) (b : List Byte) (h : Nat) : Carrel :=
  s.normCarrel ⟨le b 0 8, le b 8 8, le b 16 8, le b 24 8, le b 32 4, h, true⟩

/-- Write entry `c` of the carrel table. -/
def State.writeCarrel (s : State) (t c : Nat) (b : List Byte) : State :=
  { s with mem := Memory.store s.mem (s.carrelBase t + 64 * c) b }

/-- CARREL_CREATE for House `h` (R297). DESIGN CHOICE (log 32). -/
def State.carrelCreate (s : State) (t ring : Nat) : Svc :=
  match s.readDescriptor t ring, s.tillerFor t with
  | (some b, s), some h =>
    let k := s.carrelOf b h
    if s.carrelAccepted t h k then
      match s.pickFree 256 (fun c => (s.carrel t c).valid) with
      | (some c, s) =>
        let s := s.writeCarrel t c (slice b 0 36 ++ toBytes h 1 ++ toBytes 1 1 ++ zeros 26)
        (s.zeroRange k.dataBase (k.dataLimit - k.dataBase), St.ok, BitVec.ofNat 64 c)
      | (none, s) => s.status St.notPermitted
    else s.status St.notPermitted
  | (_, s), _ => s.status St.notPermitted

/-- CARREL_CREATE (R297). -/
def execCarrelCreate (t : Nat) (s : State) : Out :=
  .next (s.service t svcCreate (fun s r => some (s.carrelCreate t r)))

/-- Some Tiller's EFLAGS shows INC with carrel `c`. -/
def State.carrelRunning (s : State) (c : Nat) : Bool :=
  (List.range 64).any (fun u => (s.tiller u).carrel == some c)

/-- Clear a carrel's ranges and its table entry. -/
def State.clearCarrel (s : State) (t c : Nat) : State :=
  let e := s.carrel t c
  let s := s.zeroRange e.codeBase (e.codeLimit - e.codeBase)
  let s := s.zeroRange e.dataBase (e.dataLimit - e.dataBase)
  { s with mem := Memory.setByte s.mem (s.carrelBase t + 64 * c + 37) 0 }

/-- Destroy every carrel of House `h` in the table of Tiller `t` (R302). -/
def State.clearCarrelsOf (s : State) (t h : Nat) : State :=
  (List.range 256).foldl (fun (s : State) c =>
    let e := s.carrel t c
    if e.valid && e.house == h then s.clearCarrel t c else s) s

/-- CARREL_DESTROY (R302) of a carrel of the caller's House. DESIGN CHOICE (log 32). -/
def State.carrelDestroy (s : State) (t : Nat) : Svc :=
  let c := (s.gr t 1).toNat
  if c < 256 ∧ (s.carrel t c).valid ∧ s.tillerFor t = some (s.carrel t c).house ∧ !s.carrelRunning c then
    (s.clearCarrel t c).status St.ok
  else s.status St.notPermitted

/-- CARREL_DESTROY (R302). -/
def execCarrelDestroy (t : Nat) (s : State) : Out :=
  .next (s.service t svcDestroy (fun s _ => some (s.carrelDestroy t)))

/-! ### The open world (R291, R294) -/

/-- TILLER_REOPEN (R291): the open world of a Tiller of the caller's House. -/
def State.reopen (s : State) (t : Nat) : Svc :=
  let u := (s.gr t 1).toNat
  if u < 64 ∧ s.tillerFor u = s.tillerFor t ∧ (s.tillerFor t).isSome then
    (s.modTiller u (fun x => { x with openEn := true })).status St.ok
  else s.status St.notPermitted

/-- TILLER_REOPEN (R291). -/
def execTillerReopen (t : Nat) (s : State) : Out :=
  .next (s.service t svcReopen (fun s _ => some (s.reopen t)))

/-- The interrupted code resumes through the frame that the Proctor kept below the PCALL's own, exactly as if it had
not been interrupted: a carrel's frame does not hold the secure MASK, so the Proctor has kept that. -/
def State.yieldTo (s : State) (t : Nat) : State :=
  let s1 := s.modTiller t (fun x => { x with sp := setBank x.sp 0 (bank x.sp 0 + 64), pcall := none })
  match s1.topFrame t with
  | (some f, s2) =>
    if s2.frameOk t 0 f then
      (s2.restore t 0 f).modTiller t (fun x =>
        { x with maskSecure := x.keptMask.getD x.maskSecure, keptMask := none })
    else s
  | (none, _) => s

/-- YIELD (R294): from ring 1; a change of world waits for the store buffer. -/
def execYield (t : Nat) (s : State) : Out :=
  .next (
    match (s.tiller t).pcall with
    | some (n, r) =>
      if n = svcYield ∧ s.tillerRuns t ∧ (s.tiller t).sb.isEmpty then
        if r = 1 then s.yieldTo t
        else let w := s.freshWord; (w.2.proctorReturn t St.notPermitted w.1).getD s
      else s
    | none => s)

/-! ### Leases and domains (R311, R312, R417) -/

/-- LEASE_TAKE (R311). -/
def State.leaseTake (s : State) (t : Nat) : Svc :=
  let d := (s.gr t 1).toNat
  if 12 ≤ d then s.status St.format
  else if 255 ≤ s.leaseCount d then s.status St.notPermitted
  else (s.setLease d (s.leaseCount d + 1), St.ok, BitVec.ofNat 64 (s.leaseCount d + 1))

/-- LEASE_TAKE (R311). -/
def execLeaseTake (t : Nat) (s : State) : Out :=
  .next (s.service t svcLeaseTake (fun s _ => some (s.leaseTake t)))

/-- LEASE_RELEASE (R311, R312): at 0 what was queued behind the lease proceeds. -/
def State.leaseRelease (s : State) (t : Nat) : Svc :=
  let d := (s.gr t 1).toNat
  if 12 ≤ d then s.status St.format
  else if s.leaseCount d = 0 then s.status St.notPermitted
  else
    let n := s.leaseCount d - 1
    let s := s.setLease d n
    (if n = 0 then s.runOffQueue else s, St.ok, BitVec.ofNat 64 n)

/-- LEASE_RELEASE (R311). -/
def execLeaseRelease (t : Nat) (s : State) : Out :=
  .next (s.service t svcLeaseRelease (fun s _ => some (s.leaseRelease t)))

/-- Ring 1 names any domain, ring 2 only the port domains of its own House (R417). DESIGN CHOICE (log 32). -/
def State.mayName (s : State) (t r d : Nat) : Bool :=
  r == 1 || (decide (8 ≤ d) && (s.tillerFor t).any (fun h => s.ownsPort h (d - 8)))

/-- DOMAIN_OFF (R312, R417). -/
def State.serviceOff (s : State) (t r : Nat) : Option Svc :=
  let d := (s.gr t 1).toNat
  if 12 ≤ d then some (s.status St.format)
  else if !s.mayName t r d then some (s.status St.notPermitted)
  else match s.requestOff d (.tiller t) with
    | .leased s => some (s.status St.leased)
    | .refused => some (s.status St.notPermitted)
    | .wait => none
    | .done s => some (s.status St.ok)

/-- DOMAIN_OFF (R312). -/
def execDomainOff (t : Nat) (s : State) : Out :=
  .next (s.service t svcOff (fun s r => s.serviceOff t r))

/-- DOMAIN_ON (R312, R417). -/
def State.serviceOn (s : State) (t r : Nat) : Svc :=
  let d := (s.gr t 1).toNat
  if 12 ≤ d then s.status St.format
  else if !s.mayName t r d then s.status St.notPermitted
  else (s.requestOn d).status St.ok

/-- DOMAIN_ON (R312). -/
def execDomainOn (t : Nat) (s : State) : Out :=
  .next (s.service t svcOn (fun s r => some (s.serviceOn t r)))

end Sys2Proof.Machine
end

