-- ==== Sys2Proof/Machine/Mills.lean ====
section
/-! DEFINITION. The mills: who may use each, what waits for one, how an operation ends, the key fills of
a slate, and MILLCALL (R98, R165, R166, R173, R185 to R188, R231, R280 to R283, Tables 6.11, 6.12, 9.9
and 9.10). -/

namespace Sys2Proof.Machine

/-! ### Key fills (R107, R173, R174, R395) -/

/-- What obtaining a key gives: no such key, not yet, or the key. -/
inductive Got where
  | absent (s : State)
  | wait
  | ok (r : KeyRef) (k : KeyEnt) (s : State)
  deriving DecidableEq, Repr

/-- Entries of the key cache of a class that a slate outside the Thresher pins, among those that count against
the room of House `h` (R174). -/
def State.tabquaPins (s : State) (h : Nat) (asym : Bool) : Nat :=
  ((s.allCache asym).filter (fun e => s.cachePeer h asym e && s.slates.any (fun x =>
    x.2.st != .free && x.2.keys.contains (.cached e.handle) &&
    (x.2.fwd || x.2.path != .thresher)))).length

/-- A fill may take an entry of the key cache: one is left that no slate pins, and, for a fill of the Tabqua
path, slates outside the Thresher pin fewer than KC_SHARE - 2 × C_T (R174, R210). -/
def State.cacheRoom (s : State) (h : Nat) (asym fast : Bool) : Bool :=
  decide (((s.allCache asym).filter (fun e => s.cachePeer h asym e && s.pinned e.handle)).length
    < s.cacheSize h asym) &&
  (fast || asym || decide (s.tabquaPins h asym < s.cacheSize h asym - 2 * s.ct h))

/-- Unwrap the table entry that handle `v` names, and put it in the key cache (R173); `fast` marks a fast-path
fill. -/
def State.fillRecord (s : State) (h : Nat) (v : Word) (fast : Bool) : Got :=
  let asym := hKind v == 4
  let a := s.tableEntry h asym (hIndex v)
  let n := if asym then 4096 else 128
  if s.frozenAt a then .wait
  else if s.readError a n then .absent s.machineCheck
  else
    let b := Memory.bytes s.mem a n
    if le b 0 8 ≠ v.toNat then .absent s
    else
      match s.unwrap h b with
      | none => .absent ((s.satFld (Reg.kcCnt h) F.KcCnt.recFail 1).machineCheck)
      | some k =>
        if s.cacheRoom h asym fast then .ok (.cached v) k (s.cachePut h asym ⟨v, k⟩) else .wait

/-- Obtain the key of handle `v` on the Tabqua path: a miss is filled at once (log entry 38).
DEDUCED (log 38). -/
def State.getKey (s : State) (h : Nat) (v : Word) : Got :=
  match s.resolve h v with
  | .absent => .absent s
  | .hit r k =>
    .ok r k (match r with
      | .cached v => s.cacheTouch v
      | _ => s)
  | .miss => (s.satFld (Reg.kcCnt h) F.KcCnt.miss 1).fillRecord h v false

/-- The fill of key handle `i` of a slate has returned. -/
def State.fillDone (s : State) (id i : Nat) : State :=
  let sl := s.slate id
  match s.fillRecord sl.house (pkKey sl.pkt i) true with
  | .wait => s
  | .absent s => if sl.unclaimed then (s.fail id St.keyAbsent i).leaveWork id else s.leaveWork id
  | .ok r _ s =>
    if sl.unclaimed then
      (s.modSlate id (fun x => { x with work := .idle, keys := x.keys ++ [r] })).resolveFrom id (i + 1)
        (fastKeys (pkOpcode sl.pkt) - (i + 1))
    else s.leaveWork id

/-- KEY_FILL_COMPLETE (R98, R173): `ecc` is how the read came back from its channel. -/
def execKeyFillComplete (id : Nat) (ecc : Ecc) (s : State) : Out :=
  .next (
    let sl := s.slate id
    match sl.work with
    | .filling i =>
      let v := pkKey sl.pkt i
      let asym := hKind v == 4
      let a := s.tableEntry sl.house asym (hIndex v)
      match s.granaryRead a (if asym then 4096 else 128) 0 ecc with
      | (.held, s) => s
      | (_, s) => s.fillDone id i
    | _ => s)

/-! ### Mills (R188, R202, R211) -/

/-- Unit index of a mill. -/
def millUnit (pmill : Bool) (n : Nat) : Nat := if pmill then 117 + n else 81 + n
/-- How many mills of a type there are. -/
def millCount (pmill : Bool) : Nat := if pmill then 18 else 36
/-- The operation in a mill. -/
def State.millOp (s : State) (pmill : Bool) (n : Nat) : Option MillOp :=
  Map.find n (if pmill then s.pmills else s.smills)
/-- Put an operation in a mill, or free it. -/
def State.setMill (s : State) (pmill : Bool) (n : Nat) (o : Option MillOp) : State :=
  let f (m : List (Nat × MillOp)) : List (Nat × MillOp) := match o with
    | some v => Map.insert n v m
    | none => Map.erase n m
  if pmill then { s with pmills := f s.pmills } else { s with smills := f s.smills }

/-- House `h`'s share of unbound mills of a type. -/
def State.millShare (s : State) (h : Nat) (pmill : Bool) : Nat :=
  if pmill then s.fld (Reg.houseShr h) F.HouseShr.pmills else s.fld (Reg.houseShr h) F.HouseShr.smills

/-- The mill works, unbound: in service or WORN before its rotation (R427). -/
def State.millUp (s : State) (pmill : Bool) (n : Nat) : Bool :=
  let u := millUnit pmill n
  let st := s.unitState u
  (st == unitService || (st == unitWorn && !s.wear.retired.contains u)) &&
  (pmill || s.fld (Reg.millS n) F.MillS.lane == 0xF)

/-- Mill `n` takes work of House `h`: a lent mill its borrower's, a reserved mill its House's, one of the
common pool that of the Houses whose share is 0. -/
def State.millTakes (s : State) (pmill : Bool) (n h : Nat) : Bool :=
  match s.millLoans.find? (fun e => e.1 == pmill && e.2.1 == n) with
  | some e => e.2.2 == h
  | none =>
    match Map.find (millUnit pmill n) s.millOwn with
    | some o => o == h
    | none => s.millShare h pmill == 0

/-- A free mill for an operation. -/
def State.freeMill (s : State) (pmill : Bool) (h : Nat) : Option Nat :=
  (List.range (millCount pmill)).find? (fun n =>
    s.millUp pmill n && (s.millOp pmill n).isNone && s.millTakes pmill n h)

/-- Waiting operations take free mills, oldest first. -/
def State.feedMills (s : State) : State :=
  s.millQ.foldl (fun (s : State) e =>
    match s.freeMill e.1 e.2.house with
    | some n =>
      let s := s.setMill e.1 n (some e.2)
      { s with millUsed := insertNat (millUnit e.1 n) s.millUsed }
    | none => { s with millQ := s.millQ ++ [e] }) { s with millQ := [] }

/-! ### Beats (Tables 6.11 and 6.12) -/

/-- Block bytes, setup and per-block beats of an S-mill class under a key type: class 1 and its mode,
class 2 or 3, or class 4 with the hash number. -/
def sBeats (cls low mode : Nat) : Nat × Nat × Nat :=
  if cls = 4 then
    match low with
    | 1 => (64, 4, 44)
    | 2 | 3 => (128, 4, 56)
    | 5 => (72, 4, 30)
    | _ => (136, 4, 30)
  else if low = 6 then (64, 4 + 2 * 44, 44)
  else if isTdes low then (8, if cls = 1 then 6 else 24, 18)
  else (16, if cls = 1 ∧ mode / 2 % 8 ≤ 2 then 16 else 28, 12)

/-- Beats of a P-mill class by type (Table 6.12): private then public operation. -/
def pBeats (cls low : Nat) : Nat :=
  let first := cls == 0x10 || cls == 0x12
  match low with
  | 0x10 => if cls = 0x14 then 21800 else if first then 23220 else 46440
  | 0x11 => if cls = 0x14 then 49500 else if first then 52600 else 105200
  | 0x12 => if first then 118000 else 236000
  | 0x13 => if first then 17400 else 33540
  | 0x14 => if first then 335400 else 9800
  | 0x15 => if first then 1086000 else 20600
  | 0x16 => if first then 2520000 else 35200
  | 0x17 => 3400
  | 0x18 => if first then 78400 else 24600
  | 0x19 => if first then 120750 else 37730
  | 0x1A => if first then 172000 else 58900
  | 0x1B => if first then 17900 else 20100
  | 0x1C => if first then 27400 else 30180
  | 0x1D => if first then 39800 else 43500
  | _ => 0

/-- Beats of an operation of MOP and MODE on `n` input bytes (R185, R186). -/
def millBeats (mop mode n : Nat) : Nat :=
  let cls := mop / 256
  let low := mop % 256
  if 0x10 ≤ cls then pBeats cls low
  else let b := sBeats cls low mode; 20 + b.2.1 + b.2.2 * ceilDiv n b.1

/-! ### What a MILLCALL operation computes -/

/-- What a mill returns: NEG, the reason, and the output. -/
structure MillRes where
  neg : Bool := false
  reason : Nat := 0
  out : List Byte := []
  deriving DecidableEq, Repr

/-- A check result. -/
def millCheck (ok : Bool) (reason : Nat) : MillRes := if ok then {} else { neg := true, reason := reason }

/-- CBC encryption. -/
def cbcEncrypt (ty : Nat) (key iv msg : List Byte) : List Byte :=
  ((chunks (blockLen ty) msg).foldl (fun (st : List Byte × List Byte) b =>
    let c := blockE ty key (xorBytes b st.2)
    (st.1 ++ c, c)) ([], iv)).1

/-- Class 0x01 (Table 9.9): MODE [0] decrypt, [3:1] the mode. -/
def millCipher (ty mode : Nat) (key inp iv : List Byte) : MillRes :=
  let dec := mode % 2 == 1
  match mode / 2 % 8 with
  | 0 => { out := ((chunks (blockLen ty) inp).map (if dec then blockD ty key else blockE ty key)).flatten }
  | 1 => { out := if dec then cbcDecrypt ty key iv inp else cbcEncrypt ty key iv inp }
  | 3 =>
    if dec then
      let r := Config.gcmOpen key iv [] inp
      if r.1 then { out := (List.range (inp.length - 16)).map r.2 } else { neg := true, reason := 5 }
    else { out := (List.range (inp.length + 16)).map (Config.gcmSeal key iv [] inp) }
  | m => { out := (List.range inp.length).map (Config.cipher ty m dec key iv inp) }

/-- The MAC that a key's usage names (R165). -/
def millMac (k : KeyEnt) (inp : List Byte) : List Byte :=
  match attrUsage k.attr with
  | 6 => mac3 2 k.val inp
  | 7 => hmac k.val inp
  | _ => cmacKey (attrType k.attr) k.val inp

/-- The hash numbers of R191, with 1 for SHA-256; SHAKE256 gives 64 bytes. -/
def hashOf (n : Nat) (m : List Byte) : List Byte :=
  match n with
  | 1 => sha256b m
  | 2 => toBytesBE (Config.sha384 m).toNat 48
  | 3 => toBytesBE (Config.sha512 m).toNat 64
  | 4 => toBytesBE (Config.sha3_256 m).toNat 32
  | 5 => toBytesBE (Config.sha3_512 m).toNat 64
  | _ => (List.range 64).map (Config.shake256 m)

/-- The result of a MILLCALL operation. Classes 0x13 and 0x14 yield a secret, which no buffer may carry
(R159), so they write nothing (log entry 39). -/
def millRun (mop mode : Nat) (k : KeyEnt) (inp aux rnd : List Byte) : MillRes :=
  let low := mop % 256
  match mop / 256 with
  | 0x01 => millCipher low mode k.val inp aux
  | 0x02 => { out := millMac k inp }
  | 0x03 => millCheck (millMac k inp == aux) 5
  | 0x04 => { out := hashOf low inp }
  | 0x10 => { out := (List.range (sigLen low)).map (Config.pkOut low k.val inp rnd 1) }
  | 0x11 => millCheck (Config.pkVerify low k.pub inp aux []) 7
  | 0x12 => { out := (List.range (kemLen low)).map (Config.pkOut low k.pub inp rnd 2) }
  | _ => {}

/-- MAC length of a type: 32 for HMAC, else a block. -/
def macLen (ty : Nat) : Nat := if ty = 6 then 32 else blockLen ty

/-- Output length of an operation. DEDUCED (log 39). -/
def millOutLen (mop mode n : Nat) : Nat :=
  let low := mop % 256
  match mop / 256 with
  | 0x01 => if mode / 2 % 8 = 3 then (if mode % 2 = 1 then n - 16 else n + 16) else n
  | 0x02 => macLen low
  | 0x04 => (hashOf low []).length
  | 0x10 => sigLen low
  | 0x12 => kemLen low
  | _ => 0

/-- AUX length that an operation needs. DESIGN CHOICE (log 16). -/
def millAuxLen (mop mode : Nat) : Nat :=
  let low := mop % 256
  match mop / 256 with
  | 0x01 =>
    match mode / 2 % 8 with
    | 0 => 0
    | 3 => 12
    | _ => blockLen low
  | 0x03 => macLen low
  | 0x11 => sigLen low
  | 0x13 => kemLen low
  | 0x14 => pubLen low
  | _ => 0

/-- MOP names an operation: a class with a type or hash number it has (Table 9.9). -/
def mopOk (mop : Nat) : Bool :=
  let low := mop % 256
  match mop / 256 with
  | 0x01 => isAes low || isTdes low
  | 0x02 | 0x03 => isAes low || isTdes low || low == 6
  | 0x04 => 1 ≤ low && low ≤ 6
  | 0x10 => isSig low && low != 0x17
  | 0x11 => isSig low
  | 0x12 | 0x13 => isMlKem low
  | 0x14 => low == 0x10 || low == 0x11
  | _ => false

/-- MODE fits MOP: GCM and XTS are AES modes. -/
def modeOk (mop mode : Nat) : Bool :=
  if mop / 256 = 1 then
    mode < 16 && mode / 2 ≤ 4 && (mode / 2 ≤ 1 || isAes (mop % 256))
  else mode == 0

/-- The request block's fields and lengths (R281 step 2). -/
def blockOk (b : List Byte) : Bool :=
  let mop := le b 4 2
  let mode := le b 6 2
  let n := le b 24 4
  let whole := mop / 256 == 1 && mode / 2 % 8 ≤ 1
  le b 0 4 < 2 ^ 23 && mopOk mop && modeOk mop mode && (mop / 256 != 4 || le b 8 8 == 0) &&
  (!whole || n % blockLen (mop % 256) == 0) &&
  (!(mop / 256 == 1 && mode == 7) || 16 ≤ n) &&
  le b 48 4 == millAuxLen mop mode && decide (millOutLen mop mode n ≤ le b 28 4) &&
  (slice b 52 12).all (· == 0)

/-- Random bytes that an operation draws from the House's DRBG: a signature's other than Ed25519, and an
encapsulation's (R193, R194). -/
def millRnd (mop : Nat) : Nat :=
  if (mop / 256 = 0x10 ∧ mop % 256 ≠ 0x13) ∨ mop / 256 = 0x12 then 32 else 0

/-- The operation may fail to complete in one block (R187): an ECDSA or an ML-DSA signature. -/
def millRetries (mop : Nat) : Bool := mop / 256 == 0x10 && (isEcc (mop % 256) || isMlDsa (mop % 256))

/-- The key's attributes allow the class (R165, Table 6.4): a cipher takes every usage that has its mode bit,
PIN and key encryption included. DESIGN CHOICE (log 99). -/
def millAllows (mop mode : Nat) (k : KeyEnt) : Bool :=
  let u := attrUsage k.attr
  attrType k.attr == mop % 256 &&
  (match mop / 256 with
   | 0x01 => attrBit k.attr (if mode % 2 = 1 then bDecrypt else bEncrypt)
   | 0x02 => (5 ≤ u && u ≤ 7) && attrBit k.attr bGenerate
   | 0x03 => (5 ≤ u && u ≤ 7) && attrBit k.attr bVerify
   | 0x10 => u == 0x10 && attrBit k.attr bGenerate
   | 0x11 => (u == 0x10 || u == 0x11) && attrBit k.attr bVerify
   | 0x12 => (u == 0x12 || u == 0x13) && attrBit k.attr bEncrypt
   | 0x13 => u == 0x12 && attrBit k.attr bDecrypt
   | 0x14 => u == 0x14 && attrBit k.attr bDerive
   | _ => false)

/-! ### MILLCALL (R280 to R283) -/

/-- A status word (Table 9.10). -/
def millStatus (status outBytes reason : Nat) (cancelled retry neg : Bool) : Word :=
  BitVec.ofNat 64 (outBytes % 65536 * 2 ^ 32 + reason % 256 * 2 ^ 24 + bit cancelled * 2 ^ 18 +
    bit retry * 2 ^ 17 + bit neg * 2 ^ 16 + status)

/-- The MILLCALL completes with a status. -/
def State.millDone (s : State) (t : Nat) (rd : Fin 32) (w : Word) : State := (s.setGr t rd w).retire t 16

/-- Set completion slot `k`. -/
def State.setSlotOf (s : State) (t k : Nat) (v : MillSlot) : State :=
  s.modTiller t (fun x => { x with slots := x.slots.setIfInBounds k v })

/-- Sequence number of a slot that holds an operation. -/
def MillSlot.seqOf (m : MillSlot) : Option Nat :=
  match m with
  | .running q .. => some q
  | .ready q .. => some q
  | .empty => none

/-- A resumed MILLCALL with a ticket (R282). -/
def State.millResume (s : State) (t : Nat) (rd : Fin 32) (ticket : Nat) : Res :=
  let k := ticket % 4
  let slot := (s.tiller t).slots.toArray.getD k .empty
  if ticket / 4 % 64 ≠ 0 ∨ ticket / 2 ^ 32 ≠ 2 ^ 31 ∨ slot.seqOf ≠ some (ticket / 256 % 2 ^ 24) then
    .done (s.millDone t rd (millStatus St.format 0 0 false false false))
  else
    match slot with
    | .ready _ _ _ w => .done ((s.setSlotOf t k .empty).millDone t rd w)
    | _ => .wait (s.modTiller t (fun x => { x with stall := .mill k rd }))

/-- Pages that a buffer within a Desk of 128 KB may touch. -/
def buffPages : Nat := 33

/-- The parts of a buffer within each 4 KB page, the last with what is left. -/
def pageParts (va n : Nat) : Nat → List (Nat × Nat)
  | 0 => if n = 0 then [] else [(va, n)]
  | f + 1 =>
    if n = 0 then []
    else
      let room := min n (4096 - va % 4096)
      (va, room) :: pageParts (va + room) (n - room) f

/-- Physical parts that follow one another. -/
def contiguous : List (Nat × Nat) → Bool
  | p :: q :: l => decide (p.1 + p.2 = q.1) && contiguous (q :: l)
  | _ => true

/-- Translate and check the whole buffer of `n` bytes at `va`: its physical parts, which lie in one page or in the
own Desk. `none` marks a buffer in neither. DEDUCED (log 30). -/
def State.millBuffer (s : State) (t : Nat) (k : Acc) (va n : Nat)
    (f : Option (List (Nat × Nat)) → State → Res) : Res :=
  let parts := pageParts va n buffPages
  let one := parts.length ≤ 1
  let rec go (s : State) : List (Nat × Nat) → List (Nat × Nat) → Res
    | [], acc =>
      let own := acc.all (fun p => match s.placeOf p.1 with
        | .desk n _ => n == (s.tiller t).pos
        | _ => false)
      if one || (own && contiguous acc) then f (some acc) s else f none s
    | p :: ps, acc =>
      match s.access t k p.1 1 with
      | (.miss v, s) => .wait (s.beginWalk t k v)
      | (.fault c v, s) => .fault s c (asWord v)
      | (.ok l, s) =>
        let a := (l.head?.map Prod.fst).getD 0
        if (s.addrType (s.tiller t).pos a).side then .fault s Ex.align (asWord p.1)
        else go s ps (acc ++ [(a, p.2)])
  if buffPages < parts.length then f none s else go s parts []

/-- The bytes of a buffer's physical parts. -/
def State.partBytes (s : State) (ps : List (Nat × Nat)) : List Byte :=
  (ps.map (fun p => Memory.bytes s.mem p.1 p.2)).flatten

/-- Write a buffer: each line at its physical place. -/
def State.partWrite (s : State) (ps : List (Nat × Nat)) (bs : List Byte) : State :=
  (ps.foldl (fun (x : State × List Byte) p =>
    ((x.1.hopPut p.1 (x.2.take p.2), x.2.drop p.2))) (s, bs)).1

/-- The Tiller holds the work of the slate that a tag names (R281 step 1). -/
def State.millSlate (s : State) (t tag : Nat) : Option Nat :=
  match s.tagSlate tag with
  | some id => if (s.slate id).work = .tiller t then some id else none
  | none => none

/-- Submit a checked request: it takes a completion slot and waits for a mill. DEDUCED (log 39). -/
def State.millSubmit (s : State) (t : Nat) (rd : Fin 32) (k id : Nat) (b : List Byte) (key : Option KeyRef)
    (inp aux : List Byte) (out : Nat) : State :=
  let sl := s.slate id
  let mop := le b 4 2
  let q := (s.tiller t).millSeq
  let s := s.setSlotOf t k (.running q id sl.gen out (mop + 65536 * le b 6 2) (BitVec.ofNat 64 (le b 8 8)) inp
    aux (millOutLen mop (le b 6 2) inp.length))
  let s := s.modTiller t (fun x => { x with millSeq := (q + 1) % 2 ^ 24, stall := .mill k rd })
  let s := s.modSlate id (fun x => { x with mills := x.mills + 1, keys := x.keys ++ key.toList })
  let s := match key with
    | some r => s.countUse r
    | none => s
  let d := s.draw sl.house (millRnd mop)
  let s := d.2
  let op : MillOp := { user := .tiller t k, house := sl.house, tag := some (id, sl.gen), rnd := d.1 }
  { s with millQ := s.millQ ++ [(decide (0x10 ≤ mop / 256), op)] }.feedMills

/-- Steps 3 and 4 of R281, and the submission. -/
def State.millKey (s : State) (t : Nat) (rd : Fin 32) (k id : Nat) (b : List Byte) (inp aux : List Byte)
    (out : Nat) : Res :=
  let sl := s.slate id
  let mop := le b 4 2
  let v : Word := BitVec.ofNat 64 (le b 8 8)
  let stop (s : State) (c : Nat) : Res := .done (s.millDone t rd (millStatus c 0 0 false false false))
  if mop / 256 = 4 then .wait (s.millSubmit t rd k id b none inp aux out)
  else
    match s.getKey sl.house v with
    | .absent s => stop s St.keyAbsent
    | .wait => .wait s
    | .ok r key s =>
      if hKind v = 5 ∨ !millAllows mop (le b 6 2) key ∨ !s.useOk key then stop s St.keyUsage
      else if !s.drbgReady sl.house (millRnd mop) then .wait s
      else .wait (s.millSubmit t rd k id b (some r) inp aux out)

/-- A request: its completion slot, its slate, the block, its buffers, then the key (R280, R281, R283).
DEDUCED (log 39). -/
def State.millRequest (s : State) (t : Nat) (rd : Fin 32) (va : Nat) : Res :=
  let stop (s : State) (c : Nat) : Res := .done (s.millDone t rd (millStatus c 0 0 false false false))
  match (List.range 4).find? (fun k => ((s.tiller t).slots.toArray.getD k .empty) == MillSlot.empty) with
  | none => stop s St.notPermitted
  | some k =>
    s.data t .load va 64 (fun ps s =>
      s.takeBytes t va ps (fun b s =>
        match s.millSlate t (le b 0 4 % 2 ^ 23) with
        | none => stop s St.notPermitted
        | some id =>
          if va % 64 ≠ 0 || !blockOk b then stop s St.format
          else
            s.millBuffer t .load (le b 16 8) (le b 24 4) (fun i s =>
              s.millBuffer t .load (le b 40 8) (le b 48 4) (fun a s =>
                s.millBuffer t .store (le b 32 8) (le b 28 4) (fun o s =>
                  match i, a, o with
                  | some i, some a, some o =>
                    if (i ++ a).any (fun p => s.frozenAt p.1) then .wait s
                    else match (i ++ a).find? (fun p => s.readError p.1 p.2) with
                    | some p => stop (s.countUe p.1) St.integrity
                    | none =>
                       s.millKey t rd k id b (s.partBytes i) (s.partBytes a)
                      ((o.head?.map Prod.fst).getD 0)
                  | _, _, _ => stop s St.format)))))

/-- MILLCALL (R281): ILLEGAL in ring 0. -/
def execMillcall (t : Nat) (rd rs1 : Fin 32) (s : State) : Out :=
  .next (s.instr t false (fun s =>
    let x := s.tiller t
    let v := (s.gr t rd).toNat
    if x.ring = 0 then s.trap t Ex.illegal
    else if x.progress && decide (2 ^ 63 ≤ v) then s.millResume t rd v
    else (s.millRequest t rd (s.gr t rs1).toNat).inLong t))

/-! ### Completion (R186, R187, R282) -/

/-- A slate's tag leaves a mill. -/
def State.leaveMill (s : State) (tag : Option (Nat × Nat)) : State :=
  match tag with
  | some (id, gen) =>
    if (s.slate id).gen = gen then
      (s.modSlate id (fun x => { x with mills := x.mills - 1 })).settle id
    else s
  | none => s

/-- The operation in completion slot `k` ends: its status word, after its output is written. A slate
whose keys a tamper hit has cleared ends KEY_ABSENT (Table 6.15). -/
def State.millEnd (s : State) (t : Nat) (o : MillOp) (slot : MillSlot) (e : MillEnd) : Word × State :=
  match slot with
  | .running _ id _ out mm key inp aux _ =>
    let mop := mm % 65536
    let mode := mm / 65536
    let k := s.keyAt o.house (refOf key)
    if s.dev.portsClosed ∨ (mop / 256 ≠ 4 ∧ !k.used) then
      let s := if (s.slate id).unclaimed ∧ (s.slate id).work = .tiller t then
          (s.fail id St.keyAbsent 0).cancelWork id else s
      (millStatus St.keyAbsent 0 0 false false false, s)
    else if o.cancelled then (millStatus St.ok 0 0 true false false, s)
    else if e = .retry ∧ millRetries mop then (millStatus St.ok 0 0 false true false, s)
    else
      let r := millRun mop mode k inp aux o.rnd
      let s := s.partWrite [(out, r.out.length)] r.out
      (millStatus St.ok r.out.length r.reason false false r.neg, s)
  | _ => (0, s)

/-- Hand the end of a Tiller's operation to its MILLCALL. DEDUCED (log 39). -/
def State.millReturn (s : State) (t k : Nat) (o : MillOp) (e : MillEnd) : State :=
  let slot := (s.tiller t).slots.toArray.getD k .empty
  match slot with
  | .running q id gen .. =>
    let r := s.millEnd t o slot e
    let s := (r.2.setSlotOf t k (.ready q id gen r.1)).leaveMill o.tag
    match (s.tiller t).stall with
    | .mill j rd =>
      if j = k then
        if s.tillerRuns t then
          ((s.setSlotOf t k .empty).modTiller t (fun x => { x with stall := .none })).millDone t rd r.1
        else s.suspendMill t
      else s
    | _ => s
  | _ => s.leaveMill o.tag

/-- Count a mill's operation, its busy beats and a RETRY (Table 15.5). -/
def State.millMarks (s : State) (pmill : Bool) (n : Nat) (o : MillOp) (e : MillEnd) : State :=
  let u := millUnit pmill n
  let beats := match o.user with
    | .journal _ _ k => if k = 0 then 52600 else 120750
    | .tiller t k =>
      match (s.tiller t).slots.toArray.getD k .empty with
      | .running _ _ _ _ mm _ inp _ _ => millBeats (mm % 65536) (mm / 65536) inp.length
      | _ => 0
  let s := (s.markUnit u 0x0201 1).markUnit u 0x0202 beats
  if e = .retry then s.markUnit u 0x0203 1 else s

/-- The operation in a mill ends (R187): a seal's signature that returns RETRY is issued again. -/
def State.millComplete (s : State) (pmill : Bool) (n : Nat) (o : MillOp) (e : MillEnd) : State :=
  let s := s.millMarks pmill n o e
  match o.user with
  | .journal h no k =>
    if s.dev.portsClosed then s.setMill pmill n none
    else if e = .retry then s
    else (s.setMill pmill n none).sealSigned h no k
  | .tiller t k => (s.setMill pmill n none).millReturn t k o e

/-- MILL_OPERATION_COMPLETE (R186, R187): mill `n` completes its operation; waiting operations take free
mills before and after. -/
def execMillOperationComplete (pmill : Bool) (n : Nat) (e : MillEnd) (s : State) : Out :=
  .next (
    if s.running then
      let s := s.feedMills
      match s.millOp pmill n with
      | some o => (s.millComplete pmill n o e).feedMills
      | none => s
    else s)

end Sys2Proof.Machine
end

