-- ==== Sys2Proof/Machine/KeyOps.lean ====
section
/-! DEFINITION. The key management commands, TR-31 key blocks, the public-key operations and the hashes
(R161 to R180, R189 to R191, Tables 6.8, 6.13 and 6.14). -/

namespace Sys2Proof.Machine

/-! ### Obtaining a command's keys -/

/-- Go on with key handle `i` of a Tabqua command: KEY_ABSENT with the index where it names none, no
effect while its fill must wait. -/
def State.withKey (s : State) (id i : Nat) (f : KeyRef → KeyEnt → State → State) : State :=
  match s.getKey (s.houseOfSlate id) (pkKey (s.pktOf id) i) with
  | .absent s => s.finishFail id St.keyAbsent i
  | .wait => s
  | .ok r k s => f r k s

/-- Go on with a key that must satisfy `ok` and be usable now; a device key is accepted by KEY_INFO and
PUBKEY_READ only (R162, R165, R166). The use of a COUNTED key counts where the work reaches a mill. -/
def State.useKey (s : State) (id i : Nat) (ok : KeyEnt → Bool) (f : KeyRef → KeyEnt → State → State) : State :=
  s.withKey id i (fun r k s =>
    if hKind (pkKey (s.pktOf id) i) = 5 ∨ !ok k ∨ !s.useOk k then s.finishFail id St.keyUsage i
    else f r k s)

/-- A usage with a mode bit. -/
def hasMode (us : List Nat) (b : Nat) (k : KeyEnt) : Bool :=
  us.contains (attrUsage k.attr) && attrBit k.attr b

/-- Word 0 of a packet's own words. -/
def extWord (p : List Byte) (w : Nat) : List Byte := slice p (extOff w 0) 64

/-- ATTR of a key specification (Table 6.9). -/
def specAttr (b : List Byte) : Word := BitVec.ofNat 64 (le b 0 8)

/-- A new key under a specification: its limits count where POLICY and COUNTED are 1. -/
def specKey (b : List Byte) (set : List Nat) (val pub : List Byte) : KeyEnt :=
  let a := specAttr b
  { used := true
    attr := set.foldl attrSet a
    val := val
    pub := pub
    notBefore := if attrPolicy a then le b 8 8 else 0
    notAfter := if attrPolicy a then le b 16 8 else 0
    uses := if attrCounted a then le b 24 8 else 0 }

/-- Place a new key under the specification's TARGET, and answer; NOT_PERMITTED where placement fails
(R177). -/
def State.create (s : State) (id : Nat) (spec : List Byte) (k : KeyEnt) (before : List Byte) (withPub : Bool) :
    State :=
  match s.place (s.houseOfSlate id) k (byteAt spec 32) (le spec 36 4) with
  | (some pl, s) => s.finishOut id (before ++ createdOutput pl k withPub)
  | (none, s) => s.finishFail id St.notPermitted 0

/-! ### KEY_INFO, PUBKEY_READ, RECORD_LOAD -/

/-- KEY_INFO's 32 bytes (Table 6.8). -/
def keyInfo (k : KeyEnt) : List Byte :=
  toBytes k.attr.toNat 8 ++ kcv k ++ toBytes (if attrCounted k.attr then k.uses else 0) 8 ++
  toBytes (if attrPolicy k.attr then k.notAfter else 0) 8

/-- KEY_INFO (R162). -/
def execKeyInfo (id : Nat) (s : State) : Out :=
  .next (s.onTabqua id 0x0201 (fun s => s.withKey id 0 (fun _ k s => s.finishOut id (keyInfo k))))

/-- PUBKEY_READ: KEY0 is asymmetric (Table 6.8). -/
def execPubkeyRead (id : Nat) (s : State) : Out :=
  .next (s.onTabqua id 0x0202 (fun s => s.withKey id 0 (fun _ k s =>
    if isAsym (attrType k.attr) then s.finishOut id k.pub else s.finishFail id St.keyUsage 0)))

/-- A buffer that the host function reads: its bytes, or FORMAT at the offset of its address (R190). -/
def State.withBuf (s : State) (id off n : Nat) (b : HostBuf) (f : List Byte → State) : State :=
  match b with
  | .bytes l => f (slice l 0 n)
  | .error => if n = 0 then f [] else s.finishFail id St.format off

/-- Load a record of a class into its entry (R172). DEDUCED (log 38). -/
def State.loadRecord (s : State) (id : Nat) (asym : Bool) (rec_ : List Byte) : State :=
  let h := s.houseOfSlate id
  let v : Word := BitVec.ofNat 64 (le rec_ 0 8)
  if hHouse v ≠ h ∨ hKind v ≠ (if asym then 4 else 3) ∨ (s.unwrap h rec_).isNone then s.finishNeg id 5 none
  else if s.tableCount h asym ≤ hIndex v then s.finishFail id St.notPermitted 0
  else (s.putRecord h (s.tableEntry h asym (hIndex v)) rec_).finishOk id

/-- RECORD_LOAD (R172): a symmetric record stands in words 0 and 1; an asymmetric one, which no packet can hold,
is read from the host buffer that word 0 names as its IN buffer (Table 6.13; log entry 16).
DESIGN CHOICE (log 16). -/
def State.recordLoad (s : State) (id : Nat) (inp : HostBuf) : State :=
  if pkOwnWords (s.pktOf id) = 1 then s.withBuf id 64 4096 inp (fun b => s.loadRecord id true b)
  else s.loadRecord id false (slice (s.pktOf id) 64 128)

/-- RECORD_LOAD (R172). -/
def execRecordLoad (r : RecordInput) (s : State) : Out :=
  .next (s.onTabqua r.id 0x0203 (fun s => s.recordLoad r.id r.inp))

/-! ### TR-31 (R178 to R180) -/

/-- A key encryption key: usage 0x0B (R179, R180). -/
def kbpkOk (b : Nat) (k : KeyEnt) : Bool := hasMode [0x0B] b k

/-- Two characters as a number: the first in the high byte. -/
def chars (p : List Byte) (o : Nat) : Nat := byteAt p o * 256 + byteAt p (o + 1)

/-- The value of ASCII digits in a base, `none` where one is no digit. -/
def asciiNum (base : Nat) (bs : List Byte) : Option Nat :=
  bs.foldl (fun acc b =>
    let c := b.toNat
    let d := if 0x30 ≤ c ∧ c ≤ 0x39 then some (c - 0x30)
      else if 0x41 ≤ c ∧ c ≤ 0x46 then some (c - 0x37) else none
    match acc, d with
    | some n, some d => if d < base then some (n * base + d) else none
    | _, _ => none) (some 0)

/-- USAGE of a TR-31 usage code (Table 6.4): P0, V1, V2, E0, M6, M3, M7, B0, B1, D0, K0, K1, 71. -/
def tr31Usage (c : Nat) : Option Nat :=
  match c with
  | 0x5030 => some 0x01
  | 0x5631 => some 0x02
  | 0x5632 => some 0x03
  | 0x4530 => some 0x04
  | 0x4D36 => some 0x05
  | 0x4D33 => some 0x06
  | 0x4D37 => some 0x07
  | 0x4230 => some 0x08
  | 0x4231 => some 0x09
  | 0x4430 => some 0x0A
  | 0x4B30 | 0x4B31 => some 0x0B
  | 0x3731 => some 0x0C
  | _ => none

/-- The usage code of a USAGE; usage 0x0B, which has two, goes out as K0. DESIGN CHOICE (log 99). -/
def tr31Code (u : Nat) : Nat :=
  match u with
  | 0x01 => 0x5030 | 0x02 => 0x5631 | 0x03 => 0x5632 | 0x04 => 0x4530 | 0x05 => 0x4D36 | 0x06 => 0x4D33
  | 0x07 => 0x4D37 | 0x08 => 0x4230 | 0x09 => 0x4231 | 0x0A => 0x4430 | 0x0B => 0x4B30 | _ => 0x3731

/-- Mode bits [46:40] of a mode of use, limited to what the usage allows (R178): N grants every mode, X
grants DERIVE, and for usage 0x04 also VERIFY and GENERATE. -/
def tr31Modes (u c : Nat) : Nat :=
  let m := match c with
    | 0x42 => 0b1100011
    | 0x43 => 0b0001100
    | 0x44 => 0b1000010
    | 0x45 => 0b0100001
    | 0x47 => 0b0000100
    | 0x4E => 0b1111111
    | 0x56 => 0b0001000
    | 0x58 => 0b0011100
    | _ => 0
  let m := if c = 0x58 ∧ u ≠ 4 then 0b0010000 else m
  m &&& usageModes u

/-- EXPORT of an exportability character E, S or N. -/
def tr31Export (c : Nat) : Option Nat :=
  match c with
  | 0x45 => some 1
  | 0x53 => some 2
  | 0x4E => some 0
  | _ => none

/-- TYPE of an algorithm A, T or H with a key length. -/
def tr31Type (alg n : Nat) : Option Nat :=
  if alg = 0x41 then (if n = 16 then some 1 else if n = 24 then some 2 else if n = 32 then some 3 else none)
  else if alg = 0x54 then (if n = 16 then some 4 else if n = 24 then some 5 else none)
  else if alg = 0x48 then (if 16 ≤ n ∧ n ≤ 32 then some 6 else none)
  else none

/-- The usage may have the algorithm for some length (Table 6.4). -/
def tr31Fits (u alg : Nat) : Bool :=
  if alg = 0x41 then usageType u 1 else if alg = 0x54 then usageType u 4
  else if alg = 0x48 then usageType u 6 else false

/-- Optional block IDs: KS, IK, BI, KC, KP, TS, LB, PB, KV, HM. -/
def optionalIds : List Nat :=
  [0x4B53, 0x494B, 0x4249, 0x4B43, 0x4B50, 0x5453, 0x4C42, 0x5042, 0x4B56, 0x484D]

/-- Length of the optional block at offset `o`, and of its header: two hexadecimal digits, or, after 00, the
number of bytes whose digits give it (X9.143). -/
def optLen (b : List Byte) (o : Nat) : Option (Nat × Nat) :=
  match asciiNum 16 (slice b (o + 2) 2) with
  | some 0 => (asciiNum 16 (slice b (o + 4) 2)).bind (fun n =>
      (asciiNum 16 (slice b (o + 6) (2 * n))).map (fun len => (len, 6 + 2 * n)))
  | some len => some (len, 4)
  | none => none

/-- The optional blocks from offset `o`: their end and whether HM names SHA-256, or the offset of the one
that fails. -/
def optionals (b : List Byte) : Nat → Nat → Bool → Except Nat (Nat × Bool)
  | 0, o, hm => .ok (o, hm)
  | n + 1, o, hm =>
    let id := chars b o
    match optLen b o with
    | some (len, hd) =>
      if !optionalIds.contains id || decide (len < hd) || decide (b.length < o + len) then .error o
      else if id = 0x484D ∧ slice b (o + hd) (len - hd) ≠ ascii "21" then .error o
      else if !(slice b (o + hd) (len - hd)).all (fun c => 0x20 ≤ c.toNat && c.toNat ≤ 0x7E) then .error o
      else optionals b n (o + len) (hm || id == 0x484D)
    | none => .error o

/-- A parsed header: usage, algorithm, mode bits, KVN, EXPORT, and where the key data begin. -/
structure Tr31 where
  usage : Nat
  alg : Nat
  modes : Nat
  kvn : Nat
  exportable : Nat
  dataAt : Nat
  deriving DecidableEq, Repr

/-- Parse the header of a block of `b.length` bytes (R178, R179 step 3): the offset of the field that
fails, within the block. -/
def parseTr31 (b : List Byte) : Except Nat Tr31 :=
  let alg := byteAt b 7
  if asciiNum 10 (slice b 1 4) ≠ some b.length then .error 1
  else match tr31Usage (chars b 5) with
  | none => .error 5
  | some u =>
    if !tr31Fits u alg then .error 7
    else if tr31Modes u (byteAt b 8) = 0 then .error 8
    else match tr31Export (byteAt b 11), asciiNum 10 (slice b 12 2) with
    | none, _ => .error 11
    | _, none => .error 12
    | some e, some n =>
      match optionals b n 16 false with
      | .error o => .error o
      | .ok (o, hm) =>
        if alg = 0x48 ∧ !hm then .error 12
        else .ok ⟨u, alg, tr31Modes u (byteAt b 8), byteAt b 10 * 256 + byteAt b 9, e, o⟩

/-- ATTR of an imported key. -/
def tr31Attr (x : Tr31) (ty klen : Nat) : Word :=
  BitVec.ofNat 64 (x.usage * 2 ^ 56 + ty * 2 ^ 48 + x.modes * 2 ^ 40 + x.exportable * 2 ^ 38 + x.kvn * 2 ^ 16 +
    (if ty = 6 then klen else 0) * 2 ^ 8)

/-- What opening a block under a KBPK decides (R179 steps 2 to 6): `mill` tells that the work had reached a
mill, which checks the MAC and decrypts. -/
inductive Opened where
  | usage (mill : Bool)
  | format (o : Nat) (mill : Bool)
  | badMac
  | key (k : KeyEnt)
  deriving DecidableEq, Repr

/-- Version letter of a KBPK type: B for TDES, D for AES. DEDUCED (log 38). -/
def versionOf (ty : Nat) : Nat := if isTdes ty then 0x42 else 0x44

/-- Open a key block under a KBPK of type `ty` and strength `str` (R179 steps 2 to 6). -/
def openBlock (ty str : Nat) (kbpk b : List Byte) : Opened :=
  if byteAt b 0 ≠ 0x42 ∧ byteAt b 0 ≠ 0x44 then .format 0 false
  else if byteAt b 0 ≠ versionOf ty then .usage false
  else match parseTr31 b with
  | .error o => .format o false
  | .ok x =>
    let r := Config.tr31Open kbpk b
    if !r.1 then .badMac
    else match tr31Type x.alg r.2.1 with
    | none => .format x.dataAt true
    | some kt =>
      if !usageType x.usage kt then .format x.dataAt true
      else if str < strength kt r.2.1 then .usage true
      else .key { used := true, attr := tr31Attr x kt r.2.1, val := (List.range r.2.1).map r.2.2 }

/-- KEY_IMPORT's output when it ends with NEG = 1: its normal length of zeros (R115, R179). -/
def importZeros (target : Nat) : List Byte := zeros (if target = 1 then 144 else 16)

/-- KEY_IMPORT (R179). DEDUCED (log 38). -/
def State.keyImport (s : State) (id : Nat) : State :=
  s.useKey id 0 (kbpkOk bUnwrap) (fun r k s =>
    let p := s.pktOf id
    let b := slice p 64 (le p 52 2)
    let ty := attrType k.attr
    let used (mill : Bool) : State := if mill then s.countUse r else s
    match openBlock ty (strength ty 0) k.val b with
    | .usage m => (used m).finishFail id St.keyUsage 0
    | .format o m => (used m).finishFail id St.format (64 + o)
    | .badMac => (used true).finishNeg id 5 (some (importZeros (param p 2)))
    | .key key =>
      match (used true).place (s.houseOfSlate id) key (param p 2) (le p 56 4) with
      | (some pl, s) => s.finishOut id (createdOutput pl key false)
      | (none, s) => s.finishFail id St.notPermitted 0)

/-- KEY_IMPORT (R179). -/
def execKeyImport (id : Nat) (s : State) : Out := .next (s.onTabqua id 0x0281 (fun s => s.keyImport id))

/-- An upper-case hexadecimal digit. -/
def hexDigit (n : Nat) : Byte := BitVec.ofNat 8 (if n < 10 then 0x30 + n else 0x37 + n)
/-- Bytes in hexadecimal. -/
def hexBytes (bs : List Byte) : List Byte :=
  (bs.map (fun b => [hexDigit (b.toNat / 16), hexDigit (b.toNat % 16)])).flatten
/-- A number in `n` decimal digits. -/
def decimal (v : Nat) : Nat → List Byte
  | 0 => []
  | n + 1 => decimal (v / 10) n ++ [BitVec.ofNat 8 (0x30 + v % 10)]

/-- Significant bytes of a key check value (R176). -/
def kcvLen (ty : Nat) : Nat := if isTdes ty then 3 else 5
/-- A key check value block KC or KP (R180). -/
def kcvBlock (id : Nat) (k : KeyEnt) : List Byte :=
  let ty := attrType k.attr
  let body := (if isTdes ty then ascii "00" else ascii "01") ++ hexBytes ((kcv k).take (kcvLen ty))
  toBytesBE id 2 ++ hexBytes (toBytes (4 + body.length) 1) ++ body
/-- The block HM of an HMAC key, which names SHA-256; no other key has one (R178). -/
def hmBlock (ty : Nat) : List Byte := if ty = 6 then ascii "HM0621" else []
/-- The padding block PB that fills a header of `n` bytes to whole blocks of `m`, empty where none is
needed. -/
def padBlock (n m : Nat) : List Byte :=
  let r := (m - n % m) % m
  let r := if r = 0 then 0 else if r < 4 then r + m else r
  if r = 0 then [] else ascii "PB" ++ hexBytes (toBytes r 1) ++ List.replicate (r - 4) 0x30

/-- Mode of use of a key's modes. -/
def modeLetter (u m : Nat) : Nat :=
  if m = usageModes u ∧ u ≠ 4 ∧ m ≠ 0b0010000 ∧ u ≠ 0x0B ∧ m ≠ 0b0000011 ∧ m ≠ 0b0001100 then 0x4E
  else if m.testBit 4 then 0x58
  else if m &&& 0b0001100 = 0b0001100 then 0x43
  else if m.testBit 2 then 0x47
  else if m.testBit 3 then 0x56
  else if m &&& 0b0100001 ≠ 0 ∧ m &&& 0b1000010 ≠ 0 then 0x42
  else if m &&& 0b1000010 ≠ 0 then 0x44
  else if m &&& 0b0100001 ≠ 0 then 0x45
  else 0x4E

/-- Algorithm letter of a symmetric type. -/
def algLetter (ty : Nat) : Nat := if isAes ty then 0x41 else if isTdes ty then 0x54 else 0x48

/-- The block that KEY_EXPORT builds (R180). -/
def exportBlock (kbpk k : KeyEnt) : List Byte :=
  let ty := attrType k.attr
  let u := attrUsage k.attr
  let m := if isTdes (attrType kbpk.attr) then 8 else 16
  let opt := hmBlock ty ++ kcvBlock 0x4B43 k ++ kcvBlock 0x4B50 kbpk
  let pad := padBlock (16 + opt.length) m
  let tail := Config.tr31Tail (versionOf (attrType kbpk.attr)) k.val.length
  let n := 16 + opt.length + pad.length + tail
  let head := [BitVec.ofNat 8 (versionOf (attrType kbpk.attr))] ++ decimal n 4 ++ toBytesBE (tr31Code u) 2 ++
    [BitVec.ofNat 8 (algLetter ty), BitVec.ofNat 8 (modeLetter u (attrModes k.attr))] ++
    toBytes (attrKvn k.attr) 2 ++ [if attrExport k.attr = 1 then 0x45 else 0x53] ++
    decimal ((if pad.isEmpty then 2 else 3) + (if ty = 6 then 1 else 0)) 2 ++ ascii "00" ++ opt ++ pad
  head ++ (List.range tail).map (Config.tr31Seal kbpk.val head k.val)

/-- KEY_EXPORT (R180). DEDUCED (log 38). An export is no use of the exported key: its POLICY window and USES are
not looked at (R166). DEDUCED (log 38). DESIGN CHOICE (log 99). -/
def State.keyExport (s : State) (id : Nat) : State :=
  s.useKey id 0 (kbpkOk bWrap) (fun r kb s =>
    s.withKey id 1 (fun _ k s =>
      let ty := attrType kb.attr
      let e := attrExport k.attr
      if hKind (pkKey (s.pktOf id) 1) = 5 ∨ isAsym (attrType k.attr) ∨ e = 0 ∨ e = 3 then
        s.finishFail id St.keyUsage 1
      else if param (s.pktOf id) 0 ≠ versionOf ty ∨
          strength ty 0 < strength (attrType k.attr) (attrKlen k.attr) then s.finishFail id St.keyUsage 0
      else (s.countUse r).finishOut id (exportBlock kb k)))

/-- KEY_EXPORT (R180). -/
def execKeyExport (id : Nat) (s : State) : Out := .next (s.onTabqua id 0x0282 (fun s => s.keyExport id))

/-! ### Creating and deleting keys -/

/-- Random bytes that generating a key draws: RSA draws for each prime-candidate block (R187). -/
def genBytes (ty klen blocks : Nat) : Nat :=
  if isAsym ty then (if isRsa ty then max 1 blocks else 1) * privLen ty else symLen ty klen

/-- The public key of a secret form. -/
def pubOf (ty : Nat) (val : List Byte) : List Byte :=
  (List.range (pubLen ty)).map (Config.pkOut ty val [] [] 0)

/-- KEY_GENERATE (R177, R187): the secret is drawn from the House's DRBG; work that finds the buffer empty
while a reseed waits has no effect yet (R194). -/
def State.keyGenerate (s : State) (id blocks : Nat) : State :=
  let spec := extWord (s.pktOf id) 0
  let h := s.houseOfSlate id
  let ty := attrType (specAttr spec)
  let n := genBytes ty (attrKlen (specAttr spec)) blocks
  if !s.drbgReady h n then s
  else
    let d := s.draw h n
    let val := if isAsym ty then d.1.drop (n - privLen ty) else d.1
    let pub := if isAsym ty then pubOf ty val else []
    d.2.create id spec (specKey spec [bGenerated] val pub) [] true

/-- KEY_GENERATE (R177). -/
def execKeyGenerate (id blocks : Nat) (s : State) : Out :=
  .next (s.onTabqua id 0x0283 (fun s => s.keyGenerate id blocks))

/-- PUBKEY_LOAD (R177). -/
def State.pubkeyLoad (s : State) (id : Nat) (pk : HostBuf) : State :=
  let p := s.pktOf id
  let spec := extWord p 0
  s.withBuf id (extOff 1 24) (le p (extOff 1 32) 4) pk (fun b =>
    if pkValid (attrType (specAttr spec)) b then s.create id spec (specKey spec [] [] b) [] false
    else s.finishNeg id 8 (some (zeros (if byteAt spec 32 = 1 then 16 + 4096 else 16))))

/-- PUBKEY_LOAD (R177). -/
def execPubkeyLoad (id : Nat) (pk : HostBuf) (s : State) : Out :=
  .next (s.onTabqua id 0x0284 (fun s => s.pubkeyLoad id pk))

/-- Mark a key so that its handle no longer resolves (R175). -/
def State.markDeleting (s : State) (h : Nat) (v : Word) : State :=
  match hKind v with
  | 1 => s.setSlot false (slotNo false h (hIndex v))
      { s.slot false (slotNo false h (hIndex v)) with deleting := true }
  | 2 => s.setSlot true (slotNo true h (hIndex v)) { s.slot true (slotNo true h (hIndex v)) with deleting := true }
  | _ => s.cacheMark (fun e => e.handle == v)

/-- KEY_DELETE (R175): the claim is taken, new resolutions fail, and the reply waits until no slate holds
the key. -/
def State.keyDelete (s : State) (id : Nat) : State :=
  s.withKey id 0 (fun _ _ s =>
    let h := s.houseOfSlate id
    let v := pkKey (s.pktOf id) 0
    if hKind v = 5 then s.finishFail id St.keyUsage 0
    else
      let s := (s.markDeleting h v).modSlate id (fun x => { x with waiting := true })
      s.finishOk id)

/-- KEY_DELETE (R175). DEDUCED (log 13). -/
def execKeyDelete (id : Nat) (s : State) : Out := .next (s.onTabqua id 0x0285 (fun s => s.keyDelete id))

/-! ### Family 0x08 (R189, R190) -/

/-- The operand word of Table 6.13. -/
def opWord (p : List Byte) : List Byte := extWord p 0
/-- ALG. -/
def opAlg (p : List Byte) : Nat := byteAt (opWord p) 36
/-- INPUT, SCHEME and CTX as the bytes that the algorithm takes with its message. -/
def opForm (p : List Byte) : List Byte :=
  let w := opWord p
  [w.getD 37 0, w.getD 39 0] ++ slice w 40 (byteAt w 38)

/-- KEY0's TYPE must equal ALG (R189). -/
def opKey (p : List Byte) (us : List Nat) (b : Nat) (k : KeyEnt) : Bool :=
  hasMode us b k && attrType k.attr == opAlg p

/-- Random bytes of an operation: none for Ed25519 and RSA PKCS #1 v1.5. -/
def nonceLen (p : List Byte) : Nat :=
  if opAlg p = 0x13 ∨ (isRsa (opAlg p) ∧ byteAt (opWord p) 39 = 2) then 0 else 32

/-- Go on with the three buffers, read in the order IN, AUX, PK (R190). -/
def State.withBufs (s : State) (id : Nat) (inp aux pk : HostBuf) (pkLen : Nat)
    (f : List Byte → List Byte → List Byte → State) : State :=
  let p := s.pktOf id
  s.withBuf id 64 (le p 72 4) inp (fun i =>
    s.withBuf id 80 (le p 76 4) aux (fun a =>
      s.withBuf id 88 pkLen pk (fun k => f i a k)))

/-- SIGN (R189). -/
def State.sign (s : State) (id : Nat) (inp aux pk : HostBuf) : State :=
  let p := s.pktOf id
  let h := s.houseOfSlate id
  if !s.drbgReady h (nonceLen p) then s
  else
    s.useKey id 0 (opKey p [0x10] bGenerate) (fun r k s =>
      s.withBufs id inp aux pk 0 (fun m _ _ =>
        let d := (s.countUse r).draw h (nonceLen p)
        d.2.finishOut id ((List.range (sigLen (opAlg p))).map
          (Config.pkOut (opAlg p) k.val (opForm p ++ m) d.1 1))))

/-- SIGN (R189). -/
def execSign (id : Nat) (inp aux pk : HostBuf) (s : State) : Out :=
  .next (s.onTabqua id 0x0801 (fun s => s.sign id inp aux pk))

/-- Go on with the public key of KEY0, or of the PK buffer where KEY0 is 0. -/
def State.withPublic (s : State) (id : Nat) (us : List Nat) (b : Nat) (inp aux pk : HostBuf)
    (f : List Byte → List Byte → List Byte → State → State) : State :=
  let p := s.pktOf id
  if pkKey p 0 = 0 then s.withBufs id inp aux pk (le p 96 4) (fun m a k => f m a k s)
  else s.useKey id 0 (opKey p us b) (fun r k s =>
    s.withBufs id inp aux pk 0 (fun m a _ => f m a k.pub (s.countUse r)))

/-- VERIFY (R189): a signature that does not verify is a negative with reason 0x07. -/
def State.verify (s : State) (id : Nat) (inp aux pk : HostBuf) : State :=
  let p := s.pktOf id
  s.withPublic id [0x10, 0x11] bVerify inp aux pk (fun m sig pub s =>
    if !pkValid (opAlg p) pub then s.finishNeg id 8 none
    else if Config.pkVerify (opAlg p) pub m sig (opForm p) then s.finishOk id
    else s.finishNeg id 7 none)

/-- VERIFY (R189). -/
def execVerify (id : Nat) (inp aux pk : HostBuf) (s : State) : Out :=
  .next (s.onTabqua id 0x0802 (fun s => s.verify id inp aux pk))

/-- Bytes of a created key's output beyond what precedes it: HANDLE, KCV and a symmetric record. -/
def createdLen (spec : List Byte) : Nat := if byteAt spec 32 = 1 then 144 else 16

/-- ENCAPSULATE (R189): the shared secret becomes a 32-byte key. -/
def State.encapsulate (s : State) (id : Nat) (inp aux pk : HostBuf) : State :=
  let p := s.pktOf id
  let h := s.houseOfSlate id
  let spec := extWord p 1
  if !s.drbgReady h 32 then s
  else
    s.withPublic id [0x12, 0x13] bEncrypt inp aux pk (fun _ _ pub s =>
      if !pkValid (opAlg p) pub then
        s.finishNeg id 8 (some (zeros (kemLen (opAlg p) + createdLen spec)))
      else
        let d := s.draw h 32
        let ct := (List.range (kemLen (opAlg p))).map (Config.pkOut (opAlg p) pub [] d.1 2)
        let ss := (List.range 32).map (Config.pkOut (opAlg p) pub [] d.1 3)
        d.2.create id spec (specKey spec [] ss []) ct false)

/-- ENCAPSULATE (R189). -/
def execEncapsulate (id : Nat) (inp aux pk : HostBuf) (s : State) : Out :=
  .next (s.onTabqua id 0x0803 (fun s => s.encapsulate id inp aux pk))

/-- DECAPSULATE (R189): implicit rejection, so it never reports a negative. -/
def State.decapsulate (s : State) (id : Nat) (inp aux pk : HostBuf) : State :=
  let p := s.pktOf id
  let spec := extWord p 1
  s.useKey id 0 (opKey p [0x12] bDecrypt) (fun r k s =>
    s.withBufs id inp aux pk 0 (fun _ ct _ =>
      let s := s.countUse r
      let ss := (List.range 32).map (Config.pkOut (opAlg p) k.val ct [] 4)
      s.create id spec (specKey spec [] ss []) [] false))

/-- DECAPSULATE (R189). -/
def execDecapsulate (id : Nat) (inp aux pk : HostBuf) (s : State) : Out :=
  .next (s.onTabqua id 0x0804 (fun s => s.decapsulate id inp aux pk))

/-- ECDH (R189): the secret passes through the one-step KDF with the AUX bytes beyond the peer's key as
fixed info. -/
def State.ecdh (s : State) (id : Nat) (inp aux pk : HostBuf) : State :=
  let p := s.pktOf id
  let spec := extWord p 1
  let a := specAttr spec
  s.useKey id 0 (opKey p [0x14] bDerive) (fun r k s =>
    s.withBufs id inp aux pk 0 (fun _ x _ =>
      let s := s.countUse r
      if !pkValid (opAlg p) (x.take (pubLen (opAlg p))) then
        s.finishNeg id 8 (some (zeros (createdLen spec)))
      else
        let z := (List.range (privLen (opAlg p))).map (Config.pkOut (opAlg p) k.val (x.take (pubLen (opAlg p))) [] 5)
        let v := slice (oneStep sha256b z (x.drop (pubLen (opAlg p)))) 0 (symLen (attrType a) (attrKlen a))
        s.create id spec (specKey spec [] v []) [] false))

/-- ECDH (R189). -/
def execEcdh (id : Nat) (inp aux pk : HostBuf) (s : State) : Out :=
  .next (s.onTabqua id 0x0805 (fun s => s.ecdh id inp aux pk))

/-! ### Hashes (R191) -/

/-- The bytes that a hash command covers. -/
def hashInput (p : List Byte) : List Byte := slice p 64 (le p 52 2)

/-- SHA384 (R191). -/
def execSha384 (id : Nat) (s : State) : Out :=
  .next (s.onTabqua id 0x0902 (fun s => s.finishOut id (hashOf 2 (hashInput (s.pktOf id)))))
/-- SHA512 (R191). -/
def execSha512 (id : Nat) (s : State) : Out :=
  .next (s.onTabqua id 0x0903 (fun s => s.finishOut id (hashOf 3 (hashInput (s.pktOf id)))))
/-- SHA3_256 (R191). -/
def execSha3256 (id : Nat) (s : State) : Out :=
  .next (s.onTabqua id 0x0904 (fun s => s.finishOut id (hashOf 4 (hashInput (s.pktOf id)))))
/-- SHA3_512 (R191). -/
def execSha3512 (id : Nat) (s : State) : Out :=
  .next (s.onTabqua id 0x0905 (fun s => s.finishOut id (hashOf 5 (hashInput (s.pktOf id)))))
/-- SHAKE256 (R191): PARAM byte 2 is the output length. -/
def execShake256 (id : Nat) (s : State) : Out :=
  .next (s.onTabqua id 0x0906 (fun s =>
    s.finishOut id ((List.range (param (s.pktOf id) 2)).map (Config.shake256 (hashInput (s.pktOf id))))))

end Sys2Proof.Machine
end

