-- ==== Sys2Proof/Machine/Cards.lean ====
section
/-! DEFINITION. Custodian cards, component sessions, the owner keys, entropy sources, tamper and
zeroisation, and the seals of slots (R168, R169, R175, R181 to R184, R192 to R197, R235, R450, Tables 6.8
and 6.15). -/

namespace Sys2Proof.Machine

/-! ### Component sessions (R184) -/

/-- The component session of House `h`. -/
def State.session (s : State) (h : Nat) : Option CompSession := (s.house h).comp
/-- Open, change or end it. -/
def State.setSession (s : State) (h : Nat) (c : Option CompSession) : State :=
  s.modHouse h (fun x => { x with comp := c })

/-- COMP_BEGIN (R184): a House holds one session at a time. -/
def State.compBegin (s : State) (id : Nat) : State :=
  let h := s.houseOfSlate id
  let p := s.pktOf id
  if (s.session h).isSome then s.finishFail id St.notPermitted 0
  else (s.finishOk id).setSession h (some ⟨extWord p 0, param p 0, 0, [], s.uptime⟩)

/-- COMP_BEGIN (R184). -/
def execCompBegin (id : Nat) (s : State) : Out := .next (s.onTabqua id 0x0286 (fun s => s.compBegin id))

/-- The exchange of a COMP_ENTER ends without a component: its reason, with the status word (R182).
DESIGN CHOICE (log 42). -/
def State.cardEnds (s : State) (id sw reason : Nat) : State :=
  s.finishNeg id (sw % 65536 * 65536 + reason) (some (zeros 8))

/-- The card refuses (R182): reason 0x09. DESIGN CHOICE (log 42). -/
def State.cardRefused (s : State) (id sw : Nat) : State := s.cardEnds id sw 9

/-- Random bytes of an exchange: the ephemeral P-384 key and the nonce (Table 6.10). -/
def exchangeRnd : Nat := 80

/-- An exchange with fresh random bytes; the session number is a free value (log entry 42). -/
def newExchange (slate : Option (Nat × Nat)) (rnd : List Byte) (session : Word) : Exchange :=
  { slate := slate, eph := rnd.take 48, nonce := rnd.drop 48, session := session.toNat % 2 ^ 32 }

/-- The part's ephemeral public key. -/
def Exchange.pub (x : Exchange) : List Byte := (List.range (pubLen 0x11)).map (Config.pkOut 0x11 x.eph [] [] 0)

/-- The device serial as bytes. -/
def serialBytes : List Byte := toBytes Config.devSerial.toNat 8

/-- The command APDU of an exchange's step (Table 6.10): its header, and what goes to the card. -/
def Exchange.command (x : Exchange) : List Byte :=
  match x.at_ with
  | .select => [0x00, 0xA4, 0x04, 0x00] ++ toBytesBE 0xF04252584B435553 8
  | .cert n => [0x80, 0x10, BitVec.ofNat 8 n, 0x00]
  | .agree => [0x80, 0x12, 0x00, 0x00] ++ x.pub ++ x.nonce ++ serialBytes
  | .component => [0x80, 0x14, 0x00, 0x00] ++ toBytes x.session 4

/-- Start an exchange on interface `k`: SELECT goes to the card. DESIGN CHOICE (log 42). -/
def State.beginExchange (s : State) (k : Nat) (x : Exchange) : State :=
  (s.modCard k (fun c => { c with exchange := some x })).post (.apdu k x.command)

/-- COMP_ENTER (R182, R184): it waits for a busy interface, and for its random bytes while the House's DRBG is
dry (R194); an interface without a card ends it with a free status word (log entry 42). -/
def State.compEnter (s : State) (id : Nat) : State :=
  let h := s.houseOfSlate id
  let k := param (s.pktOf id) 0
  match s.session h with
  | none => s.finishFail id St.notPermitted 0
  | some c =>
    if c.count ≤ c.cards.length then s.finishFail id St.notPermitted 0
    else if (s.card k).exchange.isSome then s
    else if !(s.card k).present then let w := s.freshWord; w.2.cardRefused id w.1.toNat
    else if !s.drbgReady h exchangeRnd then s
    else
      let d := s.draw h exchangeRnd
      let w := d.2.freshWord
      w.2.beginExchange k (newExchange (some (id, (s.slate id).gen)) d.1 w.1)

/-- COMP_ENTER (R184). -/
def execCompEnter (id : Nat) (s : State) : Out := .next (s.onTabqua id 0x0287 (fun s => s.compEnter id))

/-- The key that a session forms: the first bytes of the XOR of its components, with DUAL set (R184). -/
def CompSession.key (c : CompSession) (acc : BitVec 256) : KeyEnt :=
  let a := specAttr c.spec
  specKey c.spec [bDual] (slice (toBytesBE acc.toNat 32) 0 (symLen (attrType a) (attrKlen a))) []

/-- COMP_COMPLETE (R184): the session ends once its key is placed. -/
def State.compComplete (s : State) (id : Nat) : State :=
  let h := s.houseOfSlate id
  match s.session h with
  | none => s.finishFail id St.notPermitted 0
  | some c =>
    if c.cards.length ≠ c.count then s.finishFail id St.notPermitted 0
    else
      let k := c.key c.acc
      match s.place h k (byteAt c.spec 32) (le c.spec 36 4) with
      | (some pl, s) => (s.finishOut id (createdOutput pl k false)).setSession h none
      | (none, s) => s.finishFail id St.notPermitted 0

/-- COMP_COMPLETE (R184). -/
def execCompComplete (id : Nat) (s : State) : Out := .next (s.onTabqua id 0x0288 (fun s => s.compComplete id))

/-- COMP_ABORT (R184): it ends the House's session. -/
def execCompAbort (id : Nat) (s : State) : Out :=
  .next (s.onTabqua id 0x0289 (fun s => (s.finishOk id).setSession (s.houseOfSlate id) none))

/-- 600 s in ns (R183, R184). -/
def sixHundred : Nat := 600 * second

/-- COMP_SESSION_LAPSE (R184). -/
def execCompSessionLapse (h : Nat) (s : State) : Out :=
  .next (
    match s.session h with
    | some c => if c.since + sixHundred ≤ s.uptime then s.setSession h none else s
    | none => s)

/-! ### Card exchanges (R182, R450) -/

/-- What a completed exchange gives: the card's serial and custodian ID, the hash of its root's public key, and
the component. -/
structure CardGot where
  serial : List Byte
  custodian : List Byte
  root : BitVec 384
  component : BitVec 256
  deriving DecidableEq, Repr

/-- Where a response leaves an exchange: at its next command, refused with a reason, or complete. -/
inductive CardNext where
  | next (x : Exchange)
  | refused (reason : Nat)
  | got (g : CardGot)
  deriving DecidableEq, Repr

/-- CUST_ROOT of a root's public key: its SHA-384 hash. -/
def rootHash (key : List Byte) : BitVec 384 := Config.sha384 key

/-- A certificate chains to CUST_ROOT: its root is the one recorded, or none is, and the root's signature
verifies. -/
def certOk (root : Option (BitVec 384)) (c : CardCert) : Bool :=
  root.all (· == rootHash c.root) && Config.pkVerify 0x11 c.root c.body c.sig []

/-- What the card signs in AGREE: both ephemeral keys, the nonce and the device serial. -/
def Exchange.agreed (x : Exchange) (peer : List Byte) : List Byte := x.pub ++ peer ++ x.nonce ++ serialBytes

/-- The AES-256 key of a component: the one-step KDF with SHA-384 of the ECDH secret (R182). -/
def Exchange.key (x : Exchange) (c : CardCert) : List Byte :=
  let z := (List.range 48).map (Config.pkOut 0x11 x.eph x.peer [] 5)
  (oneStep sha384b z (ascii "KT8400 component" ++ serialBytes ++ c.serial ++ x.nonce)).take 32

/-- Open a GET COMPONENT response: IV, encrypted component and tag. A tag that does not verify refuses it with
reason 0x05 (R191). DESIGN CHOICE (log 42). -/
def Exchange.opened (x : Exchange) (c : CardCert) (data : List Byte) : CardNext :=
  let r := Config.gcmOpen (x.key c) (slice data 0 12) [] (slice data 12 48)
  if r.1 then
    .got ⟨c.serial, c.custodian, rootHash c.root, BitVec.ofNat 256 (ofBytesBE ((List.range 32).map r.2))⟩
  else .refused 5

/-- A response advances an exchange (R182, Table 6.10): a status word other than 0x9000, a certificate that does
not chain to CUST_ROOT, or a card signature that fails ends it with reason 0x09. -/
def Exchange.advance (x : Exchange) (root : Option (BitVec 384)) (r : CardReply) : CardNext :=
  if r.sw ≠ 0x9000 then .refused 9
  else
    match x.at_, Config.cardCert x.cert with
    | .select, _ => .next { x with at_ := .cert 0 }
    | .cert n, _ =>
      let b := x.cert ++ r.data
      match Config.cardCert b with
      | none => if n < 255 then .next { x with cert := b, at_ := .cert (n + 1) } else .refused 9
      | some c => if certOk root c then .next { x with cert := b, at_ := .agree } else .refused 9
    | .agree, some c =>
      let peer := slice r.data 0 97
      if Config.pkVerify 0x11 c.key (x.agreed peer) (r.data.drop 97) [] then
        .next { x with peer := peer, at_ := .component }
      else .refused 9
    | .component, some c => x.opened c r.data
    | _, none => .refused 9

/-- Set CUST_ROOT, which the boot flash keeps. -/
def State.setRoot (s : State) (v : BitVec 384) : State :=
  { s with dev := { s.dev with custRoot := some v }
           flash := { s.flash with dev := { s.flash.dev with custRoot := some v } } }

/-- While CUST_ROOT is empty, the root that the first card presents is recorded. DESIGN CHOICE (log 42). -/
def State.recordRoot (s : State) (g : CardGot) : State :=
  if s.dev.custRoot.isNone then s.setRoot g.root else s

/-- The card's serial and custodian ID are new in the session. -/
def CompSession.fresh (c : CompSession) (g : CardGot) : Bool :=
  c.cards.all (fun e => e.1 != g.serial && e.2 != g.custodian)

/-- The slate whose exchange runs on interface `k`, while Tabqua still runs its COMP_ENTER. -/
def State.exchangeSlate (s : State) (k : Nat) : Option Nat :=
  match (s.card k).exchange.bind (·.slate) with
  | some (id, gen) => if (s.slate id).gen = gen ∧ s.atTabqua id 0x0287 then some id else none
  | none => none

/-- The interface is free again. DESIGN CHOICE (log 42). -/
def State.endExchange (s : State) (k : Nat) : State := s.modCard k (fun x => { x with exchange := none })

/-- A component has arrived for slate `id`: its KCV is the output; a card used before in the session fails
(R184). -/
def State.takeComponent (s : State) (id : Nat) (g : CardGot) : State :=
  let h := s.houseOfSlate id
  match s.session h with
  | none => s.finishFail id St.notPermitted 0
  | some c =>
    if !c.fresh g then s.cardRefused id 0x9000
    else
      let s := (s.recordRoot g).setSession h
        (some { c with acc := c.acc ^^^ g.component, cards := (g.serial, g.custodian) :: c.cards })
      s.finishOut id (kcv (c.key g.component))

/-- The response of a card advances the exchange of slate `id`. -/
def State.cardAnswer (s : State) (k id : Nat) (x : Exchange) (r : CardReply) : State :=
  match x.advance s.dev.custRoot r with
  | .next y => s.beginExchange k y
  | .refused n => (s.endExchange k).cardEnds id r.sw.toNat n
  | .got g => (s.endExchange k).takeComponent id g

/-- CARD_APDU_RESPONSE (R182): the response to the command that the exchange sent last. An exchange whose slate
has gone ends with it. DESIGN CHOICE (log 42). -/
def execCardApduResponse (k : Fin 2) (r : CardReply) (s : State) : Out :=
  .next (
    match (s.card k).exchange, s.exchangeSlate k with
    | some x, some id => s.cardAnswer k id x r
    | _, _ => s.endExchange k)

/-- CARD_DETECT (R450): a card removed during an exchange ends that exchange as in R182. -/
def execCardDetect (k : Fin 2) (present : Bool) (s : State) : Out :=
  .next (
    let t := s.modCard k (fun x => { x with present := present })
    if present then t
    else
      match s.exchangeSlate k with
      | some id => let w := (t.endExchange k).freshWord; w.2.cardRefused id w.1.toNat
      | none => t.endExchange k)

/-! ### The owner keys (R167, R182, R183) -/

/-- A key derived from the owner master (Table 6.6, R307). -/
def ownerKdf (m : BitVec 256) (label : String) : BitVec 256 := kdf (toBytesBE m.toNat 32) (ascii label) []

/-- The part may establish the owner keys: OWNER_STATE is ABSENT, or a rekey was accepted within 600 s.
DEDUCED (log 41). -/
def State.mayEstablish (s : State) : Bool :=
  s.dev.ownerMaster.isNone || s.rekeyAt.any (fun t => decide (s.uptime < t + sixHundred))

/-- Seal the device keys to the boot flash. -/
def State.sealDevice (s : State) : State :=
  { s with flash := { s.flash with dev := { s.dev with vshare := none, portsClosed := false } } }

/-- Establish the owner keys from a master: OCK, OKEK and the pass key are derived and sealed, the owner
counter and its sealed value are 0, and OWNER_STATE is PRESENT (R183). -/
def State.establish (s : State) (m : BitVec 256) : State :=
  let s := { s with
    dev := { s.dev with
      ownerMaster := some m
      ock := some (ownerKdf m "OCK")
      okek := some (ownerKdf m "OKEK")
      opk := some (ownerKdf m "OPK") }
    ownerCtr := (0, 0)
    rekeyAt := none }
  let s := s.sealDevice
  { s with flash := { s.flash with ownerCtr := 0 } }

/-- Run an exchange of the device's own on interface `k` against the card's responses, in order: what it gives,
and the commands that went to the card. -/
def State.runCard (s : State) (k : Nat) (x : Exchange) : List CardReply → Option CardGot × State
  | [] => (none, s)
  | r :: l =>
    match x.advance s.dev.custRoot r with
    | .next y => (s.post (.apdu k y.command)).runCard k y l
    | .refused _ => (none, s)
    | .got g => (some g, s)

/-- An exchange for the owner keys, with random bytes from the entropy sources. -/
def State.ownerCard (s : State) (k : Nat) (l : List CardReply) : Option CardGot × State :=
  let e := s.entropyBytes exchangeRnd
  let w := e.2.freshWord
  let x := newExchange none e.1 w.1
  (w.2.post (.apdu k x.command)).runCard k x l

/-- Both exchanges have run: two distinct cards give the owner master (R183). -/
def State.ownerMaster (s : State) (a b : CardGot) : State :=
  if a.serial != b.serial && a.custodian != b.custodian then
    (s.recordRoot a).establish (a.component ^^^ b.component)
  else s

/-- The part may run the exchanges for the owner keys: both interfaces hold a card and are idle. -/
def State.cardsReady (s : State) : Bool :=
  let idle (k : Nat) : Bool := (s.card k).present && (s.card k).exchange.isNone
  s.serving && s.dev.vshare.isSome && s.mayEstablish && idle 0 && idle 1

/-- OWNER_KEYS_ESTABLISH (R183): an exchange with each interface, once both hold cards; the second one is held
to the root that the first records. A failed exchange sets no key. DESIGN CHOICE (log 42). -/
def execOwnerKeysEstablish (a b : List CardReply) (s : State) : Out :=
  .next (
    if s.cardsReady then
      match s.ownerCard 0 a with
      | (some x, s) =>
        match (s.recordRoot x).ownerCard 1 b with
        | (some y, s) => s.ownerMaster x y
        | (none, s) => s
      | (none, s) => s
    else s)

/-- OWNER_REKEY_WINDOW_END (R183). -/
def execOwnerRekeyWindowEnd (s : State) : Out :=
  .next (
    match s.rekeyAt with
    | some t => if t + sixHundred ≤ s.uptime then { s with rekeyAt := none } else s
    | none => s)

/-- OWNER_REKEY (R183). -/
def execOwnerRekey (id : Nat) (s : State) : Out :=
  .next (s.onTabqua id 0x02A0 (fun s => { s.finishOk id with rekeyAt := some s.uptime }))

/-- CUST_ROOT_SET (R182): the 48 bytes of word 0 (log entry 16). DESIGN CHOICE (log 16). -/
def execCustRootSet (id : Nat) (s : State) : Out :=
  .next (s.onTabqua id 0x02A1 (fun s =>
    (s.finishOk id).setRoot (BitVec.ofNat 384 (ofBytesBE (slice (extWord (s.pktOf id) 0) 0 48)))))

/-! ### Clearing a House's keys (R175, R193, R197) -/

/-- No record of House `h` resolves any more; slates that resolved one keep its copy (R108, R175). -/
def State.dropRecords (s : State) (h : Nat) : State :=
  (s.cacheMark (fun e => hHouse e.handle == h)).purgeCache h

/-- Increase HSK_EPOCH_h and reseed the House's DRBG (R175, R193). -/
def State.hskRoll (s : State) (h : Nat) : State :=
  (((s.modHouse h (fun x => { x with hskEpoch := x.hskEpoch + 1 })).dropRecords h).reseedDue h).drbgRefill h

/-- HSK_ROLL (R175). -/
def execHskRoll (id : Nat) (s : State) : Out :=
  .next (s.onTabqua id 0x028E (fun s => (s.finishOk id).hskRoll (s.houseOfSlate id)))

/-- Empty the key tables of House `h` (R172). -/
def State.emptyTables (s : State) (h : Nat) : State :=
  (s.zeroRange (s.tableEntry h false 0) (128 * s.tableCount h false)).zeroRange (s.tableEntry h true 0)
    (4096 * s.tableCount h true)

/-- Clear the key cache of House `h` at once. -/
def State.emptyCache (s : State) (h : Nat) : State :=
  s.keepCache (fun e => hHouse e.handle != h)

/-- Clear every slot that satisfies `f`. -/
def State.clearSlots (s : State) (f : KeyEnt → Bool) : State :=
  let s := ((s.symSlots.filter (fun (e : Nat × KeyEnt) => e.2.used && f e.2)).map (·.1)).foldl
    (fun (s : State) n => s.clearSlot false n) s
  ((s.asymSlots.filter (fun (e : Nat × KeyEnt) => e.2.used && f e.2)).map (·.1)).foldl
    (fun (s : State) n => s.clearSlot true n) s

/-- HOUSE_ZEROISE's effect on House `h` (R197). -/
def State.zeroiseHouse (s : State) (h : Nat) : State :=
  (((s.clearSlots (fun k => k.house == h)).emptyCache h).emptyTables h).hskRoll h

/-- HOUSE_ZEROISE (R197). -/
def execHouseZeroise (id : Nat) (s : State) : Out :=
  .next (s.onTabqua id 0x028F (fun s => (s.finishOk id).zeroiseHouse (s.houseOfSlate id)))

/-! ### Tamper (R195, R196, R235, Table 6.15) -/

/-- The inline sealing keys of DRAM are cleared or drawn anew: what DRAM held can no longer be read, and
every byte listed there is a free value (R214, R235; log entry 43). DESIGN CHOICE (log 43). -/
def State.loseDram (s : State) : State :=
  let cells := s.mem.filter (fun c => c.1 < 0x008000000000)
  let mem := cells.foldl (fun (m : List Host.Cell) c =>
    Memory.setByte m c.1 ((Config.freeWord (s.picks + c.1)).setWidth 8)) s.mem
  { s with mem := mem, picks := s.picks + 2 ^ 39 }

/-- A SEAL record's event. -/
def Event.isSeal : Event → Bool
  | .sealed _ _ _ => true
  | _ => false

/-- The journal's part of a tamper hit (R235): a TAMPER record in every House in SERVICE, and no pending or
further seal. -/
def State.journalTamper (s : State) (hit : Nat) : State :=
  let sealing (o : MillOp) : Bool := match o.user with
    | .journal _ _ _ => true
    | _ => false
  let s := { s with millQ := s.millQ.filter (fun e => !sealing e.2) }
  (List.range 4).foldl (fun (s : State) h =>
    let s := s.modJ h (fun j => { j with
      seals := [], noSeals := true, events := j.events.filter (fun e => !e.2.isSeal) })
    if s.inService h then s.recordEvent h (.tamper hit) else s) s

/-- The key store of Table 6.15 is cleared: VSHARE, the device key area, the inline sealing keys, the DRBG
states, every slot and every key-cache entry. Keys in the fuse root's seal stay. DEDUCED (log 46). -/
def State.clearKeys (s : State) : State :=
  let s := { s with
    dev := { custRoot := s.dev.custRoot, portsClosed := true }
    dramKeys := []
    rekeyAt := none }
  let s := s.clearSlots (fun _ => true)
  (List.range 4).foldl (fun (s : State) h =>
    (((s.emptyCache h).modHouse h (fun x => { x with comp := none })).drbgClear h).reseedDue h) s

/-- Slates whose operation runs in a lane end KEY_ABSENT, and its output is discarded (Table 6.15 step 5). -/
def State.dropLanes (s : State) : State :=
  (((List.range 9).map (fun n => (s.lane n).pos.filterMap id)).flatten).foldl (fun (s : State) i =>
    s.modSlate i (fun x => { x with res := x.res.map (fun c =>
      { c with status := St.keyAbsent, result := 0, neg := false, out := none }) })) s

/-- A tamper zeroisation ends every lease, and queued switch-offs proceed in order (R312).
DEDUCED (log 75). -/
def State.dropLeases (s : State) : State :=
  { s with power := { s.power with leases := [] } }.runOffQueue

/-- Zeroise (Table 6.15): LATCH sets, and the TAMPER records carry `hit`. In STOP the journal writer and the
DRAM controllers run on VEDGE as in service; while PORST_N holds the part, only VAON holds anything to clear.
DEDUCED (log 75). -/
def State.zeroise (s : State) (hit : Nat) : State :=
  let s := s.setFlag Reg.tampStat F.TampStat.latch true
  if s.power.porst then { s with dev := { s.dev with vshare := none } }
  else ((s.journalTamper hit).clearKeys.dropLanes.loseDram).dropLeases.machineCheck

/-- A hit of the enabled mesh pairs and switch inputs. -/
def State.tamperHit (s : State) (mesh sw : Nat) : State :=
  let s := s.setFld Reg.tampStat F.TampStat.meshHit (s.fld Reg.tampStat F.TampStat.meshHit ||| mesh)
  let s := s.setFld Reg.tampStat F.TampStat.swHit (s.fld Reg.tampStat F.TampStat.swHit ||| sw)
  s.zeroise (s.fld Reg.tampStat F.TampStat.meshHit * 16 + s.fld Reg.tampStat F.TampStat.swHit)

/-- TAMPER_MESH_SAMPLE (R195): one mismatch of an enabled pair is a hit. -/
def execTamperMeshSample (mismatch : BitVec 4) (s : State) : Out :=
  .next (
    let m := mismatch.toNat &&& s.fld Reg.tampCtl F.TampCtl.meshEn
    if s.power.vaon ∧ m ≠ 0 then s.tamperHit m 0 else s)

/-- TAMPER_SWITCH_HIT (R195): an enabled input has held its active level for SW_FILT. -/
def execTamperSwitchHit (k : Fin 4) (s : State) : Out :=
  .next (
    if s.power.vaon && (s.fld Reg.tampCtl F.TampCtl.swEn).testBit k then s.tamperHit 0 (2 ^ k.val) else s)

/-- TAMPER_CONFIG (R195): PARAM bytes 0 to 3 are TAMP_CTL (log entry 16). DESIGN CHOICE (log 16). -/
def execTamperConfig (id : Nat) (s : State) : Out :=
  .next (s.onTabqua id 0x02C0 (fun s =>
    (s.finishOk id).wr Reg.tampCtl (BitVec.ofNat 64 (le (s.pktOf id) 52 4))))

/-- TAMPER_CLEAR (R196): LATCH clears once the owner keys exist. DEDUCED (log 46). -/
def execTamperClear (id : Nat) (s : State) : Out :=
  .next (s.onTabqua id 0x02C1 (fun s =>
    if s.dev.ownerMaster.isSome then (s.finishOk id).setFlag Reg.tampStat F.TampStat.latch false
    else s.finishFail id St.notPermitted 0))

/-! ### Slot seals (R169) -/

/-- A pending seal ends: SEALED sets and the boot flash holds the slot, or the slot stays in service
unsealed (R169). -/
def State.slotSealed (s : State) (asym : Bool) (slot : Nat) (ok : Bool) : State :=
  if s.sealQ.contains (asym, slot) then
    let s := { s with sealQ := s.sealQ.erase (asym, slot) }
    if ok then
      let k := { s.slot asym slot with attr := attrSet (s.slot asym slot).attr bSealed }
      let s := s.setSlot asym slot k
      { s with flash :=
          if asym then { s.flash with asymSeals := Map.insert slot k s.flash.asymSeals }
          else { s.flash with symSeals := Map.insert slot k s.flash.symSeals } }
    else (s.setFlag Reg.satStat F.SatStat.sealFail true).machineCheck
  else s

/-- SLOT_SEAL_COMPLETE (R169). -/
def execSlotSealComplete (asym : Bool) (slot : Nat) (ok : Bool) (s : State) : Out :=
  .next (s.slotSealed asym slot ok)

/-! ### Entropy (R192 to R194) -/

/-- DRBG_RESEED (R193, R194): a reseed that waits runs once a source is healthy; the buffer then fills. -/
def execDrbgReseed (h : Nat) (s : State) : Out :=
  .next (
    if s.running && s.flag (Reg.drbgStat h) F.DrbgStat.drbgWait then (s.reseedDue h).drbgRefill h else s)

/-- One raw bit enters the tests of a source: the repetition count test with cutoff 41, the adaptive
proportion test over 1,024 bits with cutoff 793, and the conditioning of 640 bits. It tells which test
failed. -/
def Entropy.sample (x : Entropy) (b : Bool) : Entropy × Bool × Bool :=
  let run := if x.run ≠ 0 ∧ x.last = b then x.run + 1 else 1
  let opens := x.seen = 0
  let first := if opens then b else x.first
  let matched := if opens then 1 else if b = x.first then x.matched + 1 else x.matched
  let raw := b :: x.raw
  ({ last := b
     run := run
     first := first
     seen := (x.seen + 1) % 1024
     matched := matched
     raw := if raw.length < 640 then raw else []
     outputs := x.outputs + (if raw.length < 640 then 0 else 1) },
   decide (41 ≤ run), b == first && decide (matched = 793))

/-- The conditioned output that raw bit `b` completes: the SHA-256 hash of 640 raw bits, the first bit in the
highest place (R192). -/
def Entropy.output (x : Entropy) (b : Bool) : List Byte :=
  if x.raw.length < 639 then []
  else sha256b (toBytesBE ((b :: x.raw).foldr (fun b n => 2 * n + bit b) 0) 80)

/-- A failed test: it counts, the source is FAILED, and a machine-check event is raised. -/
def State.entropyFail (s : State) (e : Nat) (f : Fld) : State :=
  (((s.satFld (Reg.entStat e) f 1).markUnit (153 + e) 0x0602 1).failUnit (153 + e)).machineCheck

/-- One raw bit of source `e`. -/
def State.entropyBit (s : State) (e : Nat) (b : Bool) : State :=
  let r := (s.source e).sample b
  let s := if (s.source e).outputs < r.1.outputs then s.markUnit (153 + e) 0x0601 1 else s
  let s := if s.fld (Reg.entStat e) F.EntStat.state = entService then
      { s with entPool := (s.entPool ++ (s.source e).output b).take 1024 } else s
  let s := s.modSource e (fun _ => r.1)
  let s := if r.2.1 then s.entropyFail e F.EntStat.rctFails else s
  if r.2.2 then s.entropyFail e F.EntStat.aptFails else s

/-- ENTROPY_SAMPLE (R192): both tests run on every source, the fallow one too. -/
def execEntropySample (e : Nat) (bits : List Bool) (s : State) : Out :=
  .next (if s.running ∧ e < 3 then bits.foldl (fun (s : State) b => s.entropyBit e b) s else s)

end Sys2Proof.Machine
end

