-- ==== Sys2Proof/Machine/Houses.lean ====
section
/-! DEFINITION. Houses, shares and DRAM regions: staged changes, the checks at claim, the commands of
family 0x01 beside the journal's, and the House reset (R134, R198 to R218, R361, R410, R461, Tables 7.1 to
7.3b). -/

namespace Sys2Proof.Machine

/-! ### Staged changes (R207) -/

/-- The setting that a staged change sets: of two changes of one setting, the later claim wins. -/
def Staged.place : Staged → Nat × Nat
  | .bind _ p => (0, p)
  | .share h ty _ => (1, 16 * h + ty)
  | .region n _ _ _ => (2, n)
  | .fnConfig g _ _ _ _ _ => (3, g)
  | .thresher h _ _ _ => (4, h)
  | .regime h _ => (5, h)
  | .loan h _ => (6, h)
  | .sealOn h => (7, h)
  | .sealOff h => (7, h)
  | .termLen _ _ => (8, 0)
  | .jRing h _ _ => (9, h)
  | .jAlt h _ _ => (10, h)
  | .jMarks h _ _ => (11, h)
  | .jSeal h _ _ _ => (12, h)
  | .jMirror h _ _ _ _ _ => (13, h)
  | .jAdmin h _ _ => (14, h)
  | .dram c _ _ _ => (15, c)

/-- Stage a change; it replaces an earlier one of the same setting. -/
def State.stage (s : State) (x : Staged) : State :=
  { s with staged := s.staged.filter (fun y => y.place != x.place) ++ [x] }

/-- TERM in TERM_STAT. -/
def State.term (s : State) : Nat := s.fld Reg.termStat F.TermStat.term

/-- The command's change is staged: RESULT carries the TERM at which it applies, `n` boundaries ahead. -/
def State.finishStaged (s : State) (id n : Nat) (x : Staged) : State :=
  (s.finish id St.ok (s.term + n) false none).stage x

/-! ### Shares in force and staged (R201, R210, R217) -/

/-- A list of distinct numbers as a bit mask. -/
def maskOf (l : List Nat) : Nat := l.foldl (fun m n => m ||| 2 ^ n) 0

/-- The share of a type that a House holds, units on their way to it included; mask types as masks
(Table 7.3b). -/
def State.shareNow (s : State) (h ty : Nat) : Nat :=
  match ty with
  | 0x01 => s.fld (Reg.houseShr h) F.HouseShr.lanes
  | 0x02 => s.fld (Reg.houseShr h) F.HouseShr.smills
  | 0x03 => s.fld (Reg.houseShr h) F.HouseShr.pmills
  | 0x04 => s.fld (Reg.houseTil h) F.HouseTil.tillers ||| maskOf (s.house h).tillersClearing
  | 0x05 => s.waysOf h ||| maskOf ((s.ways.filter (fun e => e.2 == h)).map (·.1))
  | 0x06 => s.fld (Reg.satHouse h) F.SatHouse.symShare
  | 0x07 => s.fld (Reg.satHouse h) F.SatHouse.asymShare
  | 0x08 => s.fld (Reg.satHouse h) F.SatHouse.kcShare
  | 0x09 => s.fld (Reg.satHouse h) F.SatHouse.kcaShare
  | 0x0A => maskOf (s.chutesOf h)
  | 0x0B => s.slateShare h
  | _ => s.bwOf h (ty - 0x0C)

/-- The share as it will stand with every staged move. -/
def State.shareNext (s : State) (h ty : Nat) : Nat :=
  (s.staged.findSome? (fun x => match x with
    | .share a b v => if a = h ∧ b = ty then some v else none
    | _ => none)).getD (s.shareNow h ty)

/-- The shares of all Houses stay within the capacity, and no unit belongs to two (R201, R217). -/
def State.shareFits (s : State) (h ty v : Nat) : Bool :=
  let others := ((List.range 4).filter (· != h)).map (fun x => s.shareNext x ty)
  match shareMax ty with
  | some cap => decide (others.sum + v ≤ cap)
  | none => others.all (fun o => o &&& v == 0)

/-- Credit limit of function `g` as it will stand. -/
def State.creditNext (s : State) (g : Nat) : Nat :=
  (s.staged.findSome? (fun x => match x with
    | .fnConfig f c _ _ _ _ => if f = g then some c else none
    | _ => none)).getD (s.fld (Reg.fnHouse g) F.FnHouse.cfgCredit)

/-- House `h` is SEALED. -/
def State.houseSealed (s : State) (h : Nat) : Bool := s.flag (Reg.houseCfg h) F.HouseCfg.sealed

/-- Keys that House `h` holds in slots. -/
def State.slotsHeld (s : State) (h : Nat) (asym : Bool) : Nat :=
  ((if asym then s.asymSlots else s.symSlots).filter (fun e => e.2.used && e.2.house == h)).length

/-- A reduction of slots below what the House holds (R210). -/
def State.slotsRefused (s : State) (h ty v : Nat) : Bool :=
  (ty == 6 || ty == 7) && decide (v < s.shareNow h ty) && decide (v < s.slotsHeld h (ty == 7))

/-- SHARE_SET ends NOT_PERMITTED (R205, R210, R217, R218). -/
def State.shareRefused (s : State) (h ty v : Nat) : Bool :=
  s.houseSealed h || (s.vacant h && v != 0) || !s.shareFits h ty v || s.slotsRefused h ty v ||
  (ty == 0x0B && decide (v < ((s.fnsOf h).map s.creditNext).sum))

/-- From the claim on, a placement keeps within a slot share that is being reduced (R210). -/
def State.limitSlots (s : State) (h ty v : Nat) : State :=
  let l := if v < s.shareNow h ty then some v else none
  match ty with
  | 6 => s.modHouse h (fun x => { x with symLimit := l })
  | 7 => s.modHouse h (fun x => { x with asymLimit := l })
  | _ => s

/-- The value of a SHARE_SET. -/
def shareValue (p : List Byte) : Nat :=
  match param p 1 with
  | 0x04 => le p 64 8
  | 0x05 => le p 54 2
  | 0x0A => le p 64 32
  | _ => le p 54 4

/-- SHARE_SET (R217, Table 7.3b). -/
def State.shareSet (s : State) (id : Nat) : State :=
  let p := s.pktOf id
  let h := param p 0
  let ty := param p 1
  let v := shareValue p
  if s.shareRefused h ty v then s.finishFail id St.notPermitted 0
  else (s.finishStaged id 1 (.share h ty v)).limitSlots h ty v

/-- SHARE_SET (R217). -/
def execShareSet (id : Nat) (s : State) : Out := .next (s.onTabqua id 0x0182 (fun s => s.shareSet id))

/-! ### Ports (R199, R218) -/

/-- Ports of House `h` as they will stand. -/
def State.portsNext (s : State) (h : Nat) : List Nat :=
  (List.range 4).filter (fun p =>
    match s.staged.findSome? (fun x => match x with
      | .bind a q => if q = p then some a else none
      | _ => none) with
    | some a => a == h
    | none => s.ownsPort h p)

/-- The House that owns port `p`. -/
def State.portHouse (s : State) (p : Nat) : Nat := s.houseOf (16 * p)

/-- HOUSE_BIND ends NOT_PERMITTED: a SEALED House gains or loses a port, or a House that is not VACANT is
left with none. -/
def State.bindRefused (s : State) (h mask : Nat) : Bool :=
  let moved := (List.range 4).filter (mask.testBit ·)
  s.houseSealed h || moved.any (fun p => s.houseSealed (s.portHouse p)) ||
  (List.range 4).any (fun x => x != h && !s.vacant x &&
    ((s.portsNext x).filter (fun p => !mask.testBit p)).isEmpty)

/-- HOUSE_BIND (R199): one staged move for each port named. -/
def State.houseBind (s : State) (id : Nat) : State :=
  let p := s.pktOf id
  let h := param p 0
  let mask := param p 1
  if s.bindRefused h mask then s.finishFail id St.notPermitted 0
  else
    let s := s.finish id St.ok (s.term + 1) false none
    ((List.range 4).filter (mask.testBit ·)).foldl (fun (s : State) q => s.stage (.bind h q)) s

/-- HOUSE_BIND (R199). -/
def execHouseBind (id : Nat) (s : State) : Out := .next (s.onTabqua id 0x0181 (fun s => s.houseBind id))

/-! ### DRAM regions (R213, R214, R218) -/

/-- The words of region `n` as they will stand. -/
def State.rgnNext (s : State) (n : Nat) : Word × Word :=
  (s.staged.findSome? (fun x => match x with
    | .region m v w _ => if m = n then some (v, w) else none
    | _ => none)).getD (s.rgnWords n)

/-- In use. -/
def rgnUsed (w : Word × Word) : Bool := F.DramRgnB.mode.get w.2 != 3
/-- The region holds lines in bank group `b` of channel `c`. -/
def rgnBank (w : Word × Word) (c b : Nat) : Bool :=
  (F.DramRgnB.chmask.get w.2).testBit c && (F.DramRgnB.mode.get w.2 != 1 || (F.DramRgnB.bgmask.get w.2).testBit b)
/-- Two regions share a bank. -/
def rgnsMeet (v w : Word × Word) : Bool :=
  (List.range 4).any (fun c => (List.range 8).any (fun b => rgnBank v c b && rgnBank w c b))
/-- Bank groups that a region uses on each of its channels. -/
def rgnGroups (w : Word × Word) : Nat := ((List.range 8).filter (fun b => (List.range 4).any (rgnBank w · b))).length
/-- Size in 256 MB units. -/
def rgnSize (w : Word × Word) : Nat := F.DramRgnA.limit.get w.1 - F.DramRgnA.base.get w.1

/-- The masks fit the mode. -/
def rgnMasks (w : Word × Word) : Bool :=
  let ch := F.DramRgnB.chmask.get w.2
  let bg := F.DramRgnB.bgmask.get w.2
  match F.DramRgnB.mode.get w.2 with
  | 0 => ch == 0xF && bg == 0xFF
  | 2 => (channelsOf ch).length == 1 && bg == 0xFF
  | _ => true

/-- What a region takes of each of its banks, as 10,080ths of a 256 MB unit; a region with no bank takes all
that there could be. -/
def rgnLoad (w : Word × Word) : Nat :=
  let k := (channelsOf (F.DramRgnB.chmask.get w.2)).length * rgnGroups w
  if k = 0 then (if rgnSize w = 0 then 0 else 2 ^ 64) else rgnSize w * 10080 / k

/-- The regions in use other than `n`, as they will stand. -/
def State.otherRgns (s : State) (n : Nat) : List (Word × Word) :=
  (((List.range 16).filter (· != n)).map s.rgnNext).filter rgnUsed

/-- The banks of the region have the room (R213). -/
def State.rgnRoom (s : State) (n : Nat) (w : Word × Word) : Bool :=
  rgnLoad w != 2 ^ 64 &&
  (List.range 4).all (fun c => (List.range 8).all (fun b =>
    !rgnBank w c b ||
    decide (rgnLoad w + (((s.otherRgns n).filter (rgnBank · c b)).map rgnLoad).sum ≤ (s.chan c).dimm.gb * 4 * 10080 / 8)))

/-- SECURE agrees with DRAM_SWM. -/
def State.rgnWorld (s : State) (w : Word × Word) : Bool :=
  let swm := s.fld Reg.swmDram F.SwmDram.swm
  if F.DramRgnB.secure.get w.2 = 1 then decide (F.DramRgnA.limit.get w.1 ≤ swm)
  else decide (swm ≤ F.DramRgnA.base.get w.1)

/-- Two ranges overlap. -/
def rgnsOverlap (v w : Word × Word) : Bool :=
  decide (F.DramRgnA.base.get v.1 < F.DramRgnA.limit.get w.1) &&
  decide (F.DramRgnA.base.get w.1 < F.DramRgnA.limit.get v.1)

/-- A BANKGROUP or CHANNEL region shares a bank with a region of a different owner. -/
def rgnsClash (v w : Word × Word) : Bool :=
  F.DramRgnB.owner.get v.2 != F.DramRgnB.owner.get w.2 && rgnsMeet v w &&
  (F.DramRgnB.mode.get v.2 != 0 || F.DramRgnB.mode.get w.2 != 0)

/-- The region's owner is a SEALED House. -/
def State.rgnSealed (s : State) (w : Word × Word) : Bool :=
  rgnUsed w && decide (F.DramRgnB.owner.get w.2 < 4) && s.houseSealed (F.DramRgnB.owner.get w.2)

/-- DRAM_RGN_SET ends NOT_PERMITTED (R213, R218). -/
def State.rgnRefused (s : State) (n : Nat) (w : Word × Word) : Bool :=
  s.rgnSealed (s.rgnWords n) || s.rgnSealed (s.rgnNext n) || s.rgnSealed w ||
  ((List.range 16).any (fun m => m != n && s.rgnSealed (s.rgnWords m) && rgnUsed w && rgnsMeet (s.rgnWords m) w)) ||
  (rgnUsed w &&
    (!rgnMasks w || (s.otherRgns n).any (rgnsOverlap w) || !s.rgnRoom n w || !s.rgnWorld w ||
     (s.otherRgns n).any (rgnsClash w) || (s.otherRgns n).any (fun v => s.rgnSealed v && rgnsMeet v w)))

/-- The words of a DRAM_RGN_SET. -/
def rgnOf (p : List Byte) : Word × Word := (BitVec.ofNat 64 (le p 64 8), BitVec.ofNat 64 (le p 72 8))

/-- A range or an owner changes, so that lines change their key. -/
def rgnRekeys (v w : Word × Word) : Bool :=
  v.1 != w.1 || F.DramRgnB.owner.get v.2 != F.DramRgnB.owner.get w.2 ||
  F.DramRgnB.secure.get v.2 != F.DramRgnB.secure.get w.2 || rgnUsed v != rgnUsed w

/-- DRAM_RGN_SET (R213, R214). -/
def State.dramRgnSet (s : State) (id : Nat) : State :=
  let p := s.pktOf id
  let n := param p 0
  let w := rgnOf p
  if s.rgnRefused n w then s.finishFail id St.notPermitted 0
  else s.finishStaged id 1 (.region n w.1 w.2 (!rgnRekeys (s.rgnWords n) w))

/-- DRAM_RGN_SET (R213, R214). -/
def execDramRgnSet (id : Nat) (s : State) : Out := .next (s.onTabqua id 0x0183 (fun s => s.dramRgnSet id))

/-- The controller has written zero through every line that changes its key. -/
def State.zeroChanging (s : State) (n : Nat) (v w : Word × Word) : State :=
  let same (a : Nat) : Bool := 0x008000000000 ≤ a || rgnKey a v == rgnKey a w
  { s with
    mem := s.mem.filter (fun c => same c.1)
    poison := s.poison.filter same
    staged := s.staged.map (fun x => match x with
      | .region m a b z => if m = n then .region m a b true else .region m a b z
      | x => x) }

/-- DRAM_REGION_ZERO_COMPLETE (R214). -/
def execDramRegionZeroComplete (n : Nat) (s : State) : Out :=
  .next (
    match s.staged.findSome? (fun x => match x with
      | .region m v w false => if m = n then some (v, w) else none
      | _ => none) with
    | some w => s.zeroChanging n (s.rgnWords n) w
    | none => s)

/-! ### The other commands of family 0x01 (R205, R206, R215 to R218, R461) -/

/-- FN_CONFIG (R205). -/
def State.fnConfig (s : State) (id : Nat) : State :=
  let p := s.pktOf id
  let h := s.houseOfSlate id
  let g := param p 0 % 64
  let credit := le p 53 2
  let others := (((s.fnsOf h).filter (· != g)).map s.creditNext).sum
  if s.houseOf g ≠ h ∨ s.shareNext h 0x0B < others + credit then s.finishFail id St.notPermitted 0
  else s.finishStaged id 1
    (.fnConfig g credit ((param p 3).testBit 0) (le p 56 2) (le p 64 2 % 1024) (le p 66 2))

/-- FN_CONFIG (R205). -/
def execFnConfig (id : Nat) (s : State) : Out := .next (s.onTabqua id 0x0101 (fun s => s.fnConfig id))

/-- TEMPLATE_WRITE (R461): the entries take effect at the claim. -/
def State.templateWrite (s : State) (id : Nat) : State :=
  let p := s.pktOf id
  let h := s.houseOfSlate id
  (List.range (param p 2)).foldl (fun (s : State) k =>
    s.wr (Reg.tpl (1024 * h + le p 52 2 + k)) (BitVec.ofNat 64 (le p (64 + 8 * k) 8))) (s.finishOk id)

/-- TEMPLATE_WRITE (R461). -/
def execTemplateWrite (id : Nat) (s : State) : Out := .next (s.onTabqua id 0x0102 (fun s => s.templateWrite id))

/-- THRESHER_SET (R134, R138); a BMAX above 462 is taken as 462. DEDUCED (log 14). -/
def execThresherSet (id : Nat) (s : State) : Out :=
  .next (s.onTabqua id 0x0103 (fun s =>
    let p := s.pktOf id
    s.finishStaged id 1 (.thresher (s.houseOfSlate id) (min (le p 52 2) 462) (le p 54 2) (le p 56 2))))

/-- REGIME_SET (R215). -/
def execRegimeSet (id : Nat) (s : State) : Out :=
  .next (s.onTabqua id 0x0104 (fun s =>
    s.finishStaged id 1 (.regime (s.houseOfSlate id) (param (s.pktOf id) 0 == 1))))

/-- VFLOOR_SET (R34, R40): 13 to 15 are taken as 12. -/
def execVfloorSet (id : Nat) (s : State) : Out :=
  .next (s.onTabqua id 0x0105 (fun s =>
    let h := s.houseOfSlate id
    ((s.finishOk id).setFld Reg.vfloor ⟨4 * h, 4⟩ (min 12 (param (s.pktOf id) 0))).refreshTau.evalSoon))

/-- BOUND_SET (R32). -/
def execBoundSet (id : Nat) (s : State) : Out :=
  .next (s.onTabqua id 0x0106 (fun s =>
    ((s.finishOk id).setFld (Reg.houseBound (s.houseOfSlate id)) F.HouseBound.decl (le (s.pktOf id) 52 4)).evalSoon))

/-- LOAN_SET (R211). -/
def execLoanSet (id : Nat) (s : State) : Out :=
  .next (s.onTabqua id 0x0107 (fun s =>
    s.finishStaged id 1 (.loan (s.houseOfSlate id) ((param (s.pktOf id) 0).testBit 0))))

/-- PARTITION_SEAL (R218). -/
def execPartitionSeal (id : Nat) (s : State) : Out :=
  .next (s.onTabqua id 0x0184 (fun s => s.finishStaged id 1 (.sealOn (param (s.pktOf id) 0))))

/-- PARTITION_UNSEAL (R218). -/
def execPartitionUnseal (id : Nat) (s : State) : Out :=
  .next (s.onTabqua id 0x0185 (fun s => s.finishStaged id 1 (.sealOff (param (s.pktOf id) 0))))

/-- TERM_SET (R206): it takes effect at the boundary after the one that follows its claim. -/
def execTermSet (id : Nat) (s : State) : Out :=
  .next (s.onTabqua id 0x0186 (fun s => s.finishStaged id 2 (.termLen (le (s.pktOf id) 52 2) 1)))

/-- Set the command authentication key of a House: its counters start again from 0 (R71, R76). -/
def State.setCmdKey (s : State) (h : Nat) (v : BitVec 256) : State :=
  let s := { s with
    dev := { s.dev with cmd := Map.insert h v s.dev.cmd }
    flash := { s.flash with dev := { s.flash.dev with cmd := Map.insert h v s.flash.dev.cmd } } }
  s.modHouse h (fun x => { x with ctr := [] })

/-- HOUSE_REKEY (R76, R178, R179): a version D block under OKEK that holds an AES-256 key (log entry 16).
DESIGN CHOICE (log 16). -/
def State.houseRekey (s : State) (id : Nat) : State :=
  let p := s.pktOf id
  let b := slice p 64 (le p 54 2)
  match s.dev.okek with
  | none => s.finishFail id St.notPermitted 0
  | some k =>
    if byteAt b 0 ≠ 0x44 then s.finishFail id St.format 64
    else match openBlock 3 256 (toBytesBE k.toNat 32) b with
    | .usage _ => s.finishFail id St.format 64
    | .format o _ => s.finishFail id St.format (64 + o)
    | .badMac => s.finishNeg id 5 none
    | .key key =>
      if attrType key.attr ≠ 3 then s.finishFail id St.format 71
      else (s.finishOk id).setCmdKey (param p 0) (BitVec.ofNat 256 (ofBytesBE key.val))

/-- HOUSE_REKEY (R76). -/
def execHouseRekey (id : Nat) (s : State) : Out := .next (s.onTabqua id 0x0187 (fun s => s.houseRekey id))

/-- The registers whose settings CONFIG_SAVE writes (R217). -/
def savedRegs : List String :=
  ["HOUSE_CFG", "HOUSE_SHR", "HOUSE_TIL", "HOUSE_GWAY", "HOUSE_BOUND", "SAT_HOUSE", "KT_SYM", "KT_ASYM",
   "CH_CFG", "CH_HOUSE", "DRAM_RGN_A", "DRAM_RGN_B", "TERM_CTL", "THR_HOUSE", "THR_EXAM", "VFLOOR", "FN_HOUSE",
   "FN_THR", "FN_BELL", "TPL", "JR_BASE", "JR_ALT", "JR_SEAL", "JR_MARK", "JR_MADDR", "JR_CTL", "VPOL_CTL",
   "AVS_CTL", "TIME_CTL", "DC_CTL", "DC_TRN", "DC_RETAIN", "ROT_POL", "RC_CTL", "MK_BUF",
   "SWM_DRAM", "SWM_DESK"]

/-- The register at an address is one that CONFIG_SAVE writes. -/
def isSaved (a : Nat) : Bool := (regAt a).any (fun d => savedRegs.contains d.name)

/-- CONFIG_SAVE (R217). -/
def execConfigSave (id : Nat) (s : State) : Out :=
  .next (s.onTabqua id 0x018F (fun s =>
    let s := s.finishOk id
    { s with flash := { s.flash with cfg := s.regs.filter (fun e => isSaved e.1), supers := s.supers } }))

/-! ### The House reset (R100, R361, R410) -/

/-- Claim a LIVE slate ABANDONED, and cancel its work (R100). -/
def State.abandon (s : State) (id : Nat) : State := (s.fail id St.abandoned 0).cancelWork id

/-- Slates that satisfy `f`. -/
def State.slatesWith (s : State) (f : Slate → Bool) : List Nat := (s.slates.filter (fun e => f e.2)).map (·.1)

/-- Abandon every LIVE slate that satisfies `f`. -/
def State.abandonAll (s : State) (f : Slate → Bool) : State :=
  (s.slatesWith (fun x => x.st == .live && f x)).foldl (fun (s : State) id => s.abandon id) s

/-- Empty a Chute; work whose packet was in it leaves it (R361). -/
def State.flushChute (s : State) (c : Nat) : State :=
  let s := s.emptyChute c
  (s.slatesWith (fun x => x.work == .chute c)).foldl (fun (s : State) id => s.leaveWork id) s

/-- Stop the Hopper channels of a House as if EN were cleared (R367). -/
def State.stopHoppers (s : State) (h : Nat) : State :=
  (List.range 128).foldl (fun (s : State) i =>
    let own := s.rd (Reg.hpOwn i)
    if F.HpOwn.openF.get own = 1 ∧ F.HpOwn.house.get own = h ∧ s.flag (Reg.hcCtl (i / 16) (i % 16)) F.HcCtl.en then
      s.hopClear (i / 16) (i % 16)
    else s) s

/-- Logical Tillers of House `h`. -/
def State.tillersOf (s : State) (h : Nat) : List Nat :=
  (List.range 64).filter (fun t => (s.fld (Reg.houseTil h) F.HouseTil.tillers).testBit t)

/-- The Proctor loads the supervisor image of House `h` where its supervisor begins (R410; log entry 44).
DESIGN CHOICE (log 44). -/
def State.loadSuper (s : State) (h : Nat) : State :=
  s.putLines (Config.supervisorEntry h).toNat (Map.get [] s.supers h)

/-- What the Proctor writes to CARREL in service: EN, and a table in secure DRAM, which is its own choice (R297).
DESIGN CHOICE (log 100). -/
def State.carrelWord (s : State) : Word :=
  let top := s.fld Reg.swmDram F.SwmDram.swm * 2 ^ 28
  BitVec.ofNat 64 (Config.carrelTable % top / 2 ^ 14 % 2 ^ 30 * 2 ^ 14 + 1)

/-- The Proctor sets CARREL on Tiller `t`. DESIGN CHOICE (log 100). -/
def State.setCarrels (s : State) (t : Nat) : State := s.modTiller t (fun x => { x with carrelCsr := s.carrelWord })

/-- The Proctor enters the House's supervisor at ENTRY2 (log entry 44). DESIGN CHOICE (log 44). -/
def State.enterSupervisor (s : State) (t h : Nat) : State :=
  let e := Config.supervisorEntry h
  s.modTiller t (fun x => { x with entry := x.entry.set 2 e, ring := 2, pc := e, openEn := true })

/-- A Tiller of the House takes a warm reset, and the Proctor enters the supervisor on it.
DESIGN CHOICE (log 44). -/
def State.resetHouseTiller (s : State) (h t : Nat) : State :=
  ((((s.reissueWork t).clearCarrelsOf t h).tillerReset t false).setCarrels t).enterSupervisor t h

/-- A House reset (R410); STATE reads RESET until the next Term boundary. -/
def State.houseReset (s : State) (h : Nat) : State :=
  let s := s.setFld (Reg.houseCfg h) F.HouseCfg.state 2
  let s := s.abandonAll (fun x => x.house == h)
  let s := (s.chutesOf h).foldl (fun (s : State) c => s.flushChute c) s
  let s := (s.stopHoppers h).loadSuper h
  let s := (s.tillersOf h).foldl (fun (s : State) t => s.resetHouseTiller h t) s
  (((s.emptyTables h).emptyCache h).reseedDue h).drbgRefill h

/-- Reset a House that is in SERVICE. -/
def State.resetIfUp (s : State) (h : Nat) : State := if s.inService h then s.houseReset h else s

/-- HOUSE_RESET (R410). -/
def execHouseReset (id : Nat) (s : State) : Out :=
  .next (s.onTabqua id 0x010F (fun s => (s.finishOk id).resetIfUp (s.houseOfSlate id)))

/-- HOUSE_RESET_OWNER (R410). -/
def execHouseResetOwner (id : Nat) (s : State) : Out :=
  .next (s.onTabqua id 0x0188 (fun s => (s.finishOk id).resetIfUp (param (s.pktOf id) 0)))

end Sys2Proof.Machine
end

