-- ==== Sys2Proof/Machine/JournalOps.lean ====
section
/-! DEFINITION. The journal's commands: the settings of family 0x01 and family 0x0B (R241, R242). -/

namespace Sys2Proof.Machine

/-! ### Journal areas (R242) -/

/-- The lines of the range that lie in one 256 MB unit are in a secure region of House `h`, on channels in
service. A region rotates by pages, so the first four pages reach every channel that the range uses. -/
def State.unitHolds (s : State) (h a n : Nat) : Bool :=
  match s.regionAt a with
  | none => false
  | some r =>
    s.fld (Reg.dramRgnB r) F.DramRgnB.secure == 1 && s.fld (Reg.dramRgnB r) F.DramRgnB.owner == h &&
    (List.range (min 4 ((n + 4095) / 4096))).all (fun i =>
      (s.chanAt (a + 4096 * i)).any (fun c => s.chanState c == chanService))

/-- The area of `n` bytes at `a` lies wholly within secure DRAM regions of House `h`. DEDUCED (log 49). -/
def State.areaHeld (s : State) (h a n : Nat) : Bool :=
  let u := 2 ^ 28
  a + n ≤ 0x008000000000 &&
  (List.range ((a % u + n + u - 1) / u)).all (fun i =>
    let lo := max a ((a / u + i) * u)
    let hi := min (a + n) ((a / u + i + 1) * u)
    s.unitHolds h lo (hi - lo))

/-- Base and length of a ring; nothing with LOG2 0. -/
def ringArea (base log2 : Nat) : Nat × Nat := (base, if log2 = 0 then 0 else 64 * 2 ^ log2)

/-- Ring of House `h` as it will stand. -/
def State.ringNext (s : State) (h : Nat) : Nat × Nat :=
  (s.staged.findSome? (fun x => match x with
    | .jRing g b l => if g = h then some (ringArea b l) else none
    | _ => none)).getD
  (ringArea (4096 * s.fld (Reg.jrBase h) F.JrBase.addr) (s.fld (Reg.jrBase h) F.JrBase.log2))

/-- Standby ring of House `h` as it will stand. -/
def State.altNext (s : State) (h : Nat) : Nat × Nat :=
  (s.staged.findSome? (fun x => match x with
    | .jAlt g b l => if g = h then some (ringArea b l) else none
    | _ => none)).getD
  (ringArea (4096 * s.fld (Reg.jrAlt h) F.JrAlt.addr) (s.fld (Reg.jrAlt h) F.JrAlt.log2))

/-- Seal area of House `h` as it will stand; SLOG2 below 4 is no area. -/
def State.sealNext (s : State) (h : Nat) : Nat × Nat :=
  let area (b l : Nat) : Nat × Nat := (b, if l < 4 then 0 else 4096 * 2 ^ l)
  (s.staged.findSome? (fun x => match x with
    | .jSeal g b l _ => if g = h then some (area b l) else none
    | _ => none)).getD
  (area (4096 * s.fld (Reg.jrSeal h) F.JrSeal.addr) (s.fld (Reg.jrSeal h) F.JrSeal.slog2))

/-- Two areas have a byte in common. -/
def areasMeet (x y : Nat × Nat) : Bool :=
  x.2 != 0 && y.2 != 0 && decide (x.1 < y.1 + y.2) && decide (y.1 < x.1 + x.2)

/-- A journal area ends NOT_PERMITTED (R242). -/
def State.areaRefused (s : State) (h : Nat) (x : Nat × Nat) (others : List (Nat × Nat)) : Bool :=
  x.2 != 0 && (!s.areaHeld h x.1 x.2 || others.any (areasMeet x))

/-! ### Settings (Table 8.5) -/

/-- Stage a journal setting of the slate's House, or end NOT_PERMITTED. -/
def State.journalSet (s : State) (id : Nat) (bad : Bool) (x : Staged) : State :=
  if bad then s.finishFail id St.notPermitted 0 else s.finishStaged id 1 x

/-- JRNL_RING (R241, R242). -/
def State.jrnlRing (s : State) (id : Nat) : State :=
  let p := s.pktOf id
  let h := s.houseOfSlate id
  let b := le p 64 8
  let l := byteAt p 72
  s.journalSet id (s.areaRefused h (ringArea b l) [s.altNext h, s.sealNext h]) (.jRing h b l)

/-- JRNL_RING (R241, R242). -/
def execJrnlRing (id : Nat) (s : State) : Out := .next (s.onTabqua id 0x0120 (fun s => s.jrnlRing id))

/-- JRNL_ALT (R241, R242). -/
def State.jrnlAlt (s : State) (id : Nat) : State :=
  let p := s.pktOf id
  let h := s.houseOfSlate id
  let b := le p 64 8
  let l := byteAt p 72
  s.journalSet id (s.areaRefused h (ringArea b l) [s.ringNext h, s.sealNext h]) (.jAlt h b l)

/-- JRNL_ALT (R241, R242). -/
def execJrnlAlt (id : Nat) (s : State) : Out := .next (s.onTabqua id 0x0121 (fun s => s.jrnlAlt id))

/-- JRNL_MARKS (R241). -/
def execJrnlMarks (id : Nat) (s : State) : Out :=
  .next (s.onTabqua id 0x0122 (fun s =>
    let p := s.pktOf id
    s.finishStaged id 1 (.jMarks (s.houseOfSlate id) (le p 52 4) (le p 56 4))))

/-- JRNL_SEAL_CFG (R241, R242). -/
def State.jrnlSealCfg (s : State) (id : Nat) : State :=
  let p := s.pktOf id
  let h := s.houseOfSlate id
  let b := le p 64 8
  let l := byteAt p 72
  s.journalSet id (s.areaRefused h (b, 4096 * 2 ^ l) [s.ringNext h, s.altNext h]) (.jSeal h b l (le p 73 4))

/-- JRNL_SEAL_CFG (R241, R242). -/
def execJrnlSealCfg (id : Nat) (s : State) : Out := .next (s.onTabqua id 0x0123 (fun s => s.jrnlSealCfg id))

/-- JRNL_MIRROR (R240, R242). -/
def execJrnlMirror (id : Nat) (s : State) : Out :=
  .next (s.onTabqua id 0x0124 (fun s =>
    let p := s.pktOf id
    let h := s.houseOfSlate id
    let g := byteAt p 73
    s.journalSet id (s.houseOf g != h)
      (.jMirror h (le p 64 8) (byteAt p 72) g (byteAt p 74 == 1) (le p 75 2))))

/-- JRNL_ADMIN (R241, R242). DEDUCED (log 52). -/
def execJrnlAdmin (id : Nat) (s : State) : Out :=
  .next (s.onTabqua id 0x0125 (fun s =>
    let p := s.pktOf id
    let h := s.houseOfSlate id
    let g := param p 0 % 64
    s.journalSet id (s.houseOf g != h) (.jAdmin h g ((param p 1).testBit 0))))

/-! ### Family 0x0B (Table 8.5) -/

/-- S, SEALNO and H_S of the last SEAL record; without one, all ones and the link head. -/
def Journal.lastSealed (j : Journal) : List Byte :=
  match j.sealed with
  | some (n, no, head) => toBytes n 8 ++ toBytes no 8 ++ toBytesBE head.toNat 32
  | none => List.replicate 16 255 ++ toBytesBE j.link.toNat 32

/-- The 64 bytes of JRNL_STATUS. -/
def Journal.status (j : Journal) : List Byte := toBytes j.next 8 ++ toBytes j.retired 8 ++ j.lastSealed

/-- JRNL_STATUS (R241). -/
def execJrnlStatus (id : Nat) (s : State) : Out :=
  .next (s.onTabqua id 0x0B01 (fun s => s.finishOut id (s.house (s.houseOfSlate id)).j.status))

/-- Run `f` when the journal still has the range that the command names; else FORMAT (R241). -/
def State.inRange (s : State) (id : Nat) (f : State → State) : State :=
  let p := s.pktOf id
  match lowestBad (s.jrangeChecks (s.houseOfSlate id) (pkOpcode p) p) with
  | some o => s.finishFail id St.format o
  | none => f s

/-- A record of the range is held, or its line lies in a frozen channel: the read waits. -/
def State.recordsHeld (s : State) (h a n : Nat) : Bool :=
  (s.house h).j.held.any (fun x => decide (a ≤ x.p.jseq) && decide (x.p.jseq < a + n)) ||
  (List.range n).any (fun i => s.frozenAt (s.ringLine h (a + i)))

/-- Records `a` to `a + n − 1` of House `h`, as the ring holds them. -/
def State.ringRecords (s : State) (h a n : Nat) : List Byte :=
  ((List.range n).map (fun i => s.bytesAt (s.ringLine h (a + i)) 64)).flatten

/-- JRNL_READ (R241): a line that does not read ends INTEGRITY with a machine check. DEDUCED (log 49). -/
def State.jrnlRead (s : State) (id : Nat) : State :=
  let p := s.pktOf id
  let h := s.houseOfSlate id
  let a := le p 52 8
  let n := le p 64 4
  if s.recordsHeld h a n then s
  else if (List.range n).any (fun i => s.readError (s.ringLine h (a + i)) 64) then
    (s.finishFail id St.integrity 0).machineCheck
  else s.finishOut id (s.ringRecords h a n)

/-- JRNL_READ (R241). -/
def execJrnlRead (id : Nat) (s : State) : Out :=
  .next (s.onTabqua id 0x0B02 (fun s => s.inRange id (fun s => s.jrnlRead id)))

/-- JRNL_SEAL_READ (R241): a seal that is pending has no block yet, and the read waits for it. -/
def State.jrnlSealRead (s : State) (id : Nat) : State :=
  let h := s.houseOfSlate id
  let no := le (s.pktOf id) 52 8
  let a := s.sealAddr h no
  if (s.house h).j.seals.any (fun x => x.no == no) || s.frozenAt a then s
  else if s.readError a 4096 then (s.finishFail id St.integrity 0).machineCheck
  else s.finishOut id (s.bytesAt a 4096)

/-- JRNL_SEAL_READ (R241). DEDUCED (log 87). -/
def execJrnlSealRead (id : Nat) (s : State) : Out :=
  .next (s.onTabqua id 0x0B03 (fun s => s.inRange id (fun s => s.jrnlSealRead id)))

/-- JRNL_RETIRE (R237, R241): the range was checked against the journal as it stands. -/
def execJrnlRetire (id : Nat) (s : State) : Out :=
  .next (s.onTabqua id 0x0B04 (fun s => s.inRange id (fun s =>
    let v := le (s.pktOf id) 52 8
    ((s.finishOk id).modJ (s.houseOfSlate id) (fun j => { j with retired := v })).sense)))

end Sys2Proof.Machine
end

