-- ==== Sys2Proof/Machine/Term.lean ====
section
/-! DEFINITION. The Term boundary: staged changes in the order of Table 7.2, the moves of shares, loans, and
the end of the clearing of moved Tillers and ways (R134, R199, R206 to R211, R214, R218, R224, R231, R238,
R240, R410). -/

namespace Sys2Proof.Machine

/-! ### Step 1: ports (R199) -/

/-- Every function of the port has EN = 0, and no slate of those functions is in use. -/
def State.portIdle (s : State) (p : Nat) : Bool :=
  (portFns p).all (fun g => !s.flag (Reg.fnCtl g) F.FnCtl.en) &&
  s.slates.all (fun e => e.2.st == .free || portOf e.2.gfn != p)

/-- Give port `p` to House `h`: the functions' settings return to 0, and a VACANT House enters SERVICE. A
change of those settings that the losing House had staged lapses with them. DEDUCED (log 51). -/
def State.movePort (s : State) (h p : Nat) : State :=
  let s := (List.range 4).foldl (fun (s : State) x =>
    s.setFld (Reg.houseCfg x) ⟨16 + p, 1⟩ (bit (x == h))) s
  let s := (portFns p).foldl (fun (s : State) g =>
    ((s.wr (Reg.fnHouse g) 0).wr (Reg.fnThr g) 0).wr (Reg.fnBell g) 400) s
  let s := { s with staged := s.staged.filter (fun x => match x with
    | .fnConfig g _ _ _ _ _ => portOf g != p
    | _ => true) }
  if s.vacant h then
    (s.setFld (Reg.houseCfg h) F.HouseCfg.state houseService).modJ h reserveCheck
  else s

/-- Port `p` is the only port of a House in SERVICE, which may not be left with none. -/
def State.lastPort (s : State) (p : Nat) : Bool :=
  !s.vacant (s.portHouse p) && (List.range 4).all (fun q => q == p || !s.ownsPort (s.portHouse p) q)

/-- Apply a port move whose conditions hold; the others stay staged, and so does one that would leave a House
in SERVICE with no port until a port has come to it (R198, R199). DEDUCED (log 51). -/
def State.applyBind (s : State) (x : Staged) : State :=
  match x with
  | .bind h p =>
    if s.ownsPort h p then s
    else if s.portIdle p && !s.lastPort p then s.movePort h p
    else s.stage x
  | _ => s

/-! ### Step 2: shares (R201, R208 to R210) -/

/-- Lane `n` is reserved to `h`, or to none: it drains, and then serves its new House (R112). -/
def State.assignLane (s : State) (n : Nat) (h : Option Nat) : State :=
  let s := s.modLane n (fun l => { l with owner := h, lent := none, draining := true, nextHouse := h })
  if (s.lane n).pos.all (·.isNone) then s.laneServe n else s.laneState n unitDraining

/-- The lanes that House `h` reserves. -/
def State.ownLanes (s : State) (h : Nat) : List Nat := (List.range 9).filter (fun n => (s.lane n).owner == some h)
/-- In-service lanes that no House reserves. DESIGN CHOICE (log 40). -/
def State.freeLanes (s : State) : List Nat :=
  (List.range 9).filter (fun n => s.laneInService n && (s.lane n).owner.isNone && !(s.lane n).retiring)

/-- The slates of a House enter or leave the pool queue with its last lane or its first (R146). -/
def State.poolShift (s : State) (h : Nat) : State :=
  let out := s.poolQ.filter (fun id => (s.slate id).house != h)
  { s with poolQ := if s.lanesOf h = 0 then out ++ (s.house h).queue else out }

/-- House `h` reserves `v` lanes. -/
def State.setLanes (s : State) (h v : Nat) : State :=
  let was := s.lanesOf h
  let own := s.ownLanes h
  let s := (own.drop v).foldl (fun (s : State) n => s.assignLane n none) s
  let s := (s.freeLanes.take (v - own.length)).foldl (fun (s : State) n => s.assignLane n (some h)) s
  let s := s.setFld (Reg.houseShr h) F.HouseShr.lanes v
  if (was == 0) != (v == 0) then s.poolShift h else s

/-- The unbound mills of a type that House `h` reserves. -/
def State.ownMills (s : State) (h : Nat) (pmill : Bool) : List Nat :=
  (List.range (millCount pmill)).filter (fun n => Map.find (millUnit pmill n) s.millOwn == some h)
/-- Mills of a type in service that no House reserves. DESIGN CHOICE (log 40). -/
def State.freeMills (s : State) (pmill : Bool) : List Nat :=
  (List.range (millCount pmill)).filter (fun n =>
    s.millUp pmill n && (Map.find (millUnit pmill n) s.millOwn).isNone)

/-- Reserve a mill to a House, or to none; a loan of it ends. -/
def State.ownMill (s : State) (pmill : Bool) (n : Nat) (h : Option Nat) : State :=
  let u := millUnit pmill n
  { s with
    millOwn := match h with
      | some h => Map.insert u h s.millOwn
      | none => Map.erase u s.millOwn
    millLoans := s.millLoans.filter (fun e => !(e.1 == pmill && e.2.1 == n)) }

/-- House `h` reserves `v` unbound mills of a type. -/
def State.setMills (s : State) (h : Nat) (pmill : Bool) (v : Nat) : State :=
  let own := s.ownMills h pmill
  let s := (own.drop v).foldl (fun (s : State) n => s.ownMill pmill n none) s
  let s := ((s.freeMills pmill).take (v - own.length)).foldl (fun (s : State) n =>
    s.ownMill pmill n (some h)) s
  s.setFld (Reg.houseShr h) (if pmill then F.HouseShr.pmills else F.HouseShr.smills) v

/-- Tiller `t` is on its way to House `h`, 4 for the common pool. -/
def State.clearTo (s : State) (t h : Nat) : State :=
  let s := (List.range 5).foldl (fun (s : State) x => s.modHouse x (fun v =>
    { v with tillersClearing := v.tillersClearing.filter (· != t) })) s
  s.modHouse h (fun v => { v with tillersClearing := v.tillersClearing ++ [t] })

/-- Tiller `t` leaves its owner at the boundary: no mask shows it, and it takes no new work. A Tiller that was
already on its way keeps what it leaves (R208). DEDUCED (log 45). -/
def State.tillerLeaves (s : State) (t h : Nat) : State :=
  let own := (s.tillerHouse t).getD 4
  let s := if s.tillerMoves t then s else { s with leaving := Map.insert t own s.leaving }
  let s := if own < 4 then s.setFld (Reg.houseTil own) ⟨t, 1⟩ 0 else s
  s.clearTo t h

/-- Tillers of House `h`: those named in the mask, once each has been cleared (R208). -/
def State.setTillers (s : State) (h v : Nat) : State :=
  let mine := s.shareNow h 0x04
  let s := (List.range 64).foldl (fun (s : State) t =>
    if !v.testBit t && mine.testBit t then s.tillerLeaves t 4 else s) s
  (List.range 64).foldl (fun (s : State) t => if v.testBit t && !mine.testBit t then s.tillerLeaves t h else s) s

/-- Way `w` is cleared on its way to House `h`, 4 for the common pool. -/
def State.wayTo (s : State) (w h : Nat) : State :=
  let s := (List.range 4).foldl (fun (s : State) x =>
    if (s.waysOf x).testBit w then s.setFld (Reg.houseGway x) ⟨w, 1⟩ 0 else s) s
  { s with ways := s.ways.filter (fun e => e.1 != w) ++ [(w, h)] }

/-- Granary ways of House `h` (R209). DESIGN CHOICE (log 40). -/
def State.setWays (s : State) (h v : Nat) : State :=
  let mine := s.shareNow h 0x05
  ((List.range 16).foldl (fun (s : State) w =>
    if v.testBit w && !mine.testBit w then s.wayTo w h
    else if !v.testBit w && mine.testBit w then s.wayTo w 4
    else s) s).trimGranary

/-- Evict unpinned entries of every key cache beyond its size (R174, R210). -/
def State.trimCaches (s : State) : State :=
  (List.range 4).foldl (fun (s : State) h => (s.trimCache h false).trimCache h true) s

/-- Chutes of House `h`: each moves when it is empty, and the change stays staged until all have moved
(Table 7.1). DEDUCED (log 51). -/
def State.setChutes (s : State) (h v : Nat) : State :=
  let moves (c : Nat) : Bool := v.testBit c != (s.chuteOwner c == h)
  let s' := (((List.range 256).filter (fun c => moves c && (s.chute c).pkts.isEmpty)).foldl (fun (s : State) c =>
    s.setFld (Reg.chCfg c) F.ChCfg.owner (if v.testBit c then h else 4)) s).countChutes
  if (List.range 256).any (fun c => moves c && !(s.chute c).pkts.isEmpty) then s'.stage (.share h 0x0A v) else s'

/-- Apply a SHARE_SET. -/
def State.applyShare (s : State) (h ty v : Nat) : State :=
  match ty with
  | 0x01 => s.setLanes h v
  | 0x02 => s.setMills h false v
  | 0x03 => s.setMills h true v
  | 0x04 => s.setTillers h v
  | 0x05 => s.setWays h v
  | 0x06 => (s.setFld (Reg.satHouse h) F.SatHouse.symShare v).modHouse h (fun x => { x with symLimit := none })
  | 0x07 => (s.setFld (Reg.satHouse h) F.SatHouse.asymShare v).modHouse h (fun x => { x with asymLimit := none })
  | 0x08 => (s.setFld (Reg.satHouse h) F.SatHouse.kcShare v).trimCaches
  | 0x09 => (s.setFld (Reg.satHouse h) F.SatHouse.kcaShare v).trimCaches
  | 0x0A => s.setChutes h v
  | 0x0B => s.setFld (Reg.houseShr h) F.HouseShr.slates v
  | _ => s.setFld (Reg.houseGway h) ⟨32 + 8 * (ty - 0x0C), 8⟩ v

/-- A staged share change that lets units go, and so comes before those that take units. DEDUCED (log 51). -/
def State.lessens (s : State) (x : Staged) : Bool :=
  match x with
  | .share h ty v =>
    match shareMax ty with
    | some _ => decide (v ≤ s.shareNow h ty)
    | none => (v &&& s.shareNow h ty) == v
  | _ => false

/-- Apply the shares and ready regions of step 2. -/
def State.applyMove (s : State) (x : Staged) : State :=
  match x with
  | .share h ty v => s.applyShare h ty v
  | .region n a b z =>
    if z then (s.wr (Reg.dramRgnA n) a).wr (Reg.dramRgnB n) b else s.stage x
  | _ => s

/-- With House `h`'s last Tiller of a Sheaf, the L2 is written back and the Hopper's descriptors are cleared
(R208). DEDUCED (log 45). -/
def State.sheafLeaves (s : State) (k h : Nat) : State :=
  if (s.sheafTillers k).any (fun u => s.tillerFor u == some h) then s else (s.dropL2 k).hopReset k

/-- The Proctor's clearing of a Tiller that holds no work of House `h`, which it leaves: its carrels end, its
stores drain, its caches, TLB and predictor are emptied, and its Desk is zero (R208, R302). It waits while a store
must wait. DEDUCED (log 45). -/
def State.tillerClears (s : State) (t h : Nat) : State :=
  match (s.clearCarrelsOf t h).drainAll t with
  | some s =>
    let s := s.modTiller t (fun x => x.dropCaches)
    let s := s.zeroRange (deskBase (s.tiller t).pos) 0x20000
    { s with leaving := Map.erase t s.leaving }.sheafLeaves (s.sheaf t) h
  | none => s

/-- Clear the moved Tillers that hold no work any more. DEDUCED (log 45). -/
def State.clearTillers (s : State) : State :=
  s.leaving.foldl (fun (s : State) e => if (s.heldBy e.1).isEmpty then s.tillerClears e.1 e.2 else s) s

/-- Tiller `t` joins House `h`, or the common pool. DEDUCED (log 45). -/
def State.tillerJoins (s : State) (t h : Nat) : State :=
  let s := s.modHouse h (fun v => { v with tillersClearing := v.tillersClearing.filter (· != t) })
  if h < 4 then s.setFld (Reg.houseTil h) ⟨t, 1⟩ 1 else s

/-- Tillers that were cleared since the boundary before join at this one; those that have come free of work are
cleared now, and join at the next (R208). DEDUCED (log 45). -/
def State.joinTillers (s : State) : State :=
  let s := (List.range 5).foldl (fun (s : State) h =>
    (s.house h).tillersClearing.foldl (fun (s : State) t =>
      if (Map.find t s.leaving).isNone then s.tillerJoins t h else s) s) s
  s.clearTillers

/-! ### Step 3: settings -/

/-- A seal falls due at once when the count has reached the new N (Table 8.5). -/
def State.sealNow (s : State) (h : Nat) : State :=
  let j := (s.house h).j
  if s.sealN h ≤ j.count ∧ !j.noSeals then
    (s.modJ h (fun j => { j with
      count := 0
      sealno := j.sealno + 1
      seals := j.seals ++ [{ no := j.sealno, s := j.counted.1, head := j.counted.2 }] })).requestSeals h
  else s

/-- A ring register's value. -/
def ringWord (base log2 : Nat) : Word := BitVec.ofNat 64 (base / 4096 % 2 ^ 32 * 4096 + log2)

/-- JRNL_RING applies where U = 0 and HELD = 0, or by relocation where the ring's channel is retired; else
it stays staged (R238, R241). -/
def State.applyRing (s : State) (h base log2 : Nat) : State :=
  let j := (s.house h).j
  if s.ringRetired h then s.relocate h (ringWord base log2)
  else if j.u = 0 ∧ j.held.isEmpty then s.wr (Reg.jrBase h) (ringWord base log2)
  else s.stage (.jRing h base log2)

/-- JRNL_MIRROR applies; with EN = 1 a suspended mirror resumes with a MIRROR_RESUME record (R240).
DEDUCED (log 52). -/
def State.applyMirror (s : State) (h maddr mlog2 gfn : Nat) (en : Bool) (timeout : Nat) : State :=
  let s := s.wr (Reg.jrMaddr h) (BitVec.ofNat 64 (maddr / 4096 * 4096))
  let s := s.setFld (Reg.jrCtl h) F.JrCtl.mlog2 mlog2
  let s := s.setFld (Reg.jrCtl h) F.JrCtl.mGfn gfn
  let s := s.setFld (Reg.jrCtl h) F.JrCtl.mrTimeout timeout
  let s := s.setFlag (Reg.jrCtl h) F.JrCtl.mirEn en
  if en ∧ (s.house h).j.susp then
    (s.modJ h (fun j => { j with susp := false })).recordEvent h .mirrorResume
  else s

/-- FN_CONFIG applies (R205). -/
def State.applyFn (s : State) (g credit : Nat) (fast : Bool) (allow base count : Nat) : State :=
  let s := s.setFld (Reg.fnHouse g) F.FnHouse.cfgCredit credit
  let s := s.setFlag (Reg.fnThr g) F.FnThr.fast fast
  let s := s.setFld (Reg.fnBell g) F.FnBell.replyAllow allow
  let s := s.setFld (Reg.fnBell g) F.FnBell.tplBase base
  s.setFld (Reg.fnBell g) F.FnBell.tplCount count

/-- Apply a setting of step 3. -/
def State.applySetting (s : State) (x : Staged) : State :=
  match x with
  | .fnConfig g c f a b n => s.applyFn g c f a b n
  | .thresher h b w m =>
    ((s.setFld (Reg.thrHouse h) F.ThrHouse.bmax b).setFld (Reg.thrExam h) F.ThrExam.examWt w).setFld
      (Reg.thrExam h) F.ThrExam.examMr m
  | .regime h e => (s.setFlag (Reg.houseCfg h) F.HouseCfg.exam e).setFlag (Reg.thrHouse h) F.ThrHouse.exam e
  | .loan h b => s.setFlag (Reg.houseCfg h) F.HouseCfg.loan b
  | .jRing h b l => s.applyRing h b l
  | .jAlt h b l => s.wr (Reg.jrAlt h) (ringWord b l)
  | .jMarks h hi fu =>
    (s.setFld (Reg.jrMark h) F.JrMark.high hi).setFld (Reg.jrMark h) F.JrMark.full fu
  | .jSeal h b l n =>
    (((s.setFld (Reg.jrSeal h) F.JrSeal.addr (b / 4096)).setFld (Reg.jrSeal h) F.JrSeal.slog2 l).setFld
      (Reg.jrSeal h) F.JrSeal.nm1 (n - 1)).sealNow h
  | .jMirror h a l g en t => s.applyMirror h a l g en t
  | .jAdmin h g en =>
    (s.setFld (Reg.jrCtl h) F.JrCtl.jaGfn g).setFlag (Reg.jrCtl h) F.JrCtl.jaEn en
  | .dram c ctl trn r =>
    (((s.softWrite (Reg.dcCtl c) ctl).softWrite (Reg.dcTrn c) trn).setFld Reg.dcRetain F.DcRetain.retain r).driftCheck c
  | _ => s

/-- Apply a seal or unseal of step 4 (R218). -/
def State.applySeal (s : State) (x : Staged) : State :=
  match x with
  | .sealOn h => s.setFlag (Reg.houseCfg h) F.HouseCfg.sealed true
  | .sealOff h => s.setFlag (Reg.houseCfg h) F.HouseCfg.sealed false
  | _ => s

/-- TERM_SET applies once its boundary has passed (R206). -/
def State.applyLen (s : State) (x : Staged) : State :=
  match x with
  | .termLen v 0 => s.setFld Reg.termCtl F.TermCtl.termLen v
  | .termLen v (w + 1) => s.stage (.termLen v w)
  | _ => s

/-- The step of Table 7.2 in which a staged change applies. -/
def Staged.step : Staged → Nat
  | .bind _ _ => 1
  | .share _ _ _ | .region _ _ _ _ => 2
  | .sealOn _ | .sealOff _ => 4
  | .termLen _ _ => 6
  | _ => 3

/-- Take the staged changes that satisfy `f` off the list and apply them in order. -/
def State.applyStaged (s : State) (f : Staged → Bool) (g : State → Staged → State) : State :=
  let l := s.staged.filter f
  l.foldl g { s with staged := s.staged.filter (fun x => !f x) }

/-- Steps 1 to 4 of Table 7.2. DEDUCED (log 51). -/
def State.applyAll (s : State) : State :=
  let s := s.applyStaged (fun x => x.step == 1) State.applyBind
  let s := s.applyStaged (fun x => x.step == 1) State.applyBind
  let s := s.joinTillers
  let less (x : Staged) : Bool := s.lessens x
  let s := s.applyStaged less State.applyMove
  let s := (s.applyStaged (fun x => x.step == 2) State.applyMove).clearTillers
  let s := s.applyStaged (fun x => x.step == 3) State.applySetting
  s.applyStaged (fun x => x.step == 4) State.applySeal

/-! ### Step 5: loans (R211) -/

/-- The House lends and borrows. -/
def State.loans (s : State) (h : Nat) : Bool := s.flag (Reg.houseCfg h) F.HouseCfg.loan

/-- The LOAN House with the most waiting, the lower number first; none where none waits. -/
def State.borrower (s : State) (waiting : Nat → Nat) : Option Nat :=
  (List.range 4).foldl (fun (m : Option Nat) h =>
    if !s.loans h || waiting h == 0 then m
    else match m with
      | none => some h
      | some b => if waiting b < waiting h then some h else m) none

/-- Slates in the Thresher queue of House `h`. -/
def State.queueLen (s : State) (h : Nat) : Nat := (s.house h).queue.length

/-- Who a lane of House `h` serves in the coming Term: the borrower while the lane is idle for its House,
else the House. DEDUCED (log 50). -/
def State.laneLoan (s : State) (h n : Nat) : Option Nat :=
  let l := s.lane n
  if s.loans h && s.queueLen h == 0 && !(s.house h).queueUsed && (l.lent.isSome || !l.used) then
    s.borrower s.queueLen
  else none

/-- Lend or return a reserved lane that is not draining; a lane with slates drains first. -/
def State.loanLane (s : State) (n : Nat) : State :=
  let l := s.lane n
  match l.owner with
  | none => s
  | some h =>
    let b := s.laneLoan h n
    if b = l.lent ∨ (l.draining ∧ b.isSome) then s
    else
      let s := s.modLane n (fun l => { l with lent := b, draining := true, nextHouse := some (b.getD h) })
      if (s.lane n).pos.all (·.isNone) then s.laneServe n else s.laneState n unitDraining

/-- Mill work of a type that waits for House `h`. -/
def State.millWaiting (s : State) (pmill : Bool) (h : Nat) : Nat :=
  (s.millQ.filter (fun e => e.1 == pmill && e.2.house == h)).length

/-- Lend or return a reserved mill: an operation in it completes. DEDUCED (log 50). -/
def State.loanMill (s : State) (pmill : Bool) (n : Nat) : State :=
  let out := (s.millLoans.find? (fun e => e.1 == pmill && e.2.1 == n)).map (·.2.2)
  let s' := { s with millLoans := s.millLoans.filter (fun e => !(e.1 == pmill && e.2.1 == n)) }
  match Map.find (millUnit pmill n) s.millOwn with
  | none => s'
  | some h =>
    if s.loans h && s.millWaiting pmill h == 0 && !s.millWaited.contains (pmill, h) && (out.isSome || !s.millUsed.contains (millUnit pmill n)) then
      match s.borrower (s.millWaiting pmill) with
      | some b => { s' with millLoans := s'.millLoans ++ [(pmill, n, b)] }
      | none => s'
    else s'

/-- Count the Term for the Houses that lend or borrow in it. DEDUCED (log 50). -/
def State.countLoans (s : State) : State :=
  let lanes := (s.lanes.filter (fun e => e.2.lent.isSome)).map (fun e => (e.2.owner, e.2.lent))
  let mills := s.millLoans.map (fun e => (Map.find (millUnit e.1 e.2.1) s.millOwn, some e.2.2))
  let l : List (Option Nat × Option Nat) := lanes ++ mills
  (List.range 4).foldl (fun (s : State) h =>
    let s := if l.any (fun e => e.1 == some h) then s.satFld (Reg.houseCnt h) F.HouseCnt.lent 1 else s
    if l.any (fun e => e.2 == some h) then s.satFld (Reg.houseCnt h) F.HouseCnt.borrowed 1 else s) s

/-- Step 5: loans returned and made; the use of lanes and mills is watched anew. DEDUCED (log 50). -/
def State.runLoans (s : State) : State :=
  let s := (List.range 9).foldl (fun (s : State) n => s.loanLane n) s
  let s := (List.range 36).foldl (fun (s : State) n => s.loanMill false n) s
  let s := (List.range 18).foldl (fun (s : State) n => s.loanMill true n) s
  let s := s.countLoans
  let s := (List.range 9).foldl (fun (s : State) n =>
    s.modLane n (fun l => { l with used := l.pos.any (·.isSome) })) s
  let s := (List.range 4).foldl (fun (s : State) h => s.modHouse h (fun x => { x with queueUsed := false })) s
  { s with millWaited := [], millUsed := (s.smills.map (fun e => 81 + e.1)) ++ (s.pmills.map (fun e => 117 + e.1)) }

/-! ### The boundary -/

/-- A House whose reset is complete serves again (R410). -/
def State.resumeHouses (s : State) : State :=
  (List.range 4).foldl (fun (s : State) h =>
    if s.fld (Reg.houseCfg h) F.HouseCfg.state = 2 then s.setFld (Reg.houseCfg h) F.HouseCfg.state houseService
    else s) s

/-- Queued rotations of WORN units start from this boundary on (R428). -/
def State.readyRots (s : State) : State :=
  { s with wear := { s.wear with rots := s.wear.rots.map (fun r => { r with ready := true }) } }

/-- Step 6: TERM counts, and its source is raised. DEDUCED (log 65). -/
def State.newTerm (s : State) : State :=
  let s := s.applyStaged (fun x => x.step == 6) State.applyLen
  (s.countFld Reg.termStat F.TermStat.term 1).feedMills.raiseShared srcTerm

/-- Term length in ns. -/
def State.termNs (s : State) : Nat := 1000 * max 10 (min 10000 (s.fld Reg.termCtl F.TermCtl.termLen))

/-- Device time has passed a Term boundary since the last one (R206). -/
def State.termDue (s : State) : Bool := decide (s.termAt / s.termNs < s.dtime / s.termNs)

/-- The part is in STOP, or on its way out of it. -/
def State.stopped (s : State) : Bool :=
  s.fld Reg.pwrStat F.PwrStat.state == pwrStop || s.fld Reg.pwrStat F.PwrStat.state == pwrExiting

end Sys2Proof.Machine
end

