-- ==== Sys2Proof/Machine/DramEvents.lean ====
section
/-! DEFINITION. The events of the DRAM channels, the march tests, the Granary ways being cleared, and the
memory diagnostics (R209, R388 to R401, R101, R238). -/

namespace Sys2Proof.Machine

/-! ### Freeze and its end (R393, R394) -/

/-- The channel keeps its DRAM running: in service or frozen. -/
def State.chanUp (s : State) (c : Nat) : Bool :=
  decide (c < 4) && s.running && (s.chanState c == chanService || s.chanState c == chanFrozen)

/-- DRAM_ALERT (R393): a CA parity error freezes the channel. The class and the address of the access are
free values. DESIGN CHOICE (log 53). -/
def execDramAlert (c : Nat) (s : State) : Out :=
  .next (
    if decide (c < 4) && s.running && s.chanState c == chanService then
      let w := s.freshWord
      w.2.freeze c errParity (w.1.toNat / 2 ^ 44 % 3) (w.1.toNat % 2 ^ 44 / 64 * 64)
    else s)

/-- The action that DC_ACT holds: 0 while the Proctor has taken none. -/
def State.action (s : State) (c : Nat) : Nat := s.fld (Reg.dcAct c) F.DcAct.action

/-- The retry of the failing access: `ecc` is how it comes back. A parity error that comes again freezes the
channel again. -/
def State.retryAccess (s : State) (c : Nat) (ecc : Ecc) : State :=
  let kind := s.fld (Reg.dcErr c) F.DcErr.kind
  let line := (s.chan c).failLine
  match ecc with
  | .ok => s
  | .corrected => if kind = errRead then s.corrected c line else s
  | .failed => if kind = errParity then s.freeze c errParity (s.fld (Reg.dcErr c) F.DcErr.class) line
    else s.poisonLine line

/-- RELEASE (R394): the channel serves again, the failing access is retried once, and the journal's held
records are written in JSEQ order (R102). -/
def State.releaseChan (s : State) (c : Nat) (ecc : Ecc) : State :=
  let s := (s.wr (Reg.dcAct c) 0).setFld (Reg.dcStat c) F.DcStat.state chanService
  let s := s.retryAccess c ecc
  if s.chanState c = chanFrozen then s
  else (List.range 4).foldl (fun (s : State) h => s.releaseHeld h) s

/-- The channel is frozen and the Proctor has asked for an action. -/
def State.frozenFor (s : State) (c a : Nat) : Bool :=
  decide (c < 4) && s.running && s.chanState c == chanFrozen && s.action c == a

/-- RELEASE (R394). -/
def execRelease (c : Nat) (ecc : Ecc) (s : State) : Out :=
  .next (if s.frozenFor c 1 then s.releaseChan c ecc else s)

/-- 100 ms in ns. -/
def hundredMs : Nat := 100000000

/-- FREEZE_AUTO_RELEASE (R394): the Proctor has taken no action within 100 ms. -/
def execFreezeAutoRelease (c : Nat) (ecc : Ecc) (s : State) : Out :=
  .next (if s.frozenFor c 0 && decide ((s.chan c).frozenAt + hundredMs ≤ s.uptime) then s.releaseChan c ecc else s)

/-- The lines beside the failing one that share its row, of those that memory lists.
DESIGN CHOICE (log 53). -/
def State.rowLines (s : State) (c : Nat) : List Nat :=
  let line := (s.chan c).failLine
  let all := s.mem.foldl (fun (l : List Nat) x => insertNat (lineOf x.1) l) []
  all.filter (fun a => a != line && s.chanAt a == some c && Config.lineRow a == Config.lineRow line)

/-- SPPR reads a line of the row: it is good, or corrected, or uncorrectable and so poisoned, by a free choice (R394).
DESIGN CHOICE (log 53). -/
def State.rowRead (s : State) (c line : Nat) : State :=
  let r := s.choose 3
  if r.1 = 0 then r.2
  else if r.1 = 1 then r.2.satFld (Reg.dcStat c) F.DcStat.ceCnt 1
  else r.2.poisonLine line

/-- SPPR (R394): the controller reads the lines of the failing row, repairs it and queues it for hard repair; then as
RELEASE. -/
def execSppr (c : Nat) (ecc : Ecc) (s : State) : Out :=
  .next (
    if s.frozenFor c 3 then
      (((s.rowLines c).foldl (fun (s : State) a => s.rowRead c a) s).queueRow c
        (Config.lineRow (s.chan c).failLine)).releaseChan c ecc
    else s)

/-- The key fills of slates whose table entry lies in a retired channel complete ABANDONED: the work ends
without a result (R101). -/
def State.endFills (s : State) : State :=
  let lost (x : Slate) : Bool := match x.work with
    | .filling i =>
      let v := pkKey x.pkt i
      s.retiredAt (s.tableEntry x.house (hKind v == 4) (hIndex v))
    | _ => false
  (s.slatesWith lost).foldl (fun (s : State) id => s.leaveWork id) s

/-- The House's standby ring is valid. -/
def State.altOk (s : State) (h : Nat) : Bool :=
  decide (12 ≤ s.fld (Reg.jrAlt h) F.JrAlt.log2) && !s.ringLost (4096 * s.fld (Reg.jrAlt h) F.JrAlt.addr)

/-- The ring of House `h` is lost with its channel: the standby ring takes its place and is a standby no more
(R238). -/
def State.useStandby (s : State) (h : Nat) : State :=
  if s.ringRetired h && s.altOk h then (s.wr (Reg.jrAlt h) 0).relocate h (s.rd (Reg.jrAlt h)) else s

/-- RETIRE (R394): the channel is retired, what waited on it ends, and the Register relocates. -/
def execRetire (c : Nat) (s : State) : Out :=
  .next (
    if s.frozenFor c 2 then
      let s := (s.wr (Reg.dcAct c) 0).setFld (Reg.dcStat c) F.DcStat.state chanRetired
      (List.range 4).foldl (fun (s : State) h => s.useStandby h) s.endFills
    else s)

/-! ### Refresh, retraining and scrub (R388 to R392) -/

/-- REFRESH_WINDOW (R388): the same-bank refresh window of a bank index opens. -/
def execRefreshWindow (c bank : Nat) (s : State) : Out :=
  .next (if s.chanUp c && decide (bank < 4) then s.modChan c (fun x => { x with refresh := some bank }) else s)

/-- RFM_WINDOW (R389): every marked bank of the index receives an RFMsb, and its marks clear. -/
def execRfmWindow (c bank : Nat) (s : State) : Out :=
  .next (
    if s.chanUp c && decide (bank < 4) then
      let hit (b : Nat) : Bool := b % 4 == bank
      let n := ((List.range 32).filter (fun b => hit b && (s.chan c).marks.contains b)).length
      (s.markUnit (180 + c) 0x0405 n).modChan c (fun x => { x with
        marks := x.marks.filter (fun b => !hit b), full := x.full.filter (fun b => !hit b) })
    else s)

/-- Device time lies in the channel's retraining window; the window's number (R391). -/
def State.retrainWindow (s : State) (c : Nat) : Option Nat :=
  let period := 1000 * s.fld (Reg.dcTrn c) F.DcTrn.period
  let off := s.fld (Reg.dcTrn c) F.DcTrn.offset % period
  let us := s.dtime / 1000
  if period = 0 ∨ us < off then none
  else if (us - off) % period < max 2 (s.fld (Reg.dcTrn c) F.DcTrn.win) then some ((us - off) / period)
  else none

/-- RETRAIN_PAUSE (R391): at most one pause in a window; the eye centres follow the temperature, so TJ at
the last training is the present one. DESIGN CHOICE (log 53). -/
def execRetrainPause (c : Nat) (s : State) : Out :=
  .next (
    match s.retrainWindow c with
    | some w =>
      if decide (c < 4) && s.running && s.chanState c == chanService && (s.chan c).lastPause != some w then
        (s.modChan c (fun x => { x with
          lastPause := some w
          trainedTj := signed 8 (s.fld Reg.tj F.Tj.tj) })).setFlag (Reg.dcStat c) F.DcStat.driftT false
      else s
    | none => s)

/-- PATROL_SCRUB (R392): the scrub reads and corrects a line of the channel. -/
def execPatrolScrub (c line : Nat) (ecc : Ecc) (s : State) : Out :=
  .next (
    if s.running && s.chanAt line == some c && s.fld (Reg.dcCtl c) F.DcCtl.scrubH != 0 then
      (s.chanRead (lineOf line) 64 2 ecc).2
    else s)

/-! ### Granary ways (R209) -/

/-- GRANARY_WAY_CLEAR_COMPLETE (R209): the gaining House allocates into the way. -/
def execGranaryWayClearComplete (w : Nat) (s : State) : Out :=
  .next (
    match Map.find w s.ways with
    | some h =>
      let s := { s with ways := Map.erase w s.ways }
      if h < 4 then s.setFld (Reg.houseGway h) ⟨w, 1⟩ 1 else s
    | none => s)

/-! ### March tests (R398 to R400) -/

/-- March results and states of Table 13.3. -/
abbrev marchRunning : Nat := 1
abbrev marchPassed : Nat := 2
abbrev marchRepaired : Nat := 3
abbrev marchFailed : Nat := 4

/-- Key of a unit of Table 13.3: kind 1 Desk, 2 slice, 3 L2, 4 caches of a position. -/
def marchKey (kind n : Nat) : Nat := 256 * kind + n
/-- Unit index of it. -/
def marchUnit (kind n : Nat) : Nat :=
  match kind with
  | 2 => 135 + n
  | 3 => 156 + n
  | _ => n

/-- Result, columns repaired and spares left of a unit's last test. -/
def State.marchOf (s : State) (kind n : Nat) : Nat × Nat × Nat := Map.get (0, 0, 0) s.wear.march (marchKey kind n)
/-- Record a test's state or result. -/
def State.setMarch (s : State) (kind n : Nat) (v : Nat × Nat × Nat) : State :=
  { s with wear := { s.wear with march := Map.put (0, 0, 0) s.wear.march (marchKey kind n) v } }

/-- DESK_STAT.TEST of a Desk. -/
def State.deskTest (s : State) (kind n v : Nat) : State :=
  if kind = 1 then s.setFld (Reg.deskStat n) F.DeskStat.test v else s

/-- R398 refuses the test: preserving mode is for Desks only, and destructive mode for units out of service;
or the unit is under test. -/
def State.marchRefused (s : State) (kind n mode : Nat) : Bool :=
  (s.marchOf kind n).1 == marchRunning ||
  (if mode = 0 then kind != 1 else s.unitServing (marchUnit kind n))

/-- MARCH_RUN (R398, R400): the reply follows the start of the test. -/
def State.marchRun (s : State) (id : Nat) : State :=
  let p := s.pktOf id
  let kind := param p 0
  let n := param p 1
  let mode := param p 2
  if s.marchRefused kind n mode then s.finishFail id St.notPermitted 0
  else
    let old := s.marchOf kind n
    let s := ((s.finishOk id).setMarch kind n (marchRunning, 0, old.2.2)).deskTest kind n (mode + 1)
    { s with wear := { s.wear with
        marchLine := if mode = 0 then Map.insert n 0 s.wear.marchLine else s.wear.marchLine } }

/-- MARCH_RUN (R398). -/
def execMarchRun (id : Nat) (s : State) : Out := .next (s.onTabqua id 0x0E20 (fun s => s.marchRun id))

/-- MARCH_RESULT (R400). -/
def execMarchResult (id : Nat) (s : State) : Out :=
  .next (s.onTabqua id 0x0E21 (fun s =>
    let p := s.pktOf id
    let r := s.marchOf (param p 0) (param p 1)
    s.finish id St.ok (r.1 + 256 * (r.2.1 % 256) + 65536 * (r.2.2 % 256)) false none))

/-- A preserving test ends. -/
def State.endPreserving (s : State) (n result : Nat) : State :=
  let s := (s.setMarch 1 n (result, 0, (s.marchOf 1 n).2.2)).deskTest 1 n 0
  { s with wear := { s.wear with marchLine := Map.erase n s.wear.marchLine } }

/-- PRESERVING_MARCH_BURST (R398, R399): one line is tested and restored; a failing column sets FAIL and
marks the position FAILED. -/
def execPreservingMarchBurst (n : Nat) (good : Bool) (s : State) : Out :=
  .next (
    match Map.find n s.wear.marchLine with
    | some l =>
      if good then
        if l + 1 < 2048 then { s with wear := { s.wear with marchLine := Map.insert n (l + 1) s.wear.marchLine } }
        else s.endPreserving n marchPassed
      else ((s.endPreserving n marchFailed).setFlag (Reg.deskStat n) F.DeskStat.fail true).failUnit n
    | none => s)

/-- The kind number of a unit kind. -/
def marchKind (k : MarchKind) : Nat :=
  match k with
  | .desk => 1
  | .slice => 2
  | .l2 => 3
  | .caches => 4

/-- Log one column repair; array, column and spare are free values (Table 15.4). DESIGN CHOICE (log 53). -/
def State.logColumn (s : State) (u : Nat) : State :=
  let w := s.freshWord
  w.2.logRepair (BitVec.ofNat 32 (2 ^ 30 + u * 2 ^ 22 + w.1.toNat % 2 ^ 22))

/-- Log `n` column repairs. -/
def State.logColumns (s : State) (u : Nat) : Nat → State
  | 0 => s
  | n + 1 => (s.logColumn u).logColumns u n

/-- A destructive test leaves a Desk UNKNOWN: every byte listed in it is a free value (R398).
DESIGN CHOICE (log 53). -/
def State.spoilDesk (s : State) (n : Nat) : State :=
  let a := deskBase n
  let mem := (s.mem.filter (fun c => decide (a ≤ c.1) && decide (c.1 < a + 0x20000))).foldl
    (fun (m : List Host.Cell) c => Memory.setByte m c.1 ((Config.freeWord (s.picks + (c.1 - a))).setWidth 8)) s.mem
  { s with mem := mem, picks := s.picks + 2 ^ 17 }

/-- MARCH_TEST_COMPLETE (R399): a destructive test ends; columns are repaired and logged, and a column without
a spare makes the unit FAILED. -/
def execMarchTestComplete (k : MarchKind) (n : Nat) (repaired left : Nat) (ok : Bool) (s : State) : Out :=
  .next (
    let kind := marchKind k
    if (s.marchOf kind n).1 = marchRunning ∧ (kind ≠ 1 ∨ (Map.find n s.wear.marchLine).isNone) then
      let r := if !ok then marchFailed else if repaired = 0 then marchPassed else marchRepaired
      let s := ((s.setMarch kind n (r, repaired, left)).deskTest kind n 0).logColumns (marchUnit kind n) repaired
      let s := if kind = 1 then s.spoilDesk n else s
      if ok then s
      else
        let s := if kind = 1 then s.setFlag (Reg.deskStat n) F.DeskStat.fail true else s
        s.failUnit (marchUnit kind n)
    else s)

/-! ### Diagnostics (R400) -/

/-- DRAM_STATUS (R400): DC_STAT[0] to DC_STAT[3]. -/
def execDramStatus (id : Nat) (s : State) : Out :=
  .next (s.onTabqua id 0x0E30 (fun s =>
    s.finishOut id (((List.range 4).map (fun c => toBytes (s.rd (Reg.dcStat c)).toNat 8)).flatten)))

/-- DRAM_SET (R400): it applies at the next Term boundary. DESIGN CHOICE (log 53). -/
def execDramSet (id : Nat) (s : State) : Out :=
  .next (s.onTabqua id 0x0E31 (fun s =>
    let p := s.pktOf id
    s.finishStaged id 1
      (.dram (param p 0) (BitVec.ofNat 64 (le p 64 8)) (BitVec.ofNat 64 (le p 72 8)) (byteAt p 80))))

end Sys2Proof.Machine
end

