-- ==== Sys2Proof/Machine/RollCall.lean ====
section
/-! DEFINITION. Roll call, the census, the field repair log's output, and the Marker (R422 to R426, R435,
R439 to R441, Tables 15.6 and 15.7). -/

namespace Sys2Proof.Machine

/-! ### Drift (R423) -/

/-- The expected loop period of a unit as a fraction of 10 fs units, bilinear as R17; `mv` is clamped to the
table, `t` counts from −5 °C. -/
def expectedPeriod (u mv t : Nat) : Frac :=
  let mv := max 560 (min mv 900)
  let t := min t 110
  let v := if mv ≤ 600 then 0 else if mv ≤ 700 then 1 else if mv ≤ 800 then 2 else 3
  let j := if t ≤ 30 then 0 else 1
  let v1 := vPoint v
  let v2 := vPoint (v + 1)
  let t1 := tPoint j
  let t2 := tPoint (j + 1)
  let p := Config.loopPeriod u
  (p v j * (v2 - mv) * (t2 - t) + p (v + 1) j * (mv - v1) * (t2 - t) +
    p v (j + 1) * (v2 - mv) * (t - t1) + p (v + 1) (j + 1) * (mv - v1) * (t - t1), (v2 - v1) * (t2 - t1))

/-- The loop on VEDGE of unit 172 stands under this number (log entry 47). DEDUCED (log 47). -/
abbrev edgeLoopUnit : Nat := 179

/-- The unit's loop lies on VEDGE, characterised at 0.800 V. -/
def onVedge (u : Nat) : Bool := u == 173 || u == 174 || u == edgeLoopUnit

/-- The VCORE point at which a unit's expected period is taken, in mV: the last acknowledged setpoint. -/
def State.loopMv (s : State) (u : Nat) : Option Nat := if onVedge u then some 800 else s.avs.current.map setpointMv

/-- A window of 2^16 steps in units of 10 fs. -/
def windowTime : Nat := 262144 * 100000

/-- Measured period over expected period, for `n` cycles in the window. -/
def loopRatio (e : Frac) (n : Nat) : Frac := (windowTime * e.2, n * e.1)

/-- The ratio is at least `k` per cent above 1. DEDUCED (log 47). -/
def driftAtLeast (r : Frac) (k : Nat) : Bool := decide (r.2 * (100 + k) ≤ r.1 * 100)
/-- The ratio is more than `k` per cent above 1. -/
def driftAbove (r : Frac) (k : Nat) : Bool := decide (r.2 * (100 + k) < r.1 * 100)
/-- The drift in units of 0.01 %, to the nearest. DEDUCED (log 47). -/
def driftCode (r : Frac) : Int := (((2 * 10000 * r.1 + r.2) / (2 * r.2) : Nat) : Int) - 10000

/-- A measurement is discarded (R423). -/
def State.discards (s : State) (cycles : Nat) (moved : Bool) : Bool :=
  s.flag Reg.vpolStat F.VpolStat.busy || s.flag Reg.vpolStat F.VpolStat.avsFault ||
  s.flag Reg.timeStat F.TimeStat.holdover || moved || cycles == 0

/-! ### Measurements (R424, R425) -/

/-- Report the drift of a unit, and WARN. -/
def State.reportDrift (s : State) (u : Nat) (r : Frac) : State :=
  let d := driftCode r
  let s := s.setFld (Reg.rcUnit u) F.RcUnit.drift (satSigned 16 d)
  let s := if signed 16 (s.fld (Reg.rcUnit u) F.RcUnit.driftMax) < d then
    s.setFld (Reg.rcUnit u) F.RcUnit.driftMax (satSigned 16 d) else s
  s.setFlag (Reg.rcUnit u) F.RcUnit.warn (driftAtLeast r 4)

/-- Set how many measurements in a row have exceeded 6 %. -/
def State.setConfirm (s : State) (u n : Nat) : State :=
  { s with wear := { s.wear with confirm := Map.put 0 s.wear.confirm u n } }

/-- A unit exceeds 6 %: two further measurements follow, and the third in a row marks it WORN. -/
def State.confirmDrift (s : State) (u : Nat) (r : Frac) : State :=
  let n := Map.get 0 s.wear.confirm u
  if s.unitState u = unitWorn ∨ s.unitState u = unitFailed then s
  else if !driftAbove r 6 then s.setConfirm u 0
  else if n < 2 then s.setConfirm u (n + 1)
  else (s.setConfirm u 0).wearUnit u

/-- The running pass has measured the unit; it is complete when it has measured units 0 to 178. -/
def State.passMeasured (s : State) (u : Nat) : State :=
  if !s.wear.passRunning then s
  else
    let m := insertNat u s.wear.measured
    if (List.range 179).all (m.contains ·) then
      ({ s with wear := { s.wear with passRunning := false, measured := [] } }).satFld Reg.rcStat F.RcStat.passes 1
    else { s with wear := { s.wear with measured := m } }

/-- A valid measurement of unit `u`. Unit 172 has the greater drift of its two loops. -/
def State.measured (s : State) (u : Nat) (r : Frac) : State :=
  if u = edgeLoopUnit then { s with wear := { s.wear with edgeLoop := r } }
  else
    let e := s.wear.edgeLoop
    let r := if u = 172 ∧ r.1 * e.2 < e.1 * r.2 then e else r
    ((s.reportDrift u r).confirmDrift u r).passMeasured u

/-- ROLLCALL_WINDOW (R422 to R425): unit `u` counted `cycles` in its window; the sensor nearest to it reads
`tempC` °C above −5, and `moved` tells that it changed by more than 2 °C. -/
def execRollcallWindow (u cycles tempC : Nat) (moved : Bool) (s : State) : Out :=
  .next (
    match s.loopMv u with
    | some mv =>
      if s.running && decide (u ≤ edgeLoopUnit) && (s.wear.passRunning || Map.get 0 s.wear.confirm u != 0) &&
          !s.discards cycles moved then
        s.measured u (loopRatio (expectedPeriod u mv tempC) cycles)
      else s
    | none => s)

/-- A pass starts. -/
def State.startPass (s : State) : State :=
  if s.wear.passRunning then s
  else { s with wear := { s.wear with passRunning := true, measured := [], lastPass := s.uptime } }

/-- CENSUS_PASS (R424): every CENSUS_MS ms while EN is 1. -/
def execCensusPass (s : State) : Out :=
  .next (
    if s.serving && s.flag Reg.rcCtl F.RcCtl.en &&
        decide (s.wear.lastPass + 1000000 * s.fld Reg.rcCtl F.RcCtl.censusMs ≤ s.uptime) then s.startPass
    else s)

/-- HANDSHAKE_TIMEOUT (R426): below 0.56 V the part guarantees nothing (R19). -/
def execHandshakeTimeout (u : Nat) (valid : Bool) (s : State) : Out :=
  if valid then .next (if s.running ∧ u ≤ 178 then (s.failUnit u).machineCheck else s)
  else .fault (.notGuaranteed "R19")

/-- ROLLCALL_RUN (R424): an extra pass. -/
def execRollcallRun (id : Nat) (s : State) : Out :=
  .next (s.onTabqua id 0x0E02 (fun s => (s.finishOk id).startPass))

/-- ROLLCALL_STATUS (R440): RC_STAT, then RC_UNIT[0] to RC_UNIT[178]. -/
def execRollcallStatus (id : Nat) (s : State) : Out :=
  .next (s.onTabqua id 0x0E01 (fun s =>
    s.finishOut id ((Reg.rcStat :: (List.range 179).map (fun u => Reg.rcUnit u)).map (fun a =>
      toBytes (s.shownReg a).toNat 8)).flatten))

/-- REPAIR_LOG_READ (R440): RLOG_STAT, then 256 entries in RLOG layout. -/
def execRepairLogRead (id : Nat) (s : State) : Out :=
  .next (s.onTabqua id 0x0E03 (fun s =>
    s.finishOut id ((Reg.rlogStat :: (List.range 256).map (fun i => Reg.rlog i)).map (fun a =>
      toBytes (s.shownReg a).toNat 8)).flatten))

/-- ROT_POLICY (R440). -/
def execRotPolicy (id : Nat) (s : State) : Out :=
  .next (s.onTabqua id 0x00A1 (fun s =>
    let p := s.pktOf id
    let s := (s.finishOk id).setFld Reg.rotPol F.RotPol.autoWorn (le p 52 2)
    (s.setFld Reg.rotPol F.RotPol.autoFail (le p 54 2)).setFld Reg.rcCtl F.RcCtl.censusMs (le p 56 2)))

/-! ### The Marker (R439) -/

/-- SNAPNO and the next entry of buffer `b`. -/
def State.snapAt (s : State) (b : Nat) : Nat × Nat := Map.get (0, 0) s.wear.snaps b
/-- Set them. -/
def State.setSnap (s : State) (b : Nat) (v : Nat × Nat) : State :=
  { s with wear := { s.wear with snaps := Map.put (0, 0) s.wear.snaps b v } }

/-- Counter and event of a unit's counter `i`, as the snapshot shows them. -/
def counterPair (cnt sel : Word) : List Byte × List Byte :=
  (toBytes (cnt.toNat % 2 ^ 48 + (if cnt.getLsbD 63 then 2 ^ 63 else 0)) 8, toBytes (sel.toNat % 65536) 2)

/-- The eight slots of a unit's entry; of a Tiller position, those of one world (Table 15.6). -/
def State.snapSlots (s : State) (u : Nat) (secure : Bool) : List (List Byte × List Byte) :=
  if u ≤ 71 then
    let c (i : Nat) := if secure then counterPair (s.rd (Reg.mksCnt u i)) (s.rd (Reg.mksSel u i))
      else counterPair (s.rd (Reg.mkoCnt u i)) (s.rd (Reg.mkoSel u i))
    let d (i : Nat) := counterPair (s.rd (if secure then Reg.mksTd u i else Reg.mkoTd u i)) (BitVec.ofNat 64 (0xFFF0 + i))
    (List.range 4).map c ++ (List.range 4).map d
  else
    (List.range 4).map (fun i => counterPair (s.rd (Reg.mkUcnt u i)) (s.rd (Reg.mkUsel u i))) ++
    List.replicate 4 (zeros 8, zeros 2)

/-- A 128-byte entry, latched within 500 ns of the snapshot. DESIGN CHOICE (log 48). -/
def State.snapEntry (s : State) (b u : Nat) (secure : Bool) (latch : Nat) : List Byte :=
  let l := s.snapSlots u secure
  slice (toBytes (u + (if s.wear.rotated.contains (b, u) then 65536 else 0)) 8 ++ toBytes latch 8 ++
    (l.map (·.1)).flatten ++ (l.map (·.2)).flatten) 0 128

/-- The entries of a snapshot: the units that House `b` holds, in the open world; or for the device every
unit, and a Tiller position in each world (log entry 48). -/
def State.snapUnits (s : State) (b : Nat) : List (Nat × Bool) :=
  if b < 4 then
    ((s.tillersOf b).map (fun t => ((s.tiller t).pos, false))) ++
    (s.ownLanes b).map (fun n => (72 + n, false)) ++
    (s.ownMills b false).map (fun n => (81 + n, false)) ++ (s.ownMills b true).map (fun n => (117 + n, false)) ++
    ((List.range 4).filter (s.ownsPort b ·)).map (fun p => (184 + p, false))
  else
    ((List.range 72).map (fun u => [(u, false), (u, true)])).flatten ++
    (List.range 116).map (fun i => (72 + i, false))

/-- Write 128 bytes into entry `i` of buffer `b`; a channel that refuses the write loses it.
DESIGN CHOICE (log 48). -/
def State.snapWrite (s : State) (b i : Nat) (bs : List Byte) : State :=
  let m := s.rd (Reg.mkBuf b)
  let a := 4096 * F.MkBuf.base.get m + 128 * (i % 2 ^ F.MkBuf.log2.get m)
  if (s.regionAt a).isSome && !s.retiredAt a then s.memWrite a bs else s

/-- Write the entries of a snapshot from ring entry `i` on. -/
def State.snapEntries (s : State) (b : Nat) : Nat → List (Nat × Bool) → State
  | _, [] => s
  | i, e :: es =>
    let c := s.choose 501
    (c.2.snapWrite b i (c.2.snapEntry b e.1 e.2 (s.dtime + c.1))).snapEntries b (i + 1) es

/-- A snapshot into buffer `b`: 0 to 3 a House, 4 the device; `cause` 0 Term, 1 command.
DESIGN CHOICE (log 48). -/
def State.snapshot (s : State) (b cause : Nat) : State :=
  if !s.flag Reg.mkCtl F.MkCtl.en || s.fld (Reg.mkBuf b) F.MkBuf.log2 < 4 then s
  else
    let p := s.snapAt b
    let us := s.snapUnits b
    let head := slice (toBytes p.1 8 ++ toBytes s.dtime 8 ++ toBytes s.term 4 ++ toBytes b 1 ++ toBytes cause 1 ++
      toBytes us.length 2) 0 128
    let s := (s.snapWrite b p.2 head).snapEntries b (p.2 + 1) us
    let s := s.setSnap b (p.1 + 1, (p.2 + 1 + us.length) % 2 ^ s.fld (Reg.mkBuf b) F.MkBuf.log2)
    { s with wear := { s.wear with rotated := s.wear.rotated.filter (fun e => e.1 != b) } }

/-- The snapshots of a Term boundary. -/
def State.termSnapshots (s : State) : State :=
  if s.flag Reg.mkCtl F.MkCtl.termSnap then
    (List.range 5).foldl (fun (s : State) b => s.snapshot b 0) s
  else s

/-- MARKS_SNAPSHOT (R439): of the signer's House, or of the device for the owner. -/
def execMarksSnapshot (id : Nat) (s : State) : Out :=
  .next (s.onTabqua id 0x0E10 (fun s =>
    let b := if (s.slate id).signer = some ownerSigner then 4 else s.houseOfSlate id
    (s.finishOk id).snapshot b 1))

/-- Does House `h` hold unit `u`, of those with selectors of their own? -/
def State.holdsUnit (s : State) (h u : Nat) : Bool := (s.snapUnits h).any (fun e => e.1 == u && decide (72 ≤ u))

/-- The unit entry `k` of a MARKS_CONFIG: u, counter, EN and IE, EVENT. -/
def marksEntry (p : List Byte) (k : Nat) : Nat × Nat × Nat × Nat :=
  let o := 73 + 6 * k
  (le p o 2, byteAt p (o + 2), byteAt p (o + 3), le p (o + 4) 2)

/-- The unit entries that are used: an all-zero entry is not. DESIGN CHOICE (log 16). -/
def marksEntries (p : List Byte) : List (Nat × Nat × Nat × Nat) :=
  ((List.range 8).map (marksEntry p)).filter (fun e => e != (0, 0, 0, 0))

/-- The buffer lies in open regions of the House. -/
def State.bufferOk (s : State) (h a n : Nat) : Bool :=
  (List.range (n / 4096 + 1)).all (fun i =>
    let x := a + min (4096 * i) (n - 1)
    match s.regionAt x with
    | some r => s.fld (Reg.dramRgnB r) F.DramRgnB.owner == h && s.fld (Reg.dramRgnB r) F.DramRgnB.secure == 0
    | none => false)

/-- MARKS_CONFIG (R436, R439, R440). -/
def State.marksConfig (s : State) (id : Nat) : State :=
  let p := s.pktOf id
  let h := s.houseOfSlate id
  let es := marksEntries p
  let base := le p 64 8
  let log2 := byteAt p 72
  if !s.bufferOk h base (128 * 2 ^ log2) || es.any (fun e => !s.holdsUnit h e.1) then
    s.finishFail id St.notPermitted 0
  else
    let s := ((s.finishOk id).wr (Reg.mkBuf h) (BitVec.ofNat 64 (base + log2))).setSnap h (0, 0)
    es.foldl (fun (s : State) e =>
      s.wr (Reg.mkUsel e.1 e.2.1) (BitVec.ofNat 64
        (e.2.2.1 % 2 * 2 ^ 63 + e.2.2.1 / 2 % 2 * 2 ^ 62 + e.2.2.2))) s

/-- MARKS_CONFIG (R440). -/
def execMarksConfig (id : Nat) (s : State) : Out := .next (s.onTabqua id 0x0E11 (fun s => s.marksConfig id))

end Sys2Proof.Machine
end

