-- ==== Sys2Proof/Machine/Rotation.lean ====
section
/-! DEFINITION. Crop rotation: its targets, their tests, the rotation of each kind of unit, the migration
of a Tiller, and a unit reset; and the Term boundary, which makes rotations due (R207, R412, R428 to R434,
Tables 15.2 and 15.3). -/

namespace Sys2Proof.Machine

/-! ### Targets (R429) -/

/-- A fallow unit may become a target: FALLOW, last drift below 4.00 %, and not chosen already. -/
def State.mayTarget (s : State) (u : Nat) : Bool :=
  s.unitState u == unitFallow && !s.wear.retired.contains u && !s.flag (Reg.rcUnit u) F.RcUnit.warn &&
  !s.wear.rots.any (fun r => r.target == some u)

/-- The units that may replace `u`: a Tiller's is the fallow position of its own Sheaf. -/
def rotPool (u : Nat) : List Nat :=
  match unitKind u with
  | some 0 => [u / 9 * 9 + 8]
  | some k => unitsOf k
  | none => []

/-- The lowest-numbered unit that may replace `u`. DESIGN CHOICE (log 40). -/
def State.rotTarget (s : State) (u : Nat) : Option Nat := (rotPool u).find? (fun m => m != u && s.mayTarget m)

/-- Change the queued rotation of `u`. -/
def State.modRot (s : State) (u : Nat) (f : Rot → Rot) : State :=
  { s with wear := { s.wear with rots := s.wear.rots.map (fun r => if r.u = u then f r else r) } }
/-- Remove it. -/
def State.dropRot (s : State) (u : Nat) : State :=
  { s with wear := { s.wear with rots := s.wear.rots.filter (fun r => r.u != u) } }

/-- A queued rotation whose target is tested, and still FALLOW. -/
def State.rotReady (s : State) (r : Rot) : Option Nat :=
  match r.target with
  | some m => if r.tested && s.unitState m == unitFallow then some m else none
  | none => none

/-- The target that the entry tests of a queued rotation run on: the named one while it is FALLOW, else the
next candidate. -/
def State.testTarget (s : State) (r : Rot) : Option Nat :=
  match r.target with
  | some m => if !r.tested && s.unitState m == unitFallow then some m else s.rotTarget r.u
  | none => s.rotTarget r.u

/-- ROTATION_TARGET_TESTED (R429): the entry tests of the first queued rotation that lacks a tested target
end, and a target that fails is marked FAILED. -/
def execRotationTargetTested (ok : Bool) (s : State) : Out :=
  .next (
    if !s.running then s
    else
      match s.wear.rots.find? (fun r => (s.rotReady r).isNone && (s.testTarget r).isSome) with
      | some r =>
        match s.testTarget r with
        | some m =>
          if ok then s.modRot r.u (fun r => { r with target := some m, tested := true })
          else (s.modRot r.u (fun r => { r with target := none, tested := false })).failUnit m
        | none => s
      | none => s)

/-! ### A Tiller (R432, Tables 15.2 and 15.3) -/

/-- Copy a register. -/
def State.copyReg (s : State) (a b : Nat) : State := s.wr b (s.rd a)

/-- Copy the Desk of position `n` to position `m`: words that cannot be read stay poisoned in a migration,
and become zero where `zero` is set. -/
def State.copyDesk (s : State) (n m : Nat) (zero : Bool) : State :=
  let a := deskBase n
  let b := deskBase m
  let mine (x : Nat) : Bool := decide (a ≤ x) && decide (x < a + 0x20000)
  let cells := s.mem.filter (fun c => mine c.1 && !(zero && s.poison.contains (c.1 / 8 * 8)))
  let bad := s.poison.filter mine
  let s := s.zeroRange b 0x20000
  let s := cells.foldl (fun (s : State) c => { s with mem := Memory.setByte s.mem (c.1 - a + b) c.2 }) s
  if zero then s else bad.foldl (fun (s : State) k => s.poisonLine (k - a + b)) s

/-- Registers of the position that follow the Tiller: SWM_DESK and the RAT entries. -/
def State.copyPosRegs (s : State) (n m : Nat) : State :=
  (List.range 16).foldl (fun (s : State) e =>
    (s.copyReg (Reg.ratA (16 * n + e)) (Reg.ratA (16 * m + e))).copyReg (Reg.ratB (16 * n + e))
      (Reg.ratB (16 * m + e))) (s.copyReg (Reg.swmDesk n) (Reg.swmDesk m))

/-- Addresses of slot `n` reach position `m` from now on: RC_ALIAS. -/
def State.aliasSlot (s : State) (n : Nat) : State := s.setFld Reg.rcAlias ⟨4 * (n / 9), 4⟩ (8 + n % 9)

/-- Put logical Tiller `t` at position `m`. -/
def State.placeTiller (s : State) (t m : Nat) : State := s.modTiller t (fun x => { x with pos := m })

/-- Migrate a WORN Tiller from position `n` to `m` (Table 15.3). -/
def State.migrate (s : State) (t n m : Nat) : State :=
  let s := ((s.drainAll t).getD s).modTiller t (fun x => x.dropCaches)
  let s := ((s.copyPosRegs n m).copyDesk n m false).aliasSlot n
  s.placeTiller t m

/-- Replace a FAILED Tiller: the target starts as after a unit reset, and HS_EVENT is raised to the
House. -/
def State.replaceTiller (s : State) (t n m : Nat) : State :=
  let s := (s.reissueWork t).tillerReset t false
  let s := ((s.copyPosRegs n m).copyDesk n m true).aliasSlot n
  (s.placeTiller t m).hsEvent t

/-- The Tiller has stopped where it can be migrated: at an instruction boundary, with no store that must wait. -/
def State.mayMigrate (s : State) (t : Nat) : Bool :=
  (!(s.tiller t).on || (s.tiller t).halted || (s.tiller t).atBoundary) && (s.drainAll t).isSome

/-! ### A lane (Table 15.2) -/

/-- The House that a lane serves once it is not draining. -/
def Lane.heads (l : Lane) : Option Nat := if l.draining then l.nextHouse else l.serves

/-- Two healthy fallow S-mills. -/
def State.millPair (s : State) : Option (Nat × Nat) :=
  match (List.range 36).filter (fun k => s.mayTarget (81 + k)) with
  | a :: b :: _ => some (a, b)
  | _ => none

/-- Bind S-mill `k` to lane `n` and put it in service. -/
def State.bindMill (s : State) (n k : Nat) : State :=
  (s.setFld (Reg.millS k) F.MillS.lane n).setFld (Reg.millS k) F.MillS.state unitService

/-- The lane that takes over the House assignment of another. -/
def Lane.successor (l : Lane) : Lane :=
  { owner := l.owner
    lent := l.lent
    nextHouse := l.heads
    draining := true }

/-- Rotate a WORN lane: it drains, and its successor starts at once with a fresh pair of S-mills, or after
the drain with the old pair. -/
def State.rotateLane (s : State) (n m : Nat) : State :=
  let l := s.lane n
  let old : Lane := { l with owner := none, serves := none, lent := none, nextHouse := none, draining := true, retiring := true }
  match s.millPair with
  | some (a, b) =>
    (((s.setLane n old).setLane m l.successor).bindMill m a).bindMill m b |>.laneServe m
  | none =>
    ((s.setLane n { old with heir := some m }).setLane m l.successor).laneState m unitDraining

/-- The slates in a lane's positions are reissued (R99, R137). -/
def State.reissueLane (s : State) (n : Nat) : State :=
  ((List.range 4).reverse).foldl (fun (s : State) p =>
    match (s.lane n).pos.getD p none with
    | some id =>
      let s := s.emptyPos n p
      if (s.slate id).unclaimed then s.requeueHead id else s.leaveWork id
    | none => s) s

/-- Replace a FAILED lane: the target takes its assignment and its S-mills. -/
def State.replaceLane (s : State) (n m : Nat) : State :=
  let s := s.reissueLane n
  let l := s.lane n
  let s := (s.boundMills n).foldl (fun (s : State) k => s.setFld (Reg.millS k) F.MillS.lane m) s
  ((s.setLane n {}).setLane m l.successor).laneServe m

/-! ### Mills, slices (Table 15.2) -/

/-- The operation in a mill waits for another one, ahead of the others (R99). DEDUCED (log 39). -/
def State.reissueMill (s : State) (pmill : Bool) (n : Nat) : State :=
  match s.millOp pmill n with
  | some o =>
    let s := s.setMill pmill n none
    { s with millQ := (pmill, o) :: s.millQ }
  | none => s

/-- The target takes a mill's lane binding, its reservation and its loan. -/
def State.rebindMill (s : State) (pmill : Bool) (n m : Nat) : State :=
  let s := if pmill then s
    else (s.setFld (Reg.millS m) F.MillS.lane (s.fld (Reg.millS n) F.MillS.lane)).setFld (Reg.millS n)
      F.MillS.lane 0xF
  { s with
    millOwn := match Map.find (millUnit pmill n) s.millOwn with
      | some h => Map.insert (millUnit pmill m) h (Map.erase (millUnit pmill n) s.millOwn)
      | none => s.millOwn
    millLoans := s.millLoans.map (fun e => if e.1 = pmill ∧ e.2.1 = n then (pmill, m, e.2.2) else e) }

/-- The lines of a logical slice leave it: dirty ones are written back, and those that a FAILED slice cannot
give are written as poisoned; which these are is free. DESIGN CHOICE (log 64). -/
def State.emptySlice (s : State) (u l : Nat) (failed : Bool) : State :=
  let mine (x : Nat) : Bool := sliceOf x == l
  let dirty := ((s.granary.map (·.2)).flatten.filter (fun e => mine e.1 && e.2)).map (·.1)
  let s := { s with granary := s.granary.foldl (fun (m : List (Nat × Lines)) e =>
      Map.put [] m e.1 (e.2.filter (fun x => !mine x.1))) s.granary }
  dirty.foldl (fun (s : State) line =>
    let s := s.markUnit u 0x0303 1
    if failed then
      let c := s.choose 2
      if c.1 = 1 then c.2.poisonLine line else c.2
    else s) s

/-- The logical slice moves from physical slice `n` to `m` (R377). -/
def State.remapSlice (s : State) (n m : Nat) (failed : Bool) : State :=
  let l := s.fld (Reg.gsStat n) F.GsStat.logical
  let s := s.emptySlice (135 + n) l failed
  (s.setFld (Reg.gsStat m) F.GsStat.logical l).setFld (Reg.gsStat n) F.GsStat.logical 0x1F

/-! ### Rotation (R430, R431) -/

/-- What a rotation of each kind does before the common steps. -/
def State.rotateKind (s : State) (u m : Nat) (failed : Bool) : State :=
  match unitKind u with
  | some 0 =>
    match s.tillerOn u with
    | some t => if failed then s.replaceTiller t u m else s.migrate t u m
    | none => s
  | some 1 => if failed then s.replaceLane (u - 72) (m - 72) else s.rotateLane (u - 72) (m - 72)
  | some 2 => (if failed then s.reissueMill false (u - 81) else s).rebindMill false (u - 81) (m - 81)
  | some 3 => (if failed then s.reissueMill true (u - 117) else s).rebindMill true (u - 117) (m - 117)
  | some 4 => s.remapSlice (u - 135) (m - 135) failed
  | _ => s

/-- The units of a rotation are marked for the Marker's next snapshots. -/
def State.markRotated (s : State) (u m : Nat) : State :=
  { s with wear := { s.wear with
      rotated := s.wear.rotated ++ (List.range 5).flatMap (fun b => [(b, u), (b, m)]) } }

/-- Rotate `u` to `m` (R431): the term, the states, the log, and the count. The successor of a lane keeps
the state that its assignment gave it. DEDUCED (log 63). -/
def State.rotate (s : State) (u m : Nat) (failed : Bool) : State :=
  let s := s.bumpTerm u
  let s := s.rotateKind u m failed
  let s := (s.setUnitState u (if failed then unitFailed else unitWorn)).retireUnit u
  let s := if unitKind m = some 1 then s else s.setUnitState m unitService
  let s := ((s.markRotated u m).logRepair (retireEntry u)).satFld Reg.rcStat F.RcStat.rotDone 1
  (s.dropRot u).feedMills

/-- A FAILED lane without a target: its House loses the lane. -/
def State.loseLane (s : State) (n : Nat) : State :=
  let s := s.reissueLane n
  let s := (s.boundMills n).foldl (fun (s : State) k =>
    (s.setFld (Reg.millS k) F.MillS.lane 0xF).setFld (Reg.millS k) F.MillS.state unitFallow) s
  match (s.lane n).owner with
  | some h =>
    let s := (s.setLane n {}).setFld (Reg.houseShr h) F.HouseShr.lanes (s.lanesOf h - 1)
    if s.lanesOf h = 0 then s.poolShift h else s
  | none => s.setLane n {}

/-- A FAILED mill without a target: the House that reserves it loses it; a lane keeps its other mill. -/
def State.loseMill (s : State) (pmill : Bool) (n : Nat) : State :=
  let s := s.reissueMill pmill n
  let s := if pmill then s else s.setFld (Reg.millS n) F.MillS.lane 0xF
  match Map.find (millUnit pmill n) s.millOwn with
  | some h =>
    let f := if pmill then F.HouseShr.pmills else F.HouseShr.smills
    (s.ownMill pmill n none).setFld (Reg.houseShr h) f (s.millShare h pmill - 1)
  | none => s

/-- A FAILED Tiller without a target leaves its House. -/
def State.loseTiller (s : State) (t : Nat) : State :=
  let s := (s.reissueWork t).tillerReset t false
  let s := match s.tillerHouse t with
    | some h => s.setFld (Reg.houseTil h) ⟨t, 1⟩ 0
    | none => s
  let s := (List.range 5).foldl (fun (s : State) h => s.modHouse h (fun v =>
    { v with tillersClearing := v.tillersClearing.filter (· != t) })) s
  { s with leaving := Map.erase t s.leaving }.modTiller t (fun x => { x with on := false })

/-- A FAILED unit with no target is taken out of service (R430). DEDUCED (log 63). -/
def State.loseUnit (s : State) (u : Nat) : State :=
  let s := s.bumpTerm u
  let s := match unitKind u with
    | some 0 =>
      match s.tillerOn u with
      | some t => s.loseTiller t
      | none => s
    | some 1 => s.loseLane (u - 72)
    | some 2 => s.loseMill false (u - 81)
    | some 3 => s.loseMill true (u - 117)
    | some 4 => (s.emptySlice u (s.fld (Reg.gsStat (u - 135)) F.GsStat.logical) true).setFld
        (Reg.gsStat (u - 135)) F.GsStat.logical 0x1F
    | _ => s
  (s.retireUnit u).feedMills

/-- No target remains (R430). DEDUCED (log 63). -/
def State.rotShort (s : State) (r : Rot) : State :=
  let s := (s.setFld Reg.rcStat ⟨24 + (unitKind r.u).getD 0, 1⟩ 1).dropRot r.u
  if r.failed then s.loseUnit r.u else s

/-- The rotation is due: at once, or from the Term boundary on. -/
def Rot.due (r : Rot) : Bool := r.now || r.failed || r.ready

/-- A Tiller that is migrated has to reach an instruction boundary first. -/
def State.rotWaits (s : State) (r : Rot) : Bool :=
  match s.tillerOn r.u with
  | some t => !r.failed && unitKind r.u == some 0 && !s.mayMigrate t
  | none => false

/-- ROTATION (R428 to R431): the first due rotation. -/
def execRotation (s : State) : Out :=
  .next (
    if !s.running then s
    else
      match s.wear.rots.find? Rot.due with
      | some r =>
        match s.rotReady r with
        | some m => if s.rotWaits r then s else s.rotate r.u m r.failed
        | none => if (s.testTarget r).isNone then s.rotShort r else s
      | none => s)

/-! ### ROTATE and UNIT_RESET (R440) -/

/-- A rotatable unit is in service; a Tiller position, with its Tiller. -/
def State.rotatable (s : State) (u : Nat) : Bool :=
  s.unitServing u && (unitKind u).isSome &&
  (unitKind u != some 0 || (match s.tillerOn u with
    | some t => (s.tiller t).on
    | none => false))

/-- ROTATE's target is acceptable: of the kind, FALLOW, and in the Sheaf. -/
def State.targetOk (s : State) (u m : Nat) : Bool :=
  m == 0xFFFF || ((rotPool u).contains m && s.unitState m == unitFallow && !s.wear.retired.contains m &&
    !s.wear.rots.any (fun r => r.target == some m))

/-- ROTATE (R428, R440). DEDUCED (log 63). -/
def State.rotateCmd (s : State) (id : Nat) : State :=
  let p := s.pktOf id
  let u := le p 52 2
  let m := le p 54 2
  if !s.rotatable u || s.rotQueued u || !s.targetOk u m then s.finishFail id St.notPermitted 0
  else
    (s.finishOk id).queueRot
      { u := u
        failed := s.unitState u == unitFailed
        now := (byteAt p 56).testBit 0
        target := if m = 0xFFFF then none else some m
        tested := false }

/-- ROTATE (R440). -/
def execRotate (id : Nat) (s : State) : Out := .next (s.onTabqua id 0x00A0 (fun s => s.rotateCmd id))

/-- A unit reset without rotation (R412): slates follow R99. DEDUCED (log 65). -/
def State.unitReset (s : State) (u : Nat) : State :=
  match unitKind u with
  | some 0 =>
    match s.tillerOn u with
    | some t => (s.reissueWork t).tillerReset t true
    | none => s
  | some 1 => (s.bumpTerm u).reissueLane (u - 72)
  | some 2 => ((s.bumpTerm u).reissueMill false (u - 81)).feedMills
  | some 3 => ((s.bumpTerm u).reissueMill true (u - 117)).feedMills
  | _ => s.bumpTerm u

/-- UNIT_RESET (R412, R440). -/
def execUnitReset (id : Nat) (s : State) : Out :=
  .next (s.onTabqua id 0x00A2 (fun s => (s.finishOk id).unitReset (le (s.pktOf id) 52 2)))

/-! ### The Term boundary (R206, R207) -/

/-- TERM_BOUNDARY (R207, Table 7.2): in STOP the Term only counts, and staged changes apply at the first
boundary after the exit (chapter 14). DEDUCED (log 65). -/
def execTermBoundary (s : State) : Out :=
  .next (
    if s.timeRuns && s.termDue then
      let s := { s with termAt := s.dtime }
      if s.stopped || !s.serving then s.countFld Reg.termStat F.TermStat.term 1
      else ((((s.resumeHouses.applyAll).runLoans).newTerm).termSnapshots).readyRots
    else s)

end Sys2Proof.Machine
end

