-- ==== Sys2Proof/Machine/Start.lean ====
section
/-! DEFINITION. What a cold and a warm reset keep, and the start from the boot ROM to service (R75, R166,
R168, R171, R196, R214, R217, R233, R234, R304 to R306, R372, R390, R396, R402 to R408, R433, Tables 14.1
to 14.4). A start runs in the one step of the event that begins it (log entry 61). -/

namespace Sys2Proof.Machine

/-! ### What a reset keeps (Table 14.4) -/

/-- The registers on VAON, and the time base's status, which a warm reset keeps. DEDUCED (log 71). -/
def keptReg (cold : Bool) (a : Nat) : Bool :=
  a == Reg.tampCtl || a == Reg.tampStat || (!cold && a == Reg.timeStat)

/-- What the boot flash keeps of a House: its counters as sealed, HSK_EPOCH, RECNO as sealed, and its
journal's last stored seal and reserve (Table 14.1). -/
def House.kept (x : House) : House :=
  { ctr := x.ctr
    hskEpoch := x.hskEpoch
    recno := x.recnoSealed
    recnoSealed := x.recnoSealed
    j := { flashSeal := x.j.flashSeal, flashSealno := x.j.flashSealno, reserve := x.j.reserve } }

/-- A time base after a warm reset: device time, PPS lock and TREF state go on; a pending TIME_SET and
PPS_OUT do not. -/
def TimeBase.kept (x : TimeBase) : TimeBase :=
  { x with pendSet := none, ppsOut := false, ppsOutStart := 0, ppsOutSince := 0, ppsOutWidth := 100 }

/-- Every slate in use returns to FREE, with its generation increased (R80, R81). -/
def freedSlates (m : List (Nat × Slate)) : List (Nat × Slate) :=
  m.foldl (fun (r : List (Nat × Slate)) e =>
    Map.put {} r e.1 { gen := if e.2.st = .free then e.2.gen else (e.2.gen + 1) % 256 }) []

/-- A pending TIME_SET lapses at a warm reset, which clears PPS_IN_EN (R30). DEDUCED (log 71). -/
def State.lapseForReset (s : State) : State := if s.tb.pendSet.isSome then s.lapse else s

/-- The state that a cold or warm reset leaves, before the start. What stands outside the part stays: the
commands that wait, the levels of PERST#, the cards, and the DIMMs. DEDUCED (log 71). -/
def State.afterReset (s : State) (cold : Bool) : State :=
  { State.reset with
    pending := s.pending
    dtime := if cold then 0 else s.dtime
    termAt := if cold then 0 else s.dtime
    regs := s.regs.filter (fun e => keptReg cold e.1)
    mem := s.mem
    tb := if cold then {} else s.tb.kept
    avs := if cold then {} else { lastWrite := s.avs.lastWrite }
    ports := s.ports.foldl (fun (m : List (Nat × Port)) e => Map.put {} m e.1 { perstLow := e.2.perstLow }) []
    slates := freedSlates s.slates
    symSlots := s.symSlots
    asymSlots := s.asymSlots
    dev := { vshare := s.dev.vshare, custRoot := s.flash.dev.custRoot }
    ownerCtr := s.ownerCtr
    cards := s.cards.foldl (fun (m : List (Nat × Card)) e => Map.put {} m e.1 { present := e.2.present }) []
    houses := s.houses.foldl (fun (m : List (Nat × House)) e => Map.put {} m e.1 e.2.kept) []
    tillers := if cold then [] else s.tillers
    sharedEdges := if cold then [] else s.sharedEdges
    chans := s.chans.foldl (fun (m : List (Nat × Chan)) e =>
      Map.put {} m e.1 { dimm := e.2.dimm, ppr := e.2.ppr }) []
    power := { porst := cold, vaon := s.power.vaon, vpp := s.power.vpp }
    flash := s.flash
    tap := s.tap
    out := s.out
    picks := s.picks }

/-! ### The image (R403, R404) -/

/-- Image slot `k`: 0 A, 1 B. -/
def Flash.slotOf (f : Flash) (k : Nat) : Image := if k = 0 then f.slotA else f.slotB
/-- An image passes steps 2 to 4 of R403. -/
def imagePasses (i : Image) (minSvn : Nat) : Bool :=
  i.formed && decide (minSvn ≤ i.svn) && i.digest && i.sigEc && i.sigPq
/-- An image slot passes R403. -/
def Flash.slotPasses (f : Flash) (k : Nat) : Bool := imagePasses (f.slotOf k) f.minSvn

/-- The image that a slot programmed with some bytes holds (Table 14.2). A body that the bytes do not reach the end
of does not match its DIGEST. DEDUCED (log 74). -/
def imageOf (b : List Byte) : Image :=
  let len := le b 12 4
  let zeroAt (o n : Nat) : Bool := (slice b o n).all (· == 0)
  { formed := slice b 0 8 == ascii "KT8400TQ" && decide (1 ≤ len) && decide (len ≤ 33546240) &&
      zeroAt 64 192 && zeroAt 4979 3213
    svn := le b 8 4
    digest := decide (8192 + len ≤ b.length) && slice b 16 48 == sha384b (slice b 8192 len)
    sigEc := Config.imageEc (slice b 0 256) (slice b 256 96)
    sigPq := Config.imagePq (slice b 0 256) (slice b 352 4627) }

/-- Set BOOT_STAT for image slot `k`, or for none: a slot that was tried and failed sets its bit. -/
def State.reportBoot (s : State) (k : Option Nat) (stage : Nat) : State :=
  let p := s.flash.pref % 2
  let fails := match k with
    | some k => if k = p then 0 else 2 ^ p
    | none => 3
  s.wr Reg.bootStat (withFields 0 [(F.BootStat.svn, match k with
      | some k => (s.flash.slotOf k).svn
      | none => 0),
    (F.BootStat.stage, stage), (F.BootStat.fallback, match k with
      | some k => bit (k != p)
      | none => 0),
    (F.BootStat.slot, k.getD 0), (F.BootStat.pref, p), (F.BootStat.fails, fails)])

/-- The image that runs: the slot of PREF, or else the other one. -/
def Flash.image (f : Flash) : Option Nat := [f.pref % 2, 1 - f.pref % 2].find? (fun k => f.slotPasses k)

/-! ### Units (Table 15.1, R406, R433) -/

/-- Units in service at delivery, of a rotatable kind; the others of the kind are fallow. -/
def serviceAtDelivery (u : Nat) : Bool :=
  match unitKind u with
  | some 0 => u % 9 != 8
  | some 1 => u != 80
  | some 2 => decide (u < 113)
  | some 3 => decide (u < 133)
  | some 4 => decide (u < 151)
  | some 5 => u != 155
  | _ => false

/-- Each unit of a list with the unit that does its work: itself, the lowest fallow unit that is left in
place of a bad one, or none. -/
def replaceBad (bad : Nat → Bool) : List Nat → List Nat → List (Nat × Option Nat)
  | [], _ => []
  | u :: us, fs =>
    if !bad u then (u, some u) :: replaceBad bad us fs
    else match fs with
      | f :: fs => (u, some f) :: replaceBad bad us fs
      | [] => (u, none) :: replaceBad bad us []

/-- The assignment of a set of units of one kind. -/
def assignUnits (bad : Nat → Bool) (us : List Nat) : List (Nat × Option Nat) :=
  replaceBad bad (us.filter serviceAtDelivery) ((us.filter (fun u => !serviceAtDelivery u)).filter (fun u => !bad u))

/-- The assignment of all kinds; a Tiller's replacement comes from its own Sheaf. -/
def unitPlan (bad : Nat → Bool) : List (Nat × Option Nat) :=
  ((List.range 8).flatMap (fun k => assignUnits bad ((List.range 9).map (fun i => 9 * k + i)))) ++
  ([1, 2, 3, 4, 5].flatMap (fun k => assignUnits bad (unitsOf k)))

/-- Put unit `m` to the work of delivery unit `u`: its position, its slice, its state. -/
def State.serveUnit (s : State) (u : Nat) (m : Option Nat) : State :=
  match unitKind u, m with
  | some 0, some m =>
    let t := u / 9 * 8 + u % 9
    let s := (s.modTiller t (fun x => { x with pos := m })).setUnitState m unitService
    if m = u then s else s.aliasSlot u
  | some 0, none => s.modTiller (u / 9 * 8 + u % 9) (fun x => { x with on := false })
  | some 1, some m => s.setUnitState m unitIdle
  | some 4, some m =>
    (s.setFld (Reg.gsStat (m - 135)) F.GsStat.logical (u - 135)).setUnitState m unitService
  | some _, some m => s.setUnitState m unitService
  | _, _ => s

/-- S-mills 2n and 2n + 1, or their replacements, are bound to lane n, or to its replacement; those of a lane
that is gone return to fallow. -/
def State.bindPairs (s : State) (plan : List (Nat × Option Nat)) : State :=
  plan.foldl (fun (s : State) e =>
    match unitKind e.1, e.2 with
    | some 2, some m =>
      if e.1 - 81 < 16 then
        match plan.find? (fun l => l.1 == 72 + (e.1 - 81) / 2) with
        | some (_, some l) => s.setFld (Reg.millS (m - 81)) F.MillS.lane (l - 72)
        | _ => s.setUnitState m unitFallow
      else s
    | _, _ => s) s

/-- The units of a start: those that the log retires and those found FAILED are out of service; fallow
units take the place of those in service at delivery. DESIGN CHOICE (log 70). -/
def State.startUnits (s : State) (failed : List Nat) : State :=
  let gone := s.loggedRetired
  let bad (u : Nat) : Bool := failed.contains u || gone.contains u
  let s := (List.range 36).foldl (fun (s : State) k => s.setFld (Reg.millS k) F.MillS.lane 0xF) s
  let s := (List.range 18).foldl (fun (s : State) k => s.setFld (Reg.gsStat k) F.GsStat.logical 0x1F) s
  let s := (List.range 179).foldl (fun (s : State) u =>
    if failed.contains u then (s.setUnitState u unitFailed).retireUnit u
    else if gone.contains u then (s.setUnitState u unitWorn).retireUnit u
    else if (unitKind u).isNone then s.setUnitState u unitService
    else s) s
  let plan := unitPlan bad
  let s := (plan.foldl (fun (s : State) e => s.serveUnit e.1 e.2) s).bindPairs plan
  s.setFlag Reg.bootStat F.BootStat.degraded (plan.any (fun e => e.2.isNone))

/-! ### DRAM (R214, R390, R396) -/

/-- The data rate of every channel, in 100 MT/s: the highest supported one that every fitted DIMM's SPD and every
fitted channel's RATE_MAX allow (R380). -/
def State.dataRate (s : State) : Nat :=
  let cap (c : Nat) : Nat := [48, 52, 56, 60].getD (s.fld (Reg.dcCtl c) F.DcCtl.rateMax) 64
  let most := (((List.range 4).filter (fun c => (s.chan c).dimm.gb != 0)).map (fun c =>
    min (s.chan c).dimm.rate (cap c))).foldl min 64
  ([64, 60, 56, 52].find? (fun r => r ≤ most)).getD 48

/-- A DIMM that Table 13.1 supports; training fails on any other (R380, R390). -/
def dimmSupported (d : Dimm) : Bool :=
  decide (16 ≤ d.gb) && decide (d.gb ≤ 128) && decide (1 ≤ d.ranks) && decide (d.ranks ≤ 2) && decide (48 ≤ d.rate)

/-- Hard repairs of the rows that wait for one, up to the spare rows that the DIMM reports, which is free;
then training. DESIGN CHOICE (log 53, 70, 72). -/
def State.trainChannel (s : State) (c : Nat) : State :=
  let x := s.chan c
  let r := s.choose (x.ppr.length + 1)
  let left := x.ppr.drop r.1
  let s := r.2.modChan c (fun x => { x with ppr := left, trainedTj := signed 8 (s.fld Reg.tj F.Tj.tj) })
  let d := x.dimm
  let st := if d.gb = 0 then chanAbsent else if d.trains then chanService else chanRetired
  let s := if d.gb ≠ 0 ∧ !d.trains then s.setFld (Reg.dcErr c) F.DcErr.kind errTraining else s
  s.wr (Reg.dcStat c) (withFields (s.rd (Reg.dcStat c)) [(F.DcStat.state, st), (F.DcStat.rate, if d.gb = 0 then 0 else s.dataRate),
    (F.DcStat.ranks, d.ranks), (F.DcStat.width, bit d.x8), (F.DcStat.pprPend, left.length),
    (F.DcStat.pprDone, r.1)])

/-- Regions in use. -/
def State.rgnsInUse (s : State) : List Nat := (List.range 16).filter (fun n => rgnUsed (s.rgnWords n))

/-- A region on a channel that is not in service after training is out of use (R390, R406). -/
def State.closeRegions (s : State) : State :=
  s.rgnsInUse.foldl (fun (s : State) n =>
    if (channelsOf (s.fld (Reg.dramRgnB n) F.DramRgnB.chmask)).all (fun c => s.chanState c == chanService) then s
    else s.setFld (Reg.dramRgnB n) F.DramRgnB.mode 3) s

/-- Write zero through region `n`. -/
def State.zeroRegion (s : State) (n : Nat) : State :=
  { s with mem := s.mem.filter (fun c => !rgnHolds c.1 (s.rgnWords n)) }

/-- New sealing keys: DRAM reads as free values, and every secure region is written to zero; Desks are zero
too (R214, R372). DESIGN CHOICE (log 70). -/
def State.startMemory (s : State) : State :=
  let s := s.loseDram
  let s := { s with mem := s.mem.filter (fun c => c.1 < 0x008000000000), poison := [] }
  (s.rgnsInUse.filter (fun n => s.fld (Reg.dramRgnB n) F.DramRgnB.secure == 1)).foldl
    (fun (s : State) n => s.zeroRegion n) s

/-! ### Keys (R75, R166, R168, R171, R196) -/

/-- A slot as its seal gives it back: USES as sealed, less 256 at a start. -/
def reloadedKey (now : KeyEnt) (k : KeyEnt) (less : Bool) : KeyEnt :=
  let sealed := if now.used then now.usesSealed else k.usesSealed
  if attrCounted k.attr then
    let u := if less then sealed - 256 else (if now.used then now.uses else sealed)
    { k with uses := u, usesSealed := u, deleting := false }
  else { k with deleting := false }

/-- The slots of one kind after a reload: a sealed slot from its seal, any other empty with its
generation. DEDUCED (log 69). -/
def reloadSlots (now seals : List (Nat × KeyEnt)) (less : Bool) : List (Nat × KeyEnt) :=
  let empty := now.foldl (fun (m : List (Nat × KeyEnt)) e => Map.put {} m e.1 { gen := e.2.gen }) []
  seals.foldl (fun (m : List (Nat × KeyEnt)) e =>
    Map.put {} m e.1 (reloadedKey (Map.get {} now e.1) e.2 less)) empty

/-- Reload the Satchel from its seals. -/
def State.reloadSatchel (s : State) (less : Bool) : State :=
  { s with
    symSlots := reloadSlots s.symSlots s.flash.symSeals less
    asymSlots := reloadSlots s.asymSlots s.flash.asymSeals less
    sealQ := [] }

/-- The start behaves as one after tamper: LATCH is set, or VSHARE is gone (R168, R196). -/
def State.keysLost (s : State) : Bool := s.flag Reg.tampStat F.TampStat.latch || s.dev.vshare.isNone

/-- 256 bits from the entropy sources. -/
def State.draw256 (s : State) : BitVec 256 × State :=
  let r := s.entropyBytes 32
  (BitVec.ofNat 256 (ofBytesBE r.1), r.2)

/-- Erase the sealed key records, draw a new VSHARE, generate new audit keys and leave OWNER_STATE
ABSENT (R196). -/
def State.regenerate (s : State) : State :=
  let v := s.draw256
  let a := v.2.draw256
  let s := a.2
  let s := { s with
    dev := { vshare := some v.1, audit := some a.1, custRoot := s.flash.dev.custRoot }
    flash := { s.flash with symSeals := [], asymSeals := [] } }
  s.sealDevice.reloadSatchel true

/-- VAON_LOST: sealed keys exist, and VSHARE is gone though no tamper hit cleared it (R168). -/
def State.noteVaonLost (s : State) : State :=
  let f := s.flash
  s.setFlag Reg.satStat F.SatStat.vaonLost
    (!s.flag Reg.tampStat F.TampStat.latch && s.dev.vshare.isNone &&
     (!f.symSeals.isEmpty || !f.asymSeals.isEmpty || f.dev.audit.isSome || f.dev.ownerMaster.isSome ||
      !f.dev.cmd.isEmpty))

/-- The five inline sealing keys are drawn from the entropy sources (R214). -/
def State.drawDramKeys (s : State) : State :=
  (List.range 5).foldl (fun (s : State) k =>
    let e := s.entropyBytes 64
    { e.2 with dramKeys := Map.insert k (BitVec.ofNat 512 (ofBytesBE e.1)) e.2.dramKeys }) s

/-- The House DRBGs are instantiated, and fill their buffers (R193). -/
def State.startDrbgs (s : State) : State :=
  (List.range 4).foldl (fun (s : State) h => ((s.drbgClear h).reseedDue h).drbgRefill h) s

/-- Reload the device keys and the Satchel from their seals. DEDUCED (log 69). -/
def State.reloadKeys (s : State) : State :=
  let s := { s with dev := { s.flash.dev with vshare := s.dev.vshare, portsClosed := false } }
  s.reloadSatchel true

/-- A counter resumes at SEALED + 4,096, saturating, and the value is sealed (R75). DEDUCED (log 68). -/
def resumeCtr (sealed : Nat) : Nat × Nat := (min (sealed + 4096) (2 ^ 64 - 1), min (sealed + 4096) (2 ^ 64 - 1))

/-- Every authentication counter and RECNO resume. DEDUCED (log 68). -/
def State.resumeCounters (s : State) : State :=
  let s := (List.range 4).foldl (fun (s : State) h =>
    s.modHouse h (fun x => { x with
      ctr := (List.range 64).map (fun g => (g, resumeCtr (Map.get (0, 0) x.ctr g).2))
      recno := x.recnoSealed + 4096
      recnoSealed := x.recnoSealed + 4096 })) s
  let o := resumeCtr s.ownerCtr.2
  { s with ownerCtr := o, flash := { s.flash with ownerCtr := o.2 } }

/-! ### Houses (R217, R406) -/

/-- Load the sealed configuration. PRESUMED (log 4). DEDUCED (log 71). -/
def State.loadConfig (s : State) : State :=
  (s.flash.cfg.filter (fun e => isSaved e.1)).foldl (fun (s : State) e => s.wr e.1 e.2)
    { s with supers := s.flash.supers }

/-- A House that holds a port is in SERVICE. -/
def State.startState (s : State) (h : Nat) : State :=
  s.setFld (Reg.houseCfg h) F.HouseCfg.state
    (if s.fld (Reg.houseCfg h) F.HouseCfg.ports = 0 then 0 else houseService)

/-- Load the shares of House `h`, each reduced to the units that remain. -/
def State.startShares (s : State) (h : Nat) : State :=
  let lanes := min (s.fld (Reg.houseShr h) F.HouseShr.lanes) s.freeLanes.length
  let s := s.setLanes h lanes
  let s := s.setMills h false (min (s.fld (Reg.houseShr h) F.HouseShr.smills) (s.freeMills false).length)
  let s := s.setMills h true (min (s.fld (Reg.houseShr h) F.HouseShr.pmills) (s.freeMills true).length)
  let til := bitsOf 64 (fun t => (s.fld (Reg.houseTil h) F.HouseTil.tillers).testBit t && (s.tiller t).on)
  s.setFld (Reg.houseTil h) F.HouseTil.tillers til

/-- The Proctor enters the supervisor of House `h` on its Tillers (log entry 44). -/
def State.startTillers (s : State) (h : Nat) : State :=
  (s.tillersOf h).foldl (fun (s : State) t => s.enterSupervisor t h) s

/-- Houses in number order, then the Chute counts. -/
def State.startHouses (s : State) : State :=
  let s := (List.range 4).foldl (fun (s : State) h => (s.startState h).startShares h) s
  (List.range 4).foldl (fun (s : State) h => (if s.inService h then s.loadSuper h else s).startTillers h) s.countChutes

/-! ### Journals (R233, R234) -/

/-- The link of a START record: the stored H_S with its S, or the genesis head with all ones. -/
def Journal.startLink (j : Journal) (h : Nat) : Nat × BitVec 256 :=
  j.flashSeal.getD (0xFFFFFFFFFFFFFFFF, genesisHead h)

/-- The journal of a House at a start, before its START record. DEDUCED (log 68). -/
def Journal.atStart (j : Journal) (h : Nat) : Journal :=
  { next := j.reserve
    retired := j.reserve
    head := (j.startLink h).2
    link := (j.startLink h).2
    sealno := j.flashSealno + 4096
    sealFrom := j.flashSealno + 4096
    flashSeal := j.flashSeal
    flashSealno := j.flashSealno
    reserve := j.reserve }

/-- Append a START record of a KIND, as the first record of the ring that the host has not retired; a new
reserve is written at once. DEDUCED (log 68). -/
def State.startRecord (s : State) (h kind : Nat) : State :=
  let l := (s.house h).j.startLink h
  let s := s.modJ h (fun j => { j with reserve := j.next + 1 + 2 ^ 20 })
  s.recordEvent h (.start kind l.1 l.2)

/-- The journals of a start: every House begins at its reserve, and one in SERVICE appends START. -/
def State.startJournals (s : State) (kind : Nat) : State :=
  (List.range 4).foldl (fun (s : State) h =>
    let s := s.modJ h (fun j => j.atStart h)
    if s.inService h then s.startRecord h kind else s) s

/-! ### The start (Table 14.3) -/

/-- Every Tiller at ENTRY0 in ring 0, with g1 to g31 UNKNOWN. -/
def State.startAllTillers (s : State) : State :=
  (List.range 64).foldl (fun (s : State) t =>
    let s := s.tillerReset t false
    s.setTiller t { g := (s.tiller t).g, edges := (s.tiller t).edges, pos := homePos t }) s

/-- Each port whose PERST# is high trains its link. -/
def State.trainPorts (s : State) : State :=
  (List.range 4).foldl (fun (s : State) p => s.modPort p (fun x => { x with training := !x.perstLow })) s

/-- Every watermark is locked (R296, R306). DEDUCED (log 55). -/
def State.lockWatermarks (s : State) : State :=
  ((List.range 72).map Reg.swmDesk ++ [Reg.swmDram]).foldl (fun (s : State) a => s.setFld a ⟨63, 1⟩ 1) s

/-- The Proctor writes DRAM_SWM as the sealed configuration has it, and at least to the end of the highest
secure region, so that it agrees with the SECURE attributes (R213, R296; log entry 55). DEDUCED (log 55). -/
def State.setDramSwm (s : State) : State :=
  let top := (s.rgnsInUse.filter (fun n => s.fld (Reg.dramRgnB n) F.DramRgnB.secure == 1)).foldl
    (fun m n => max m (F.DramRgnA.limit.get (s.rd (Reg.dramRgnA n)))) 0
  s.setFld Reg.swmDram F.SwmDram.swm (max (s.fld Reg.swmDram F.SwmDram.swm) top)

/-- Edge sources that the configuration leaves disabled keep no pending state (R341). -/
def State.dropEdges (s : State) : State :=
  let s := { s with sharedEdges := s.sharedEdges.filter (fun n => s.srcEn 0 n) }
  s.mapTillers (fun t x => { x with edges := x.edges.filter (fun n => s.srcEn t n) })

/-- The open regions that custody's second-stage table mapped are written to zero; which the images map is free
(R306). DESIGN CHOICE (log 70). -/
def State.zeroMapped (s : State) : State :=
  (s.rgnsInUse.filter (fun n => s.fld (Reg.dramRgnB n) F.DramRgnB.secure == 0)).foldl (fun (s : State) n =>
    let c := s.choose 2
    if c.1 = 1 then c.2.zeroRegion n else c.2) s

/-- The Proctor enters service: CUST_S2.EN, every TLB and every predictor are cleared, and CUSTODY clears on all
Tillers at once (R306). -/
def State.enterService (s : State) : State :=
  let s := (s.zeroMapped.setFlag Reg.custS2 F.CustS2.en false).mapTillers (fun _ x => { x with tlb := [], pred := [] })
  { s with power := { s.power with service := true } }

/-- From step 3 of Table 14.3 to service, or to BOOT_FAIL, where T0 halts and no port goes ready. `failed`
are the units that tests find FAILED; `kind` is the KIND of the START records. DESIGN CHOICE (log 61). -/
def State.start (s : State) (failed : List Nat) (kind : Nat) : State :=
  let s := { s with power := { s.power with porst := false, vcore := true } }
  let s := (s.startAllTillers.avsBegin 12).trainPorts
  match s.flash.image with
  | none => (s.reportBoot none 0xF).modTiller 0 (fun x => { x with halted := true })
  | some k =>
    let kind := if s.keysLost then 2 else kind
    let s := (s.reportBoot (some k) 13).startUnits failed
    let s := (s.loadConfig).wr Reg.passHwm s.flash.passHwm
    let s := ((List.range 4).foldl (fun (s : State) c => s.trainChannel c) s).closeRegions
    let s := s.noteVaonLost
    let s := (if s.keysLost then s.regenerate else s.reloadKeys).resumeCounters
    let s := (s.drawDramKeys.startDrbgs.startMemory).startHouses
    let s := ((s.setDramSwm.lockWatermarks).startJournals kind).dropEdges
    let s := (List.range 64).foldl (fun (s : State) t => s.setCarrels t) s
    let s := (s.satFld Reg.rcStat F.RcStat.passes 1).enterService
    { s with wear := { s.wear with lastPass := s.uptime } }

/-- What a warm start finds FAILED: the units that were FAILED before it (log entry 54). DEDUCED (log 54). -/
def State.knownFailed (s : State) : List Nat := (List.range 179).filter (fun u => s.unitState u == unitFailed)

/-- A warm reset and the start that follows it; `cause` is the bit of RST_CAUSE.
DEDUCED (log 54). DESIGN CHOICE (log 61). -/
def State.warmStart (s : State) (causes : List Nat) (lost : Nat) (keep : List (Fld × Nat)) : State :=
  let failed := s.knownFailed
  let t := s.lapseForReset.afterReset false
  let t := t.wr Reg.rstCause (withFields (BitVec.ofNat 64 ((causes.map (fun c => 2 ^ c)).sum)) ((F.RstCause.lost, lost) :: keep))
  t.start failed 1

/-! ### PORST_N (R405, R408, R418) -/

/-- PORST_N_ASSERT (R408): a cold reset; every output floats. -/
def execPorstNAssert (s : State) : Out := .next ((s.afterReset true).post (.float 0))

/-- What the board presents at the release of PORST_N. DEDUCED (log 54). -/
def State.present (s : State) (b : BootInput) : State :=
  let s := (List.range 4).foldl (fun (s : State) p =>
    s.modPort p (fun x => { x with perstLow := !b.perstHigh.contains p })) s
  let s := (List.range 4).foldl (fun (s : State) c =>
    let d := b.dimms.getD c ⟨0, 0, false, 0, false⟩
    s.modChan c (fun x => { x with dimm := { d with trains := d.trains && dimmSupported d } })) s
  { s with
    power := { s.power with vpp := b.vpp }
    flash := { s.flash with
      slotA := b.slots.1.getD s.flash.slotA
      slotB := b.slots.2.getD s.flash.slotB
      cfg := b.flash.getD s.flash.cfg } }

/-- Pending repair log entries are fused at a start with VPP_FUSE in range (R433). -/
def State.fuseLog (s : State) : State :=
  let s := s.setFlag Reg.rlogStat F.RlogStat.vppAbsent (!s.power.vpp && !s.flash.pendLog.isEmpty)
  if s.power.vpp then
    { s with flash := { s.flash with fuseLog := s.flash.fuseLog ++ s.flash.pendLog, pendLog := [] } }
  else s

/-- PORST_N_RELEASE (R405): the cold start, while VAON is in range. DESIGN CHOICE (log 60). -/
def execPorstNRelease (b : BootInput) (s : State) : Out :=
  .next (if s.power.porst && s.power.vaon then ((s.present b).fuseLog).start b.failed 0 else s)

/-! ### VAON (R168, R454) -/

/-- VAON_LOSS (R168): VSHARE, the tamper registers and device time are lost, and PORST_N is low. -/
def execVaonLoss (s : State) : Out :=
  .next (
    let t := s.afterReset true
    { t with
      regs := []
      dev := { custRoot := t.dev.custRoot }
      power := { t.power with vaon := false } }.post (.float 0))

/-- VAON_POWER_UP (R454): TAMP_CTL and TAMP_STAT at their reset values. -/
def execVaonPowerUp (s : State) : Out :=
  .next (if s.power.vaon then s else { s with power := { s.power with vaon := true } })

end Sys2Proof.Machine
end

