-- ==== Sys2Proof/Machine/Power.lean ====
section
/-! DEFINITION. The quiesce and the warm reset, STOP entry and exit, wake sources, and the start-up and
power commands (R409, R413 to R419, Tables 14.5 and 14.8). -/

namespace Sys2Proof.Machine

/-! ### The quiesce (R409) -/

/-- Step 3: the Bell claims every LIVE slate with STANDIN, in the order of R92. -/
def State.claimAll (s : State) : State :=
  s.slates.foldl (fun (s : State) _ =>
    match s.firstDue (fun _ sl => sl.st == .live) with
    | some id => s.standin id
    | none => s) s

/-- Step 4: a slate whose claim a Tiller holds is answered UNIT_RESET. -/
def State.answerHeld (s : State) : State :=
  (s.slatesWith (fun x => x.st == .claimed && x.heldBy.isSome)).foldl
    (fun (s : State) id => s.finishFail id St.unitReset 0) s

/-- A reply that waits for its deferred effect or its EXAM release time is written. Whether the deferred
effect was applied is free. -/
def State.releaseReply (s : State) (id : Nat) : State :=
  let sl := s.slate id
  if sl.waiting then
    let c := s.choose 2
    let s := if c.1 = 1 ∧ pkOpcode sl.pkt = opKeyDelete then c.2.deleteKey sl.house (pkKey sl.pkt 0) else c.2
    (s.modSlate id (fun x => { x with waiting := false })).commitReply id false
  else s.commitReply id false

/-- Pending reserve writes of House `h` complete, and records waiting for them are built. -/
def State.completeReserve (s : State) (h : Nat) : State :=
  match (s.house h).j.reserveNew with
  | some v =>
    let s := s.modJ h (fun j => reserveCheck { j with reserve := v, reserveNew := none })
    s.buildAll h
  | none => s

/-- Every outstanding record write of House `h` has returned; what waits for its mirror still waits. -/
def State.completeWrites (s : State) (h : Nat) : State :=
  (s.modJ h (fun j => { j with pend := j.pend.map (fun p => { p with written := true }) })).settleRecords h

/-- Step 5: every record and reply is written, but for those of records held in a frozen channel. -/
def State.writeAll (s : State) : State :=
  let s := (List.range 4).foldl (fun (s : State) h => (s.completeReserve h).completeWrites h) s
  (s.slatesWith (fun x => x.heldRelease)).foldl (fun (s : State) id => s.releaseReply id) s

/-- Steps 3 to 5 of R409. DEDUCED (log 66). -/
def State.quiesceSteps (s : State) : State := s.claimAll.answerHeld.writeAll

/-- Replies of House `h` whose records are held or not built. DEDUCED (log 66). -/
def State.heldReplies (s : State) (h : Nat) : Nat :=
  let j := (s.house h).j
  (j.held.filter (fun x => x.p.slate.isSome || x.p.reject.isSome)).length + j.unbuilt.length

/-- Replies that will not be written. -/
def State.allHeld (s : State) : Nat := ((List.range 4).map s.heldReplies).sum

/-- Packets that step 1 has committed and that hold no slate. DEDUCED (log 66). -/
def State.unserved (s : State) : Nat :=
  (s.fns.map (fun e => e.2.waitSq.length + e.2.waitPush.length + bit e.2.sealSq.isSome + bit e.2.sealPush.isSome)).sum +
  s.stepQ.length

/-- A record waits for its mirror, which ends by itself or by its timeout (R240). -/
def State.mirrorsOut (s : State) : Bool := (List.range 4).any (fun h => !(s.house h).j.pend.isEmpty)

/-- A record waits for its line, for the writer or for its mirror. -/
def State.recordsOut (s : State) : Bool :=
  s.mirrorsOut || (List.range 4).any (fun h =>
    let j := (s.house h).j
    !(j.held.isEmpty && j.events.isEmpty && j.unbuilt.isEmpty && j.seals.isEmpty))

/-- Held records are waited for up to 1 ms. -/
def heldWait : Nat := 1000000

/-- SRST_N_ASSERT (R409): a warm reset without a window; one that quiesces already loses its window.
DEDUCED (log 67). -/
def execSrstNAssert (s : State) : Out :=
  .next (
    if s.power.porst || !s.power.vaon then s
    else
      match s.power.quiesce with
      | some (_, c) => { s with power := { s.power with quiesce := some (s.uptime, c) } }
      | none => s.beginQuiesce 0 1)

/-! ### STOP entry (Table 14.5) -/

/-- Step 3: pending seals complete, but for one whose block lies in a frozen channel: each block is written and its
SEAL record appended. -/
def State.completeSeals (s : State) (h : Nat) : State :=
  (s.house h).j.seals.foldl (fun (s : State) x =>
    if x.written || s.lineHeld (s.sealAddr h x.no) then s
    else (if x.block then s else s.writeSealBlock h x).sealWritten h x) s

/-- The mills hold no signature any more. -/
def State.clearSealMills (s : State) : State :=
  let sealing (o : MillOp) : Bool := match o.user with
    | .journal _ _ _ => true
    | _ => false
  { s with
    pmills := s.pmills.filter (fun e => !sealing e.2)
    millQ := s.millQ.filter (fun e => !sealing e.2) }

/-- Step 3: the seals of every House. -/
def State.stopSeals (s : State) : State :=
  (List.range 4).foldl (fun (s : State) h => (s.completeSeals h).completeWrites h) s

/-- Step 3: the flash write of every House, and the pending slot seals. -/
def State.stopJournals (s : State) : State :=
  let s := (List.range 4).foldl (fun (s : State) h => s.checkpoint h) s
  s.sealQ.foldl (fun (s : State) e => s.slotSealed e.1 e.2 true) s.clearSealMills

/-- Run one channel of engine `e` to completion. -/
def State.runChannel (s : State) (e : Nat) : State :=
  match (s.hopper e).running with
  | some k => (s.hopDone e k).hopStop e k
  | none =>
    match (s.hopper e).queue with
    | k :: ks =>
      let s := s.modHopper e (fun x => { x with running := some k, queue := ks })
      let s := s.setFlag (Reg.hcStat e k) F.HcStat.queued false
      (s.hopDone e k).hopStop e k
    | [] => s

/-- Step 4: every store drains; `none` while a frozen channel holds one. -/
def State.stopStores (s : State) : Option State :=
  (s.tillers.map (·.1)).foldlM (fun (s : State) t => s.drainStop t) s

/-- Step 4: Hopper channels run to completion. -/
def State.runHoppers (s : State) : State :=
  (List.range 8).foldl (fun (s : State) e =>
    (List.range 17).foldl (fun (s : State) _ => s.runChannel e) s) s

/-- Step 5: data caches, L2s and the Granary are written back. -/
def State.stopCaches (s : State) : State :=
  let s := (s.tillers.map (·.1)).foldl (fun (s : State) t => s.modTiller t (fun x => x.dropCaches)) s
  let s := (List.range 8).foldl (fun (s : State) k => s.dropL2 k) s
  let dirty := ((s.granary.map (·.2)).flatten.filter (·.2)).map (·.1)
  let s := dirty.foldl (fun (s : State) line => s.markUnit (135 + s.physSlice (sliceOf line)) 0x0303 1) s
  { s with granary := [] }

/-- Step 6: a channel in service with a rank that DC_RETAIN keeps reads RETAINED in STOP, and serves again after the
exit (R397). DESIGN CHOICE (log 53). -/
def State.retainChans (s : State) (was now : Nat) : State :=
  (List.range 4).foldl (fun (s : State) c =>
    if s.chanState c = was ∧ (List.range 2).any (fun r => (s.fld Reg.dcRetain F.DcRetain.retain).testBit (2 * c + r)) then
      s.setFld (Reg.dcStat c) F.DcStat.state now
    else s) s

/-- Steps 3 to 7, once the stores have drained: VCORE_EN is driven low. A wake latched on the way begins the exit
at once (R415). -/
def State.enterStop (s : State) : State :=
  let s := s.stopJournals.runHoppers.stopCaches.retainChans chanService chanRetained
  let s := (s.setFld Reg.pwrStat F.PwrStat.state pwrStop).satFld Reg.pwrStat F.PwrStat.stops 1
  let late := s.power.wakeLatched
  let s := { s with power := { s.power with
    vcore := false
    stopping := none
    wakeLatched := false
    preStop := s.avs.current.getD 12 } }
  let s := (s.post (.vcoreEn false)).post (.float 1)
  if late then s.beginExit else s

/-- QUIESCE_END (R409, Table 14.5 steps 2 and 3): the window has passed. Held records keep the reset waiting for
up to 1 ms; STOP entry waits for every record, mirror and seal (R236), and for every store to drain (R258). What waits for a mirror waits for its end
(R240). DEDUCED (log 66). -/
def execQuiesceEnd (s : State) : Out :=
  .next (
    match s.power.quiesce, s.power.stopping with
    | some (t, cause), _ =>
      if s.uptime < t then s
      else
        let s := s.quiesceSteps
        if s.mirrorsOut ∨ (s.allHeld ≠ 0 ∧ s.uptime < t + heldWait) then s
        else s.warmStart [cause] (s.allHeld + s.unserved) []
    | none, some t =>
      if s.uptime < t then s
      else
        let s := s.quiesceSteps.stopSeals
        if s.recordsOut then s
        else match s.stopStores with
          | some s => s.enterStop
          | none => s
    | none, none => s)

/-! ### Wake sources (R415) -/

/-- WAKE_IN (R415): the pin is at a level. -/
def execWakeIn (level : Bool) (s : State) : Out :=
  .next (
    if s.timeRuns && s.flag Reg.pwrCtl F.PwrCtl.wakeInEn && s.flag Reg.pwrCtl F.PwrCtl.wakePol == level then
      s.wake .pin
    else s)

/-- WAKE_TIME (R415): device time has reached WAKE_TIME. -/
def execWakeTime (s : State) : Out :=
  .next (
    let w := (s.rd Reg.wakeTime).toNat
    if s.timeRuns ∧ w ≠ 0 ∧ w ≤ s.dtime then s.wake .time else s)

/-! ### Exit from STOP (R397, R416) -/

/-- Ranks that channel `c` has. -/
def State.ranksOf (s : State) (c : Nat) : Nat := s.fld (Reg.dcStat c) F.DcStat.ranks
/-- Rank `r` of channel `c` is retained. DEDUCED (log 56). -/
def State.rankKept (s : State) (c r : Nat) : Bool := (s.fld Reg.dcRetain F.DcRetain.retain).testBit (2 * c + r)
/-- The rank that holds a line. DEDUCED (log 56). -/
def rankOf (line : Nat) : Nat := Config.lineRow line / 2 ^ 23 % 2

/-- Every rank of the channels of region `n` is retained: a region holds lines in each (log entry 56). -/
def State.rgnKept (s : State) (n : Nat) : Bool :=
  (channelsOf (s.fld (Reg.dramRgnB n) F.DramRgnB.chmask)).all (fun c =>
    (List.range (s.ranksOf c)).all (s.rankKept c))

/-- A region's range and `n` bytes from `a` on have an address in common. -/
def rgnMeets (a n : Nat) (w : Word × Word) : Bool :=
  decide (F.DramRgnA.base.get w.1 * 2 ^ 28 < a + n) && decide (a < F.DramRgnA.limit.get w.1 * 2 ^ 28)

/-- Every rank that holds `n` bytes from `a` on is retained. -/
def State.areaKept (s : State) (a n : Nat) : Bool :=
  (s.rgnsInUse.filter (fun k => rgnMeets a n (s.rgnWords k))).all s.rgnKept

/-- Lines of ranks that were not retained are written to zero. DEDUCED (log 56). -/
def State.zeroRanks (s : State) : State :=
  { s with
    mem := s.mem.filter (fun c =>
      !(decide (c.1 < 0x008000000000) && (match s.chanAt c.1 with
        | some k => !s.rankKept k (rankOf (c.1 / 64 * 64))
        | none => false)))
    poison := s.poison.filter (fun a =>
      !(decide (a < 0x008000000000) && (match s.chanAt a with
        | some k => !s.rankKept k (rankOf (a / 64 * 64))
        | none => false))) }

/-- The journal of House `h` was not retained: its ring or its seal area (R236). -/
def State.journalLost (s : State) (h : Nat) : Bool :=
  s.ringOk h &&
  (!s.areaKept (4096 * s.fld (Reg.jrBase h) F.JrBase.addr) (64 * s.ringEntries h) ||
   !s.areaKept (4096 * s.fld (Reg.jrSeal h) F.JrSeal.addr) (4096 * 2 ^ s.fld (Reg.jrSeal h) F.JrSeal.slog2))

/-- The House has an open region in a rank that was not retained. -/
def State.openLost (s : State) (h : Nat) : Bool :=
  s.rgnsInUse.any (fun n => s.fld (Reg.dramRgnB n) F.DramRgnB.owner == h &&
    s.fld (Reg.dramRgnB n) F.DramRgnB.secure == 0 && !s.rgnKept n)

/-- The journal of a House starts anew with KIND 3. -/
def State.restartJournal (s : State) (h : Nat) : State := (s.modJ h (fun j => j.atStart h)).startRecord h 3

/-- What VCORE's loss leaves of the Tillers: each starts as after a warm reset, those of a House in its
supervisor (log entry 57), and their Desks are zero. DEDUCED (log 57). -/
def State.restartTillers (s : State) : State :=
  let s := (List.range 64).foldl (fun (s : State) t => (s.tillerReset t false).setCarrels t) s
  let s := (List.range 4).foldl (fun (s : State) h => s.startTillers h) s
  { s with mem := s.mem.filter (fun c => c.1 < 0x008000000000), poison := s.poison.filter (· < 0x008000000000) }

/-- Slates and lanes are empty; work packets are gone with the Chutes. DEDUCED (log 57). -/
def State.clearCore (s : State) : State :=
  let s := (s.slates.map (·.1)).foldl (fun (s : State) id =>
    if (s.slate id).st = .free then s else s.setSlate id { gen := ((s.slate id).gen + 1) % 256 }) s
  { s with
    lanes := s.lanes.map (fun (e : Nat × Lane) => (e.1, { e.2 with pos := [none, none, none, none] }))
    chutes := s.chutes.foldl (fun (m : List (Nat × Chute)) e => Map.put {} m e.1 { e.2 with pkts := [], taken := [], stale := false, bufs := [] }) []
    smills := []
    pmills := []
    millQ := s.millQ.filter (fun e => e.2.tag.isNone)
    poolQ := []
    symCache := []
    asymCache := [] }

/-- The exit from STOP once VCORE is good (R416). DEDUCED (log 57). DESIGN CHOICE (log 61). -/
def State.leaveStop (s : State) : State :=
  let s := { s with
    power := { s.power with vcore := true, rollOn := true } }
  let s := s.retainChans chanRetained chanService
  let s := s.avsBegin s.power.preStop
  let s := s.evalSoon
  let s := (List.range 4).foldl (fun (s : State) c =>
    s.modChan c (fun x => { x with lastPause := none })) s.zeroRanks
  let s := (s.clearCore.restartTillers).reloadSatchel false
  let s := (List.range 4).foldl (fun (s : State) h => (s.reseedDue h).drbgRefill h) s
  let s := (List.range 4).foldl (fun (s : State) h => if s.openLost h then s.resetIfUp h else s) s
  let s := (List.range 4).foldl (fun (s : State) h =>
    if s.inService h ∧ s.journalLost h then s.restartJournal h else s) s
  s.setFld Reg.pwrStat F.PwrStat.state pwrRun

/-- VCORE_PG_RISE (R416): the retained image is checked first; a mismatch or a set LATCH makes the exit a
warm reset. -/
def execVcorePgRise (digestOk : Bool) (s : State) : Out :=
  .next (
    if s.fld Reg.pwrStat F.PwrStat.state = pwrExiting ∧ !s.power.porst then
      let latch := s.flag Reg.tampStat F.TampStat.latch
      if !digestOk || latch then s.warmStart [] 0 [(F.RstCause.digest, bit (!digestOk)), (F.RstCause.tamper, bit latch)]
      else s.leaveStop
    else s)

/-! ### Commands (Table 14.8) -/

/-- POWER_STATUS (R419). -/
def execPowerStatus (id : Nat) (s : State) : Out :=
  .next (s.onTabqua id 0x0010 (fun s =>
    s.finishOut id (([Reg.bootStat, Reg.rstCause, Reg.pwrStat, Reg.wakeStat].map (fun a =>
      toBytes (s.shownReg a).toNat 8)).flatten)))

/-- The slate's own effect follows its reply. -/
def State.thenAfter (s : State) (id : Nat) : State := s.modSlate id (fun x => { x with after := true })

/-- WARM_RESET (R409): the reset follows the reply. -/
def execWarmReset (id : Nat) (s : State) : Out :=
  .next (s.onTabqua id 0x00C0 (fun s => (s.thenAfter id).finishOk id))

/-- A rank that holds a device region is missing from DC_RETAIN (R413). -/
def State.deviceUnkept (s : State) : Bool :=
  s.rgnsInUse.any (fun n => s.fld (Reg.dramRgnB n) F.DramRgnB.owner == 4 && !s.rgnKept n)

/-- Load PWR_CTL and WAKE_TIME from a STOP_ENTER. -/
def State.loadPower (s : State) (p : List Byte) : State :=
  (s.wr Reg.pwrCtl (BitVec.ofNat 64 (le p 52 4 * 2 ^ 32 + byteAt p 56 % 8))).wr Reg.wakeTime
    (BitVec.ofNat 64 (le p 64 8))

/-- STOP_ENTER (R413): NOT_PERMITTED, LEASED with the entry queued, or entry after the reply. -/
def execStopEnter (id : Nat) (s : State) : Out :=
  .next (s.onTabqua id 0x00C1 (fun s =>
    let p := s.pktOf id
    if s.deviceUnkept then s.finishFail id St.notPermitted 0
    else
      let s := s.loadPower p
      if s.sheafLeased then
        (s.finishFail id St.leased 0).queueStop
      else (s.thenAfter id).finishOk id))

/-- Pn_WAKE# while DOMAIN_SET has switched the domain on and PERST# is low (R449). DEDUCED (log 75). -/
def State.wakePort (s : State) (d : Nat) : State :=
  if 8 ≤ d ∧ (s.port (d - 8)).perstLow then s.driveWake (d - 8) true else s

/-- DOMAIN_SET (R312, R417). -/
def execDomainSet (id : Nat) (s : State) : Out :=
  .next (s.onTabqua id 0x00C2 (fun s =>
    let p := s.pktOf id
    let d := param p 0
    if param p 1 = 0 then
      match s.requestOff d .host with
      | .wait => s
      | .leased s => s.finishFail id St.leased 0
      | .refused => s.finishFail id St.notPermitted 0
      | .done s => s.finishOk id
    else ((s.requestOn d).wakePort d).finishOk id))

/-- The image slot that is not running. -/
def State.otherSlot (s : State) : Nat := 1 - s.fld Reg.bootStat F.BootStat.slot

/-- Set what image slot `k` holds. -/
def Flash.setImage (f : Flash) (k : Nat) (v : Image) : Flash :=
  if k = 0 then { f with slotA := v } else { f with slotB := v }

/-- What a slot holds whose programming did not read back as written: free. DEDUCED (log 74). -/
def freeImage (w : Word) : Image :=
  ⟨w.getLsbD 0, w.toNat / 2 ^ 32, w.getLsbD 1, w.getLsbD 2, w.getLsbD 3⟩

/-- FW_STAGE (R419): the image is read as R190 reads a buffer, written to the slot that is not running, and
read back; `ok` tells that it reads back as written. DEDUCED (log 74). -/
def execFwStage (id : Nat) (image : HostBuf) (ok : Bool) (s : State) : Out :=
  .next (s.onTabqua id 0x00C3 (fun s =>
    s.withBuf id 64 (le (s.pktOf id) 72 4) image (fun b =>
      if ok then ({ s with flash := s.flash.setImage s.otherSlot (imageOf b) }).finishOk id
      else
        let w := s.freshWord
        ({ w.2 with flash := s.flash.setImage s.otherSlot (freeImage w.1) }).finishFail id St.integrity 0)))

/-- FW_COMMIT (R403, R419): the staged slot is verified under R403, and becomes PREF. `head` and `body` tell that the
reads of its first 8,192 bytes and of its body return what the slot holds; one that does not fails its step.
DEDUCED (log 74). -/
def execFwCommit (id : Nat) (head body : Bool) (s : State) : Out :=
  .next (s.onTabqua id 0x00C4 (fun s =>
    let k := s.otherSlot
    if head && body && s.flash.slotPasses k then
      let raise := (param (s.pktOf id) 0).testBit 0
      ({ s with flash := { s.flash with
          pref := k, minSvn := if raise then (s.flash.slotOf k).svn else s.flash.minSvn } }).finishOk id
    else s.finishNeg id 7 none))

end Sys2Proof.Machine
end

