-- ==== Sys2Proof/Machine/Passes.lean ====
section
/-! DEFINITION. Hall passes, the TAP with its boundary register, the debug access port, and
CARREL_INVOKE (R303, R307 to R310, R404, R448, Tables 10.9 and 10.10). -/

namespace Sys2Proof.Machine

/-! ### Hall passes (R307, R309, R310) -/

/-- ASCII "KT8400HP". -/
def passMagic : List Byte := ascii "KT8400HP"

/-- The fields that are checked first: MAGIC, SERIAL and the reserved bits (Table 10.9). -/
def passChecks (p : List Byte) : List Check :=
  fields [(64, slice p 64 8 == passMagic), (72, le p 72 8 == Config.devSerial.toNat),
    (96, decide (byteAt p 96 < 16)), (97, decide (byteAt p 97 < 16)), (98, decide (byteAt p 98 < 16))] ++
  wordZero p 0 35 48

/-- TAG verifies under OPK; without owner keys it does not. -/
def State.passTagOk (s : State) (p : List Byte) : Bool :=
  match s.dev.opk with
  | some k => cmacKey 3 (toBytesBE k.toNat 32) (slice p 64 48) == slice p 112 16
  | none => false

/-- The enables of the installed pass end: the debug port closes, breakpoints go, and halted Tillers resume
(R310). DEDUCED (log 73). -/
def State.endPass (s : State) : State :=
  let s := (s.wr Reg.passStat 0).wr Reg.passExp 0
  (s.tillers.map (·.1)).foldl (fun (s : State) t =>
    s.modTiller t (fun x => { x with dbgHalt := false, dbgStep := false, breaks := [] })) s

/-- Set the highest accepted PASS_ID, which is sealed. -/
def State.setPassHwm (s : State) (v : Word) : State :=
  let s := s.wr Reg.passHwm v
  { s with flash := { s.flash with passHwm := v } }

/-- Zeroise the named Houses as HOUSE_ZEROISE does. -/
def State.zeroiseHouses (s : State) (mask : Nat) : State :=
  (List.range 4).foldl (fun (s : State) h => if mask.testBit h then s.zeroiseHouse h else s) s

/-- A pass replaces any installed one, and its enables take effect. DEDUCED (log 73). -/
def State.takePass (s : State) (p : List Byte) : State :=
  let s := s.endPass
  (s.wr Reg.passStat (withFields 0 [(F.PassStat.active, 1), (F.PassStat.zeroised, byteAt p 98),
    (F.PassStat.houses, byteAt p 97), (F.PassStat.enables, byteAt p 96)])).wr Reg.passExp
      (BitVec.ofNat 64 (le p 80 8))

/-- PASS_INSTALL (R309). -/
def State.passInstall (s : State) (id : Nat) : State :=
  let p := s.pktOf id
  match lowestBad (passChecks p) with
  | some o => s.finishFail id St.format o
  | none =>
    if !s.passTagOk p then s.finishNeg id 5 none
    else if le p 80 8 ≤ s.dtime ∨ le p 88 8 ≤ (s.rd Reg.passHwm).toNat then s.finishFail id St.notPermitted 0
    else
      let s := (s.finishOk id).setPassHwm (BitVec.ofNat 64 (le p 88 8))
      let s := if (byteAt p 96).testBit 0 then s.zeroise 0 else s
      (s.zeroiseHouses (byteAt p 98)).takePass p

/-- PASS_INSTALL (R309). -/
def execPassInstall (id : Nat) (s : State) : Out := .next (s.onTabqua id 0x0F01 (fun s => s.passInstall id))

/-- PASS_REVOKE (R309). -/
def execPassRevoke (id : Nat) (s : State) : Out :=
  .next (s.onTabqua id 0x0F02 (fun s => (s.finishOk id).endPass))

/-- PASS_STATUS (R309): the installed pass is the one whose PASS_ID is PASS_HWM. DEDUCED (log 73). -/
def execPassStatus (id : Nat) (s : State) : Out :=
  .next (s.onTabqua id 0x0F03 (fun s =>
    let w := s.rd Reg.passStat
    s.finishOut id (toBytes (F.PassStat.enables.get w) 1 ++ toBytes (F.PassStat.houses.get w) 1 ++
      toBytes (F.PassStat.zeroised.get w) 1 ++ zeros 5 ++ toBytes (s.rd Reg.passExp).toNat 8 ++
      toBytes (if F.PassStat.active.get w = 1 then (s.rd Reg.passHwm).toNat else 0) 8 ++
      toBytes (s.rd Reg.passHwm).toNat 8)))

/-- PASS_EXPIRY (R310): device time has passed NOT_AFTER. -/
def execPassExpiry (s : State) : Out :=
  .next (if s.flag Reg.passStat F.PassStat.active ∧ (s.rd Reg.passExp).toNat < s.dtime then s.endPass else s)

/-! ### The TAP (R448) -/

/-- The TAP works whenever PORST_N is high. -/
def State.tapUp (s : State) : Bool := !s.power.porst

/-- Load a TAP instruction: outside EXTEST no pin is driven from the boundary register. -/
def State.tapIr (s : State) (i : TapIr) : State :=
  { s with tap := { s.tap with ir := i, driving := i == TapIr.extest } }

/-- BYPASS: the one-bit register captures 0, and each bit of TDI leaves one clock later. -/
def execBypass (tdi : List Bool) (s : State) : Out :=
  .next (
    if s.tapUp then
      let s := s.tapIr .bypass
      { s with tap := { s.tap with
          shifted := ((false :: tdi).take tdi.length)
          bypass := tdi.getLastD false } }
    else s)

/-- IDCODE: version 1, part 0x8400, the manufacturer code and bit 0 set. -/
def idWord : Word := BitVec.ofNat 64 (2 ^ 28 + 0x8400 * 2 ^ 12 + Config.jedecCode.toNat * 2 + 1)

/-- IDCODE (R448). -/
def execIdcode (s : State) : Out :=
  .next (
    if s.tapUp then
      let s := s.tapIr .idcode
      { s with tap := { s.tap with dr := idWord } }
    else s)

/-- SAMPLE/PRELOAD: the pins' levels are shifted out, and the boundary register is loaded. -/
def execSamplePreload (capture preload : List Bool) (s : State) : Out :=
  .next (
    if s.tapUp then
      let s := s.tapIr .samplePreload
      { s with tap := { s.tap with shifted := capture, boundary := preload } }
    else s)

/-- EXTEST: the pins are driven from the boundary register, and their levels are shifted out. -/
def execExtest (capture drive : List Bool) (s : State) : Out :=
  .next (
    if s.tapUp then
      let s := s.tapIr .extest
      { s with tap := { s.tap with shifted := capture, boundary := drive } }
    else s)

/-- BOOTSTAT (R404): BOOT_STAT, without a hall pass. -/
def execBootstat (s : State) : Out :=
  .next (
    if s.tapUp then
      let s := s.tapIr .bootstat
      { s with tap := { s.tap with dr := s.rd Reg.bootStat } }
    else s)

/-! ### The debug access port (R308, Table 10.10) -/

/-- An enable of the installed pass: 0 SEC_INV, 1 SEC_NINV, 2 OPEN_INV, 3 OPEN_NINV. -/
def State.debugEn (s : State) (k : Nat) : Bool :=
  s.serving && s.flag Reg.passStat F.PassStat.active && (s.fld Reg.passStat F.PassStat.enables).testBit k
/-- The pass grants its open enables for House `h`. -/
def State.debugHouse (s : State) (h : Nat) : Bool := (s.fld Reg.passStat F.PassStat.houses).testBit h

/-- The port may halt Tiller `t` and reach its registers: in every ring, or in rings 2 and 3 of a House. -/
def State.debugTiller (s : State) (t : Nat) : Bool :=
  decide (t < 64) && (s.debugEn 0 ||
    (s.debugEn 2 && decide (2 ≤ (s.tiller t).ring) && (match s.tillerHouse t with
      | some h => s.debugHouse h
      | none => false)))

/-- Open memory of a House that the pass names. -/
def State.debugOpen (s : State) (k : Acc) (a : Nat) : Bool :=
  !s.secureAt a && (List.range 4).any (fun h => s.debugHouse h && s.houseReach h k 2 a)

/-- A Marks page that a non-invasive enable lets the port read. -/
def State.debugMarks (s : State) (a : Nat) : Bool :=
  match s.placeOf a with
  | .window n o =>
    (s.debugEn 1 && decide (0x7000 ≤ o) && decide (o < 0x8000)) ||
    (s.debugEn 3 && decide (0x6000 ≤ o) && decide (o < 0x7000) && (match s.posHouse n with
      | some h => s.debugHouse h
      | none => false))
  | _ => false

/-- The port may read (or write) 8 bytes at `a`. DESIGN CHOICE (log 58). -/
def State.debugMay (s : State) (k : Acc) (a : Nat) : Bool :=
  a % 8 == 0 && (s.debugEn 0 || (s.debugEn 2 && s.debugOpen k a) || (k == .load && s.debugMarks a))

/-- What the port reads at `a`: memory as it stands, or a register's current value. -/
def State.debugRead (s : State) (a : Nat) : Word :=
  match s.placeOf a with
  | .dram | .desk _ _ | .rom => BitVec.ofNat 64 (ofBytes (s.bytesAt a 8))
  | .window n o =>
    match s.tillerAt n with
    | some t => match s.winLoad t o with
      | .val v _ => v
      | _ => 0
    | none => s.shownReg a
  | .regs => s.shownReg a
  | .unmapped => 0

/-- A write through the port. DESIGN CHOICE (log 58). -/
def State.debugWrite (s : State) (a : Nat) (v : Word) : State :=
  match s.placeOf a with
  | .dram | .desk _ _ => s.memWrite a (toBytes v.toNat 8)
  | .window n o =>
    if (0x6000 ≤ o ∧ o < 0x8800) then s.regWrite a 8 v.toNat
    else match s.tillerAt n with
      | some t => (s.winStore t o (toBytes v.toNat 8)).getD s
      | none => s
  | .regs => s.regWrite a 8 v.toNat
  | _ => s

/-- Show a value in the port's data register. -/
def State.dapShow (s : State) (v : Word) : State := { s with tap := { s.tap with dr := v } }

/-- Set the pc of a Tiller: fetch starts again there. DESIGN CHOICE (log 58). -/
def State.debugPc (s : State) (t : Nat) (v : Word) : State :=
  s.modTiller t (fun x => { x with pc := v &&& ~~~3#64, dslot := none, stall := .none, lineWait := [], fq := [] })

/-- The current value of a core control register that the Tiller's ring may read; any other reads 0.
DESIGN CHOICE (log 58). -/
def State.debugCsr (s : State) (t n : Nat) : Word :=
  let r := (s.tiller t).ring
  if csrKnown n && csrReadable n r then s.csrNow t n r else 0

/-- Write a core control register that the Tiller's ring may write, in force at once; any other write is ignored. -/
def State.debugCsrWrite (s : State) (t n : Nat) (v : Word) : State :=
  let r := (s.tiller t).ring
  if csrKnown n && csrWritable n r then
    if csrSync n then s.csrPut t (pendKey n r) v else s.csrWrite t n r v
  else s

/-- An access through the debug access port: without a grant it reads 0 and ignores writes (R308). The
commands of the port are the model's (log entry 58). DESIGN CHOICE (log 58). -/
def State.dapAccess (s : State) (op : DapOp) : State :=
  match op with
  | .read a => s.dapShow (if s.debugMay .load a then s.debugRead a else 0)
  | .write a v => if s.debugMay .store a then s.debugWrite a v else s
  | .readReg t r => s.dapShow (if s.debugTiller t then s.gr t r else 0)
  | .writeReg t r v => if s.debugTiller t then s.setGr t r v else s
  | .readPc t => s.dapShow (if s.debugTiller t then (s.tiller t).pc else 0)
  | .writePc t v => if s.debugTiller t then s.debugPc t v else s
  | .readCsr t n => s.dapShow (if s.debugTiller t then s.debugCsr t n.toNat else 0)
  | .writeCsr t n v => if s.debugTiller t then s.debugCsrWrite t n.toNat v else s
  | .halt t => if s.debugTiller t then s.modTiller t (fun x => { x with dbgHalt := true }) else s
  | .resume t => if s.debugTiller t then s.modTiller t (fun x => { x with dbgHalt := false }) else s
  | .singleStep t =>
    if s.debugTiller t then s.modTiller t (fun x => { x with dbgHalt := true, dbgStep := true }) else s
  | .setBreak t a =>
    if s.debugTiller t then s.modTiller t (fun x => { x with breaks := a :: x.breaks.filter (· != a) }) else s
  | .clearBreak t a =>
    if s.debugTiller t then s.modTiller t (fun x => { x with breaks := x.breaks.filter (· != a) }) else s

/-- DAP (R308, R448). DESIGN CHOICE (log 58). -/
def execDap (op : DapOp) (s : State) : Out :=
  .next (if s.tapUp then (s.tapIr .dap).dapAccess op else s)

/-! ### CARREL_INVOKE (R303) -/

/-- CARREL_INVOKE (R303): the slate is delivered as one packet on the Chute it names, once it holds a credit
there. -/
def execCarrelInvoke (id : Nat) (s : State) : Out :=
  if pkOpcode (s.slate id).pkt = 0x0A01 then execWorkPacketCommit id s else .next s

end Sys2Proof.Machine
end

