-- ==== Sys2Proof/Machine/Dispatch.lean ====
section
/-! DEFINITION. What each command does: one arm for each constructor of `Instr`. -/

namespace Sys2Proof.Machine

/-- The effect of a command on everything but the queue. -/
def exec (i : Instr) (s : State) : Host.Outcome State Fault Refusal :=
  match i with
  | .porstNAssert => Sys2Proof.Machine.execPorstNAssert s
  | .porstNRelease b => Sys2Proof.Machine.execPorstNRelease b s
  | .srstNAssert => Sys2Proof.Machine.execSrstNAssert s
  | .quiesceEnd => Sys2Proof.Machine.execQuiesceEnd s
  | .perstAssert port => Sys2Proof.Machine.execPerstAssert port s
  | .perstRelease port => Sys2Proof.Machine.execPerstRelease port s
  | .portLinkUp port => Sys2Proof.Machine.execPortLinkUp port s
  | .portLinkDown port => Sys2Proof.Machine.execPortLinkDown port s
  | .functionLevelReset gfn => Sys2Proof.Machine.execFunctionLevelReset gfn s
  | .sqTailWrite gfn tail => Sys2Proof.Machine.execSqTailWrite gfn tail s
  | .cqHeadWrite gfn head => Sys2Proof.Machine.execCqHeadWrite gfn head s
  | .fnCtlWrite gfn v => Sys2Proof.Machine.execFnCtlWrite gfn v s
  | .pushWindowWrite gfn off data => Sys2Proof.Machine.execPushWindowWrite gfn off data s
  | .msixUnmask gfn vec => Sys2Proof.Machine.execMsixUnmask gfn vec s
  | .packetCommit port fetched husk => Sys2Proof.Machine.execPacketCommit port fetched husk s
  | .ingressAdmit gfn st => Sys2Proof.Machine.execIngressAdmit gfn st s
  | .counterSealComplete gfn st => Sys2Proof.Machine.execCounterSealComplete gfn st s
  | .counterSealTimeout gfn st => Sys2Proof.Machine.execCounterSealTimeout gfn st s
  | .keyFillComplete id ecc => Sys2Proof.Machine.execKeyFillComplete id ecc s
  | .thresherPositionTake h => Sys2Proof.Machine.execThresherPositionTake h s
  | .laneResult lane pos husk => Sys2Proof.Machine.execLaneResult lane pos husk s
  | .laneDrainComplete lane => Sys2Proof.Machine.execLaneDrainComplete lane s
  | .bellFire h => Sys2Proof.Machine.execBellFire h s
  | .journalWriteResponse h => Sys2Proof.Machine.execJournalWriteResponse h s
  | .mirrorCompletion h ok => Sys2Proof.Machine.execMirrorCompletion h ok s
  | .mirrorTimeout h => Sys2Proof.Machine.execMirrorTimeout h s
  | .examRelease id => Sys2Proof.Machine.execExamRelease id s
  | .slateTagRelease id => Sys2Proof.Machine.execSlateTagRelease id s
  | .sealBlockWritten h => Sys2Proof.Machine.execSealBlockWritten h s
  | .journalFlashCheckpoint w => Sys2Proof.Machine.execJournalFlashCheckpoint w s
  | .jseqReserveWriteComplete h ok => Sys2Proof.Machine.execJseqReserveWriteComplete h ok s
  | .millOperationComplete pmill n e => Sys2Proof.Machine.execMillOperationComplete pmill n e s
  | .claimRequest c => Sys2Proof.Machine.execClaimRequest c s
  | .replyPacket c => Sys2Proof.Machine.execReplyPacket c s
  | .workPacketCommit id => Sys2Proof.Machine.execWorkPacketCommit id s
  | .chutePacketCommit t c husk => Sys2Proof.Machine.execChutePacketCommit t c husk s
  | .chuteStale c => Sys2Proof.Machine.execChuteStale c s
  | .chuteRead t rd c off => Sys2Proof.Machine.execChuteRead t rd c off s
  | .chDrop t rd c => Sys2Proof.Machine.execChDrop t rd c s
  | .chAns t rd => Sys2Proof.Machine.execChAns t rd s
  | .chCancel t rd => Sys2Proof.Machine.execChCancel t rd s
  | .ppsInEdge => Sys2Proof.Machine.execPpsInEdge s
  | .ppsEdgeTimeout => Sys2Proof.Machine.execPpsEdgeTimeout s
  | .pendingTimeSetTimeout => Sys2Proof.Machine.execPendingTimeSetTimeout s
  | .ppsOutStart => Sys2Proof.Machine.execPpsOutStart s
  | .ppsOutEnd => Sys2Proof.Machine.execPpsOutEnd s
  | .trefLoss => Sys2Proof.Machine.execTrefLoss s
  | .trefRelock => Sys2Proof.Machine.execTrefRelock s
  | .tjSensorRead readings => Sys2Proof.Machine.execTjSensorRead readings s
  | .vpolicyEvaluation => Sys2Proof.Machine.execVpolicyEvaluation s
  | .avsVoltageWrite => Sys2Proof.Machine.execAvsVoltageWrite s
  | .avsTransitionComplete => Sys2Proof.Machine.execAvsTransitionComplete s
  | .avsTimeout => Sys2Proof.Machine.execAvsTimeout s
  | .avsFaultClear => Sys2Proof.Machine.execAvsFaultClear s
  | .pmbusReadback vout iout => Sys2Proof.Machine.execPmbusReadback vout iout s
  | .pmbAlert vout iout => Sys2Proof.Machine.execPmbAlert vout iout s
  | .termBoundary => Sys2Proof.Machine.execTermBoundary s
  | .tamperMeshSample mismatch => Sys2Proof.Machine.execTamperMeshSample mismatch s
  | .tamperSwitchHit k => Sys2Proof.Machine.execTamperSwitchHit k s
  | .slotSealComplete asym slot ok => Sys2Proof.Machine.execSlotSealComplete asym slot ok s
  | .drbgReseed h => Sys2Proof.Machine.execDrbgReseed h s
  | .entropySample e bits => Sys2Proof.Machine.execEntropySample e bits s
  | .cardDetect k present => Sys2Proof.Machine.execCardDetect k present s
  | .cardApduResponse k r => Sys2Proof.Machine.execCardApduResponse k r s
  | .ownerKeysEstablish a b => Sys2Proof.Machine.execOwnerKeysEstablish a b s
  | .ownerRekeyWindowEnd => Sys2Proof.Machine.execOwnerRekeyWindowEnd s
  | .compSessionLapse h => Sys2Proof.Machine.execCompSessionLapse h s
  | .passExpiry => Sys2Proof.Machine.execPassExpiry s
  | .interruptDelivery t => Sys2Proof.Machine.execInterruptDelivery t s
  | .timerCompare t => Sys2Proof.Machine.execTimerCompare t s
  | .holdTimeout t => Sys2Proof.Machine.execHoldTimeout t s
  | .icuClaim t rd => Sys2Proof.Machine.execIcuClaim t rd s
  | .icuEoi t rd src => Sys2Proof.Machine.execIcuEoi t rd src s
  | .icuReset t => Sys2Proof.Machine.execIcuReset t s
  | .storeBufferDrain t n err => Sys2Proof.Machine.execStoreBufferDrain t n err s
  | .loadDataReturn t ecc => Sys2Proof.Machine.execLoadDataReturn t ecc s
  | .dramAlert c => Sys2Proof.Machine.execDramAlert c s
  | .fetchFill t => Sys2Proof.Machine.execFetchFill t s
  | .walkReadReturn t ecc => Sys2Proof.Machine.execWalkReadReturn t ecc s
  | .freezeAutoRelease c ecc => Sys2Proof.Machine.execFreezeAutoRelease c ecc s
  | .release c ecc => Sys2Proof.Machine.execRelease c ecc s
  | .sppr c ecc => Sys2Proof.Machine.execSppr c ecc s
  | .retire c => Sys2Proof.Machine.execRetire c s
  | .refreshWindow c bank => Sys2Proof.Machine.execRefreshWindow c bank s
  | .rfmWindow c bank => Sys2Proof.Machine.execRfmWindow c bank s
  | .retrainPause c => Sys2Proof.Machine.execRetrainPause c s
  | .patrolScrub c line ecc => Sys2Proof.Machine.execPatrolScrub c line ecc s
  | .preservingMarchBurst n good => Sys2Proof.Machine.execPreservingMarchBurst n good s
  | .hopperGo e k => Sys2Proof.Machine.execHopperGo e k s
  | .hopperChannelStart e => Sys2Proof.Machine.execHopperChannelStart e s
  | .hopperChannelDone e => Sys2Proof.Machine.execHopperChannelDone e s
  | .hopperChannelError e why addr done => Sys2Proof.Machine.execHopperChannelError e why addr done s
  | .hopperEnClear e k => Sys2Proof.Machine.execHopperEnClear e k s
  | .hopperDropComplete e k => Sys2Proof.Machine.execHopperDropComplete e k s
  | .rollcallWindow u cycles tempC moved => Sys2Proof.Machine.execRollcallWindow u cycles tempC moved s
  | .censusPass => Sys2Proof.Machine.execCensusPass s
  | .handshakeTimeout u valid => Sys2Proof.Machine.execHandshakeTimeout u valid s
  | .rotationTargetTested ok => Sys2Proof.Machine.execRotationTargetTested ok s
  | .rotation => Sys2Proof.Machine.execRotation s
  | .wakeIn level => Sys2Proof.Machine.execWakeIn level s
  | .wakeTime => Sys2Proof.Machine.execWakeTime s
  | .vcorePgRise digestOk => Sys2Proof.Machine.execVcorePgRise digestOk s
  | .registerWrite addr size v => Sys2Proof.Machine.execRegisterWrite addr size v s
  | .timeRead id => Sys2Proof.Machine.execTimeRead id s
  | .timeSet id => Sys2Proof.Machine.execTimeSet id s
  | .timeCancel id => Sys2Proof.Machine.execTimeCancel id s
  | .timeMasterSet id => Sys2Proof.Machine.execTimeMasterSet id s
  | .vpolicySet id => Sys2Proof.Machine.execVpolicySet id s
  | .powerStatus id => Sys2Proof.Machine.execPowerStatus id s
  | .warmReset id => Sys2Proof.Machine.execWarmReset id s
  | .stopEnter id => Sys2Proof.Machine.execStopEnter id s
  | .domainSet id => Sys2Proof.Machine.execDomainSet id s
  | .fwStage id image ok => Sys2Proof.Machine.execFwStage id image ok s
  | .fwCommit id head body => Sys2Proof.Machine.execFwCommit id head body s
  | .rotate id => Sys2Proof.Machine.execRotate id s
  | .rotPolicy id => Sys2Proof.Machine.execRotPolicy id s
  | .unitReset id => Sys2Proof.Machine.execUnitReset id s
  | .fnConfig id => Sys2Proof.Machine.execFnConfig id s
  | .templateWrite id => Sys2Proof.Machine.execTemplateWrite id s
  | .thresherSet id => Sys2Proof.Machine.execThresherSet id s
  | .regimeSet id => Sys2Proof.Machine.execRegimeSet id s
  | .vfloorSet id => Sys2Proof.Machine.execVfloorSet id s
  | .boundSet id => Sys2Proof.Machine.execBoundSet id s
  | .loanSet id => Sys2Proof.Machine.execLoanSet id s
  | .houseReset id => Sys2Proof.Machine.execHouseReset id s
  | .houseResetOwner id => Sys2Proof.Machine.execHouseResetOwner id s
  | .jrnlRing id => Sys2Proof.Machine.execJrnlRing id s
  | .jrnlAlt id => Sys2Proof.Machine.execJrnlAlt id s
  | .jrnlMarks id => Sys2Proof.Machine.execJrnlMarks id s
  | .jrnlSealCfg id => Sys2Proof.Machine.execJrnlSealCfg id s
  | .jrnlMirror id => Sys2Proof.Machine.execJrnlMirror id s
  | .jrnlAdmin id => Sys2Proof.Machine.execJrnlAdmin id s
  | .houseBind id => Sys2Proof.Machine.execHouseBind id s
  | .shareSet id => Sys2Proof.Machine.execShareSet id s
  | .dramRgnSet id => Sys2Proof.Machine.execDramRgnSet id s
  | .partitionSeal id => Sys2Proof.Machine.execPartitionSeal id s
  | .partitionUnseal id => Sys2Proof.Machine.execPartitionUnseal id s
  | .termSet id => Sys2Proof.Machine.execTermSet id s
  | .houseRekey id => Sys2Proof.Machine.execHouseRekey id s
  | .configSave id => Sys2Proof.Machine.execConfigSave id s
  | .keyInfo id => Sys2Proof.Machine.execKeyInfo id s
  | .pubkeyRead id => Sys2Proof.Machine.execPubkeyRead id s
  | .recordLoad r => Sys2Proof.Machine.execRecordLoad r s
  | .keyImport id => Sys2Proof.Machine.execKeyImport id s
  | .keyExport id => Sys2Proof.Machine.execKeyExport id s
  | .keyGenerate id blocks => Sys2Proof.Machine.execKeyGenerate id blocks s
  | .pubkeyLoad id pk => Sys2Proof.Machine.execPubkeyLoad id pk s
  | .keyDelete id => Sys2Proof.Machine.execKeyDelete id s
  | .compBegin id => Sys2Proof.Machine.execCompBegin id s
  | .compEnter id => Sys2Proof.Machine.execCompEnter id s
  | .compComplete id => Sys2Proof.Machine.execCompComplete id s
  | .compAbort id => Sys2Proof.Machine.execCompAbort id s
  | .hskRoll id => Sys2Proof.Machine.execHskRoll id s
  | .houseZeroise id => Sys2Proof.Machine.execHouseZeroise id s
  | .ownerRekey id => Sys2Proof.Machine.execOwnerRekey id s
  | .custRootSet id => Sys2Proof.Machine.execCustRootSet id s
  | .tamperConfig id => Sys2Proof.Machine.execTamperConfig id s
  | .tamperClear id => Sys2Proof.Machine.execTamperClear id s
  | .pinXlate id => Sys2Proof.Machine.execPinXlate id s
  | .pinVerifyOfs id => Sys2Proof.Machine.execPinVerifyOfs id s
  | .pinVerifyVal id => Sys2Proof.Machine.execPinVerifyVal id s
  | .cryptoVerify id => Sys2Proof.Machine.execCryptoVerify id s
  | .cryptoRespond id => Sys2Proof.Machine.execCryptoRespond id s
  | .cryptoVerifyRespond id => Sys2Proof.Machine.execCryptoVerifyRespond id s
  | .macGen id => Sys2Proof.Machine.execMacGen id s
  | .macVerify id => Sys2Proof.Machine.execMacVerify id s
  | .dukptDecrypt id => Sys2Proof.Machine.execDukptDecrypt id s
  | .dukptPinXlate id => Sys2Proof.Machine.execDukptPinXlate id s
  | .dukptMacVerify id => Sys2Proof.Machine.execDukptMacVerify id s
  | .ff1Tokenise id => Sys2Proof.Machine.execFf1Tokenise id s
  | .ff1Detokenise id => Sys2Proof.Machine.execFf1Detokenise id s
  | .sha256Short id => Sys2Proof.Machine.execSha256Short id s
  | .sha384 id => Sys2Proof.Machine.execSha384 id s
  | .sha512 id => Sys2Proof.Machine.execSha512 id s
  | .sha3256 id => Sys2Proof.Machine.execSha3256 id s
  | .sha3512 id => Sys2Proof.Machine.execSha3512 id s
  | .shake256 id => Sys2Proof.Machine.execShake256 id s
  | .sign id inp aux pk => Sys2Proof.Machine.execSign id inp aux pk s
  | .verify id inp aux pk => Sys2Proof.Machine.execVerify id inp aux pk s
  | .encapsulate id inp aux pk => Sys2Proof.Machine.execEncapsulate id inp aux pk s
  | .decapsulate id inp aux pk => Sys2Proof.Machine.execDecapsulate id inp aux pk s
  | .ecdh id inp aux pk => Sys2Proof.Machine.execEcdh id inp aux pk s
  | .carrelInvoke id => Sys2Proof.Machine.execCarrelInvoke id s
  | .jrnlStatus id => Sys2Proof.Machine.execJrnlStatus id s
  | .jrnlRead id => Sys2Proof.Machine.execJrnlRead id s
  | .jrnlSealRead id => Sys2Proof.Machine.execJrnlSealRead id s
  | .jrnlRetire id => Sys2Proof.Machine.execJrnlRetire id s
  | .rollcallStatus id => Sys2Proof.Machine.execRollcallStatus id s
  | .rollcallRun id => Sys2Proof.Machine.execRollcallRun id s
  | .repairLogRead id => Sys2Proof.Machine.execRepairLogRead id s
  | .marksSnapshot id => Sys2Proof.Machine.execMarksSnapshot id s
  | .marksConfig id => Sys2Proof.Machine.execMarksConfig id s
  | .marchRun id => Sys2Proof.Machine.execMarchRun id s
  | .marchResult id => Sys2Proof.Machine.execMarchResult id s
  | .dramStatus id => Sys2Proof.Machine.execDramStatus id s
  | .dramSet id => Sys2Proof.Machine.execDramSet id s
  | .passInstall id => Sys2Proof.Machine.execPassInstall id s
  | .passRevoke id => Sys2Proof.Machine.execPassRevoke id s
  | .passStatus id => Sys2Proof.Machine.execPassStatus id s
  | .carrelCreate t => Sys2Proof.Machine.execCarrelCreate t s
  | .carrelDestroy t => Sys2Proof.Machine.execCarrelDestroy t s
  | .tillerReopen t => Sys2Proof.Machine.execTillerReopen t s
  | .yield t => Sys2Proof.Machine.execYield t s
  | .leaseTake t => Sys2Proof.Machine.execLeaseTake t s
  | .leaseRelease t => Sys2Proof.Machine.execLeaseRelease t s
  | .domainOff t => Sys2Proof.Machine.execDomainOff t s
  | .domainOn t => Sys2Proof.Machine.execDomainOn t s
  | .bypass tdi => Sys2Proof.Machine.execBypass tdi s
  | .idcode => Sys2Proof.Machine.execIdcode s
  | .samplePreload capture preload => Sys2Proof.Machine.execSamplePreload capture preload s
  | .extest capture drive => Sys2Proof.Machine.execExtest capture drive s
  | .bootstat => Sys2Proof.Machine.execBootstat s
  | .dap op => Sys2Proof.Machine.execDap op s
  | .illegal t w => Sys2Proof.Machine.execIllegal t w s
  | .add t rd rs1 rs2 => Sys2Proof.Machine.execAdd t rd rs1 rs2 s
  | .sub t rd rs1 rs2 => Sys2Proof.Machine.execSub t rd rs1 rs2 s
  | .and t rd rs1 rs2 => Sys2Proof.Machine.execAnd t rd rs1 rs2 s
  | .or t rd rs1 rs2 => Sys2Proof.Machine.execOr t rd rs1 rs2 s
  | .xor t rd rs1 rs2 => Sys2Proof.Machine.execXor t rd rs1 rs2 s
  | .slt t rd rs1 rs2 => Sys2Proof.Machine.execSlt t rd rs1 rs2 s
  | .sltu t rd rs1 rs2 => Sys2Proof.Machine.execSltu t rd rs1 rs2 s
  | .sll t rd rs1 rs2 => Sys2Proof.Machine.execSll t rd rs1 rs2 s
  | .srl t rd rs1 rs2 => Sys2Proof.Machine.execSrl t rd rs1 rs2 s
  | .sra t rd rs1 rs2 => Sys2Proof.Machine.execSra t rd rs1 rs2 s
  | .ror t rd rs1 rs2 => Sys2Proof.Machine.execRor t rd rs1 rs2 s
  | .mul t rd rs1 rs2 => Sys2Proof.Machine.execMul t rd rs1 rs2 s
  | .mulh t rd rs1 rs2 => Sys2Proof.Machine.execMulh t rd rs1 rs2 s
  | .mulhu t rd rs1 rs2 => Sys2Proof.Machine.execMulhu t rd rs1 rs2 s
  | .div t rd rs1 rs2 => Sys2Proof.Machine.execDiv t rd rs1 rs2 s
  | .divu t rd rs1 rs2 => Sys2Proof.Machine.execDivu t rd rs1 rs2 s
  | .rem t rd rs1 rs2 => Sys2Proof.Machine.execRem t rd rs1 rs2 s
  | .remu t rd rs1 rs2 => Sys2Proof.Machine.execRemu t rd rs1 rs2 s
  | .divc t rd rs1 rs2 => Sys2Proof.Machine.execDivc t rd rs1 rs2 s
  | .divcu t rd rs1 rs2 => Sys2Proof.Machine.execDivcu t rd rs1 rs2 s
  | .remc t rd rs1 rs2 => Sys2Proof.Machine.execRemc t rd rs1 rs2 s
  | .remcu t rd rs1 rs2 => Sys2Proof.Machine.execRemcu t rd rs1 rs2 s
  | .addi t rd rs1 imm => Sys2Proof.Machine.execAddi t rd rs1 imm s
  | .slti t rd rs1 imm => Sys2Proof.Machine.execSlti t rd rs1 imm s
  | .sltiu t rd rs1 imm => Sys2Proof.Machine.execSltiu t rd rs1 imm s
  | .andi t rd rs1 imm => Sys2Proof.Machine.execAndi t rd rs1 imm s
  | .ori t rd rs1 imm => Sys2Proof.Machine.execOri t rd rs1 imm s
  | .xori t rd rs1 imm => Sys2Proof.Machine.execXori t rd rs1 imm s
  | .lui t rd imm => Sys2Proof.Machine.execLui t rd imm s
  | .slli t rd rs1 sh => Sys2Proof.Machine.execSlli t rd rs1 sh s
  | .srli t rd rs1 sh => Sys2Proof.Machine.execSrli t rd rs1 sh s
  | .srai t rd rs1 sh => Sys2Proof.Machine.execSrai t rd rs1 sh s
  | .rori t rd rs1 sh => Sys2Proof.Machine.execRori t rd rs1 sh s
  | .lb t rd rs1 imm => Sys2Proof.Machine.execLb t rd rs1 imm s
  | .lbu t rd rs1 imm => Sys2Proof.Machine.execLbu t rd rs1 imm s
  | .lh t rd rs1 imm => Sys2Proof.Machine.execLh t rd rs1 imm s
  | .lhu t rd rs1 imm => Sys2Proof.Machine.execLhu t rd rs1 imm s
  | .lw t rd rs1 imm => Sys2Proof.Machine.execLw t rd rs1 imm s
  | .lwu t rd rs1 imm => Sys2Proof.Machine.execLwu t rd rs1 imm s
  | .ld t rd rs1 imm => Sys2Proof.Machine.execLd t rd rs1 imm s
  | .ldpc t rd imm => Sys2Proof.Machine.execLdpc t rd imm s
  | .sb t rs2 rs1 imm => Sys2Proof.Machine.execSb t rs2 rs1 imm s
  | .sh t rs2 rs1 imm => Sys2Proof.Machine.execSh t rs2 rs1 imm s
  | .sw t rs2 rs1 imm => Sys2Proof.Machine.execSw t rs2 rs1 imm s
  | .sd t rs2 rs1 imm => Sys2Proof.Machine.execSd t rs2 rs1 imm s
  | .dadd t rd rs1 rs2 => Sys2Proof.Machine.execDadd t rd rs1 rs2 s
  | .dswp t rd rs1 rs2 => Sys2Proof.Machine.execDswp t rd rs1 rs2 s
  | .beq t rs1 rs2 a disp => Sys2Proof.Machine.execBeq t rs1 rs2 a disp s
  | .bne t rs1 rs2 a disp => Sys2Proof.Machine.execBne t rs1 rs2 a disp s
  | .blt t rs1 rs2 a disp => Sys2Proof.Machine.execBlt t rs1 rs2 a disp s
  | .bge t rs1 rs2 a disp => Sys2Proof.Machine.execBge t rs1 rs2 a disp s
  | .bltu t rs1 rs2 a disp => Sys2Proof.Machine.execBltu t rs1 rs2 a disp s
  | .bgeu t rs1 rs2 a disp => Sys2Proof.Machine.execBgeu t rs1 rs2 a disp s
  | .j t disp => Sys2Proof.Machine.execJ t disp s
  | .jal t disp => Sys2Proof.Machine.execJal t disp s
  | .jalr t rd rs1 => Sys2Proof.Machine.execJalr t rd rs1 s
  | .csync t => Sys2Proof.Machine.execCsync t s
  | .ifence t => Sys2Proof.Machine.execIfence t s
  | .fenceRw t => Sys2Proof.Machine.execFenceRw t s
  | .fenceW t => Sys2Proof.Machine.execFenceW t s
  | .fenceIo t => Sys2Proof.Machine.execFenceIo t s
  | .icinv t rs1 => Sys2Proof.Machine.execIcinv t rs1 s
  | .retx t => Sys2Proof.Machine.execRetx t s
  | .waiti t => Sys2Proof.Machine.execWaiti t s
  | .maskup t n => Sys2Proof.Machine.execMaskup t n s
  | .pcall t imm => Sys2Proof.Machine.execPcall t imm s
  | .gcall t imm => Sys2Proof.Machine.execGcall t imm s
  | .csrr t rd csr => Sys2Proof.Machine.execCsrr t rd csr s
  | .csrw t csr rs1 => Sys2Proof.Machine.execCsrw t csr rs1 s
  | .bcopy t rd rs1 rs2 => Sys2Proof.Machine.execBcopy t rd rs1 rs2 s
  | .bfill t rd rs1 rs2 => Sys2Proof.Machine.execBfill t rd rs1 rs2 s
  | .husksum t rd rs1 rs2 => Sys2Proof.Machine.execHusksum t rd rs1 rs2 s
  | .millcall t rd rs1 => Sys2Proof.Machine.execMillcall t rd rs1 s
  | .tlbiva t rs1 => Sys2Proof.Machine.execTlbiva t rs1 s
  | .tlbiasid t rs1 => Sys2Proof.Machine.execTlbiasid t rs1 s
  | .tlbiworld t => Sys2Proof.Machine.execTlbiworld t s
  | .tlbiall t => Sys2Proof.Machine.execTlbiall t s
  | .vaonLoss => Sys2Proof.Machine.execVaonLoss s
  | .vaonPowerUp => Sys2Proof.Machine.execVaonPowerUp s
  | .marchTestComplete k n repaired left ok => Sys2Proof.Machine.execMarchTestComplete k n repaired left ok s
  | .dramRegionZeroComplete n => Sys2Proof.Machine.execDramRegionZeroComplete n s
  | .granaryWayClearComplete w => Sys2Proof.Machine.execGranaryWayClearComplete w s

end Sys2Proof.Machine
end

