-- ==== Sys2Proof/Safety.lean ====
section
/-! DEFINITION. The terms in which claims are stated: the canonical forms of the state, when a Tiller's
instruction executes, what an instruction leaves unchanged, and how the work of a slate ends. -/

namespace Sys2Proof.Safety

open Sys2Proof.Machine

/-! ### Canonical forms -/

/-- Memory and the register file are in canonical form (log entries 5 and 6): addresses strictly rising,
nothing listed that equals what an unlisted address reads as. -/
def Canonical (s : State) : Prop := Memory.wf s.mem = true ∧ Map.wf regReset s.regs = true

/-- Every byte of memory is the same. -/
def MemSame (s s' : State) : Prop := ∀ b : Nat, Memory.byte s'.mem b = Memory.byte s.mem b

/-- Every byte of memory outside `n` bytes from `a` is the same. -/
def MemSameBut (a n : Nat) (s s' : State) : Prop :=
  ∀ b : Nat, b < a ∨ a + n ≤ b → Memory.byte s'.mem b = Memory.byte s.mem b

/-! ### A Tiller's instruction (R244, R253, R288, R299) -/

/-- Tiller `t` runs, waits for nothing, has nothing due, holds its instruction in the fetch queue, and the
carrel entry check passes: its next instruction executes. -/
structure Ready (s : State) (t : Nat) : Prop where
  runs : s.tillerRuns t = true
  free : (s.tiller t).stall = .none
  due : (s.tiller t).due = none
  fetched : (s.tiller t).curPa.isSome = true
  entry : ∀ c, s.nowIn t = some c → s.entryOk t c ((s.tiller t).curPa.getD 0) = true

/-- The state in which the instruction's own effect starts: EFLAGS.INC and CIDX follow the instruction. -/
def started (s : State) (t : Nat) : State := s.modTiller t (fun x => { x with carrel := s.nowIn t })

/-- The next instruction: the resolved target after a delay slot, else the next word (R268). -/
def nextPc (s : State) (t : Nat) : Word := (s.tiller t).dslot.getD ((s.tiller t).pc + 4)

/-- The general registers are the same but for one write, which g0 discards (R245). -/
def GrWritten (s s' : State) (t : Nat) (rd : Fin 32) (v : Word) : Prop :=
  (rd ≠ 0 → s'.gr t rd = v) ∧ s'.gr t 0 = 0 ∧ ∀ r, r ≠ rd → s'.gr t r = s.gr t r

/-- The general registers are the same. -/
def GrSame (s s' : State) (t : Nat) : Prop := ∀ r, s'.gr t r = s.gr t r

/-- A register that Marks count in (R435 to R438). -/
def IsMark (a : Nat) : Prop :=
  ∃ p i, a = Reg.mkoCnt p i ∨ a = Reg.mksCnt p i ∨ a = Reg.mkoTd p i ∨ a = Reg.mksTd p i

/-- What a Tiller's instruction leaves outside its Tiller: memory, every other Tiller, every memory-mapped
register but the Marks counters, and every other unit of the part. -/
structure OutsideSame (s s' : State) (t : Nat) : Prop where
  mem : MemSame s s'
  others : ∀ u, u ≠ t → s'.tiller u = s.tiller u
  regs : ∀ a, ¬ IsMark a → s'.rd a = s.rd a
  dtime : s'.dtime = s.dtime
  slates : s'.slates = s.slates
  houses : s'.houses = s.houses
  fns : s'.fns = s.fns
  chutes : s'.chutes = s.chutes
  hoppers : s'.hoppers = s.hoppers
  chans : s'.chans = s.chans
  flash : s'.flash = s.flash
  keys : s'.symSlots = s.symSlots ∧ s'.asymSlots = s.asymSlots ∧ s'.dev = s.dev
  caches : s'.symCache = s.symCache ∧ s'.asymCache = s.asymCache
  power : s'.power = s.power
  out : s'.out = s.out

/-- The exception registers, the control registers that need CSYNC with their pending writes, the ring and the
masks of a Tiller are the same (Table 9.7). -/
structure CtlSame (x y : Tiller) : Prop where
  ring : y.ring = x.ring
  cause : y.cause = x.cause
  epc : y.epc = x.epc
  entry : y.entry = x.entry
  sp : y.sp = x.sp
  masks : y.maskOpen = x.maskOpen ∧ y.maskSecure = x.maskSecure
  pt : y.ptOpen = x.ptOpen ∧ y.ptSecure = x.ptSecure
  pred : y.predEn = x.predEn
  carrelCsr : y.carrelCsr = x.carrelCsr
  openEn : y.openEn = x.openEn
  pending : y.pendCsr = x.pendCsr

/-- The store buffer, the stores accepted and not performed, the TLB, the completion slots and the answer queues of a
Tiller are the same. -/
structure BuffersSame (x y : Tiller) : Prop where
  sb : y.sb = x.sb
  posted : y.posted = x.posted
  tlb : y.tlb = x.tlb
  slots : y.slots = x.slots
  ans : y.ans = x.ans
  cancel : y.cancel = x.cancel
  edges : y.edges = x.edges

/-- The frame of an instruction that touches registers only. -/
structure RegisterFrame (s s' : State) (t : Nat) : Prop where
  outside : OutsideSame s s' t
  ctl : CtlSame (s.tiller t) (s'.tiller t)
  buffers : BuffersSame (s.tiller t) (s'.tiller t)

/-- The instruction completes: one general register takes a value, the pc steps on, ARITH is as given, and the
rest is as before. -/
def Result (o : Out) (s : State) (t : Nat) (rd : Fin 32) (v arith : Word) : Prop :=
  ∃ s', o = .next s' ∧ GrWritten s s' t rd v ∧ (s'.tiller t).pc = nextPc s t ∧
    (s'.tiller t).dslot = none ∧ (s'.tiller t).arith = arith ∧ RegisterFrame s s' t

/-! ### The work of a slate on the Tabqua path (R91) -/

/-- A Tiller that may serve the slate's House holds the work of slate `id`, whose opcode is `op` and whose claim is
open (R203). -/
structure Held (s : State) (id op : Nat) : Prop where
  work : ∃ t, (s.slate id).work = .tiller t ∧ s.tillerServes t (s.slate id).house = true
  path : (s.slate id).path = .tabqua
  opcode : pkOpcode (s.slate id).pkt = op
  live : (s.slate id).st = .live
  own : (s.slate id).heldBy = none

/-- The command completes and takes the claim of slate `id` with this status, result, NEG and output. -/
def Answers (o : Out) (s : State) (id status result : Nat) (neg : Bool) (out : Option (List Byte)) : Prop :=
  ∃ s', o = .next s' ∧ (s'.slate id).claim = some (s.mkClaim status result neg out)

end Sys2Proof.Safety
end

