-- ==== Sys2Proof/Certificates/Slice0/Obligations.lean ====
section
/-! DEFINITION. The statements for the provers. Those that rest on a choice of the model name its log entry. -/

open Sys2Proof Sys2Proof.Machine Sys2Proof.Safety

/-! ### The step -/

/-- A step takes the command at the front of the queue and runs it with the queue's rest. -/
def Obligations.StepRunsFrontCommand : Prop :=
  ∀ (c : Instr) (q : List Instr) (s : State), step (s.setPending (c :: q)) = exec c (s.setPending q)

/-! ### The words of Tiller instructions (R247, R248) -/

/-- The word of every instruction decodes to it, with every operand at every value, and a word that decodes is the word of
what it decodes to: no two words spell one instruction, and none is dropped or read as its neighbour. -/
def Obligations.DecodeAndEncodeAgree : Prop :=
  (∀ k : Kis, decodeWord k.encode = some k) ∧ (∀ w k, decodeWord w = some k → k.encode = w)

/-! ### Tiller instructions: registers (chapter 9) -/

/-- The logic, compare, shift and high-product instructions write their value to rd, which g0 discards, and leave
everything else; a shift amount is rs2[5:0]. -/
def Obligations.RegisterOperationResults : Prop :=
  ∀ (s : State) (t : Nat) (rd a b : Fin 32), Ready s t →
    Result (exec (.and t rd a b) s) s t rd (s.gr t a &&& s.gr t b) (s.tiller t).arith ∧
    Result (exec (.or t rd a b) s) s t rd (s.gr t a ||| s.gr t b) (s.tiller t).arith ∧
    Result (exec (.xor t rd a b) s) s t rd (s.gr t a ^^^ s.gr t b) (s.tiller t).arith ∧
    Result (exec (.slt t rd a b) s) s t rd (if (s.gr t a).toInt < (s.gr t b).toInt then 1 else 0)
      (s.tiller t).arith ∧
    Result (exec (.sltu t rd a b) s) s t rd (if (s.gr t a).toNat < (s.gr t b).toNat then 1 else 0)
      (s.tiller t).arith ∧
    Result (exec (.sll t rd a b) s) s t rd (s.gr t a <<< ((s.gr t b).toNat % 64)) (s.tiller t).arith ∧
    Result (exec (.srl t rd a b) s) s t rd (s.gr t a >>> ((s.gr t b).toNat % 64)) (s.tiller t).arith ∧
    Result (exec (.sra t rd a b) s) s t rd ((s.gr t a).sshiftRight ((s.gr t b).toNat % 64))
      (s.tiller t).arith ∧
    Result (exec (.ror t rd a b) s) s t rd ((s.gr t a).rotateRight ((s.gr t b).toNat % 64))
      (s.tiller t).arith ∧
    Result (exec (.mulh t rd a b) s) s t rd
      (((s.gr t a).signExtend 128 * (s.gr t b).signExtend 128).extractLsb' 64 64) (s.tiller t).arith ∧
    Result (exec (.mulhu t rd a b) s) s t rd
      (((s.gr t a).zeroExtend 128 * (s.gr t b).zeroExtend 128).extractLsb' 64 64) (s.tiller t).arith

/-- The immediate forms write their value to rd and leave everything else. -/
def Obligations.ImmediateOperationResults : Prop :=
  ∀ (s : State) (t : Nat) (rd a : Fin 32) (imm : BitVec 16) (big : BitVec 21) (sh : BitVec 6), Ready s t →
    Result (exec (.slti t rd a imm) s) s t rd (if (s.gr t a).toInt < imm.toInt then 1 else 0)
      (s.tiller t).arith ∧
    Result (exec (.sltiu t rd a imm) s) s t rd
      (if (s.gr t a).toNat < (imm.signExtend 64).toNat then 1 else 0) (s.tiller t).arith ∧
    Result (exec (.andi t rd a imm) s) s t rd (s.gr t a &&& imm.zeroExtend 64) (s.tiller t).arith ∧
    Result (exec (.ori t rd a imm) s) s t rd (s.gr t a ||| imm.zeroExtend 64) (s.tiller t).arith ∧
    Result (exec (.xori t rd a imm) s) s t rd (s.gr t a ^^^ imm.zeroExtend 64) (s.tiller t).arith ∧
    Result (exec (.lui t rd big) s) s t rd (big.signExtend 64 <<< 16) (s.tiller t).arith ∧
    Result (exec (.slli t rd a sh) s) s t rd (s.gr t a <<< sh.toNat) (s.tiller t).arith ∧
    Result (exec (.srli t rd a sh) s) s t rd (s.gr t a >>> sh.toNat) (s.tiller t).arith ∧
    Result (exec (.srai t rd a sh) s) s t rd ((s.gr t a).sshiftRight sh.toNat) (s.tiller t).arith ∧
    Result (exec (.rori t rd a sh) s) s t rd ((s.gr t a).rotateRight sh.toNat) (s.tiller t).arith

/-- A signed result that does not fit: the exact value lies outside 64 bits. -/
def Unfit (z : Int) : Prop := z < -(2 ^ 63) ∨ 2 ^ 63 ≤ z

/-- ADD, SUB, MUL and ADDI write the wrapped result; an overflow sets OV_S. They complete so unless the result
overflows while OV_EN is 1. -/
def Obligations.OverflowingOperationResults : Prop :=
  ∀ (s : State) (t : Nat) (rd a b : Fin 32) (imm : BitVec 16), Ready s t →
    let x := (s.gr t a).toInt
    let y := (s.gr t b).toInt
    let ar := (s.tiller t).arith
    let on := ar.getLsbD 1 = true
    ((Unfit (x + y) → ¬ on) → Result (exec (.add t rd a b) s) s t rd (s.gr t a + s.gr t b)
      (if x + y < -(2 ^ 63) ∨ 2 ^ 63 ≤ x + y then ar ||| 0x200#64 else ar)) ∧
    ((Unfit (x - y) → ¬ on) → Result (exec (.sub t rd a b) s) s t rd (s.gr t a - s.gr t b)
      (if x - y < -(2 ^ 63) ∨ 2 ^ 63 ≤ x - y then ar ||| 0x200#64 else ar)) ∧
    ((Unfit (x * y) → ¬ on) → Result (exec (.mul t rd a b) s) s t rd (s.gr t a * s.gr t b)
      (if x * y < -(2 ^ 63) ∨ 2 ^ 63 ≤ x * y then ar ||| 0x200#64 else ar)) ∧
    ((Unfit (x + imm.toInt) → ¬ on) →
      Result (exec (.addi t rd a imm) s) s t rd (s.gr t a + imm.signExtend 64)
      (if x + imm.toInt < -(2 ^ 63) ∨ 2 ^ 63 ≤ x + imm.toInt then ar ||| 0x200#64 else ar))

/-- The divides and remainders give the values of Table 9.5: a quotient truncates toward zero, a division by zero
gives all ones and the dividend as remainder and sets DZ_S, and the one signed overflow sets OV_S. They complete so
unless DZ_EN or OV_EN makes the condition a trap. -/
def Obligations.DivideResults : Prop :=
  ∀ (s : State) (t : Nat) (rd a b : Fin 32), Ready s t →
    let x := s.gr t a
    let y := s.gr t b
    let ar := (s.tiller t).arith
    let ov := x = 0x8000000000000000#64 ∧ y = 0xFFFFFFFFFFFFFFFF#64
    let dz := if y = 0 then ar ||| 0x100#64 else ar
    let q : Word := if y = 0 then 0xFFFFFFFFFFFFFFFF#64 else BitVec.ofInt 64 (x.toInt.tdiv y.toInt)
    let qu : Word := if y = 0 then 0xFFFFFFFFFFFFFFFF#64 else BitVec.ofNat 64 (x.toNat / y.toNat)
    let r : Word := if y = 0 then x else BitVec.ofInt 64 (x.toInt.tmod y.toInt)
    let ru : Word := if y = 0 then x else BitVec.ofNat 64 (x.toNat % y.toNat)
    (y = 0 → ar.getLsbD 0 = false) →
    ((ov → ar.getLsbD 1 = false) →
      Result (exec (.div t rd a b) s) s t rd q (if x = 0x8000000000000000#64 ∧ y = 0xFFFFFFFFFFFFFFFF#64 then ar ||| 0x200#64 else dz) ∧
      Result (exec (.divc t rd a b) s) s t rd q (if x = 0x8000000000000000#64 ∧ y = 0xFFFFFFFFFFFFFFFF#64 then ar ||| 0x200#64 else dz)) ∧
    Result (exec (.divu t rd a b) s) s t rd qu dz ∧ Result (exec (.divcu t rd a b) s) s t rd qu dz ∧
    Result (exec (.rem t rd a b) s) s t rd r dz ∧ Result (exec (.remc t rd a b) s) s t rd r dz ∧
    Result (exec (.remu t rd a b) s) s t rd ru dz ∧ Result (exec (.remcu t rd a b) s) s t rd ru dz

/-! ### Tiller instructions: memory (chapters 9, 11 and 13) -/

/-- Pieces without side effects, whose lines no side-effect store holds and no partly buffered load waits for. -/
def PlainLines (s : State) (t : Nat) (ps : List (Nat × Nat)) : Prop :=
  (s.tiller t).lineWait.any (s.tiller t).holdsLine = false ∧
  ∀ p ∈ ps, (s.addrType (s.tiller t).pos p.1).side = false ∧ (s.tiller t).sideLine (lineOf p.1) = false

/-- A load's pieces have passed every check and lie in regions without side effects; every byte is in the
Tiller's own store buffer, or none is and the bytes lie in its own Desk or in its data cache, unpoisoned. -/
def LoadHits (s : State) (t va n : Nat) (ps : List (Nat × Nat)) : Prop :=
  (started s t).access t .load va n = (.ok ps, started s t) ∧ PlainLines s t ps ∧
  ((∀ p ∈ ps, (s.tiller t).allBuffered p.1 p.2 = true) ∨
    ((∀ p ∈ ps, (s.tiller t).anyBuffered p.1 p.2 = false ∧ s.poisoned p.1 p.2 = false) ∧
     ((∀ p ∈ ps, ∃ o, s.placeOf p.1 = .desk (s.tiller t).pos o) ∨
      ∀ p ∈ ps, (s.addrType (s.tiller t).pos p.1).cached = true ∧
        Lines.has (s.tiller t).dcache (lineOf p.1) = true)))

/-- The little-endian number that a load reads: its own buffered stores first, memory beneath. -/
def loadValue (s : State) (t : Nat) (ps : List (Nat × Nat)) : Nat :=
  ofBytes ((ps.map (fun p => s.viewBytes t p.1 p.2)).flatten)

/-- A load whose data is at hand writes rd: the bytes at rs1 + imm16, little-endian, sign-extended by LB, LH and LW,
zero-extended by the others; LDPC reads at (PC with [2:0] cleared) + imm16 × 8. -/
def Obligations.LoadResults : Prop :=
  ∀ (s : State) (t : Nat) (rd a : Fin 32) (imm : BitVec 16) (ps : List (Nat × Nat)), Ready s t →
    let va := (s.gr t a + imm.signExtend 64).toNat
    let v := loadValue s t ps
    let ar := (s.tiller t).arith
    (LoadHits s t va 1 ps →
      Result (exec (.lb t rd a imm) s) s t rd ((BitVec.ofNat 8 v).signExtend 64) ar ∧
      Result (exec (.lbu t rd a imm) s) s t rd ((BitVec.ofNat 8 v).zeroExtend 64) ar) ∧
    (LoadHits s t va 2 ps →
      Result (exec (.lh t rd a imm) s) s t rd ((BitVec.ofNat 16 v).signExtend 64) ar ∧
      Result (exec (.lhu t rd a imm) s) s t rd ((BitVec.ofNat 16 v).zeroExtend 64) ar) ∧
    (LoadHits s t va 4 ps →
      Result (exec (.lw t rd a imm) s) s t rd ((BitVec.ofNat 32 v).signExtend 64) ar ∧
      Result (exec (.lwu t rd a imm) s) s t rd ((BitVec.ofNat 32 v).zeroExtend 64) ar) ∧
    (LoadHits s t va 8 ps → Result (exec (.ld t rd a imm) s) s t rd (BitVec.ofNat 64 v) ar) ∧
    (LoadHits s t (((s.tiller t).pc &&& ~~~7#64) + imm.signExtend 64 * 8).toNat 8 ps →
      Result (exec (.ldpc t rd imm) s) s t rd (BitVec.ofNat 64 v) ar)

/-- A store to one line passes every check, in a region without side effects, and the buffer has room. A store
that merges meets no younger closed entry of its line. -/
structure StoreFits (s : State) (t va n a : Nat) : Prop where
  checked : (started s t).access t .store va n = (.ok [(a, n)], started s t)
  plain : (s.addrType (s.tiller t).pos a).side = false
  room : (s.tiller t).room a = true
  line : a % 64 + n ≤ 64
  youngest : ∀ pre e post, (s.tiller t).sb = pre ++ e :: post → openEntry (lineOf a) e = true →
    ∀ o ∈ post, o.side = true ∨ o.line ≠ lineOf a

/-- The store completes into the buffer: its Tiller sees the bytes, every other buffered byte and all of memory
are as before. -/
def Buffered (o : Out) (s : State) (t a : Nat) (bs : List Byte) : Prop :=
  ∃ s', o = .next s' ∧ (s'.tiller t).pc = nextPc s t ∧ GrSame s s' t ∧
    (∀ b, (s'.tiller t).buffered b =
      if a ≤ b ∧ b < a + bs.length then bs[b - a]? else (s.tiller t).buffered b) ∧
    OutsideSame s s' t ∧ CtlSame (s.tiller t) (s'.tiller t)

/-- A store completes once it is buffered: the low bytes of rs2, little-endian, at rs1 + imm16; memory itself is
unchanged until the entry drains. -/
def Obligations.StoreResults : Prop :=
  ∀ (s : State) (t : Nat) (b a : Fin 32) (imm : BitVec 16) (pa : Nat), Ready s t →
    let va := (s.gr t a + imm.signExtend 64).toNat
    let v := (s.gr t b).toNat
    (StoreFits s t va 1 pa → Buffered (exec (.sb t b a imm) s) s t pa (toBytes v 1)) ∧
    (StoreFits s t va 2 pa → Buffered (exec (.sh t b a imm) s) s t pa (toBytes v 2)) ∧
    (StoreFits s t va 4 pa → Buffered (exec (.sw t b a imm) s) s t pa (toBytes v 4)) ∧
    (StoreFits s t va 8 pa → Buffered (exec (.sd t b a imm) s) s t pa (toBytes v 8))

/-- A drain of entry `n` writes exactly its bytes to memory, at its line, and removes it from the buffer. -/
def Obligations.StoreDrainWritesItsBytes : Prop :=
  ∀ (s : State) (t n : Nat) (e : SbEntry), (s.tiller t).sb[n]? = some e → (s.tiller t).mayDrain n = true →
    s.running = true → e.side = false → Map.sorted e.bytes = true →
    s.behind (s.tiller t).posted e.line false = false → s.power.offQueue = [] →
    (s.placeOf e.line = .dram → s.frozenAt e.line = false ∧ s.retiredAt e.line = false) →
    ∃ s', exec (.storeBufferDrain t n false) s = .next s' ∧
      (s'.tiller t).sb = (s.tiller t).sb.eraseIdx n ∧
      ∀ b, Memory.byte s'.mem b =
        if e.line ≤ b then (Map.find (b - e.line) e.bytes).getD (Memory.byte s.mem b) else Memory.byte s.mem b

/-- The Desk atomics read 8 bytes, write the sum or the new value as one operation, and leave every other byte. -/
def Obligations.AtomicResults : Prop :=
  ∀ (s : State) (t : Nat) (rd a b : Fin 32) (pa : Nat), Ready s t →
    (started s t).access t .atomic (s.gr t a).toNat 8 = (.ok [(pa, 8)], started s t) →
    (s.tiller t).holdsLine (lineOf pa) = false → (s.tiller t).sideLine (lineOf pa) = false →
    s.poisoned pa 8 = false → pa < 0x0F0000000000 →
    let old := BitVec.ofNat 64 (ofBytes (Memory.bytes s.mem pa 8))
    (∃ s', exec (.dadd t rd a b) s = .next s' ∧ GrWritten s s' t rd old ∧ (s'.tiller t).pc = nextPc s t ∧
      Memory.bytes s'.mem pa 8 = toBytes (old + s.gr t b).toNat 8 ∧ MemSameBut pa 8 s s' ∧
      CtlSame (s.tiller t) (s'.tiller t)) ∧
    (∃ s', exec (.dswp t rd a b) s = .next s' ∧ GrWritten s s' t rd old ∧ (s'.tiller t).pc = nextPc s t ∧
      Memory.bytes s'.mem pa 8 = toBytes (s.gr t b).toNat 8 ∧ MemSameBut pa 8 s s' ∧
      CtlSame (s.tiller t) (s'.tiller t))

/-! ### Tiller instructions: control transfers (R266 to R270) -/

/-- A conditional branch completes: the slot runs next and then the target or the word after the slot; a slot that is
annulled is stepped over. -/
def Branches (o : Out) (s : State) (t : Nat) (a taken : Bool) (disp : BitVec 15) : Prop :=
  ∃ s', o = .next s' ∧
    (if taken = false ∧ a = true then
      (s'.tiller t).pc = (s.tiller t).pc + 8 ∧ (s'.tiller t).dslot = none
    else (s'.tiller t).pc = (s.tiller t).pc + 4 ∧
      (s'.tiller t).dslot = some (if taken then (s.tiller t).pc + disp.signExtend 64 * 4 else (s.tiller t).pc + 8)) ∧
    GrSame s s' t ∧ (s'.tiller t).arith = (s.tiller t).arith ∧ RegisterFrame s s' t

/-- The conditional branches: their condition, their target, the delay slot and its annulment. -/
def BranchResults : Prop :=
  ∀ (s : State) (t : Nat) (x y : Fin 32) (a : Bool) (disp : BitVec 15), Ready s t → (s.tiller t).dslot = none →
    Branches (exec (.beq t x y a disp) s) s t a (decide (s.gr t x = s.gr t y)) disp ∧
    Branches (exec (.bne t x y a disp) s) s t a (decide (s.gr t x ≠ s.gr t y)) disp ∧
    Branches (exec (.blt t x y a disp) s) s t a (decide ((s.gr t x).toInt < (s.gr t y).toInt)) disp ∧
    Branches (exec (.bge t x y a disp) s) s t a (decide ((s.gr t y).toInt ≤ (s.gr t x).toInt)) disp ∧
    Branches (exec (.bltu t x y a disp) s) s t a (decide ((s.gr t x).toNat < (s.gr t y).toNat)) disp ∧
    Branches (exec (.bgeu t x y a disp) s) s t a (decide ((s.gr t y).toNat ≤ (s.gr t x).toNat)) disp

/-- A jump completes: the slot runs next and then the target; a link register takes the branch address + 8. -/
def Jumps (o : Out) (s : State) (t : Nat) (rd : Fin 32) (target : Word) : Prop :=
  ∃ s', o = .next s' ∧ (s'.tiller t).pc = (s.tiller t).pc + 4 ∧ (s'.tiller t).dslot = some target ∧
    GrWritten s s' t rd ((s.tiller t).pc + 8) ∧ (s'.tiller t).arith = (s.tiller t).arith ∧
    RegisterFrame s s' t

/-- J, JAL and JALR: their targets and links; JALR reads rs1 before it writes rd. -/
def JumpResults : Prop :=
  ∀ (s : State) (t : Nat) (rd a : Fin 32) (disp : BitVec 26), Ready s t → (s.tiller t).dslot = none →
    Jumps (exec (.j t disp) s) s t 0 ((s.tiller t).pc + disp.signExtend 64 * 4) ∧
    Jumps (exec (.jal t disp) s) s t 31 ((s.tiller t).pc + disp.signExtend 64 * 4) ∧
    ((s.gr t a).toNat % 4 = 0 → Jumps (exec (.jalr t rd a) s) s t rd (s.gr t a))

/-! ### Tiller instructions: control registers, fences and maintenance (R258 to R261, R271 to R276, R323) -/

/-- A control register that needs CSYNC keeps its value in force until then, and a read shows the pending one; ARITH,
CAUSE, EPC and EFLAGS.PROGRESS take a write at once. -/
def Obligations.ControlRegisterAccess : Prop :=
  ∀ (s : State) (t : Nat) (rd a : Fin 32) (csr : BitVec 12), Ready s t →
    let n := csr.toNat
    let r := (s.tiller t).ring
    let v := s.gr t a
    (csrKnown n = true → csrReadable n r = true →
      Result (exec (.csrr t rd csr) s) s t rd ((started s t).csrRead t n r) (s.tiller t).arith) ∧
    (csrKnown n = true → csrWritable n r = true → csrSync n = true →
      ∃ s', exec (.csrw t csr a) s = .next s' ∧ (s'.tiller t).pc = nextPc s t ∧ GrSame s s' t ∧
        Map.find (pendKey n r) (s'.tiller t).pendCsr = some v ∧
        (∀ k, k ≠ pendKey n r → Map.find k (s'.tiller t).pendCsr = Map.find k (s.tiller t).pendCsr) ∧
        (s'.tiller t).entry = (s.tiller t).entry ∧ (s'.tiller t).sp = (s.tiller t).sp ∧
        (s'.tiller t).maskOpen = (s.tiller t).maskOpen ∧ (s'.tiller t).maskSecure = (s.tiller t).maskSecure ∧
        (s'.tiller t).ptOpen = (s.tiller t).ptOpen ∧ (s'.tiller t).ptSecure = (s.tiller t).ptSecure ∧
        (s'.tiller t).predEn = (s.tiller t).predEn ∧ (s'.tiller t).openEn = (s.tiller t).openEn ∧
        OutsideSame s s' t ∧ BuffersSame (s.tiller t) (s'.tiller t)) ∧
    (∃ s', exec (.csrw t 0x022 a) s = .next s' ∧ (s'.tiller t).pc = nextPc s t ∧ GrSame s s' t ∧
      (s'.tiller t).arith = ((s.tiller t).arith &&& ~~~(v &&& 0x300#64) &&& 0x300#64) ||| (v &&& 3#64) ∧
      RegisterFrame s s' t) ∧
    (∃ s', exec (.csrw t 0x001 a) s = .next s' ∧ (s'.tiller t).pc = nextPc s t ∧ GrSame s s' t ∧
      (s'.tiller t).epc = setBank (s.tiller t).epc r v ∧ (s'.tiller t).cause = (s.tiller t).cause ∧
      OutsideSame s s' t ∧ BuffersSame (s.tiller t) (s'.tiller t))

/-- MASKUP raises the mask of the current world at once, outside ring 3; CSYNC puts the pending control register
writes in force after it retires and discards the fetch queue, as IFENCE does. -/
def Obligations.SynchronisationResults : Prop :=
  ∀ (s : State) (t : Nat) (n : BitVec 2), Ready s t →
    ((s.tiller t).ring ≠ 3 → ∃ s', exec (.maskup t n) s = .next s' ∧ (s'.tiller t).pc = nextPc s t ∧
      GrSame s s' t ∧
      (s'.tiller t).mask (s.tiller t).secure = max ((s.tiller t).mask (s.tiller t).secure) n.toNat ∧
      (s'.tiller t).mask (!(s.tiller t).secure) = (s.tiller t).mask (!(s.tiller t).secure) ∧
      (s'.tiller t).arith = (s.tiller t).arith ∧ OutsideSame s s' t ∧ BuffersSame (s.tiller t) (s'.tiller t)) ∧
    ((s.tiller t).dslot = none →
      (exec (.csync t) s = .next ((((started s t).retire t 12).applyPending t).refetch t)) ∧
      (∀ u : State, (((u.applyPending t).refetch t).tiller t).pendCsr = []) ∧
      (∃ s', exec (.ifence t) s = .next s' ∧ (s'.tiller t).pc = (s.tiller t).pc + 4 ∧ (s'.tiller t).fq = [] ∧
        GrSame s s' t ∧ (s'.tiller t).arith = (s.tiller t).arith ∧ RegisterFrame s s' t))

/-- FENCE.W closes every open entry and completes at once; FENCE.RW completes so once every earlier store has
drained or been accepted; FENCE.IO completes once no side-effect store is buffered or unperformed; WAITI completes once a source is pending. -/
def Obligations.FenceResults : Prop :=
  ∀ (s : State) (t : Nat), Ready s t →
    (∃ s', exec (.fenceW t) s = .next s' ∧ (s'.tiller t).pc = nextPc s t ∧ GrSame s s' t ∧
      (∀ e ∈ (s'.tiller t).sb, e.isOpen = false) ∧ (s'.tiller t).fenceNo = (s.tiller t).fenceNo + 1 ∧
      (∀ b, (s'.tiller t).buffered b = (s.tiller t).buffered b) ∧ OutsideSame s s' t ∧
      CtlSame (s.tiller t) (s'.tiller t)) ∧
    ((s.tiller t).sb = [] →
      ∃ s', exec (.fenceRw t) s = .next s' ∧ (s'.tiller t).pc = nextPc s t ∧ GrSame s s' t ∧
        (s'.tiller t).fenceNo = (s.tiller t).fenceNo + 1 ∧ OutsideSame s s' t ∧
        CtlSame (s.tiller t) (s'.tiller t)) ∧
    ((s.tiller t).sb ≠ [] → ∃ s', exec (.fenceRw t) s = .next s' ∧
      (s'.tiller t).pc = (s.tiller t).pc ∧ (s'.tiller t).sb = (s.tiller t).sb ∧ GrSame s s' t) ∧
    ((s.tiller t).ioPending = false → ∃ s', exec (.fenceIo t) s = .next s' ∧ (s'.tiller t).pc = nextPc s t ∧
      GrSame s s' t ∧ (s'.tiller t).arith = (s.tiller t).arith ∧ RegisterFrame s s' t) ∧
    ((s.tiller t).dslot = none → (started s t).anyPending t = true →
      ∃ s', exec (.waiti t) s = .next s' ∧ (s'.tiller t).pc = (s.tiller t).pc + 4 ∧ GrSame s s' t ∧
        (s'.tiller t).arith = (s.tiller t).arith ∧ RegisterFrame s s' t) ∧
    ((s.tiller t).dslot = none → (started s t).anyPending t = false →
      ∃ s', exec (.waiti t) s = .next s' ∧ (s'.tiller t).stall = .waiti ∧ (s'.tiller t).pc = (s.tiller t).pc ∧
        GrSame s s' t)

/-- A TLB maintenance instruction removes the entries that `f` names and leaves the others. -/
def Invalidates (o : Out) (s : State) (t : Nat) (f : TlbEntry → Bool) : Prop :=
  ∃ s', o = .next s' ∧ (s'.tiller t).pc = nextPc s t ∧ GrSame s s' t ∧
    (s'.tiller t).tlb = (s.tiller t).tlb.filter (fun e => !f e) ∧ (s'.tiller t).sb = (s.tiller t).sb ∧
    (s'.tiller t).arith = (s.tiller t).arith ∧ OutsideSame s s' t ∧ CtlSame (s.tiller t) (s'.tiller t)

/-- TLBIVA removes what maps rs1 for the current world and ASID, TLBIASID the non-global entries of an ASID of the
world, TLBIWORLD the world's, outside ring 3; TLBIALL removes all, in ring 0. ICINV invalidates the line in the
instruction cache once no buffered store holds it. -/
def Obligations.MaintenanceResults : Prop :=
  ∀ (s : State) (t : Nat) (a : Fin 32), Ready s t →
    let x := s.tiller t
    (x.ring ≠ 3 →
      Invalidates (exec (.tlbiva t a) s) s t
        (fun e => e.maps x.secure (x.asid x.secure) (s.gr t a).toNat) ∧
      Invalidates (exec (.tlbiasid t a) s) s t
        (fun e => e.secure == x.secure && e.asid == (s.gr t a).toNat % 65536 && !e.bits.getLsbD 4) ∧
      Invalidates (exec (.tlbiworld t) s) s t (fun e => e.secure == x.secure)) ∧
    (x.ring = 0 → Invalidates (exec (.tlbiall t) s) s t (fun _ => true)) ∧
    (∀ pa, (started s t).access t .load (s.gr t a).toNat 1 = (.ok [(pa, 1)], started s t) →
      x.holdsLine (lineOf pa) = false → x.sideLine (lineOf pa) = false → x.dcache.all (fun e => !(e.1 == lineOf pa && e.2)) = true →
      ∃ s', exec (.icinv t a) s = .next s' ∧ (s'.tiller t).pc = nextPc s t ∧ GrSame s s' t ∧
        Lines.has (s'.tiller t).icache (lineOf pa) = false ∧ OutsideSame s s' t ∧
        CtlSame (s.tiller t) (s'.tiller t))

/-! ### Exceptions (chapter 10) -/

/-- An entry into ring `r` can be made from state `s`: no control register write is pending, no carrel is to be
saved, the frame below SP passes its checks at a line of its own, and the store buffer has room for it. -/
structure EntryFits (s : State) (t r a : Nat) : Prop where
  applied : (s.tiller t).pendCsr = []
  plain : (s.tiller t).carrel = none
  frame : (s.applyPending t).frameAt t r = (.at a, s.applyPending t)
  aligned : a % 64 = 0
  room : (s.tiller t).room a = true
  youngest : ∀ pre e post, (s.tiller t).sb = pre ++ e :: post → openEntry (lineOf a) e = true →
    ∀ o ∈ post, o.side = true ∨ o.line ≠ lineOf a

/-- What taking an exception leaves (R288): the ring, the pc, the saved cause and address, SP lowered by 64, MASK 3,
and the frame's eight words at `a` in the store buffer; every general register and memory as before. -/
structure Entered (s s' : State) (t r a : Nat) (cw tw ew target : Word) : Prop where
  ring : (s'.tiller t).ring = r
  pc : (s'.tiller t).pc = target
  cause : bank (s'.tiller t).cause r = cw
  epc : bank (s'.tiller t).epc r = ew
  sp : bank (s'.tiller t).sp r = bank (s.tiller t).sp r - 64
  mask : (s'.tiller t).mask (secureRing r) = 3
  cleared : (s'.tiller t).dslot = none ∧ (s'.tiller t).progress = false ∧ (s'.tiller t).carrel = none
  others : ∀ q, q < 4 → q ≠ r → bank (s'.tiller t).cause q = bank (s.tiller t).cause q ∧
    bank (s'.tiller t).epc q = bank (s.tiller t).epc q ∧ bank (s'.tiller t).sp q = bank (s.tiller t).sp q
  entry : (s'.tiller t).entry = (s.tiller t).entry
  gr : GrSame s s' t
  frame : ∀ i, i < 64 → (s'.tiller t).buffered (a + i) = (toBytes ew.toNat 8 ++
    toBytes (s.tiller t).frameFlags.toNat 8 ++ toBytes cw.toNat 8 ++ toBytes tw.toNat 8 ++
    toBytes ((s.tiller t).dslot.getD 0).toNat 8 ++
    toBytes ((s.tiller t).mask (secureRing r) + if secureRing r then 256 else 0) 8 ++
    toBytes (s.gr t 30).toNat 8 ++ toBytes (s.gr t 31).toNat 8)[i]?
  outside : OutsideSame s s' t

/-- The CAUSE of a fault of level 3 that is not escalated: the code, the ring that faulted and the ring aimed at. -/
def faultCause (code fring tring : Nat) : Word := BitVec.ofNat 64 (code + 2 ^ 56 * fring + 2 ^ 58 * tring)

/-- The ring that takes a fault of level 3 (R286): ring 3's faults go to ring 2, unless ENTRY3 takes an arithmetic
trap itself. -/
def faultTarget (s : State) (t : Nat) : Nat := if (s.tiller t).ring = 3 then 2 else (s.tiller t).ring

/-- A fault of level 3 is taken where the mask of the current world is below 3: the entry of Table 10.3's ring at its
ENTRY register. -/
def Faults (o : Out) (s : State) (t code : Nat) (tval : Word) : Prop :=
  ∀ a, EntryFits (started s t) t (faultTarget s t) a → (s.tiller t).mask (s.tiller t).secure ≠ 3 →
    (s.tiller t).ring < 4 →
    ∃ s', o = .next s' ∧ Entered (started s t) s' t (faultTarget s t) a
      (faultCause code (s.tiller t).ring (faultTarget s t)) tval (s.tiller t).pc
      (bank (s.tiller t).entry (faultTarget s t) &&& ~~~3#64)

/-- The control transfers: conditions, targets, links, delay slots and annulment; a JALR whose target has bits [1:0] not 0
raises ALIGN, with the target as TVAL, before its delay slot executes. -/
def Obligations.ControlTransferResults : Prop :=
  BranchResults ∧ JumpResults ∧
    ∀ (s : State) (t : Nat) (rd a : Fin 32), Ready s t → (s.tiller t).dslot = none → (s.gr t a).toNat % 4 ≠ 0 →
      Faults (exec (.jalr t rd a) s) s t Ex.align (s.gr t a)

/-- In a delay slot every control transfer, PCALL, GCALL, RETX, CSYNC, IFENCE, WAITI, BCOPY, BFILL, HUSKSUM and MILLCALL
raises ILLEGAL. -/
def Obligations.DelaySlotFaults : Prop :=
  ∀ (s : State) (t : Nat) (rd a b : Fin 32) (f : Bool) (d15 : BitVec 15) (d26 : BitVec 26) (imm : BitVec 16),
    Ready s t → (s.tiller t).dslot.isSome = true →
    let bad (c : Instr) : Prop := Faults (exec c s) s t Ex.illegal (s.tiller t).pc
    bad (.beq t a b f d15) ∧ bad (.bne t a b f d15) ∧ bad (.blt t a b f d15) ∧ bad (.bge t a b f d15) ∧
    bad (.bltu t a b f d15) ∧ bad (.bgeu t a b f d15) ∧ bad (.j t d26) ∧ bad (.jal t d26) ∧ bad (.jalr t rd a) ∧
    bad (.pcall t imm) ∧ bad (.gcall t imm) ∧ bad (.retx t) ∧ bad (.csync t) ∧ bad (.ifence t) ∧ bad (.waiti t) ∧
    bad (.bcopy t rd a b) ∧ bad (.bfill t rd a b) ∧ bad (.husksum t rd a b) ∧ bad (.millcall t rd a)

/-- A word that encodes no instruction raises ILLEGAL; a privileged instruction in ring 3 raises PRIV; a division by zero
with DZ_EN and an overflow with OV_EN trap and write no register. -/
def Obligations.FaultEntries : Prop :=
  ∀ (s : State) (t : Nat) (w : BitVec 32) (rd a b : Fin 32) (n : BitVec 2), Ready s t →
    let pc := (s.tiller t).pc
    let own3 := (bank (s.tiller t).entry 3).getLsbD 0
    (decodeWord w = none → Faults (exec (.illegal t w) s) s t Ex.illegal pc) ∧
    ((s.tiller t).ring = 3 → Faults (exec (.maskup t n) s) s t Ex.priv pc ∧
      Faults (exec (.tlbiworld t) s) s t Ex.priv pc) ∧
    (own3 = false → s.gr t b = 0 → (s.tiller t).arith.getLsbD 0 = true →
      Faults (exec (.divu t rd a b) s) s t Ex.divZero pc ∧ Faults (exec (.rem t rd a b) s) s t Ex.divZero pc) ∧
    (own3 = false → Unfit ((s.gr t a).toInt + (s.gr t b).toInt) → (s.tiller t).arith.getLsbD 1 = true →
      Faults (exec (.add t rd a b) s) s t Ex.overflow pc)

/-- PCALL from rings 1 to 3 enters ring 0 with the service number as TVAL and the next instruction as EPC; a defined
service then waits for the Proctor, and an undefined one returns FORMAT. A call that leaves the open world has drained
the store buffer. -/
def Obligations.PcallEntersTheProctor : Prop :=
  ∀ (s : State) (t a : Nat) (imm : BitVec 16), Ready s t → (s.tiller t).dslot = none → (s.tiller t).ring ≠ 0 →
    (s.tiller t).ring < 4 → ((s.tiller t).secure = true ∨ (s.tiller t).sb = []) →
    let s1 := (started s t).retireHere t 24
    EntryFits s1 t 0 a →
    let entered (s' : State) : Prop := Entered s1 s' t 0 a (faultCause Ex.pcall (s.tiller t).ring 0)
      (BitVec.ofNat 64 imm.toNat) ((s.tiller t).pc + 4) (bank (s.tiller t).entry 0 &&& ~~~3#64)
    (svcRings imm.toNat ≠ [] → ∃ s', exec (.pcall t imm) s = .next s' ∧ entered s' ∧
      (s'.tiller t).pcall = some (imm.toNat, (s.tiller t).ring)) ∧
    (svcRings imm.toNat = [] → (s.tiller t).secure = true → ∃ u, entered u ∧
      ∀ s', u.freshWord.2.proctorReturn t St.format u.freshWord.1 = some s' → exec (.pcall t imm) s = .next s')

/-- The bytes of these pieces are at hand for an instruction that reads a frame, a descriptor or a request: no side
effects, no frozen channel, no uncorrectable error under what is not buffered. -/
def TakesPlain (u : State) (t : Nat) (ps : List (Nat × Nat)) : Prop :=
  ∀ p ∈ ps, (u.addrType (u.tiller t).pos p.1).side = false ∧ (u.tiller t).sideLine (lineOf p.1) = false ∧
    u.frozenAt p.1 = false ∧ ((u.tiller t).allBuffered p.1 p.2 = true ∨ u.readError p.1 p.2 = false)

/-- GCALL enters the ring that its gate names at the gate's offset in that ring's entry page, with the next instruction
as EPC, where the descriptor permits the calling ring. -/
def Obligations.GcallEntersTheGate : Prop :=
  ∀ (s : State) (t a pa off : Nat) (imm : BitVec 16), Ready s t → (s.tiller t).dslot = none →
    (s.tiller t).ring < 4 →
    let n := imm.toNat
    let r := n / 256 % 4
    let page := (bank (s.tiller t).entry r).toNat / 4096 * 4096
    let s1 := (started s t).retireHere t 16
    n / 1024 = 0 → r ≠ 0 → secureRing r = (s.tiller t).secure → r ≤ (s.tiller t).ring →
    (started s t).accessPieces true t r .load none [(page + 8 * (n % 256), 8)] = (.ok [(pa, 8)], started s t) →
    TakesPlain (started s t) t [(pa, 8)] →
    gateOffset (ofBytes (s.viewBytes t pa 8)) (s.tiller t).ring = some off →
    EntryFits s1 t r a →
    ∃ s', exec (.gcall t imm) s = .next s' ∧
      Entered s1 s' t r a (faultCause Ex.gate (s.tiller t).ring r) (BitVec.ofNat 64 n) ((s.tiller t).pc + 4)
        (BitVec.ofNat 64 (page + off))

/-- RETX through a frame that passes the checks of R290 and names no carrel restores the pc, the ring, the delay slot,
PROGRESS, g30, g31 and MASK, and raises SP by 64; a return that changes world has drained the store buffer. -/
def Obligations.RetxRestoresTheFrame : Prop :=
  ∀ (s : State) (t pa : Nat), Ready s t → (s.tiller t).dslot = none → (s.tiller t).pendCsr = [] →
    let x := s.tiller t
    let f := Frame.of (s.viewBytes t pa 64)
    let s1 := (started s t).applyPending t
    (bank x.sp x.ring).toNat % 64 = 0 →
    s1.access t .load (bank x.sp x.ring).toNat 64 = (.ok [(pa, 64)], s1) → TakesPlain s1 t [(pa, 64)] →
    s1.frameOk t x.ring f = true → f.token = none → (f.sec = x.secure ∨ x.sb = []) →
    ∃ s', exec (.retx t) s = .next s' ∧
      (s'.tiller t).pc = f.epc &&& ~~~3#64 ∧ (s'.tiller t).ring = f.flags.toNat % 4 ∧
      (s'.tiller t).progress = f.flags.getLsbD 3 ∧
      (s'.tiller t).dslot = (if f.flags.getLsbD 4 then some (f.dtarget &&& ~~~3#64) else none) ∧
      bank (s'.tiller t).sp x.ring = bank x.sp x.ring + 64 ∧ s'.gr t 30 = f.g30 ∧ s'.gr t 31 = f.g31 ∧
      (∀ r, r ≠ 30 → r ≠ 31 → s'.gr t r = s.gr t r) ∧
      (s'.tiller t).mask (f.msave.getLsbD 8) = f.msave.toNat % 4 ∧
      (s'.tiller t).cause = x.cause ∧ (s'.tiller t).epc = x.epc ∧ OutsideSame s s' t

/-! ### Long instructions and MILLCALL (R278 to R283) -/

/-- The next block of a store by a long instruction passes every check at state `u`: one line, no side effects, room
in the buffer, and no younger closed entry of its line. -/
structure BlockFits (u : State) (t va n a : Nat) : Prop where
  checked : u.access t .store va n = (.ok [(a, n)], u)
  plain : (u.addrType (u.tiller t).pos a).side = false
  room : (u.tiller t).room a = true
  line : a % 64 + n ≤ 64
  youngest : ∀ pre e post, (u.tiller t).sb = pre ++ e :: post → openEntry (lineOf a) e = true →
    ∀ o ∈ post, o.side = true ∨ o.line ≠ lineOf a

/-- The source of the next block passes every check and its bytes are at hand. -/
structure BlockReads (u : State) (t va n a : Nat) : Prop where
  checked : u.access t .load va n = (.ok [(a, n)], u)
  plain : PlainLines u t [(a, n)]
  whole : (u.tiller t).anyBuffered a n = true → (u.tiller t).allBuffered a n = true
  thawed : u.frozenAt a = false
  sound : u.readError a n = false

/-- A block of `n` of `len` bytes is done: after the last one the instruction completes, else PROGRESS is set and the
instruction stands; the registers are those of `g`, and memory and every other Tiller's registers are as before. -/
def BlockDone (o : Out) (s : State) (t n len : Nat) (g : Fin 32 → Word) (f : State → Prop) : Prop :=
  ∃ s', o = .next s' ∧ (∀ r, s'.gr t r = g r) ∧
    (s'.tiller t).pc = (if len = n then (s.tiller t).pc + 4 else (s.tiller t).pc) ∧
    (s'.tiller t).progress = decide (len ≠ n) ∧ (s'.tiller t).dslot = none ∧
    (s'.tiller t).arith = (s.tiller t).arith ∧ CtlSame (s.tiller t) (s'.tiller t) ∧ MemSame s s' ∧
    (∀ u, u ≠ t → GrSame s s' u ∧ (s'.tiller u).pc = (s.tiller u).pc ∧ (s'.tiller u).sb = (s.tiller u).sb) ∧ f s'

/-- The bytes of a block are in the store buffer. -/
def BlockStored (s : State) (t a : Nat) (bs : List Byte) (s' : State) : Prop :=
  ∀ b, (s'.tiller t).buffered b =
    if a ≤ b ∧ b < a + bs.length then bs[b - a]? else (s.tiller t).buffered b

/-- BCOPY, BFILL and HUSKSUM on a length of 0 complete at once. Otherwise a block runs to the next 64-byte boundary:
BFILL stores byte a mod 8 of rs1 at each address a, BCOPY of ranges that do not overlap stores the source bytes, HUSKSUM
folds them into the CRC in rd[31:0]; the operand registers step on by the block. -/
def Obligations.LongInstructionBlocks : Prop :=
  ∀ (s : State) (t : Nat) (rd a b : Fin 32) (sa da : Nat), Ready s t → (s.tiller t).dslot = none →
    let len := (s.gr t b).toNat
    let dst := (s.gr t rd).toNat
    let src := (s.gr t a).toNat
    let nd := min len (64 - dst % 64)
    let ns := min len (64 - src % 64)
    let u := started s t
    let v := if (s.addrType (s.tiller t).pos sa).cached && !(s.tiller t).allBuffered sa nd then
      u.fill t (lineOf sa) false else u
    (len = 0 → ∀ o, (o = exec (.bcopy t rd a b) s ∨ o = exec (.bfill t rd a b) s ∨ o = exec (.husksum t rd a b) s) →
      BlockDone o s t 0 0 (s.gr t) (fun s' => (s'.tiller t).sb = (s.tiller t).sb)) ∧
    (len ≠ 0 → BlockFits u t dst nd da →
      BlockDone (exec (.bfill t rd a b) s) s t nd len (((u.bump t rd nd).drop' t b nd).gr t)
        (BlockStored s t da
          ((List.range nd).map (fun i => (toBytes (s.gr t a).toNat 8).getD ((dst + i) % 8) 0)))) ∧
    (len ≠ 0 → rangesOverlap dst src len = false → ((s.tiller t).progress = true → (s.tiller t).overlap = false) →
      BlockReads u t src nd sa → BlockFits v t dst nd da →
      BlockDone (exec (.bcopy t rd a b) s) s t nd len ((((u.bump t rd nd).bump t a nd).drop' t b nd).gr t)
        (BlockStored s t da (s.viewBytes t sa nd))) ∧
    (len ≠ 0 → BlockReads u t src ns sa →
      BlockDone (exec (.husksum t rd a b) s) s t ns len
        ((((u.setGr t rd (((s.viewBytes t sa ns).foldl crcByte ((s.gr t rd).setWidth 32)).setWidth 64)).bump t a ns
          ).drop' t b ns).gr t)
        (fun s' => (s'.tiller t).sb = (s.tiller t).sb))

/-- MILLCALL in ring 0 is ILLEGAL. A resumed one whose ticket names a ready slot takes its status word and empties it; a
ticket that names no operation gives FORMAT. A request with four slots held gives NOT_PERMITTED at once, and so does one
whose tag names no slate of the Tiller; then a misaligned or malformed block gives FORMAT. -/
def MillcallResults : Prop :=
  ∀ (s : State) (t k q tag gen : Nat) (rd a : Fin 32) (w : Word), Ready s t → (s.tiller t).dslot = none →
    let x := s.tiller t
    (x.ring = 0 → Faults (exec (.millcall t rd a) s) s t Ex.illegal x.pc) ∧
    (x.ring ≠ 0 → x.progress = true → k < 4 → q < 2 ^ 24 →
      s.gr t rd = BitVec.ofNat 64 (2 ^ 63 + q * 256 + k) →
      x.slots.toArray.getD k .empty = .ready q tag gen w →
      ∃ s', exec (.millcall t rd a) s = .next s' ∧ GrWritten s s' t rd w ∧ (s'.tiller t).pc = x.pc + 4 ∧
        (s'.tiller t).progress = false ∧ (s'.tiller t).slots.toArray.getD k .empty = .empty ∧
        (∀ j, j ≠ k → (s'.tiller t).slots.toArray.getD j .empty = x.slots.toArray.getD j .empty) ∧
        OutsideSame s s' t ∧ CtlSame x (s'.tiller t)) ∧
    (x.ring ≠ 0 → x.progress = true → 2 ^ 63 ≤ (s.gr t rd).toNat →
      (x.slots.toArray.getD ((s.gr t rd).toNat % 4) .empty).seqOf ≠ some ((s.gr t rd).toNat / 256 % 2 ^ 24) →
      Result (exec (.millcall t rd a) s) s t rd (BitVec.ofNat 64 St.format) x.arith) ∧
    (x.ring ≠ 0 → x.progress = false → (∀ j, j < 4 → x.slots.toArray.getD j .empty ≠ .empty) →
      Result (exec (.millcall t rd a) s) s t rd (BitVec.ofNat 64 St.notPermitted) x.arith) ∧
    (x.ring ≠ 0 → x.progress = false → k < 4 → x.slots.toArray.getD k .empty = .empty →
      ∀ ps, (started s t).access t .load (s.gr t a).toNat 64 = (.ok ps, started s t) →
      TakesPlain (started s t) t ps →
      let b := s.pieceBytes t ps
      (s.millSlate t (le b 0 4 % 2 ^ 23) = none →
        Result (exec (.millcall t rd a) s) s t rd (BitVec.ofNat 64 St.notPermitted) x.arith) ∧
      (s.millSlate t (le b 0 4 % 2 ^ 23) ≠ none → ((s.gr t a).toNat % 64 ≠ 0 ∨ blockOk b = false) →
        Result (exec (.millcall t rd a) s) s t rd (BitVec.ofNat 64 St.format) x.arith))

/-- A mill's operation ends: the MILLCALL that waits for it takes the status word with OK, NEG and the output length,
its completion slot is empty, the output is written, and the mill is free. An operation cancelled meanwhile gives
CANCELLED and writes nothing. -/
def MillOperationEnds : Prop :=
  ∀ (s : State) (p : Bool) (n t k q id gen dst mm h : Nat) (key : Word) (inp aux rnd : List Byte) (len : Nat)
    (rd : Fin 32) (gone : Bool),
    s.running = true → s.millQ = [] → s.tillerRuns t = true → k < 4 → (s.slate id).replied = false →
    s.millOp p n = some ⟨.tiller t k, h, some (id, gen), gone, rnd⟩ → (s.tiller t).stall = .mill k rd →
    (s.tiller t).slots.toArray.getD k .empty = .running q id gen dst mm key inp aux len →
    s.dev.portsClosed = false → (mm % 65536 / 256 = 4 ∨ (s.keyAt h (refOf key)).used = true) →
    let r := millRun (mm % 65536) (mm / 65536) (s.keyAt h (refOf key)) inp aux rnd
    ∃ s', exec (.millOperationComplete p n .done) s = .next s' ∧ s'.millOp p n = none ∧
      (s'.tiller t).stall = .none ∧ (s'.tiller t).slots.toArray.getD k .empty = .empty ∧
      (s'.tiller t).pc = nextPc s t ∧
      GrWritten s s' t rd (if gone then millStatus St.ok 0 0 true false false
        else millStatus St.ok r.out.length r.reason false false r.neg) ∧
      (if gone then MemSame s s' else MemSameBut dst r.out.length s s')

/-- MILLCALL and the end of a mill's operation. -/
def Obligations.Millcalls : Prop := MillcallResults ∧ MillOperationEnds

/-! ### Data returns (R264, R319, R376) -/

/-- A load whose data returns writes rd and completes; a fill puts the line in the fetch queue; a walk that reads a leaf
fills the TLB (with a group's leaf: its group or its one page), and one that reads a table goes on at the next level. A channel that holds the request leaves the Tiller
waiting. -/
def Obligations.DataReturns : Prop :=
  ∀ (s s1 : State) (t a n va level line pc0 : Nat) (sg c : Bool) (rd : Fin 32) (k : Acc) (ecc : Ecc) (e : TlbEntry),
    s.tillerRuns t = true →
    let x := s.tiller t
    (x.stall = .load [(a, n)] [c] sg va rd → s.placeOf a ≠ .regs → s.tillerRead t a n ecc = (.data, s1) →
      ∃ s', exec (.loadDataReturn t ecc) s = .next s' ∧ (s'.tiller t).stall = .none ∧
        GrWritten s1 s' t rd (extend sg (s1.viewBytes t a n)) ∧ (s'.tiller t).pc = nextPc s1 t ∧ MemSame s1 s') ∧
    (x.stall = .load [(a, n)] [c] sg va rd → s.placeOf a ≠ .regs → s.tillerRead t a n ecc = (.held, s1) →
      exec (.loadDataReturn t ecc) s = .next s1) ∧
    (x.stall = .fetch line c → s.tillerRead t line 64 .ok = (.data, s1) →
      ∃ s', exec (.fetchFill t) s = .next s' ∧ (s'.tiller t).stall = .none ∧
        (s'.tiller t).fq = [(lineOf x.pc.toNat, line)] ∧ GrSame s1 s' t ∧ (s'.tiller t).pc = (s1.tiller t).pc ∧
        MemSame s1 s') ∧
    (x.stall = .walk k va level pc0 → s.walkAddr t x.ring k va pc0 = .ok a → s.tillerRead t a 8 ecc = (.data, s1) →
      s1.walkRead t x.ring k va level pc0 = .leaf e → (s1.tiller t).tlb.length < 48 →
      (e.size ≠ 16 → e.size ≠ 25 → exec (.walkReadReturn t ecc) s =
        .next ((s1.modTiller t (fun y => { y with tlb := y.tlb ++ [e] })).modTiller t (fun y => { y with stall := .none }))) ∧
      (e.size = 16 ∨ e.size = 25 → ∃ s' e', exec (.walkReadReturn t ecc) s = .next s' ∧ (e' = e ∨ e' = e.page va) ∧
        (s'.tiller t).tlb = (s1.tiller t).tlb ++ [e'] ∧ (s'.tiller t).stall = .none ∧ GrSame s1 s' t ∧
        (s'.tiller t).pc = (s1.tiller t).pc ∧ MemSame s1 s')) ∧
    (x.stall = .walk k va level pc0 → s.walkAddr t x.ring k va pc0 = .ok a → s.tillerRead t a 8 ecc = (.data, s1) →
      ∀ l j, s1.walkRead t x.ring k va level pc0 = .next l j →
      exec (.walkReadReturn t ecc) s = .next (s1.modTiller t (fun y => { y with stall := .walk k va l j })))

/-! ### Interrupts (chapter 12) -/

/-- Delivery claims the source, sets DFLAG, and enters the source's ring with MASK 3. -/
def InterruptDelivery : Prop :=
  ∀ (s : State) (t src a : Nat), s.tillerRuns t = true → (s.tiller t).dslot = none → (s.tiller t).stall = .none →
    (s.tiller t).due = none → (s.tiller t).dflag = false → s.deliverable t = some src → (s.tiller t).ring < 4 →
    let r := s.srcRing t src
    (r = 1 → (s.tiller t).secure = true) → EntryFits s t r a →
    ∃ s', exec (.interruptDelivery t) s = .next s' ∧
      Entered s s' t r a (BitVec.ofNat 64 (src + 2 ^ 56 * (s.tiller t).ring + 2 ^ 58 * r + 2 ^ 63)) 0 (s.tiller t).pc
        (bank (s.tiller t).entry r &&& ~~~3#64) ∧
      (s'.tiller t).dflag = true ∧ (s'.tiller t).dring = r ∧ (s'.tiller t).dflagAt = s.uptime ∧
      (s'.tiller t).claims = (src, false) :: (s.tiller t).claims ∧ s'.srcPending t src = false

/-- A WAITI ends when the timer has reached TCMP and some source is pending; HOLD counts only while DFLAG is 1 and a
secure source is pending; ICU_RESET empties the claim stack and makes its enabled edge sources pending again. -/
def TimerHoldAndReset : Prop :=
  ∀ (s : State) (t : Nat),
    (s.tillerRuns t = true → s.levelInput t 0 = true → (s.tiller t).stall = .waiti → s.anyPending t = true →
      ∃ s', exec (.timerCompare t) s = .next s' ∧ (s'.tiller t).stall = .none ∧ (s'.tiller t).pc = nextPc s t ∧
        GrSame s s' t ∧ MemSame s s') ∧
    (s.tillerRuns t = true → s.levelInput t 0 = false → exec (.timerCompare t) s = .next s) ∧
    (s.tillerRuns t = true → (s.tiller t).dflag = true → s.fld (Reg.icuCtl t) F.IcuCtl.hold ≠ 0 →
      (s.tiller t).dflagAt + 1000 * s.fld (Reg.icuCtl t) F.IcuCtl.hold < s.uptime → s.securePending t = true →
      exec (.holdTimeout t) s = .next (s.modTiller t (fun x => { x with holdDue := true }))) ∧
    ((s.tiller t).dflag = false → exec (.holdTimeout t) s = .next s) ∧
    (t < 64 → ∃ s', exec (.icuReset t) s = .next s' ∧ (s'.tiller t).claims = [] ∧ (s'.tiller t).dflag = false ∧
      (∀ e ∈ (s.tiller t).claims, isLevel e.1 = false → s.srcEn t e.1 = true →
        (if e.1 < 32 then e.1 ∈ (s'.tiller t).edges else e.1 ∈ s'.sharedEdges)) ∧
      (∀ n ∈ (s.tiller t).edges, n ∈ (s'.tiller t).edges) ∧ (∀ n ∈ s.sharedEdges, n ∈ s'.sharedEdges) ∧
      (s'.tiller t).pc = (s.tiller t).pc ∧ GrSame s s' t ∧ s'.mem = s.mem)

/-- Delivery of an interrupt, the timer, the HOLD check, and ICU_RESET. -/
def Obligations.InterruptEvents : Prop := InterruptDelivery ∧ TimerHoldAndReset

/-- The load from the own window at offset `o` passes its checks, waits for no side-effect store, and no EMPTY window
is open. -/
structure WindowFits (s : State) (t o : Nat) : Prop where
  ready : Ready s t
  reach : (started s t).physFault t (s.tiller t).ring .load (s.tiller t).curPa (windowBase (s.tiller t).pos + o) 8 = none
  drained : s.sideWaits t (windowBase (s.tiller t).pos + o) = false
  closed : (s.tiller t).emptyWin = none

/-- A Tiller is the same, but that claims of its may have been marked EMPTY (R347). -/
def SameButEmpty (x y : Tiller) : Prop :=
  y = { x with claims := y.claims } ∧ y.claims.map Prod.fst = x.claims.map Prod.fst

/-- A load from the window completes: rd takes its value, the pc steps on, and memory and every other Tiller are as
before. -/
def WindowLoads (o : Out) (s : State) (t : Nat) (rd : Fin 32) (v : Word) (f : State → Prop) : Prop :=
  ∃ s', o = .next s' ∧ GrWritten s s' t rd v ∧ (s'.tiller t).pc = nextPc s t ∧ s'.mem = s.mem ∧
    CtlSame (s.tiller t) (s'.tiller t) ∧ (∀ u, u ≠ t → SameButEmpty (s.tiller u) (s'.tiller u)) ∧ f s'

/-- ICU_CLAIM pushes the lowest claimable source and reads its number and the depth; with none it changes nothing.
ICU_EOI pops the top claim, which it must name, and clears DFLAG with the last one. -/
def Obligations.InterruptClaimAndCompletion : Prop :=
  ∀ (s : State) (t src : Nat) (rd : Fin 32),
    let x := s.tiller t
    (WindowFits s t 8 → x.claimFault x.ring = none → (started s t).claimable t x.dring = some src →
      x.claims.length < 4 →
      WindowLoads (exec (.icuClaim t rd) s) s t rd (BitVec.ofNat 64 ((x.claims.length + 1) * 65536 + src)) (fun s' =>
        (s'.tiller t).claims = (src, false) :: x.claims ∧ s'.srcPending t src = false ∧ (s'.tiller t).dflag = x.dflag)) ∧
    (WindowFits s t 8 → x.claimFault x.ring = none → (started s t).claimable t x.dring = none →
      WindowLoads (exec (.icuClaim t rd) s) s t rd (BitVec.ofNat 64 (2 ^ 63 + x.claims.length * 65536)) (fun s' =>
        (s'.tiller t).claims = x.claims ∧ (s'.tiller t).edges = x.edges ∧ s'.sharedEdges = s.sharedEdges)) ∧
    (src < 288 → WindowFits s t (0x1000 + 8 * src) → x.claimFault x.ring = none → ∀ b rest,
      x.claims = (src, b) :: rest →
      WindowLoads (exec (.icuEoi t rd src) s) s t rd
        (BitVec.ofNat 64 ((if isLevel src = true ∧ (started s t).levelInput t src = true then 8 else 0) + rest.length))
        (fun s' => (s'.tiller t).claims = rest ∧ (s'.tiller t).dflag = !rest.isEmpty))

/-- The reader's loads from a Chute: a word of the head packet, which leaves with its last word; 0 beyond the packet's
end; the last value read, with UNDERRUN, from an empty Chute. CH_DROP removes the head packet and reads its length;
CH_ANS takes the oldest answer and CH_CANCEL the oldest cancelled tag. -/
def Obligations.ChuteReads : Prop :=
  ∀ (s : State) (t c off : Nat) (rd : Fin 32) (p : Packet) (rest : List Packet),
    (c < 256 → off < 512 → WindowFits s t (0x40000 + 0x400 * c + 0x200 + off) →
      (s.chuteRole c = roleTiller ∨ s.chuteRole c = roleWork ∧ s.tillerMoves t = false) → s.chuteReader c = t →
      ((s.chute c).pkts = p :: rest → off / 64 < p.words →
        WindowLoads (exec (.chuteRead t rd c off) s) s t rd (BitVec.ofNat 64 (le p.bytes off 8)) (fun s' =>
          (s'.chute c).pkts = if off = 64 * p.words - 8 then rest else p :: rest)) ∧
      ((s.chute c).pkts = p :: rest → p.words ≤ off / 64 →
        WindowLoads (exec (.chuteRead t rd c off) s) s t rd 0 (fun s' => (s'.chute c).pkts = p :: rest)) ∧
      ((s.chute c).pkts = [] →
        WindowLoads (exec (.chuteRead t rd c off) s) s t rd (s.chute c).lastRead (fun s' =>
          (s'.chute c).pkts = [] ∧ (s'.chute c).underrun = true))) ∧
    (c < 256 → WindowFits s t (0x2800 + 8 * c) → (s.chuteRole c = roleTiller ∨ s.chuteRole c = roleWork) →
      s.chuteReader c = t →
      (s.chute c).pkts = p :: rest →
      ((s.chute c).taken = [] →
        WindowLoads (exec (.chDrop t rd c) s) s t rd (BitVec.ofNat 64 p.words) (fun s' => (s'.chute c).pkts = rest)) ∧
      WindowLoads (exec (.chDrop t rd c) s) s t rd (BitVec.ofNat 64 ((s.chute c).unread p))
        (fun s' => (s'.chute c).pkts = rest)) ∧
    (WindowFits s t 0x3000 → ∀ w l, (s.tiller t).ans = (c, some w) :: l →
      WindowLoads (exec (.chAns t rd) s) s t rd w (fun s' => (s'.tiller t).ans = l)) ∧
    (WindowFits s t 0x3008 → ∀ tag l, (s.tiller t).cancel = (tag, some c) :: l →
      WindowLoads (exec (.chCancel t rd) s) s t rd (BitVec.ofNat 64 (2 ^ 31 + tag)) (fun s' =>
        (s'.tiller t).cancel = l))

/-! ### The Proctor's services and the TAP (R291 to R312, R404, R448) -/

/-- The PCALL of service `n` from ring `r` is open on Tiller `t`, which may return. -/
structure ServiceOpen (s : State) (t n r : Nat) : Prop where
  opened : (s.tiller t).pcall = some (n, r)
  runs : s.tillerRuns t = true
  free : (s.tiller t).stall = .none
  drained : secureRing r = true ∨ (s.tiller t).sb = []

/-- A service takes effect and returns its status in g1 and its value in g2; one that no ring of the caller's may call
returns NOT_PERMITTED. -/
def ProctorServices : Prop :=
  ∀ (s : State) (t r : Nat),
    let d := (s.gr t 1).toNat
    let n := s.leaseCount d
    let w := s.freshWord
    (ServiceOpen s t svcLeaseTake 1 → d < 12 → n < 255 →
      ∀ u, (s.setLease d (n + 1)).proctorReturn t St.ok (BitVec.ofNat 64 (n + 1)) = some u →
      exec (.leaseTake t) s = .next u) ∧
    (ServiceOpen s t svcLeaseRelease 1 → d < 12 → n ≠ 0 →
      ∀ u, (if n = 1 then (s.setLease d 0).runOffQueue
        else s.setLease d (n - 1)).proctorReturn t St.ok (BitVec.ofNat 64 (n - 1)) = some u →
      exec (.leaseRelease t) s = .next u) ∧
    (ServiceOpen s t svcReopen 2 → d < 64 → (s.tillerFor t).isSome = true → s.tillerFor d = s.tillerFor t →
      let s1 := s.modTiller d (fun x => { x with openEn := true })
      ∀ u, s1.freshWord.2.proctorReturn t St.ok s1.freshWord.1 = some u → exec (.tillerReopen t) s = .next u) ∧
    (ServiceOpen s t svcOff r → (r = 1 ∨ r = 2) → d < 12 → s.mayName t r d = true →
      (∀ s1 u, s.requestOff d (.tiller t) = .done s1 →
        s1.freshWord.2.proctorReturn t St.ok s1.freshWord.1 = some u → exec (.domainOff t) s = .next u) ∧
      (∀ s1 u, s.requestOff d (.tiller t) = .leased s1 →
        s1.freshWord.2.proctorReturn t St.leased s1.freshWord.1 = some u → exec (.domainOff t) s = .next u) ∧
      (∀ u, s.requestOff d (.tiller t) = .refused →
        w.2.proctorReturn t St.notPermitted w.1 = some u → exec (.domainOff t) s = .next u)) ∧
    (ServiceOpen s t svcOn r → (r = 1 ∨ r = 2) → d < 12 → s.mayName t r d = true →
      ∀ u, (s.requestOn d).freshWord.2.proctorReturn t St.ok (s.requestOn d).freshWord.1 = some u →
      exec (.domainOn t) s = .next u) ∧
    (ServiceOpen s t svcDestroy 2 → d < 256 → (s.carrel t d).valid = true →
      s.tillerFor t = some (s.carrel t d).house → s.carrelRunning d = false →
      ∀ u, (s.clearCarrel t d).freshWord.2.proctorReturn t St.ok (s.clearCarrel t d).freshWord.1 = some u →
      exec (.carrelDestroy t) s = .next u) ∧
    (ServiceOpen s t svcLeaseTake 2 →
      ∀ u, w.2.proctorReturn t St.notPermitted w.1 = some u → exec (.leaseTake t) s = .next u)

/-- A return from a service: the frame on top of SP0 restores the pc and the ring, with the status in g1 and the value
in g2; the memory and the other Tillers are as before. -/
def Obligations.ServiceReturns : Prop :=
  ∀ (s u : State) (t status : Nat) (v : Word) (f : Frame), s.topFrame t = (some f, u) → f.token = none →
    ∃ s', s.proctorReturn t status v = some s' ∧ (s'.tiller t).pc = f.epc &&& ~~~3#64 ∧ (s'.tiller t).ring = f.flags.toNat % 4 ∧
      s'.gr t 1 = BitVec.ofNat 64 status ∧ s'.gr t 2 = v ∧ s'.gr t 30 = f.g30 ∧ s'.gr t 31 = f.g31 ∧
      (∀ r : Fin 32, 3 ≤ r.val → r.val < 30 → s'.gr t r = u.gr t r) ∧ (s'.tiller t).pcall = none ∧
      bank (s'.tiller t).sp 0 = bank (u.tiller t).sp 0 + 64 ∧ s'.mem = u.mem ∧
      (∀ p, p ≠ t → s'.tiller p = u.tiller p)

/-- CARREL_CREATE with an accepted descriptor and a free entry writes the entry valid, for the caller's House, clears
the data range, and answers the entry's number. YIELD from ring 1 resumes through the frame below the PCALL's own. -/
def CarrelCreateAndYield : Prop :=
  ∀ (s s1 s2 : State) (t h c : Nat) (b : List Byte) (f : Frame),
    (ServiceOpen s t svcCreate 2 → s.tillerFor t = some h → s.readDescriptor t 2 = (some b, s1) →
      let k := s1.carrelOf b h
      s1.carrelAccepted t h k = true → s1.pickFree 256 (fun c => (s1.carrel t c).valid) = (some c, s2) →
      ∀ u, ((s2.writeCarrel t c (slice b 0 36 ++ toBytes h 1 ++ toBytes 1 1 ++ zeros 26)).zeroRange k.dataBase
          (k.dataLimit - k.dataBase)).proctorReturn t St.ok (BitVec.ofNat 64 c) = some u →
      exec (.carrelCreate t) s = .next u) ∧
    (let below := s.modTiller t (fun x => { x with sp := setBank x.sp 0 (bank x.sp 0 + 64), pcall := none })
     (s.tiller t).pcall = some (svcYield, 1) → s.tillerRuns t = true → (s.tiller t).sb = [] →
     below.topFrame t = (some f, s1) → s1.frameOk t 0 f = true →
     exec (.yield t) s = .next ((s1.restore t 0 f).modTiller t (fun x =>
       { x with maskSecure := x.keptMask.getD x.maskSecure, keptMask := none })))

/-- Every service of the Proctor: carrels, reopening, YIELD, leases and domains. -/
def Obligations.ProctorCalls : Prop := ProctorServices ∧ CarrelCreateAndYield

/-- The TAP answers while PORST_N is high: IDCODE shows version 1 and part 8400H, BYPASS delays TDI by one bit, BOOTSTAT
shows BOOT_STAT, SAMPLE/PRELOAD and EXTEST shift the pins' levels out, and EXTEST alone drives the pins. -/
def TapInstructions : Prop :=
  ∀ (s : State) (x y : List Bool), s.power.porst = false →
    exec .idcode s = .next
      { s with tap := { s.tap with ir := .idcode, driving := false,
                                   dr := BitVec.ofNat 64 (2 ^ 28 + 0x8400 * 2 ^ 12 + Config.jedecCode.toNat * 2 + 1) } } ∧
    exec (.bypass x) s = .next
      { s with tap := { s.tap with ir := .bypass, driving := false, shifted := (false :: x).take x.length,
                                   bypass := x.getLastD false } } ∧
    exec .bootstat s = .next
      { s with tap := { s.tap with ir := .bootstat, driving := false, dr := s.rd Reg.bootStat } } ∧
    exec (.samplePreload x y) s = .next
      { s with tap := { s.tap with ir := .samplePreload, driving := false, shifted := x, boundary := y } } ∧
    exec (.extest x y) s = .next
      { s with tap := { s.tap with ir := .extest, driving := true, shifted := x, boundary := y } }

/-- Without an installed pass the debug port reads 0, ignores writes, and halts no Tiller; with SEC_INV it reads any
register of a Tiller and its pc, and halts it (the port's commands are the model's, log entry 58). -/
def DebugPortNeedsAPass : Prop :=
  ∀ (s : State) (t : Nat) (r : Fin 32) (a : Nat) (v : Word) (b : Word) (n : BitVec 12), s.power.porst = false →
    let s1 := { s with tap := { s.tap with ir := TapIr.dap, driving := false } }
    (s.flag Reg.passStat F.PassStat.active = false →
      exec (.dap (.read a)) s = .next { s1 with tap := { s1.tap with dr := 0 } } ∧
      exec (.dap (.readReg t r)) s = .next { s1 with tap := { s1.tap with dr := 0 } } ∧
      exec (.dap (.readPc t)) s = .next { s1 with tap := { s1.tap with dr := 0 } } ∧
      (∀ op ∈ [DapOp.write a v, .writeReg t r v, .writePc t v, .writeCsr t n v, .halt t, .resume t, .singleStep t, .setBreak t b, .clearBreak t b],
        exec (.dap op) s = .next s1)) ∧
    (t < 64 → s.debugEn 0 = true →
      exec (.dap (.readReg t r)) s = .next { s1 with tap := { s1.tap with dr := s.gr t r } } ∧
      exec (.dap (.readPc t)) s = .next { s1 with tap := { s1.tap with dr := (s.tiller t).pc } } ∧
      exec (.dap (.halt t)) s = .next (s1.modTiller t (fun x => { x with dbgHalt := true })) ∧
      (a % 8 = 0 → exec (.dap (.read a)) s = .next { s1 with tap := { s1.tap with dr := s.debugRead a } }))

/-- The TAP's instructions and the debug port. -/
def Obligations.TestAndDebugPort : Prop := TapInstructions ∧ DebugPortNeedsAPass

/-! ### Host ports and functions (R6, R46 to R53, R69, R78, R407, R411) -/

/-- The BAR0 registers of function `g` are at reset: the function is disabled. -/
def FnReset (s s' : State) (g : Nat) : Prop :=
  (∀ a ∈ flrRegs g, s'.rd a = regReset a) ∧ (s'.fn g).epoch = (s.fn g).epoch + 1 ∧ (s'.fn g).pushQ = [] ∧
    (s'.fn g).pushMem = [] ∧ (s'.fn g).cqReserved = 0 ∧ (s'.fn g).phase = true

/-- PERST# low takes the link down and resets every function of the port; released, the port trains where its domain is
on; L0 brings the link up; a lost link trains again. A function level reset clears the function's registers and counts
its epoch, and the slates go on. (No mirror rides on the port.) -/
def Obligations.PortEvents : Prop :=
  ∀ (s : State) (p g : Nat), p < 4 → s.power.porst = false →
    ((∀ h, h < 4 → portOf (s.mirrorFn h) ≠ p) →
      ∃ s', exec (.perstAssert p) s = .next s' ∧ (s'.port p).linkUp = false ∧ (s'.port p).perstLow = true ∧
        (∀ f ∈ portFns p, FnReset s s' f) ∧ s'.slates = s.slates ∧ s'.mem = s.mem ∧ s'.tillers = s.tillers ∧
        (∀ q, q ≠ p → s'.port q = s.port q)) ∧
    ((s.port p).perstLow = true → (s.port p).wakeLow = false →
      exec (.perstRelease p) s = .next
        (s.modPort p (fun x => { x with perstLow := false, training := !s.domainIsOff (8 + p) }))) ∧
    ((s.port p).perstLow = false → (s.port p).training = true → s.domainIsOff (8 + p) = false →
      exec (.portLinkUp p) s = .next (s.modPort p (fun x => { x with linkUp := true, training := false }))) ∧
    ((s.port p).linkUp = true → (∀ h, h < 4 → portOf (s.mirrorFn h) ≠ p) →
      ∃ s', exec (.portLinkDown p) s = .next s' ∧ (s'.port p).linkUp = false ∧ (s'.port p).training = true ∧
        (∀ q, q ≠ p → s'.port q = s.port q) ∧ s'.fns = s.fns ∧ s'.slates = s.slates ∧ s'.regs = s.regs) ∧
    (s.barUp g = true → (∀ h, h < 4 → s.mirrorFn h ≠ g) →
      ∃ s', exec (.functionLevelReset g) s = .next s' ∧ FnReset s s' g ∧ (∀ f, f ≠ g → s'.fn f = s.fn f) ∧
        (∀ a, a ∉ flrRegs g → s'.rd a = s.rd a) ∧ s'.slates = s.slates ∧ s'.mem = s.mem ∧ s'.houses = s.houses)

/-- A doorbell in range is recorded; one out of range is ignored and sets DB_ERR. A port whose link is down ignores
every access. -/
def DoorbellWrites : Prop :=
  ∀ (s : State) (g : Nat) (v : BitVec 16),
    (s.barUp g = true → v.toNat < s.sqSize g → s.flag Reg.pwrCtl F.PwrCtl.wakeDb = false →
      exec (.sqTailWrite g v) s = .next (s.setFld (Reg.ringPtr g) F.RingPtr.sqTail v.toNat)) ∧
    (s.barUp g = true → s.sqSize g ≤ v.toNat →
      exec (.sqTailWrite g v) s = .next (s.setFlag (Reg.fnStat g) F.FnStat.dbErr true)) ∧
    (s.barUp g = true → v.toNat < s.cqSize g → (s.fn g).waitSq = [] →
      exec (.cqHeadWrite g v) s = .next (s.setFld (Reg.ringPtr g) F.RingPtr.cqHead v.toNat)) ∧
    (s.barUp g = true → s.cqSize g ≤ v.toNat →
      exec (.cqHeadWrite g v) s = .next (s.setFlag (Reg.fnStat g) F.FnStat.dbErr true)) ∧
    (s.barUp g = false → exec (.sqTailWrite g v) s = .next s ∧ exec (.cqHeadWrite g v) s = .next s)

/-- A write of FN_CTL takes EN, ERR_NOTIFY and ERR_VEC; FETCH_LEN ignores it while EN is 1. The other registers of the
part stay. -/
def FunctionControlWrite : Prop :=
  ∀ (s : State) (g : Nat) (v : BitVec 32), s.barUp g = true →
    ∃ s', exec (.fnCtlWrite g v) s = .next s' ∧
      s'.fld (Reg.fnCtl g) F.FnCtl.en = F.FnCtl.en.get (v.setWidth 64) ∧
      s'.fld (Reg.fnCtl g) F.FnCtl.errNotify = F.FnCtl.errNotify.get (v.setWidth 64) ∧
      s'.fld (Reg.fnCtl g) F.FnCtl.errVec = F.FnCtl.errVec.get (v.setWidth 64) ∧
      s'.fld (Reg.fnCtl g) F.FnCtl.fetchLen = (if s.fld (Reg.fnCtl g) F.FnCtl.en = 1 then
        s.fld (Reg.fnCtl g) F.FnCtl.fetchLen else F.FnCtl.fetchLen.get (v.setWidth 64)) ∧
      (∀ a, a ≠ Reg.fnCtl g → s'.rd a = s.rd a) ∧ s'.fns = s.fns ∧ s'.mem = s.mem ∧ s'.slates = s.slates

/-- A push write that the part can take in every slot that it touches lands in the window's bytes; it commits each slot
whose bytes 60 to 63 it covers. One that some slot cannot take is discarded and counts. -/
def PushWindowWrites : Prop :=
  ∀ (s : State) (g off : Nat) (data : List Byte), s.barUp g = true → off + data.length ≤ pushSize g → data ≠ [] →
    let ns := slotsTouched off data.length
    let done := ns.filter (fun n => decide (off ≤ 512 * n + 60) && decide (512 * n + 64 ≤ off + data.length))
    (ns.any (fun n => s.pushRefused g n) = false → ∃ s', exec (.pushWindowWrite g off data) s = .next s' ∧
      (∀ b, Memory.byte (s'.fn g).pushMem b =
        if off ≤ b ∧ b < off + data.length then data.getD (b - off) 0 else Memory.byte (s.fn g).pushMem b) ∧
      (s'.fn g).pushQ = (s.fn g).pushQ ++ done ∧ (s'.fn g).pushBusy = (s.fn g).pushBusy ++ done ∧
      (∀ f, f ≠ g → s'.fn f = s.fn f) ∧ s'.regs = s.regs ∧ s'.mem = s.mem) ∧
    (ns.any (fun n => s.pushRefused g n) = true → ∃ s', exec (.pushWindowWrite g off data) s = .next s' ∧
      s'.fns = s.fns ∧ s'.flag (Reg.fnStat g) F.FnStat.pushOverrun = true ∧
      (∀ a, a ≠ Reg.errcnt g → a ≠ Reg.fnStat g → s'.rd a = s.rd a) ∧ s'.mem = s.mem)

/-- Unmasking a vector with a pending message sends the data of its table entry to the entry's address and clears its
PBA bit; with none pending nothing is sent. -/
def VectorUnmask : Prop :=
  ∀ (s : State) (g vec : Nat), s.barUp g = true → vec < 64 →
    let m := Post.msix g vec (s.rd (Reg.msixAddr g vec)).toNat (s.fld (Reg.msixData g vec) F.MsixData.data)
    ∃ s', exec (.msixUnmask g vec) s = .next s' ∧ s'.flag (Reg.msixData g vec) F.MsixData.masked = false ∧
      s'.out = (if (s.rd (Reg.msixPba g)).getLsbD vec then m :: s.out else s.out) ∧
      (s'.rd (Reg.msixPba g)).getLsbD vec = false ∧ s'.mem = s.mem ∧ s'.fns = s.fns ∧
      (∀ a, a ≠ Reg.msixData g vec → a ≠ Reg.msixPba g → s'.rd a = s.rd a)

/-- Claims may have been marked EMPTY, and nothing else of the Tillers has changed (R347). -/
def TillersButEmpty (s s' : State) : Prop := ∀ u, SameButEmpty (s.tiller u) (s'.tiller u)

/-- A register write of another size than 4 or 8 bytes, or not aligned, is ignored (a host's unaligned one completes as an
unsupported request), as is one to a locked watermark; in service CUST_S2.EN ignores a write that its BASE takes. An 8-byte
write of WAKE_TIME takes the value and leaves every other register. -/
def RegisterWrites : Prop :=
  ∀ (s : State) (a n : Nat) (v : Word),
    (s.regsAnswer a = false → exec (.registerWrite a n v) s = .next s) ∧
    (s.regsAnswer a = true → n ≠ 4 ∧ n ≠ 8 ∨ a % n ≠ 0 → (a < bar0 0 ∨ hostAligned a n = true) →
      exec (.registerWrite a n v) s = .next s.sense) ∧
    (s.regsAnswer a = true → bar0 0 ≤ a → hostAligned a n = false → exec (.registerWrite a n v) s =
      .next (s.post (.unsupported ((a - bar0 0) / 0x10000) ((a - bar0 0) % 0x10000)))) ∧
    (s.running = true → s.flag Reg.swmDram F.SwmDram.lock = true →
      exec (.registerWrite Reg.swmDram 8 v) s = .next s.sense) ∧
    (∀ d, d < 72 → s.running = true → s.flag (Reg.swmDesk d) F.SwmDesk.lock = true →
      exec (.registerWrite (Reg.swmDesk d) 8 v) s = .next s.sense) ∧
    (s.running = true → s.power.service = true → ∃ s', exec (.registerWrite Reg.custS2 8 v) s = .next s' ∧
      s'.flag Reg.custS2 F.CustS2.en = s.flag Reg.custS2 F.CustS2.en ∧
      s'.fld Reg.custS2 F.CustS2.base = F.CustS2.base.get v ∧
      (∀ b, b ≠ Reg.custS2 → s'.rd b = s.rd b) ∧ s'.mem = s.mem ∧ TillersButEmpty s s' ∧ s'.slates = s.slates) ∧
    (s.running = true → ∃ s', exec (.registerWrite Reg.wakeTime 8 v) s = .next s' ∧ s'.rd Reg.wakeTime = v ∧
      (∀ b, b ≠ Reg.wakeTime → s'.rd b = s.rd b) ∧ s'.mem = s.mem ∧ TillersButEmpty s s' ∧ s'.slates = s.slates)

/-- The host's doorbells, FN_CTL, the push window and the MSI-X vectors. -/
def Obligations.HostAccesses : Prop := DoorbellWrites ∧ FunctionControlWrite ∧ PushWindowWrites ∧ VectorUnmask ∧
  RegisterWrites

/-! ### Ingress (chapter 2) -/

/-- Step 1: the packet that the port serves, of the SQ or of the push window, passes the host check and joins its stream
with the present as its commit time, its SQ entry read and consumed or its push slot taken; one that fails vanishes and
sets HC_FAIL, its push slot is free again, and no packet is added. -/
def Obligations.PacketCommit : Prop :=
  ∀ (s : State) (p g : Nat) (fetched : List Byte) (husk : Bool), s.serving = true → s.power.rollOn = true → p < 4 →
    (s.port p).linkUp = true → s.stepOneFn p = some g →
    (s.pushTurnNow g = false →
      let pkt := slice fetched 0 (pkLength fetched)
      let i := s.fld (Reg.ringPtr g) F.RingPtr.sqHead
      let at_ := (s.rd (Reg.sqBase g)).toNat + 512 * i
      let k := 64 * max 1 (min (s.fld (Reg.fnCtl g) F.FnCtl.fetchLen) 8)
      let ok := husk = true ∧ hcheckOk pkt = true
      ∃ s', exec (.packetCommit p fetched husk) s = .next s' ∧ (s'.port p).rr = (g + 1) % 16 ∧
        (s'.fn g).pushTurn = true ∧ s'.slates = s.slates ∧ s'.mem = s.mem ∧
        s'.fld (Reg.ringPtr g) F.RingPtr.sqHead = (i + 1) % s.sqSize g ∧
        (s'.fn g).waitSq = (s.fn g).waitSq ++ (if husk = true ∧ hcheckOk pkt = true then
          [{ pkt := pkt, push := none, tc := s.dtime, epoch := (s.fn g).epoch }] else []) ∧
        (s'.fn g).waitPush = (s.fn g).waitPush ∧ (s'.fn g).inflight = (s.fn g).inflight ∧
        (ok → s'.out = (if k < pkLength fetched then [Post.fetch g (at_ + k) (pkLength fetched - k)] else []) ++
          Post.fetch g at_ k :: s.out) ∧
        (¬ ok → s'.flag (Reg.fnStat g) F.FnStat.hcFail = true)) ∧
    (s.pushTurnNow g = true → ∀ n rest, (s.fn g).pushQ = n :: rest →
      let pkt := (s.fn g).slotBytes n
      let ok := husk = true ∧ hcheckOk pkt = true
      ∃ s', exec (.packetCommit p fetched husk) s = .next s' ∧ (s'.port p).rr = (g + 1) % 16 ∧
        (s'.fn g).pushTurn = false ∧ (s'.fn g).pushQ = rest ∧ s'.slates = s.slates ∧ s'.mem = s.mem ∧
        (s'.fn g).waitPush = (s.fn g).waitPush ++ (if husk = true ∧ hcheckOk pkt = true then
          [{ pkt := pkt, push := some n, tc := s.dtime, epoch := (s.fn g).epoch }] else []) ∧
        (s'.fn g).waitSq = (s.fn g).waitSq ∧ (s'.fn g).inflight = (s.fn g).inflight ∧
        (ok → (s'.fn g).pushBusy = (s.fn g).pushBusy) ∧
        (¬ ok → (s'.fn g).pushBusy = (s.fn g).pushBusy.filter (· != n) ∧
          s'.flag (Reg.fnStat g) F.FnStat.hcFail = true))

/-- A packet with its credit at step 3, as authentication decides: to step 4, rejected, or its counter taken or sealed
first. -/
def StepThreeDecides (u : State) (g : Nat) (st : Stream) (c : Committed) : Prop :=
  (u.authenticate g c.pkt = .skip → u.stepThree g st c = u.stepFour g c none) ∧
  (u.authenticate g c.pkt = .fail → u.stepThree g st c = u.reject g c St.authFail) ∧
  (u.authenticate g c.pkt = .stale → u.stepThree g st c = u.reject g c St.counterStale) ∧
  (∀ n, u.authenticate g c.pkt = .accept n → u.stepThree g st c =
    (u.setCtr g (n == ownerSigner) (authCtr c.pkt, (u.ctrOf g (n == ownerSigner)).2)).stepFour g c (some n)) ∧
  (∀ n, u.authenticate g c.pkt = .sealFirst n → u.stepThree g st c =
    u.setSealing g st (some ⟨c, authCtr c.pkt, n == ownerSigner, u.uptime⟩))

/-- Steps 2 to 6: without credit or CQ entry the stream's first packet waits; with them it takes a credit and goes to
authentication, where it waits while its counter is busy; at its House's full mark it is answered JOURNAL_FULL once a CQ
entry is free. Nothing is admitted out of service. -/
def Obligations.IngressAdmission : Prop :=
  ∀ (s : State) (g : Nat) (st : Stream) (c : Committed) (l : List Committed), g < 64 →
    let h := s.houseOf g
    let alone := s.atStepThree g st = false
    (s.serving = false → exec (.ingressAdmit g st) s = .next s) ∧
    (s.serving = true → (s.fn g).waiting st = c :: l → s.atFullMark h g = false → s.mayPass g c = false → alone →
      exec (.ingressAdmit g st) s = .next s) ∧
    (s.serving = true → (s.fn g).sealing st = none → (s.fn g).waiting st = c :: l → s.stepQ = [] →
      s.atFullMark h g = false → s.mayPass g c = true →
      let u := (s.popWaiting g st).takeCredit g c
      (∀ n, u.ctrName g c.pkt = some n → u.ctrBusy n = false) →
      exec (.ingressAdmit g st) s = .next (u.stepThree g st c) ∧ (u.fn g).inflight = (s.fn g).inflight + 1 ∧
        (u.fn g).waiting st = l ∧ StepThreeDecides u g st c) ∧
    (s.serving = true → (s.fn g).waiting st = c :: l → s.atFullMark h g = true → alone →
      (s.needsCq g c = true → s.cqFree g = false → exec (.ingressAdmit g st) s = .next s) ∧
      ((s.needsCq g c = false ∨ s.cqFree g = true) → ∃ s', exec (.ingressAdmit g st) s = .next s' ∧
        s' = (s.popWaiting g st).journalFull g c ∧ (s'.fn g).waiting st = l ∧
        (s'.fn g).inflight = (s.fn g).inflight ∧ s'.slates = s.slates)) ∧
    (s.serving = true → (s.fn g).waiting st = [] → (s.fn g).sealing st = none →
      ∀ pre e post, splitArrival g st s.stepQ = some (pre, e, post) →
      (((∀ n, s.ctrName g e.pk.pkt = some n → s.ctrBusy n = false) ∧
          (s.ctrName g e.pk.pkt ≠ none → ∀ x ∈ pre, s.ctrName x.gfn x.pk.pkt ≠ s.ctrName g e.pk.pkt)) →
        let u := { s with stepQ := pre ++ post }
        exec (.ingressAdmit g st) s = .next (u.stepThree g st e.pk) ∧ StepThreeDecides u g st e.pk) ∧
      (∀ n, s.ctrName g e.pk.pkt = some n → s.ctrBusy n = true → exec (.ingressAdmit g st) s = .next s))

/-- Authentication (R73): a critical command without a tag of the signer fails whatever its counter; one with a good tag is
stale unless its CTR exceeds the counter, accepted below the sealed value + 4096, and waits for a seal from there on. -/
def AuthenticationDecides : Prop :=
  ∀ (s : State) (g : Nat) (p key : List Byte), mustAuth p = true → pkAuthExt p = true → pkExtCount p ≠ 0 →
    s.signKey (s.houseOf g) (authSigner p) = some key →
    let c := s.ctrOf g (authSigner p == ownerSigner)
    ((cmacKey 3 key (authMessage g p)).take 8 ≠ authTag p → s.authenticate g p = .fail) ∧
    ((cmacKey 3 key (authMessage g p)).take 8 = authTag p →
      (authCtr p ≤ c.1 → s.authenticate g p = .stale) ∧
      (c.1 < authCtr p → authCtr p < c.2 + 4096 → s.authenticate g p = .accept (authSigner p)) ∧
      (c.1 < authCtr p → c.2 + 4096 ≤ authCtr p → s.authenticate g p = .sealFirst (authSigner p)))

/-- A counter seal that completes within 10 ms makes CTR the counter and its sealed value, and the packet goes on to step
4; one that times out, or completes later, ends the packet INTEGRITY with a machine check, and the counters keep their
values. -/
def CounterSeals : Prop :=
  ∀ (s : State) (g : Nat) (st : Stream) (x : Sealing), (s.fn g).sealing st = some x →
    let failed := ((s.setSealing g st none).reject g x.pk St.integrity).machineCheck
    (s.uptime ≤ x.since + 10000000 → exec (.counterSealComplete g st) s =
      .next (((s.setSealing g st none).setCtr g x.owner (x.ctr, x.ctr)).stepFour g x.pk
        (some (authSigner x.pk.pkt)))) ∧
    (x.since + 10000000 < s.uptime → exec (.counterSealComplete g st) s = .next failed) ∧
    (((s.setSealing g st none).setCtr g x.owner (x.ctr, x.ctr)).ctrOf g x.owner = (x.ctr, x.ctr)) ∧
    (exec (.counterSealTimeout g st) s = .next failed) ∧
    ((s.setSealing g st none).ownerCtr = s.ownerCtr ∧ (s.setSealing g st none).houses = s.houses)

/-- Step 3 of ingress: what authentication decides, and how a counter's seal ends. -/
def Obligations.AuthenticationAndCounters : Prop := AuthenticationDecides ∧ CounterSeals

/-! ### Slates, lanes, the Bell and EXAM (chapters 3 and 4) -/

/-- The slate keeps its place while others are settled: it has no reply and no deferred effect. -/
def Unreplied (s : State) (id : Nat) : Prop := (s.slate id).replied = false ∧ (s.slate id).waiting = false

/-- The head of the House's queue takes one of the free positions of the lanes that take its slates (which one is the
model's free choice, log entry 9). -/
def ThresherPosition : Prop :=
  ∀ (s : State) (h id : Nat), s.queueHead h = some id → s.freePositions h ≠ [] →
    (needsFill (s.slate id).pkt = true → s.drbgReady h 16 = true) →
    ∃ s' k, exec (.thresherPositionTake h) s = .next s' ∧ k ∈ s.freePositions h ∧
      (s'.slate id).work = .lane (k / 4) (k % 4) ∧
      (s'.lane (k / 4)).pos = (s.lane (k / 4)).pos.set (k % 4) (some id) ∧ (s'.lane (k / 4)).used = true ∧
      id ∉ (s'.house (s.slate id).house).queue ∧ id ∉ s'.poolQ ∧
      (∀ j, j ≠ id → s'.slate j = s.slate j) ∧ s'.mem = s.mem ∧ s'.tillers = s.tillers

/-- A lane's result takes the slate's open claim at the present time and frees the position; where a husk fails the claim
is INTEGRITY. A slate whose claim is taken keeps it. -/
def LaneResults : Prop :=
  ∀ (s : State) (n p id : Nat) (c : Claim), (s.lane n).pos.getD p none = some id → Unreplied s id →
    ((s.slate id).unclaimed = true → (s.slate id).res = some c →
      ∃ s', exec (.laneResult n p true) s = .next s' ∧
        (s'.slate id).claim = some { c with time := s.dtime } ∧ (s'.slate id).st = .claimed ∧
        (s'.slate id).work = .idle ∧ (s'.slate id).keys = [] ∧ (s'.lane n).pos.getD p none = none) ∧
    ((s.slate id).unclaimed = false → (s.slate id).res = some c →
      ∃ s', exec (.laneResult n p true) s = .next s' ∧ (s'.slate id).claim = (s.slate id).claim ∧
        (s'.lane n).pos.getD p none = none) ∧
    ((s.slate id).unclaimed = true →
      ∃ s', exec (.laneResult n p false) s = .next s' ∧
        (s'.slate id).claim = some (s.mkClaim St.integrity 0 false none) ∧ (s'.lane n).pos.getD p none = none)

/-- A drained lane serves its new House; the reporting register follows, but for a WORN or FAILED mark. -/
def LaneDrain : Prop :=
  ∀ (s : State) (n : Nat), (s.lane n).draining = true → (s.lane n).pos.all (·.isNone) = true →
    (s.lane n).retiring = false → s.lanes.any (fun e => e.2.heir == some n) = false →
    ∃ s', exec (.laneDrainComplete n) s = .next s' ∧ (s'.lane n).draining = false ∧
      (s'.lane n).serves = (s.lane n).nextHouse ∧ (s'.lane n).nextHouse = none ∧
      (s'.lane n).pos = (s.lane n).pos ∧ (∀ m, m ≠ n → s'.lane m = s.lane m) ∧ s'.slates = s.slates ∧
      s'.mem = s.mem

/-- The Bell takes the claim of the first due slate with STANDIN: the template's RESULT, NEG 0 and no output; the claim
time is the present; it fires at most 8 slates in one step of device time. -/
def BellFire : Prop :=
  ∀ (s : State) (h id : Nat), s.firstDue (fun _ sl => s.isDue h sl) = some id →
    (s.bellCount h = 8 → exec (.bellFire h) s = .next s) ∧
    (s.bellCount h < 8 → Unreplied s id →
      ∃ s', exec (.bellFire h) s = .next s' ∧ (s'.slate id).st = .claimed ∧ (s'.slate id).armed = false ∧
      (s'.slate id).claim = some
        { status := St.standin, result := (s.slate id).tplResult, neg := false, out := none, standin := true,
          time := s.dtime } ∧
      s'.bellCount h = s.bellCount h + 1 ∧ s'.dtime = s.dtime ∧ (∀ t r, s'.gr t r = s.gr t r))

/-- Without a due slate the Bell does nothing: a slate whose stand-in point device time has not reached, or whose claim is
taken, is never stood in for. -/
def BellWaits : Prop :=
  ∀ (s : State) (h : Nat),
    (∀ e ∈ s.slates, e.2.house = h → e.2.st = .live → e.2.armed = true → s.dtime < e.2.standinPt) →
    exec (.bellFire h) s = .next s

/-- A slate whose reply is written and whose tag no mill and no Chute holds returns to FREE with the next generation when
the lane or the Tiller that held its work releases the tag. -/
def TagRelease : Prop :=
  ∀ (s : State) (id n p : Nat), (s.slate id).claim.isSome = true →
    (s.slate id).replied = true → (s.slate id).mills = 0 → (s.slate id).waiting = false →
    s.tagInChute (slateTag id (s.slate id)) = false →
    ((s.slate id).work = .lane n p →
      ∃ s', exec (.slateTagRelease id) s = .next s' ∧ s'.slate id = { gen := ((s.slate id).gen + 1) % 256 } ∧
        (s'.lane n).pos = (s.lane n).pos.set p none) ∧
    ((s.slate id).work = .tiller n →
      ∃ s', exec (.slateTagRelease id) s = .next s' ∧ s'.slate id = { gen := ((s.slate id).gen + 1) % 256 })

/-- A held EXAM reply commits with PADDED 1 once device time has reached its release time and no earlier one of its House
is held; before, it stays held. -/
def ExamRelease : Prop :=
  ∀ (s : State) (id : Nat),
    (s.examDue (s.slate id).house (s.slate id) = true → s.examEarlier id = false →
      exec (.examRelease id) s = .next (s.commitReply id true)) ∧
    (s.dtime < (s.slate id).release.getD 0 → exec (.examRelease id) s = .next s) ∧
    (s.examEarlier id = true → exec (.examRelease id) s = .next s)

/-- The lanes: how a slate takes a position, how its result takes the claim, how a lane drains, and how a slate's tag is
released. -/
def Obligations.LanesAndTags : Prop := ThresherPosition ∧ LaneResults ∧ LaneDrain ∧ TagRelease

/-- The Bell and EXAM: when the stand-in takes the claim, and when a held reply commits. -/
def Obligations.BellAndExam : Prop := BellFire ∧ BellWaits ∧ ExamRelease

/-! ### Resets, the start, STOP and its wake sources (R168, R405 to R409, R413 to R416, R418, R454) -/

/-- PORST_N low is a cold reset: device time 0, every register but the tamper registers at its reset value, every slate
FREE with its generation counted on, no lane, no staged change; the boot flash, VSHARE, DRAM and the queue stay. -/
def ColdReset : Prop :=
  ∀ s : State, ∃ s', exec .porstNAssert s = .next s' ∧ s'.power.porst = true ∧ s'.power.service = false ∧
    s'.dtime = 0 ∧ s'.lanes = [] ∧ s'.staged = [] ∧ s'.tillers = [] ∧
    (∀ id, (s'.slate id).st = .free) ∧
    (Map.sorted s.slates = true → ∀ id, s'.slate id =
      { gen := if (s.slate id).st = .free then (s.slate id).gen else ((s.slate id).gen + 1) % 256 }) ∧
    (∀ a, s'.rd a = if a = Reg.tampCtl ∨ a = Reg.tampStat then s.rd a else regReset a) ∧
    s'.mem = s.mem ∧ s'.flash = s.flash ∧ s'.dev.vshare = s.dev.vshare ∧ s'.out = .float 0 :: s.out ∧
    s'.pending = s.pending

/-- The release of PORST_N starts the part: into service where an image slot passes R403; into BOOT_FAIL, with T0 halted,
where neither does. Without VAON, or while it is high, it does nothing. -/
def ColdStart : Prop :=
  ∀ (s : State) (b : BootInput),
    let pass (i : Image) : Prop := i.formed = true ∧ s.flash.minSvn ≤ i.svn ∧ i.digest = true ∧ i.sigEc = true ∧
      i.sigPq = true
    let slotA := b.slots.1.getD s.flash.slotA
    let slotB := b.slots.2.getD s.flash.slotB
    (s.power.porst = false ∨ s.power.vaon = false → exec (.porstNRelease b) s = .next s) ∧
    (s.power.porst = true → s.power.vaon = true →
      (pass slotA ∨ pass slotB →
        ∃ s', exec (.porstNRelease b) s = .next s' ∧ s'.power.service = true ∧ s'.wear.lastPass = s'.uptime ∧
          s'.flag Reg.custS2 F.CustS2.en = false ∧ ∀ t, (s'.tiller t).tlb = []) ∧
      (¬ pass slotA → ¬ pass slotB → s.power.service = false →
        ∃ s', exec (.porstNRelease b) s = .next s' ∧ s'.power.service = false ∧ s'.power.porst = false ∧
          (s'.tiller 0).halted = true ∧ s'.fld Reg.bootStat F.BootStat.stage = 0xF))

/-- SRST_N begins a quiesce without a window and stops the Roll, or takes the window of the one that runs. -/
def SoftReset : Prop :=
  ∀ s : State,
    (s.power.porst = true ∨ s.power.vaon = false → exec .srstNAssert s = .next s) ∧
    (s.power.porst = false → s.power.vaon = true →
      (s.power.quiesce = none → ∃ s', exec .srstNAssert s = .next s' ∧ s'.power.quiesce = some (s.uptime, 1) ∧
        s'.power.rollOn = false ∧ s'.fld Reg.pwrStat F.PwrStat.state = pwrQuiesce ∧ s'.slates = s.slates ∧
        s'.mem = s.mem ∧ (∀ a, a ≠ Reg.pwrStat → s'.rd a = s.rd a)) ∧
      (∀ t c, s.power.quiesce = some (t, c) → ∃ s', exec .srstNAssert s = .next s' ∧
        s'.power.quiesce = some (s.uptime, c) ∧ s'.regs = s.regs ∧ s'.slates = s.slates ∧ s'.mem = s.mem))

/-- At the end of its window a quiesce takes every open claim, writes what it can, and resets the part, or stops it; before,
it waits. A reset waits for mirrors, and up to 1 ms for held records; STOP waits for every record, mirror, seal and
store. A warm reset keeps device time, DRAM, the flash and the queue, and leaves every slate FREE. -/
def QuiesceEnds : Prop :=
  ∀ s : State,
    let u := s.quiesceSteps
    let v := s.quiesceSteps.stopSeals
    (∀ t c, s.power.quiesce = some (t, c) →
      (s.uptime < t → exec .quiesceEnd s = .next s) ∧
      (t ≤ s.uptime → (u.mirrorsOut = true ∨ (u.allHeld ≠ 0 ∧ u.uptime < t + 1000000)) → exec .quiesceEnd s = .next u) ∧
      (t ≤ s.uptime → u.mirrorsOut = false → (u.allHeld = 0 ∨ t + 1000000 ≤ u.uptime) →
        exec .quiesceEnd s = .next (u.warmStart [c] (u.allHeld + u.unserved) []))) ∧
    (∀ t, s.power.quiesce = none → s.power.stopping = some t →
      (s.uptime < t → exec .quiesceEnd s = .next s) ∧
      (t ≤ s.uptime → (v.recordsOut = true ∨ v.stopStores = none) → exec .quiesceEnd s = .next v) ∧
      (t ≤ s.uptime → v.recordsOut = false → ∀ w, v.stopStores = some w →
        exec .quiesceEnd s = .next w.enterStop)) ∧
    (s.power.quiesce = none → s.power.stopping = none → exec .quiesceEnd s = .next s) ∧
    ((s.afterReset false).dtime = s.dtime ∧ (s.afterReset false).mem = s.mem ∧
      (s.afterReset false).flash = s.flash ∧ (∀ id, ((s.afterReset false).slate id).st = .free) ∧
      (s.afterReset false).staged = [] ∧ (s.afterReset false).pending = s.pending ∧
      (s.afterReset false).power.service = false)

/-- The loss of VAON loses VSHARE, the tamper registers and device time; its return changes nothing but the supply. -/
def VaonEvents : Prop :=
  ∀ s : State,
    (∃ s', exec .vaonLoss s = .next s' ∧ s'.power.vaon = false ∧ s'.power.porst = true ∧ s'.dtime = 0 ∧
      (∀ a, s'.rd a = regReset a) ∧ s'.dev.vshare = none ∧ s'.mem = s.mem ∧ s'.flash = s.flash ∧
      s'.out = .float 0 :: s.out ∧ s'.pending = s.pending) ∧
    (∃ s', exec .vaonPowerUp s = .next s' ∧ s'.power.vaon = true ∧ s'.power.porst = s.power.porst ∧
      s'.regs = s.regs ∧ s'.mem = s.mem ∧ s'.dev = s.dev ∧ s'.dtime = s.dtime)

/-- Cold reset and start, SRST_N, the end of a quiesce, and VAON. -/
def Obligations.ResetsAndStart : Prop := ColdReset ∧ ColdStart ∧ SoftReset ∧ QuiesceEnds ∧ VaonEvents

/-- What a wake in STOP does: WAKE_STAT names its source, and the exit begins with VCORE_EN high. -/
def WakesUp (o : Out) (s : State) (f : Fld) : Prop :=
  ∃ s', o = .next s' ∧ s'.fld Reg.pwrStat F.PwrStat.state = pwrExiting ∧ s'.flag Reg.wakeStat f = true ∧
    s'.out = .vcoreEn true :: s.out ∧ s'.mem = s.mem ∧ s'.slates = s.slates ∧ s'.dtime = s.dtime ∧
    (∀ a, a ≠ Reg.pwrStat → a ≠ Reg.wakeStat → s'.rd a = s.rd a)

/-- An enabled pin at its level, or WAKE_TIME reached, begins the exit from STOP, and takes a queued entry back; the
exit is a warm reset where the retained image does not match or LATCH is set, else it returns to RUN. -/
def Obligations.WakeAndStop : Prop :=
  ∀ (s : State) (level ok : Bool), s.power.porst = false → s.power.vaon = true →
    (s.flag Reg.pwrCtl F.PwrCtl.wakeInEn = true → s.flag Reg.pwrCtl F.PwrCtl.wakePol = level →
      (s.fld Reg.pwrStat F.PwrStat.state = pwrStop → WakesUp (exec (.wakeIn level) s) s F.WakeStat.wakeIn) ∧
      (s.fld Reg.pwrStat F.PwrStat.state = pwrQueued → s.stopQueued = true → ∃ s', exec (.wakeIn level) s = .next s' ∧
        s'.stopQueued = false ∧ s'.fld Reg.pwrStat F.PwrStat.state = pwrRun ∧ s'.mem = s.mem ∧
        s'.slates = s.slates)) ∧
    (s.flag Reg.pwrCtl F.PwrCtl.wakePol ≠ level → exec (.wakeIn level) s = .next s) ∧
    (s.rd Reg.wakeTime ≠ 0 → (s.rd Reg.wakeTime).toNat ≤ s.dtime → s.fld Reg.pwrStat F.PwrStat.state = pwrStop →
      WakesUp (exec .wakeTime s) s F.WakeStat.time) ∧
    (s.dtime < (s.rd Reg.wakeTime).toNat → exec .wakeTime s = .next s) ∧
    (s.fld Reg.pwrStat F.PwrStat.state = pwrExiting → ok = true → s.flag Reg.tampStat F.TampStat.latch = false →
      ∃ s', exec (.vcorePgRise ok) s = .next s' ∧ s' = s.leaveStop ∧
        s'.fld Reg.pwrStat F.PwrStat.state = pwrRun) ∧
    (s.fld Reg.pwrStat F.PwrStat.state = pwrExiting → ok = false → s.flag Reg.tampStat F.TampStat.latch = false →
      exec (.vcorePgRise ok) s =
        .next (s.warmStart [] 0 [(F.RstCause.digest, 1), (F.RstCause.tamper, 0)])) ∧
    (s.fld Reg.pwrStat F.PwrStat.state ≠ pwrExiting → exec (.vcorePgRise ok) s = .next s)

/-! ### The journal's events (R60, R231 to R233, R239, R240) -/

/-- What a record whose last wait ends releases: it leaves the outstanding ones, and its reply follows. -/
def Settles (o : Out) (s : State) (h : Nat) (l : List PendRec) (p : PendRec) : Prop :=
  ∃ u : State, o = .next (u.completeRecord p) ∧ (u.house h).j.pend = l ∧ (∀ k, k ≠ h → u.house k = s.house k) ∧
    u.slates = s.slates ∧ u.regs = s.regs ∧ u.mem = s.mem ∧ u.dtime = s.dtime

/-- Mirroring is suspended and no record waits for a mirror any more. -/
def Suspended (o : Out) (s : State) (h cause n : Nat) : Prop :=
  ∃ s', o = .next s' ∧ s' = s.mirrorFail h cause n ∧ (s'.house h).j.susp = true ∧
    s'.flag (Reg.jrStat h) F.JrStat.mirFailS = true ∧ ∀ q ∈ (s'.house h).j.pend, q.mirror = none

/-- A response leaves the oldest record outstanding, for what it still waits for. -/
def StillWaits (o : Out) (s : State) (h : Nat) (l : List PendRec) : Prop :=
  ∃ s', o = .next s' ∧ (s'.house h).j.pend = l ∧ (∀ k, k ≠ h → s'.house k = s.house k) ∧ s'.slates = s.slates ∧
    s'.regs = s.regs ∧ s'.mem = s.mem ∧ s'.out = s.out

/-- The oldest record's write response, or its mirror completion, completes it once nothing else is outstanding for it; a
failed mirror, and one that has not completed after MR_TIMEOUT, suspends mirroring with its cause. -/
def RecordResponses : Prop :=
  ∀ (s : State) (h : Nat) (p : PendRec) (l : List PendRec), (s.house h).j.pend = p :: l →
    (∀ q ∈ l, q.done = false) →
    (p.written = false → p.mirror = none →
      Settles (exec (.journalWriteResponse h) s) s h l { p with written := true }) ∧
    (p.written = false → p.mirror ≠ none →
      StillWaits (exec (.journalWriteResponse h) s) s h ({ p with written := true } :: l)) ∧
    (p.mirror.isSome = true → p.written = true →
      Settles (exec (.mirrorCompletion h true) s) s h l { p with mirror := none }) ∧
    (p.mirror.isSome = true → p.written = false →
      StillWaits (exec (.mirrorCompletion h true) s) s h ({ p with mirror := none } :: l)) ∧
    (p.mirror.isSome = true → Suspended (exec (.mirrorCompletion h false) s) s h 1 p.jseq) ∧
    (∀ t, p.mirror = some t → t + 1000 * s.fld (Reg.jrCtl h) F.JrCtl.mrTimeout ≤ s.uptime →
      Suspended (exec (.mirrorTimeout h) s) s h 2 p.jseq) ∧
    (∀ t, p.mirror = some t → s.uptime < t + 1000 * s.fld (Reg.jrCtl h) F.JrCtl.mrTimeout →
      exec (.mirrorTimeout h) s = .next s)

/-- A written seal block asks for its SEAL record; the flash copy is written when 100 ms have passed or 4,096 seals stand,
and again after a failed read-back, which raises a machine check; after a tamper hit nothing more is stored. A new reserve
lets the writer go on, and a failed one raises a machine check. -/
def SealsAndReserve : Prop :=
  ∀ (s : State) (h : Nat),
    let j := (s.house h).j
    let due := j.ckptTime + 100000000 ≤ s.uptime ∨ 4096 ≤ j.ckptSeals
    (∀ x, j.sealing = some x → x.block = true → s.lineHeld (s.sealAddr h x.no) = false →
      exec (.sealBlockWritten h) s = .next (s.sealWritten h x)) ∧
    (∀ x, j.sealing = some x → x.block = false → exec (.sealBlockWritten h) s = .next s) ∧
    (∀ n no head, j.sealed = some (n, no, head) → j.noSeals = false → due →
      ∃ s', exec (.journalFlashCheckpoint ⟨h, true⟩) s = .next s' ∧ (s'.house h).j.flashSeal = some (n, head) ∧
        (s'.house h).j.flashSealno = no ∧ (s'.house h).j.ckptSeals = 0 ∧ (s'.house h).j.ckptTime = s.uptime ∧
        (s'.house h).j.head = j.head ∧ (s'.house h).j.next = j.next ∧
        (∀ k, k ≠ h → s'.house k = s.house k) ∧ s'.mem = s.mem ∧ s'.slates = s.slates) ∧
    (j.noSeals = true → exec (.journalFlashCheckpoint ⟨h, true⟩) s = .next s) ∧
    (due → exec (.journalFlashCheckpoint ⟨h, false⟩) s = .next s.machineCheck) ∧
    (s.uptime < j.ckptTime + 100000000 → j.ckptSeals < 4096 → ∀ ok,
      exec (.journalFlashCheckpoint ⟨h, ok⟩) s = .next s) ∧
    (∀ v, j.reserveNew = some v →
      exec (.jseqReserveWriteComplete h true) s =
        .next ((s.modJ h (fun j => reserveCheck { j with reserve := v, reserveNew := none })).buildAll h)) ∧
    (∀ v, j.reserveNew = some v → j.unbuilt = [] → j.events = [] →
      ∃ s', exec (.jseqReserveWriteComplete h true) s = .next s' ∧ (s'.house h).j.reserve = v ∧
        (s'.house h).j.reserveNew = (if v ≤ j.next + 2 ^ 19 then some (j.next + 2 ^ 20) else none) ∧
        (∀ k, k ≠ h → s'.house k = s.house k) ∧ s'.mem = s.mem ∧ s'.slates = s.slates) ∧
    (∀ v, j.reserveNew = some v → exec (.jseqReserveWriteComplete h false) s = .next s.machineCheck)

/-- The journal's events. -/
def Obligations.JournalEvents : Prop := RecordResponses ∧ SealsAndReserve

/-! ### Chutes (R303, R353, R354, R356 to R359) -/

/-- A LIVE slate that waits for a credit enters its WORK Chute while that holds fewer than 64 packets; full, it waits. A
CARREL_INVOKE does the same. -/
def WorkCommits : Prop :=
  ∀ (s : State) (id c : Nat), (s.slate id).work = .credit → (s.slate id).st = .live →
    s.workChute (s.slate id) = some c →
    let good (o : Out) : Prop := ∃ s', o = .next s' ∧ (s'.slate id).work = .chute c ∧
      (s'.chute c).pkts = (s.chute c).pkts ++ [s.workPacket id] ∧ (∀ j, j ≠ id → s'.slate j = s.slate j) ∧
      (∀ k, k ≠ c → s'.chute k = s.chute k) ∧ s'.mem = s.mem ∧ s'.regs = s.regs ∧ TillersButEmpty s s'
    ((s.chute c).pkts.length < 64 → good (exec (.workPacketCommit id) s)) ∧
    (64 ≤ (s.chute c).pkts.length → exec (.workPacketCommit id) s = .next s) ∧
    (pkOpcode (s.slate id).pkt = 0x0A01 → (s.chute c).pkts.length < 64 → good (exec (.carrelInvoke id) s)) ∧
    (pkOpcode (s.slate id).pkt ≠ 0x0A01 → exec (.carrelInvoke id) s = .next s)

/-- A Tiller's whole packet whose husks verify joins its Chute, a claim request with an answer outstanding for it; it waits
while the Chute is full or four answers are outstanding. One with a failed husk, or to a WORK Chute, is rewound and
counts. -/
def PacketCommits : Prop :=
  ∀ (s : State) (t c n : Nat), let b := (s.chute c).buf t
    let joins (s' : State) : Prop :=
      (s'.chute c).pkts = (s.chute c).pkts ++ [⟨bufBytes b (64 * n), some t, (s.tiller t).term⟩] ∧
        (s'.chute c).buf t = [] ∧ (∀ k, k ≠ c → s'.chute k = s.chute k) ∧ s'.mem = s.mem ∧ s'.regs = s.regs ∧
        s'.slates = s.slates
    let rewound (o : Out) : Prop := ∃ s', o = .next s' ∧ (s'.chute c).pkts = (s.chute c).pkts ∧
      (s'.chute c).buf t = [] ∧ (s'.chute c).rewind = min ((s.chute c).rewind + 1) (2 ^ 32 - 1) ∧
      (∀ k, k ≠ c → s'.chute k = s.chute k) ∧ TillersButEmpty s s' ∧ s'.slates = s.slates
    bufDone b = true → bufLen b = some n →
    (1 ≤ n → n ≤ 8 → bufHas b 0 (64 * n) = true → (s.chuteRole c = roleReply ∨ s.chuteRole c = roleTiller) →
      ((s.chute c).pkts.length < 64 → s.bufClaims c b = false →
        ∃ s', exec (.chutePacketCommit t c true) s = .next s' ∧ joins s' ∧ TillersButEmpty s s') ∧
      ((s.chute c).pkts.length < 64 → s.bufClaims c b = true → (s.tiller t).ans.length < 4 →
        ∃ s', exec (.chutePacketCommit t c true) s = .next s' ∧ joins s' ∧
          (s'.tiller t).ans = (s.tiller t).ans ++ [(c, none)]) ∧
      (64 ≤ (s.chute c).pkts.length ∨ (s.bufClaims c b = true ∧ 4 ≤ (s.tiller t).ans.length) →
        exec (.chutePacketCommit t c true) s = .next s.sense)) ∧
    (s.chuteRole c = roleWork → rewound (exec (.chutePacketCommit t c true) s)) ∧
    rewound (exec (.chutePacketCommit t c false) s)

/-- A Chute whose head packet has waited its stale time reports STALE; before that, or with STALE_NS 0, it does not. -/
def StaleTimer : Prop :=
  ∀ (s : State) (c : Nat), let ns := 64 * s.fld (Reg.chCfg c) F.ChCfg.staleNs
    (ns ≠ 0 → (s.chute c).pkts ≠ [] → (s.chute c).staleAt + ns ≤ s.uptime →
      ∃ s', exec (.chuteStale c) s = .next s' ∧ (s'.chute c).stale = true ∧
        (s'.chute c).pkts = (s.chute c).pkts ∧ (∀ k, k ≠ c → s'.chute k = s.chute k) ∧ s'.regs = s.regs) ∧
    (ns = 0 ∨ s.uptime < (s.chute c).staleAt + ns → exec (.chuteStale c) s = .next s)

/-- A claim request of the Tiller that holds an open slate, in the term of its work, wins: the claim is taken for it, and
the answer says won. Any other loses and counts as a discarded result. The Chute answers its requests in their order. VALID
is 1 in both answers (log 82, the model's choice). -/
def ClaimRequests : Prop :=
  ∀ (s : State) (c t : Nat) (p : Packet) (l : List Packet), s.chuteRole c = roleReply → (s.chute c).pkts = p :: l →
    pkKind p.bytes = kindClaim → p.writer = some t →
    let u := (s.chutePop c).settleAll
    let tag := tagOf p.bytes
    (∀ id, u.tagSlate tag = some id → (u.slate id).unclaimed = true → u.holds p id = true →
      ∃ s', exec (.claimRequest c) s = .next s' ∧ (s'.slate id).st = .claimed ∧ (s'.slate id).heldBy = some t ∧
        (s'.slate id).armed = false ∧ (s'.slate id).claim = some (s.mkClaim St.ok 0 false none) ∧
        (s'.tiller t).ans = answerFirst c (BitVec.ofNat 64 (tag + 2 ^ 24 + 2 ^ 25)) (s.tiller t).ans ∧
        (s'.chute c).pkts = l ∧ (∀ j, j ≠ id → s'.slate j = u.slate j) ∧ s'.regs = s.regs ∧ s'.mem = s.mem) ∧
    ((∀ id, u.tagSlate tag = some id → (u.slate id).unclaimed = false ∨ u.holds p id = false) →
      ∃ s', exec (.claimRequest c) s = .next s' ∧ s'.slates = u.slates ∧
        (s'.tiller t).ans = answerFirst c (BitVec.ofNat 64 (tag + 2 ^ 25)) (s.tiller t).ans ∧
        (s'.chute c).pkts = l ∧ (∀ a, a ≠ Reg.bellDrop → s'.rd a = s.rd a) ∧ s'.mem = s.mem)

/-- A reply packet of the Tiller that holds the slate ends its work with the packet's content; any other is discarded and
counts. -/
def ReplyPackets : Prop :=
  ∀ (s : State) (c : Nat) (p : Packet) (l : List Packet), s.chuteRole c = roleReply → (s.chute c).pkts = p :: l →
    pkKind p.bytes ≠ kindClaim →
    let u := (s.chutePop c).settleAll
    let good (id : Nat) : Prop := u.holds p id = true ∧
      ((u.slate id).unclaimed = true ∨ (u.slate id).heldBy = p.writer)
    (∀ id, u.tagSlate (tagOf p.bytes) = some id → good id →
      exec (.replyPacket c) s = .next ((u.conclude id (u.replyClaim id p.bytes)).leaveWork id) ∧
        (u.chute c).pkts = l ∧ u.regs = s.regs ∧ u.mem = s.mem) ∧
    ((∀ id, u.tagSlate (tagOf p.bytes) = some id → ¬ good id) →
      ∃ s', exec (.replyPacket c) s = .next s' ∧ (s'.chute c).pkts = l ∧ s'.slates = u.slates ∧
        (∀ a, a ≠ Reg.bellDrop → s'.rd a = s.rd a) ∧ s'.mem = s.mem)

/-- Chutes: what commits into them, their stale timer, claim requests and reply packets. -/
def Obligations.ChuteCommitsAndReplies : Prop :=
  WorkCommits ∧ PacketCommits ∧ StaleTimer ∧ ClaimRequests ∧ ReplyPackets

/-! ### Time and voltage (chapter 1) -/

/-- An edge of PPS_IN records the phase error to the nearest second: at most 1,000 ns it is slewed, beyond that only
reported; beyond 50 ns the lock is lost. An edge that comes 1.5 s or more after the previous one also reports the miss. A
pending TIME_SET loads, or lapses where its second or its 1.5 s have passed. -/
def PpsEdges : Prop :=
  ∀ s : State, s.timeRuns = true → s.flag Reg.timeCtl F.TimeCtl.ppsInEn = true →
    let e := phaseError s.dtime
    (s.tb.pendSet = none → (∀ l, s.tb.lastEdge = some l → s.uptime < l + 1500000000) →
      ∃ s', exec .ppsInEdge s = .next s' ∧
        s'.fld Reg.timeStat F.TimeStat.phaseErr = satSigned 32 e ∧ s'.dtime = s.dtime ∧
        s'.tb.slew = (if 1000 < e.natAbs then 0 else e) ∧ s'.tb.lastEdge = some s.uptime ∧
        (1000 < e.natAbs → s'.flag Reg.timeStat F.TimeStat.ppsFar = true) ∧
        (50 < e.natAbs → s'.flag Reg.timeStat F.TimeStat.ppsLock = false) ∧
        (e.natAbs ≤ 50 → 3 ≤ s.tb.good → s'.flag Reg.timeStat F.TimeStat.ppsLock = true) ∧
        s'.flag Reg.timeStat F.TimeStat.ppsMiss = s.flag Reg.timeStat F.TimeStat.ppsMiss ∧
        (∀ a, a ≠ Reg.timeStat → s'.rd a = s.rd a) ∧ s'.slates = s.slates ∧ s'.mem = s.mem) ∧
    (∀ l, s.tb.pendSet = none → s.tb.lastEdge = some l → l + 1500000000 ≤ s.uptime →
      ∃ s', exec .ppsInEdge s = .next s' ∧ s'.flag Reg.timeStat F.TimeStat.ppsMiss = true ∧
        s'.flag Reg.timeStat F.TimeStat.ppsLock = false ∧ s'.tb.lastEdge = some s.uptime ∧ s'.dtime = s.dtime ∧
        s'.fld Reg.timeStat F.TimeStat.phaseErr = satSigned 32 e) ∧
    (∀ t tc, s.tb.pendSet = some (t, tc) → s.uptime < tc + 1500000000 → s.dtime ≤ t →
      ∃ s', exec .ppsInEdge s = .next s' ∧ s'.dtime = t ∧ s'.tb.pendSet = none ∧ s'.tb.slew = 0 ∧
        s'.flag Reg.timeStat F.TimeStat.setPending = false ∧ s'.mem = s.mem ∧ TillersButEmpty s s') ∧
    (∀ t tc, s.tb.pendSet = some (t, tc) → t < s.dtime ∨ tc + 1500000000 ≤ s.uptime →
      ∃ s', exec .ppsInEdge s = .next s' ∧ s'.dtime = s.dtime ∧ s'.tb.pendSet = none ∧
        s'.flag Reg.timeStat F.TimeStat.setPending = false ∧
        s'.flag Reg.timeStat F.TimeStat.setLapsed = true ∧ s'.slates = s.slates ∧ s'.mem = s.mem)

/-- An edge missed for 1.5 s loses the lock and sets PPS_MISS; a TIME_SET pending for 1.5 s lapses; before, nothing
happens. The 1.5 s run on the time base's cycles, which a TIME_SET step does not move (log 1). -/
def PpsTimeouts : Prop :=
  ∀ s : State,
    (∀ e, s.timeRuns = true → s.tb.lastEdge = some e →
      (e + 1500000000 ≤ s.uptime → ∃ s', exec .ppsEdgeTimeout s = .next s' ∧
        s'.flag Reg.timeStat F.TimeStat.ppsLock = false ∧ s'.flag Reg.timeStat F.TimeStat.ppsMiss = true ∧
        s'.tb.lastEdge = none ∧ s'.dtime = s.dtime ∧ (∀ a, a ≠ Reg.timeStat → s'.rd a = s.rd a)) ∧
      (s.uptime < e + 1500000000 → exec .ppsEdgeTimeout s = .next s)) ∧
    (∀ v t, s.tb.pendSet = some (v, t) →
      (t + 1500000000 ≤ s.uptime → ∃ s', exec .pendingTimeSetTimeout s = .next s' ∧ s'.tb.pendSet = none ∧
        s'.flag Reg.timeStat F.TimeStat.setPending = false ∧ s'.flag Reg.timeStat F.TimeStat.setLapsed = true ∧
        s'.dtime = s.dtime ∧ (∀ a, a ≠ Reg.timeStat → s'.rd a = s.rd a)) ∧
      (s.uptime < t + 1500000000 → exec .pendingTimeSetTimeout s = .next s))

/-- PPS_OUT goes active within 8 ns of a whole second and inactive after its width on the time
base's cycles (log 91), with the level that PPS_POL gives. -/
def PpsOut : Prop :=
  ∀ s : State, let pol := s.flag Reg.timeCtl F.TimeCtl.ppsPol
    (s.timeRuns = true → s.flag Reg.timeCtl F.TimeCtl.ppsOutEn = true → s.tb.ppsOut = false →
      (s.dtime % 1000000000 ≤ 8 ∨ 999999992 ≤ s.dtime % 1000000000) →
      s.fld Reg.pwrStat F.PwrStat.state ≠ pwrStop → s.tb.ppsOutStart + 500000000 < s.dtime + 8 →
      ∃ s', exec .ppsOutStart s = .next s' ∧ s'.tb.ppsOut = true ∧ s'.tb.ppsOutStart = s.dtime ∧
        s'.tb.ppsOutSince = s.uptime ∧ s'.tb.ppsOutWidth = max 1 (s.fld Reg.timeCtl F.TimeCtl.ppsOutW) ∧ s'.out = .ppsOut (!pol) :: s.out ∧
        s'.regs = s.regs ∧ s'.dtime = s.dtime) ∧
    (s.tb.ppsOut = true → s.tb.ppsOutSince + 1000000 * s.tb.ppsOutWidth ≤ s.uptime →
      ∃ s', exec .ppsOutEnd s = .next s' ∧ s'.tb.ppsOut = false ∧ s'.out = .ppsOut pol :: s.out ∧
        s'.regs = s.regs ∧ s'.dtime = s.dtime) ∧
    (s.uptime < s.tb.ppsOutSince + 1000000 * s.tb.ppsOutWidth → exec .ppsOutEnd s = .next s)

/-- TREF lost: HOLDOVER and TREF_LOST set, with a machine check; relocked, HOLDOVER clears. A sensor reading puts the
highest one, in whole degrees rounded up, into TJ. -/
def TrefAndTj : Prop :=
  ∀ s : State,
    (∀ t, s.timeRuns = true → s.mcheckTarget = some t → ∃ s', exec .trefLoss s = .next s' ∧
      s'.flag Reg.timeStat F.TimeStat.trefLost = true ∧ s'.flag Reg.timeStat F.TimeStat.holdover = true ∧
      (s'.tiller t).mcheck = true ∧ s'.dtime = s.dtime ∧ (∀ a, a ≠ Reg.timeStat → s'.rd a = s.rd a)) ∧
    (s.timeRuns = true → ∃ s', exec .trefRelock s = .next s' ∧
      s'.flag Reg.timeStat F.TimeStat.holdover = false ∧
      s'.flag Reg.timeStat F.TimeStat.trefLost = s.flag Reg.timeStat F.TimeStat.trefLost ∧
      s'.dtime = s.dtime ∧ (∀ a, a ≠ Reg.timeStat → s'.rd a = s.rd a)) ∧
    (∀ (l : List Int) (r : Int), l.max? = some r → ∃ s', exec (.tjSensorRead l) s = .next s' ∧
      s'.fld Reg.tj F.Tj.tj = ((r + 9) / 10 % 256).toNat ∧
      (signed 8 (s.fld Reg.tj F.Tj.tjAlert) ≤ (r + 9) / 10 → s'.flag Reg.tj F.Tj.tjHi = true) ∧
      s'.dtime = s.dtime ∧ s'.mem = s.mem ∧ s'.slates = s.slates ∧ s'.tillers = s.tillers)

/-- The time base's events. -/
def Obligations.TimeEvents : Prop := PpsEdges ∧ PpsTimeouts ∧ PpsOut ∧ TrefAndTj

/-- A due evaluation reports the effective target, the greater of the policy's target and every House's floor, and asks for
it: at once where it rises, by one code where it falls (counted from the code being written, else the last acknowledged
one: log 91). -/
def PolicyEvaluation : Prop :=
  ∀ s : State, s.running = true →
    let period := 50000 * max 1 (s.fld Reg.vpolCtl F.VpolCtl.period)
    (s.avs.evalNow = true ∨ s.avs.lastEval + period ≤ s.uptime →
      ∃ s', exec .vpolicyEvaluation s = .next s' ∧
        s'.fld Reg.vpolStat F.VpolStat.target =
          max (max (max (max s.policyTarget.1 (s.vfloorOf 0)) (s.vfloorOf 1)) (s.vfloorOf 2)) (s.vfloorOf 3) ∧
        s'.flag Reg.vpolStat F.VpolStat.boundUnmet = !s.policyTarget.2 ∧ s'.avs.evalNow = false ∧
        s'.avs.lastEval = s.uptime ∧
        (let c := s.avs.writing.getD (s.avs.current.getD 12)
         s'.avs.request = if s.effTarget < c then c - 1 else s.effTarget) ∧
        (∀ a, a ≠ Reg.vpolStat → s'.rd a = s.rd a) ∧ s'.dtime = s.dtime ∧ s'.out = s.out) ∧
    (s.avs.evalNow = false → s.uptime < s.avs.lastEval + period → exec .vpolicyEvaluation s = .next s)

/-- A voltage write posts the requested code and sets BUSY, at least 50 µs after the one before and never while AVS_FAULT
is set; its acknowledgement in time makes the code current; without one it is retried once, as soon as the 50 µs allow, and
then AVS_FAULT sets; clearing the fault asks for the target again. -/
def AvsTransitions : Prop :=
  ∀ (s : State) (c : Nat),
    let posted (v : Nat) : List Post := .avs (s.fld Reg.avsCtl F.AvsCtl.avsRail) (600 + 25 * min v 12) :: s.out
    let issued (o : Out) (v : Nat) (again : Bool) : Prop := ∃ s', o = .next s' ∧ s'.avs.writing = some v ∧
      s'.avs.lastWrite = some s.uptime ∧ s'.avs.retried = again ∧ s'.avs.failed = false ∧
      s'.flag Reg.vpolStat F.VpolStat.busy = true ∧ s'.out = posted v ∧
      (∀ a, a ≠ Reg.vpolStat → s'.rd a = s.rd a)
    (s.running = true → s.flag Reg.vpolStat F.VpolStat.avsFault = false → s.avsSpaced = true →
      (s.flag Reg.vpolStat F.VpolStat.busy = false → s.avs.again = true ∨ s.avs.current ≠ some s.avs.request →
        issued (exec .avsVoltageWrite s) s.avs.request false) ∧
      (s.flag Reg.vpolStat F.VpolStat.busy = true → s.avs.writing = some c → s.avs.failed = true →
        issued (exec .avsVoltageWrite s) c true)) ∧
    (s.flag Reg.vpolStat F.VpolStat.avsFault = true ∨ s.avsSpaced = false → exec .avsVoltageWrite s = .next s) ∧
    (s.flag Reg.vpolStat F.VpolStat.busy = true → s.avs.writing = some c → s.avs.failed = false →
      (∀ t, s.avs.lastWrite = some t →
        (c ≤ 12 → s.uptime ≤ t + s.avsLimit → ∃ s', exec .avsTransitionComplete s = .next s' ∧
          s'.avs.current = some c ∧ s'.avs.writing = none ∧ s'.fld Reg.vpolStat F.VpolStat.ack = c ∧
          s'.flag Reg.vpolStat F.VpolStat.busy = false ∧ (∀ a, a ≠ Reg.vpolStat → s'.rd a = s.rd a)) ∧
        (t + s.avsLimit < s.uptime → exec .avsTransitionComplete s = .next s)) ∧
      (s.avs.retried = true → ∃ s', exec .avsTimeout s = .next s' ∧
        s'.flag Reg.vpolStat F.VpolStat.avsFault = true ∧ s'.flag Reg.vpolStat F.VpolStat.busy = false ∧
        s'.out = s.out) ∧
      (s.avs.retried = false → s.avsSpaced = true → issued (exec .avsTimeout s) c true) ∧
      (s.avs.retried = false → s.avsSpaced = false → ∃ s', exec .avsTimeout s = .next s' ∧
        s'.avs.failed = true ∧ s'.avs.writing = some c ∧ s'.regs = s.regs ∧ s'.out = s.out)) ∧
    (s.flag Reg.vpolStat F.VpolStat.avsFault = true → ∃ s', exec .avsFaultClear s = .next s' ∧
      s'.flag Reg.vpolStat F.VpolStat.avsFault = false ∧ s'.avs.again = true ∧
      (let t := s.fld Reg.vpolStat F.VpolStat.target
       let a := s.avs.current.getD 12
       s'.avs.request = if t < a then a - 1 else t) ∧ s'.out = s.out) ∧
    (s.flag Reg.vpolStat F.VpolStat.avsFault = false → exec .avsFaultClear s = .next s)

/-- A readback of the regulator, on its own or at PMB_ALERT_N, goes to VREAD while PMB_EN is 1. -/
def Readbacks : Prop :=
  ∀ (s : State) (v i : BitVec 16), s.running = true →
    let good (o : Out) : Prop := ∃ s', o = .next s' ∧ s'.fld Reg.vread F.Vread.vout = v.toNat ∧
      s'.fld Reg.vread F.Vread.iout = i.toNat ∧ (∀ a, a ≠ Reg.vread → s'.rd a = s.rd a) ∧ s'.avs = s.avs
    (s.flag Reg.avsCtl F.AvsCtl.pmbEn = true → good (exec (.pmbusReadback v i) s) ∧ good (exec (.pmbAlert v i) s)) ∧
    (s.flag Reg.avsCtl F.AvsCtl.pmbEn = false →
      exec (.pmbusReadback v i) s = .next s ∧ exec (.pmbAlert v i) s = .next s)

/-- The voltage policy, AVSBus and PMBus. -/
def Obligations.VoltageEvents : Prop := PolicyEvaluation ∧ AvsTransitions ∧ Readbacks

/-! ### Terms, regions and ways (R206, R207, R209, R214) -/

/-- At a boundary that device time has passed TERM counts; out of service and in STOP nothing else happens; in service
House resets end, the staged changes apply in the order of Table 7.2, loans are made, and the Term's source rises. -/
def TermBoundary : Prop :=
  ∀ s : State,
    (s.timeRuns = true → s.termDue = false → exec .termBoundary s = .next s) ∧
    (s.timeRuns = true → s.termDue = true → s.stopped = true ∨ s.serving = false →
      ∃ s', exec .termBoundary s = .next s' ∧ s'.termAt = s.dtime ∧
        s'.fld Reg.termStat F.TermStat.term = (s.fld Reg.termStat F.TermStat.term + 1) % 2 ^ 32 ∧
        s'.staged = s.staged ∧ s'.houses = s.houses ∧ s'.mem = s.mem ∧
        (∀ a, a ≠ Reg.termStat → s'.rd a = s.rd a)) ∧
    (s.timeRuns = true → s.termDue = true → s.stopped = false → s.serving = true →
      let u : State := { s with termAt := s.dtime }
      exec .termBoundary s = .next ((((u.resumeHouses.applyAll).runLoans).newTerm).termSnapshots).readyRots)

/-- A staged setting of step 3, alone, leaves the list and applies, where no Tiller is on its way. -/
def StagedSetting : Prop :=
  ∀ (s : State) (x : Staged), s.staged = [x] → x.step = 3 → s.leaving = [] →
    (∀ h, h < 5 → (s.house h).tillersClearing = []) →
      s.applyAll = ({ s with staged := [] }).applySetting x

/-- The zeroing of a staged region: every DRAM byte that takes another key reads 0, every other byte stays, and the
change is ready for the next boundary. -/
def RegionZeroed : Prop :=
  ∀ (s : State) (n : Nat) (a b : Word) (l : List Staged), s.staged = .region n a b false :: l →
    ∃ s', exec (.dramRegionZeroComplete n) s = .next s' ∧ .region n a b true ∈ s'.staged ∧
      (∀ x, Memory.byte s'.mem x =
        if x < 0x008000000000 ∧ rgnKey x (s.rgnWords n) ≠ rgnKey x (a, b) then 0 else Memory.byte s.mem x) ∧
      s'.regs = s.regs ∧ s'.slates = s.slates ∧ s'.tillers = s.tillers

/-- A cleared Granary way goes to the House that gains it. -/
def WayCleared : Prop :=
  ∀ (s : State) (w h : Nat), w < 16 → Map.find w s.ways = some h →
    ∃ s', exec (.granaryWayClearComplete w) s = .next s' ∧ Map.find w s'.ways = none ∧
      (h < 4 → (s'.waysOf h).testBit w = true) ∧ (∀ k, k < 4 → k ≠ h → s'.waysOf k = s.waysOf k) ∧
      s'.mem = s.mem ∧ s'.granary = s.granary

/-- The Term boundary and the clearing that moves wait for. -/
def Obligations.TermEvents : Prop := TermBoundary ∧ StagedSetting ∧ RegionZeroed ∧ WayCleared

/-! ### Tamper, seals, entropy, cards, owner keys, passes (R169, R182 to R184, R192 to R196, R310, R450) -/

/-- The key store is gone: LATCH is set, VSHARE and the owner keys are cleared, and every Satchel slot is unused. -/
def Zeroised (s' : State) : Prop :=
  s'.flag Reg.tampStat F.TampStat.latch = true ∧ s'.dev.vshare = none ∧ s'.dev.ownerMaster = none ∧
    ∀ asym n, (s'.slot asym n).used = false

/-- A mismatch of an enabled mesh pair, or an enabled switch input at its level, zeroises the part; while PORST_N holds it,
VAON clears VSHARE; a pair or input that is not enabled does nothing. (No switch-off and no STOP entry is queued behind a
lease.) -/
def TamperHits : Prop :=
  ∀ (s : State) (m : BitVec 4) (k : Fin 4), s.power.vaon = true →
    let mesh := m.toNat &&& s.fld Reg.tampCtl F.TampCtl.meshEn ≠ 0
    let sw := (s.fld Reg.tampCtl F.TampCtl.swEn).testBit k = true
    let held (o : Out) : Prop := ∃ s', o = .next s' ∧ s'.flag Reg.tampStat F.TampStat.latch = true ∧
      s'.dev.vshare = none ∧ s'.mem = s.mem ∧ (∀ a, a ≠ Reg.tampStat → s'.rd a = s.rd a)
    (s.power.porst = false → s.power.offQueue = [] →
      (mesh → ∃ s', exec (.tamperMeshSample m) s = .next s' ∧ Zeroised s') ∧
      (sw → ∃ s', exec (.tamperSwitchHit k) s = .next s' ∧ Zeroised s')) ∧
    (s.power.porst = true →
      (mesh → held (exec (.tamperMeshSample m) s)) ∧ (sw → held (exec (.tamperSwitchHit k) s))) ∧
    (¬ mesh → exec (.tamperMeshSample m) s = .next s) ∧
    (¬ sw → exec (.tamperSwitchHit k) s = .next s)

/-- A slot seal that completes sets SEALED in the slot and in the boot flash; one that fails leaves the slot and sets
SEAL_FAIL. -/
def SlotSeals : Prop :=
  ∀ (s : State) (asym : Bool) (n : Nat), s.sealQ.contains (asym, n) = true →
    (∃ s', exec (.slotSealComplete asym n true) s = .next s' ∧
      s'.slot asym n = { s.slot asym n with attr := attrSet (s.slot asym n).attr bSealed } ∧
      Map.find n (if asym then s'.flash.asymSeals else s'.flash.symSeals) = some (s'.slot asym n) ∧
      (∀ k, k ≠ n → s'.slot asym k = s.slot asym k) ∧ (∀ k, s'.slot (!asym) k = s.slot (!asym) k) ∧
      s'.regs = s.regs ∧ s'.mem = s.mem) ∧
    (∃ s', exec (.slotSealComplete asym n false) s = .next s' ∧ (∀ a k, s'.slot a k = s.slot a k) ∧
      s'.flag Reg.satStat F.SatStat.sealFail = true ∧ s'.flash = s.flash ∧ s'.sealQ = s.sealQ.erase (asym, n))

/-- A DRBG reseed that waits runs once a source is healthy: its request counter restarts, RESEEDS counts a reseed of a
DRBG that is instantiated, and the buffer fills by at most four requests; without a healthy source it waits on. -/
def DrbgReseeds : Prop :=
  ∀ (s : State) (h : Nat), s.running = true → s.flag (Reg.drbgStat h) F.DrbgStat.drbgWait = true →
    (s.entropyHealthy = true → ∃ s', exec (.drbgReseed h) s = .next s' ∧
      s'.flag (Reg.drbgStat h) F.DrbgStat.drbgWait = false ∧ (s'.house h).drbg.live = true ∧
      s'.fld (Reg.drbgStat h) F.DrbgStat.reseeds =
        (if (s.house h).drbg.live then min (s.fld (Reg.drbgStat h) F.DrbgStat.reseeds + 1) (2 ^ 32 - 1)
         else s.fld (Reg.drbgStat h) F.DrbgStat.reseeds) ∧
      s'.fld (Reg.drbgStat h) F.DrbgStat.reqs ≤ 4 ∧ (∀ k, k ≠ h → s'.house k = s.house k) ∧ s'.mem = s.mem) ∧
    (s.entropyHealthy = false → ∃ s', exec (.drbgReseed h) s = .next s' ∧
      s'.flag (Reg.drbgStat h) F.DrbgStat.drbgWait = true ∧ s'.houses = s.houses)

/-- A raw bit enters the health tests of its source; the 41st equal bit in a row marks the source FAILED. -/
def EntropySamples : Prop :=
  ∀ (s : State) (e : Nat) (b : Bool), s.running = true → e < 3 →
    ∃ s', exec (.entropySample e [b]) s = .next s' ∧ s'.source e = ((s.source e).sample b).1 ∧
      ((s.source e).last = b → 40 ≤ (s.source e).run → s'.unitState (153 + e) = unitFailed) ∧
      (((s.source e).sample b).2.1 = false → ((s.source e).sample b).2.2 = false →
        s'.unitState (153 + e) = s.unitState (153 + e)) ∧
      (∀ k, k ≠ e → s'.source k = s.source k) ∧ s'.mem = s.mem ∧ s'.slates = s.slates

/-- Tamper, seals of slots, and entropy. -/
def Obligations.TamperSealsEntropy : Prop := TamperHits ∧ SlotSeals ∧ DrbgReseeds ∧ EntropySamples

/-- A card comes or goes: a removal during an exchange ends it with reason 0x09 and a free status word (log 42). A response
without an exchange changes nothing but the interface. One to a COMP_ENTER advances its exchange through SELECT, the
certificate, AGREE and GET COMPONENT: a status word other than 0x9000, a certificate that does not chain to CUST_ROOT or a
signature that fails ends it with reason 0x09, a component whose tag fails with 0x05; else the component joins the session,
unless its card has been used. -/
def CardEvents : Prop :=
  ∀ (s : State) (k : Fin 2) (r : CardReply), let u := s.endExchange k; let o := exec (.cardApduResponse k r) s
    (∃ s', exec (.cardDetect k true) s = .next s' ∧ (s'.card k).present = true ∧
      (s'.card k).exchange = (s.card k).exchange ∧ (∀ j, j ≠ k.val → s'.card j = s.card j) ∧ s'.slates = s.slates) ∧
    (s.exchangeSlate k = none → ∃ s', exec (.cardDetect k false) s = .next s' ∧ (s'.card k).present = false ∧
      (s'.card k).exchange = none ∧ (∀ j, j ≠ k.val → s'.card j = s.card j) ∧ s'.slates = s.slates) ∧
    (∀ id, s.exchangeSlate k = some id →
      let v := ((s.modCard k (fun x => { x with present := false })).endExchange k).freshWord
      exec (.cardDetect k false) s =
        .next (v.2.finishNeg id (v.1.toNat % 65536 * 65536 + 9) (some (zeros 8)))) ∧
    (s.exchangeSlate k = none → ∃ s', o = .next s' ∧ (s'.card k).exchange = none ∧
      s'.slates = s.slates ∧ s'.houses = s.houses) ∧
    (∀ x id, (s.card k).exchange = some x → s.exchangeSlate k = some id →
      let ends (reason : Nat) : Prop :=
        o = .next (u.finishNeg id (r.sw.toNat % 65536 * 65536 + reason) (some (zeros 8)))
      let goes (y : Exchange) : Prop := ∃ s', o = .next s' ∧ (s'.card k).exchange = some y ∧
        (s'.card k).present = (s.card k).present ∧ s'.out = .apdu k y.command :: s.out ∧ s'.slates = s.slates ∧
        s'.houses = s.houses ∧ s'.regs = s.regs
      let cert := x.cert ++ r.data
      (r.sw ≠ 0x9000 → ends 9) ∧
      (r.sw = 0x9000 →
        (x.at_ = .select → goes { x with at_ := .cert 0 }) ∧
        (∀ n, n < 255 → x.at_ = .cert n → match Config.cardCert cert with
          | none => goes { x with cert := cert, at_ := .cert (n + 1) }
          | some c => if certOk s.dev.custRoot c = true then goes { x with cert := cert, at_ := .agree } else ends 9) ∧
        (x.at_ = .agree → match Config.cardCert x.cert with
          | none => ends 9
          | some c =>
            if Config.pkVerify 0x11 c.key (x.agreed (slice r.data 0 97)) (r.data.drop 97) [] = true then
              goes { x with peer := slice r.data 0 97, at_ := .component } else ends 9) ∧
        (x.at_ = .component → match Config.cardCert x.cert with
          | none => ends 9
          | some c =>
            let d := Config.gcmOpen (x.key c) (slice r.data 0 12) [] (slice r.data 12 48)
            let g : CardGot := ⟨c.serial, c.custodian, rootHash c.root, BitVec.ofNat 256 (ofBytesBE ((List.range 32).map d.2))⟩
            if d.1 = true then
              ∀ m, s.session (s.houseOfSlate id) = some m →
                if m.fresh g = true then
                  o = .next (((u.recordRoot g).setSession (s.houseOfSlate id) (some { m with
                    acc := m.acc ^^^ g.component
                    cards := (g.serial, g.custodian) :: m.cards })).finishOut id (kcv (m.key (m.acc ^^^ g.component))))
                else ends 9
            else ends 5)))

/-- Two exchanges of different cards and custodians establish the owner keys from the XOR of their components, and the owner
counter starts at 0; a failed exchange, the same card or custodian twice, or a part that may not establish them sets no
key. -/
def OwnerKeys : Prop :=
  ∀ (s : State) (a b : List CardReply), let o := exec (.ownerKeysEstablish a b) s
    let none' (s' : State) : Prop := s'.dev.ownerMaster = s.dev.ownerMaster ∧ s'.dev.ock = s.dev.ock ∧
      s'.ownerCtr = s.ownerCtr ∧ s'.rekeyAt = s.rekeyAt
    (s.cardsReady = false → o = .next s) ∧
    (s.cardsReady = true → ∃ s', o = .next s' ∧ s'.dev.vshare = s.dev.vshare ∧ s'.regs = s.regs ∧
      s'.symSlots = s.symSlots ∧ s'.slates = s.slates ∧
      match s.ownerCard 0 a with
      | (none, _) => none' s'
      | (some x, v) => match (v.recordRoot x).ownerCard 1 b with
        | (none, _) => none' s'
        | (some y, _) =>
          if x.serial = y.serial ∨ x.custodian = y.custodian then none' s'
          else s'.dev.ownerMaster = some (x.component ^^^ y.component) ∧
            s'.flash.dev.ownerMaster = some (x.component ^^^ y.component) ∧ s'.ownerCtr = (0, 0) ∧
            s'.flash.ownerCtr = 0 ∧ s'.rekeyAt = none)

/-- 600 s after its start a rekey window closes and a component session lapses; a hall pass ends after NOT_AFTER, and with
it every halt and breakpoint of the debug port. -/
def Lapses : Prop :=
  ∀ (s : State) (h : Nat),
    (∀ t, s.rekeyAt = some t →
      (t + 600000000000 ≤ s.uptime → ∃ s', exec .ownerRekeyWindowEnd s = .next s' ∧ s'.rekeyAt = none ∧
        s'.dev = s.dev ∧ s'.regs = s.regs) ∧
      (s.uptime < t + 600000000000 → exec .ownerRekeyWindowEnd s = .next s)) ∧
    (∀ c, s.session h = some c →
      (c.since + 600000000000 ≤ s.uptime → ∃ s', exec (.compSessionLapse h) s = .next s' ∧ s'.session h = none ∧
        (∀ k, k ≠ h → s'.house k = s.house k) ∧ s'.slates = s.slates ∧ s'.regs = s.regs) ∧
      (s.uptime < c.since + 600000000000 → exec (.compSessionLapse h) s = .next s)) ∧
    (s.flag Reg.passStat F.PassStat.active = true →
      ((s.rd Reg.passExp).toNat < s.dtime → ∃ s', exec .passExpiry s = .next s' ∧ s'.rd Reg.passStat = 0 ∧
        (∀ t, (s'.tiller t).dbgHalt = false ∧ (s'.tiller t).breaks = [] ∧ (s'.tiller t).g = (s.tiller t).g) ∧
        s'.mem = s.mem ∧ s'.flash = s.flash) ∧
      (s.dtime ≤ (s.rd Reg.passExp).toNat → exec .passExpiry s = .next s))

/-- The fill of a slate's key handle waits while its channel holds the read, or the cache has no room; a record that is not
the handle's, or does not unwrap, ends an open slate KEY_ABSENT with the handle's index. -/
def KeyFills : Prop :=
  ∀ (s : State) (id i : Nat) (ecc : Ecc), (s.slate id).work = .filling i →
    let v := pkKey (s.slate id).pkt i
    let r := s.granaryRead (s.tableEntry (s.slate id).house (hKind v == 4) (hIndex v))
      (if hKind v == 4 then 4096 else 128) 0 ecc
    (r.1 = .held → exec (.keyFillComplete id ecc) s = .next r.2) ∧
    (r.1 ≠ .held → r.2.fillRecord (s.slate id).house v true = .wait →
      exec (.keyFillComplete id ecc) s = .next r.2) ∧
    (∀ u, r.1 ≠ .held → r.2.fillRecord (s.slate id).house v true = .absent u →
      ((s.slate id).unclaimed = true →
        exec (.keyFillComplete id ecc) s = .next ((u.fail id St.keyAbsent i).leaveWork id)) ∧
      ((s.slate id).unclaimed = false → exec (.keyFillComplete id ecc) s = .next (u.leaveWork id))) ∧
    (∀ k ref u, r.1 ≠ .held → r.2.fillRecord (s.slate id).house v true = .ok ref k u →
      ((s.slate id).unclaimed = true → exec (.keyFillComplete id ecc) s =
        .next ((u.modSlate id (fun x => { x with work := .idle, keys := x.keys ++ [ref] })).resolveFrom id (i + 1)
          (fastKeys (pkOpcode (s.slate id).pkt) - (i + 1)))) ∧
      ((s.slate id).unclaimed = false → exec (.keyFillComplete id ecc) s = .next (u.leaveWork id)))

/-- Cards, owner keys, what lapses in time, and key fills. -/
def Obligations.CardsOwnerAndFills : Prop := CardEvents ∧ OwnerKeys ∧ Lapses ∧ KeyFills

/-! ### DRAM channels (R388 to R394) -/

/-- A parity error freezes a channel in service: KIND 3, a machine check, and the time of the freeze. -/
def DramAlert : Prop :=
  ∀ (s : State) (c : Nat), c < 4 → s.running = true → s.chanState c = chanService →
    ∃ s', exec (.dramAlert c) s = .next s' ∧ s'.chanState c = chanFrozen ∧
      s'.fld (Reg.dcErr c) F.DcErr.kind = 3 ∧ (s'.chan c).frozenAt = s.uptime ∧ (s'.chan c).failLine % 64 = 0 ∧
      (∀ t, s.mcheckTarget = some t → (s'.tiller t).mcheck = true) ∧ s'.mem = s.mem ∧ s'.slates = s.slates ∧
      (∀ k, k < 4 → k ≠ c → s'.chanState k = s.chanState k)

/-- The channel serves again with no action pending, and memory is as it was: no House holds records, none waits. -/
def Released (o : Out) (s : State) (c : Nat) : Prop :=
  ∃ s', o = .next s' ∧ s'.chanState c = chanService ∧ s'.action c = 0 ∧ s'.mem = s.mem ∧ s'.slates = s.slates

/-- A frozen channel is released by the Proctor's action, or on its own after 100 ms without one; SPPR also repairs and
queues the failing row; RETIRE ends what waits on it. An action that DC_ACT does not hold does nothing. -/
def FrozenActions : Prop :=
  ∀ (s : State) (c : Nat) (ecc : Ecc),
    ((∀ h, h < 4 → (s.house h).j.held = [] ∧ (s.house h).j.events = [] ∧ (s.house h).j.unbuilt = []) →
      (s.frozenFor c 1 = true → Released (exec (.release c .ok) s) s c) ∧
      (s.frozenFor c 0 = true → (s.chan c).frozenAt + 100000000 ≤ s.uptime →
        Released (exec (.freezeAutoRelease c .ok) s) s c) ∧
      (s.frozenFor c 3 = true → Released (exec (.sppr c .ok) s) s c ∧
        ∃ s', exec (.sppr c .ok) s = .next s' ∧ Config.lineRow (s.chan c).failLine ∈ (s'.chan c).ppr)) ∧
    (s.uptime < (s.chan c).frozenAt + 100000000 → exec (.freezeAutoRelease c ecc) s = .next s) ∧
    (s.frozenFor c 2 = true → (∀ h, h < 4 → s.ringOk h = false) → (∀ e ∈ s.slates, ∀ i, e.2.work ≠ .filling i) →
      ∃ s', exec (.retire c) s = .next s' ∧ s'.chanState c = chanRetired ∧ s'.action c = 0 ∧ s'.mem = s.mem ∧
        s'.slates = s.slates) ∧
    (s.chanState c ≠ chanFrozen → exec (.release c ecc) s = .next s ∧ exec (.freezeAutoRelease c ecc) s = .next s ∧
      exec (.sppr c ecc) s = .next s ∧ exec (.retire c) s = .next s)

/-- A refresh window names its bank; an RFM window clears the marks of its bank index, and the banks that wait for it; a
retraining pause runs once in a window and clears DRIFT_T; a scrub read that is corrected counts, and one of a bank that
waits for its window does nothing. -/
def ChannelWindows : Prop :=
  ∀ (s : State) (c bank : Nat),
    (s.chanUp c = true → bank < 4 →
      (∃ s', exec (.refreshWindow c bank) s = .next s' ∧ (s'.chan c).refresh = some bank ∧
        (∀ k, k ≠ c → s'.chan k = s.chan k) ∧ s'.regs = s.regs ∧ s'.mem = s.mem) ∧
      (∃ s', exec (.rfmWindow c bank) s = .next s' ∧
        (s'.chan c).marks = (s.chan c).marks.filter (fun b => !(b % 4 == bank)) ∧
        (s'.chan c).full = (s.chan c).full.filter (fun b => !(b % 4 == bank)) ∧
        (∀ k, k ≠ c → s'.chan k = s.chan k) ∧ s'.mem = s.mem)) ∧
    (∀ w, s.retrainWindow c = some w → c < 4 → s.running = true → s.chanState c = chanService →
      ((s.chan c).lastPause ≠ some w → ∃ s', exec (.retrainPause c) s = .next s' ∧
        (s'.chan c).lastPause = some w ∧ (s'.chan c).trainedTj = signed 8 (s.fld Reg.tj F.Tj.tj) ∧
        s'.flag (Reg.dcStat c) F.DcStat.driftT = false ∧ s'.mem = s.mem) ∧
      ((s.chan c).lastPause = some w → exec (.retrainPause c) s = .next s)) ∧
    (∀ line, s.running = true → line % 64 = 0 → s.chanAt line = some c → s.chanState c ≠ chanFrozen →
      s.readError line 64 = false → s.fld (Reg.dcCtl c) F.DcCtl.scrubH ≠ 0 → s.bankWaits c line = false →
      ((s.chan c).marks.filter (· == s.bankOf line)).length < 2 →
      (∃ s', exec (.patrolScrub c line .ok) s = .next s' ∧ s'.mem = s.mem ∧
        s'.fld (Reg.dcStat c) F.DcStat.ceCnt = s.fld (Reg.dcStat c) F.DcStat.ceCnt ∧ s'.slates = s.slates) ∧
      (∃ s', exec (.patrolScrub c line .corrected) s = .next s' ∧ s'.mem = s.mem ∧
        s'.fld (Reg.dcStat c) F.DcStat.ceCnt =
          min (s.fld (Reg.dcStat c) F.DcStat.ceCnt + 1) (2 ^ F.DcStat.ceCnt.w - 1) ∧ s'.slates = s.slates)) ∧
    (∀ line ecc, s.running = true → line % 64 = 0 → s.chanAt line = some c → s.chanState c ≠ chanFrozen →
      s.readError line 64 = false → s.bankWaits c line = true → exec (.patrolScrub c line ecc) s = .next s)

/-! ### March tests (R398, R399) -/

/-- A preserving test goes on line by line and passes with the last; a failing line ends it with FAIL and the position
FAILED. A destructive test records its result, repairs and spares. -/
def MarchTests : Prop :=
  ∀ (s : State) (n l : Nat),
    (Map.find n s.wear.marchLine = some l → l + 1 < 2048 → ∃ s', exec (.preservingMarchBurst n true) s = .next s' ∧
      Map.find n s'.wear.marchLine = some (l + 1) ∧ s'.mem = s.mem ∧ s'.regs = s.regs ∧
      s'.wear.march = s.wear.march) ∧
    (Map.find n s.wear.marchLine = some l → l + 1 = 2048 → ∃ s', exec (.preservingMarchBurst n true) s = .next s' ∧ (s'.marchOf 1 n).1 = marchPassed ∧
      Map.find n s'.wear.marchLine = none ∧ s'.mem = s.mem ∧ s'.fld (Reg.deskStat n) F.DeskStat.test = 0) ∧
    (Map.find n s.wear.marchLine = some l → n < 72 → ∃ s', exec (.preservingMarchBurst n false) s = .next s' ∧ (s'.marchOf 1 n).1 = marchFailed ∧
      Map.find n s'.wear.marchLine = none ∧ s'.flag (Reg.deskStat n) F.DeskStat.fail = true ∧
      s'.unitState n = unitFailed ∧ s'.mem = s.mem) ∧
    (∀ (k : MarchKind) (repaired left : Nat) (ok : Bool), k ≠ .desk → (s.marchOf (marchKind k) n).1 = marchRunning →
      ∃ s', exec (.marchTestComplete k n repaired left ok) s = .next s' ∧ s'.marchOf (marchKind k) n =
        (if ok then (if repaired = 0 then marchPassed else marchRepaired) else marchFailed, repaired, left) ∧
        s'.mem = s.mem ∧ (ok = false → s'.unitState (marchUnit (marchKind k) n) = unitFailed))

/-- The DRAM channels: freeze and its end, refresh, retraining, scrub and march tests. -/
def Obligations.DramChannelEvents : Prop := DramAlert ∧ FrozenActions ∧ ChannelWindows ∧ MarchTests

/-! ### Hopper channels (R362 to R367) -/

/-- GO queues an enabled channel whose geometry is good, and reports a bad one; a channel in work, or not enabled, ignores
it. The engine starts the head of its queue. -/
def HopperStarts : Prop :=
  ∀ (s : State) (e k : Nat),
    (s.flag (Reg.hcCtl e k) F.HcCtl.en = true → s.hopActive e k = false →
      (s.hopGeometry e k = true → ∃ s', exec (.hopperGo e k) s = .next s' ∧
        (s'.hopper e).queue = (s.hopper e).queue ++ [k] ∧ s'.flag (Reg.hcStat e k) F.HcStat.queued = true ∧
        (∀ a, a ≠ Reg.hcStat e k → s'.rd a = s.rd a) ∧ s'.mem = s.mem) ∧
      (s.hopGeometry e k = false → ∃ s', exec (.hopperGo e k) s = .next s' ∧ s'.hoppers = s.hoppers ∧
        s'.flag (Reg.hcStat e k) F.HcStat.err = true ∧ s'.fld (Reg.hcStat e k) F.HcStat.errCode = 1 ∧
        (∀ a, a ≠ Reg.hcStat e k → s'.rd a = s.rd a) ∧ s'.mem = s.mem)) ∧
    (s.flag (Reg.hcCtl e k) F.HcCtl.en = false ∨ s.hopActive e k = true → exec (.hopperGo e k) s = .next s) ∧
    (∀ l, (s.hopper e).running = none → (s.hopper e).queue = k :: l →
      ∃ s', exec (.hopperChannelStart e) s = .next s' ∧ (s'.hopper e).running = some k ∧
        (s'.hopper e).queue = l ∧ s'.flag (Reg.hcStat e k) F.HcStat.queued = false ∧
        s'.flag (Reg.hcStat e k) F.HcStat.busy = true ∧ s'.mem = s.mem)

/-- A channel whose accesses all pass ends with DONE and its bytes in PROG; a plain copy to one line of memory has moved
every byte of its source. It waits for a frozen channel. An error ends it with its code and address, and with no more bytes in PROG than were performed. -/
def HopperEnds : Prop :=
  ∀ (s : State) (e k : Nat), (s.hopper e).running = some k →
    let src := s.hopSrc e k
    let dst := s.hopDst e k
    (s.hopSidePasses e k .load src = true → s.hopSidePasses e k .store dst = true →
      s.hopHeld src = false → s.hopHeld dst = false →
      s.hopAnySide e src = false → s.hopAnySide e dst = false → src.total < 2 ^ 64 →
      ∃ s', exec (.hopperChannelDone e) s = .next s' ∧ (s'.hopper e).running = none ∧
        s'.flag (Reg.hcStat e k) F.HcStat.done = true ∧ s'.flag (Reg.hcStat e k) F.HcStat.busy = false ∧
        (s'.rd (Reg.hcProg e k)).toNat = src.total ∧
        (s.hopMode e k = 0 → dst.lines = 1 → dst.len = src.total → ∀ i, i < src.total →
          Memory.byte s'.mem (s.norm dst.addr + i) = s.memByte (s.norm (src.byteAddr i)))) ∧
    (s.hopSidePasses e k .load src = false ∨ s.hopSidePasses e k .store dst = false ∨
        s.hopHeld src = true ∨ s.hopHeld dst = true → exec (.hopperChannelDone e) s = .next s) ∧
    (∀ why addr done, s.hopFails e k why addr = true →
      ∃ s', exec (.hopperChannelError e why addr done) s = .next s' ∧ (s'.hopper e).running = none ∧
        s'.flag (Reg.hcStat e k) F.HcStat.err = true ∧ s'.fld (Reg.hcStat e k) F.HcStat.errCode = hopCode why ∧
        s'.flag (Reg.hcStat e k) F.HcStat.busy = false ∧
        (s'.rd (Reg.hcErraddr e k)).toNat = addr % 2 ^ 44 ∧ (s'.rd (Reg.hcProg e k)).toNat ≤ done)

/-- Clearing EN takes a queued channel off the queue; a running one drops, and stays busy until its writes have
settled. -/
def HopperStops : Prop :=
  ∀ (s : State) (e k : Nat),
    (s.flag (Reg.hcCtl e k) F.HcCtl.en = true → ∃ s', exec (.hopperEnClear e k) s = .next s' ∧
      s'.flag (Reg.hcCtl e k) F.HcCtl.en = false ∧ s'.flag (Reg.hcStat e k) F.HcStat.queued = false ∧
      k ∉ (s'.hopper e).queue ∧ s'.mem = s.mem ∧
      ((s.hopper e).running = some k → (s'.hopper e).running = none ∧ k ∈ (s'.hopper e).dropping) ∧
      ((s.hopper e).running ≠ some k → (s'.hopper e).running = (s.hopper e).running)) ∧
    (s.flag (Reg.hcCtl e k) F.HcCtl.en = false → exec (.hopperEnClear e k) s = .next s) ∧
    (k ∈ (s.hopper e).dropping → ∃ s', exec (.hopperDropComplete e k) s = .next s' ∧
      k ∉ (s'.hopper e).dropping ∧ s'.flag (Reg.hcStat e k) F.HcStat.busy = false) ∧
    (k ∉ (s.hopper e).dropping → exec (.hopperDropComplete e k) s = .next s)

/-- The Hopper's channels. -/
def Obligations.HopperChannels : Prop := HopperStarts ∧ HopperEnds ∧ HopperStops

/-! ### Roll call and rotation (R422 to R431) -/

/-- A valid window reports the unit's drift, and WARN from 4 % on; the third measurement in a row above 6 % marks it WORN.
A window in which the voltage or the temperature moved is discarded. -/
def RollCallWindows : Prop :=
  ∀ (s : State) (u cycles tempC mv : Nat) (moved : Bool), u ≤ 178 → u ≠ 172 → s.running = true →
    s.loopMv u = some mv →
    let r := loopRatio (expectedPeriod u mv tempC) cycles
    (s.wear.passRunning = true → s.discards cycles moved = false →
      ∃ s', exec (.rollcallWindow u cycles tempC moved) s = .next s' ∧
        s'.fld (Reg.rcUnit u) F.RcUnit.drift = satSigned 16 (driftCode r) ∧
        s'.flag (Reg.rcUnit u) F.RcUnit.warn = driftAtLeast r 4 ∧
        (driftAbove r 6 = true → Map.get 0 s.wear.confirm u = 2 → s.unitState u ≠ unitWorn →
          s.unitState u ≠ unitFailed → s'.unitState u = unitWorn) ∧
        (driftAbove r 6 = false → s'.unitState u = s.unitState u) ∧ s'.mem = s.mem ∧ s'.slates = s.slates) ∧
    (s.discards cycles moved = true → exec (.rollcallWindow u cycles tempC moved) s = .next s)

/-- A census pass starts when its period has passed. A unit whose handshake times out is FAILED, with a machine check; below
the voltage of R19 the part guarantees nothing, and the model stops. -/
def CensusAndHandshakes : Prop :=
  ∀ (s : State) (u : Nat),
    (s.serving = true → s.flag Reg.rcCtl F.RcCtl.en = true → s.wear.passRunning = false →
      s.wear.lastPass + 1000000 * s.fld Reg.rcCtl F.RcCtl.censusMs ≤ s.uptime →
      ∃ s', exec .censusPass s = .next s' ∧ s'.wear.passRunning = true ∧ s'.wear.measured = [] ∧
        s'.wear.lastPass = s.uptime ∧ s'.regs = s.regs ∧ s'.mem = s.mem) ∧
    (s.uptime < s.wear.lastPass + 1000000 * s.fld Reg.rcCtl F.RcCtl.censusMs → exec .censusPass s = .next s) ∧
    (s.running = true → u ≤ 178 → ∃ s', exec (.handshakeTimeout u true) s = .next s' ∧
      s'.unitState u = unitFailed ∧ (∀ t, s.mcheckTarget = some t → (s'.tiller t).mcheck = true) ∧
      s'.mem = s.mem ∧ s'.slates = s.slates) ∧
    exec (.handshakeTimeout u false) s = .fault (.notGuaranteed "R19")

/-- A target whose tests pass is taken, and one that fails is marked FAILED. A due rotation with its target ready replaces the
unit, and without any target is given up; either way it leaves the queue. -/
def Rotations : Prop :=
  ∀ (s : State) (r : Rot) (m : Nat), s.running = true → s.wear.rots = [r] →
    (s.rotReady r = none → s.testTarget r = some m →
      (∃ s', exec (.rotationTargetTested true) s = .next s' ∧
        s'.wear.rots = [{ r with target := some m, tested := true }] ∧ s'.regs = s.regs ∧ s'.mem = s.mem) ∧
      (m < 156 → ∃ s', exec (.rotationTargetTested false) s = .next s' ∧ s'.unitState m = unitFailed ∧
        s'.mem = s.mem)) ∧
    (r.due = true → s.rotReady r = some m → s.rotWaits r = false →
      exec .rotation s = .next (s.rotate r.u m r.failed) ∧
      ∀ x ∈ (s.rotate r.u m r.failed).wear.rots, x.u ≠ r.u) ∧
    (r.due = true → s.rotReady r = none → s.testTarget r = none → r.failed = false →
      ∃ s', exec .rotation s = .next s' ∧ s'.wear.rots = [] ∧ s'.wear.retired = s.wear.retired ∧ s'.mem = s.mem) ∧
    (r.due = false → exec .rotation s = .next s)

/-- Roll call and rotation. -/
def Obligations.RollCallAndRotation : Prop := RollCallWindows ∧ CensusAndHandshakes ∧ Rotations

/-! ### The Tabqua path: how a command's work ends (R88, R91, R98) -/

/-- The work of an open slate that a Tiller holds ends: the slate is CLAIMED with this content at the present time, no
unit holds it and no key is in its use; device time, the lanes, the staged changes and the registers of the Tillers stay. -/
def Obligations.FinishTakesTheClaim : Prop :=
  ∀ (s : State) (id op status result : Nat) (neg : Bool) (out : Option (List Byte)), Held s id op → Unreplied s id →
    let s' := s.finish id status result neg out
    (s'.slate id).claim = some (s.mkClaim status result neg out) ∧ (s'.slate id).st = .claimed ∧
      (s'.slate id).armed = false ∧ (s'.slate id).work = .idle ∧ (s'.slate id).keys = [] ∧
      (s'.slate id).pkt = (s.slate id).pkt ∧ s'.dtime = s.dtime ∧ s'.lanes = s.lanes ∧ s'.staged = s.staged ∧
      ∀ t r, s'.gr t r = s.gr t r

/-- The commands that only report end OK with their output, and change nothing else. -/
def Obligations.ReadCommands : Prop :=
  ∀ (s : State) (id : Nat), let b (a : Nat) := toBytes (s.shownReg a).toNat 8
    (Held s id 0x0C01 → exec (.timeRead id) s =
      .next (s.finishOut id (toBytes s.dtime 8 ++ toBytes (if s.flag Reg.timeCtl F.TimeCtl.ppsInEn then
        s.rd Reg.timeStat else F.TimeStat.ppsLock.set (s.rd Reg.timeStat) 0).toNat 8))) ∧
    (Held s id 0x0010 → exec (.powerStatus id) s =
      .next (s.finishOut id (b Reg.bootStat ++ b Reg.rstCause ++ b Reg.pwrStat ++ b Reg.wakeStat))) ∧
    (Held s id 0x0E01 → exec (.rollcallStatus id) s =
      .next (s.finishOut id (b Reg.rcStat ++ ((List.range 179).map (fun u => b (Reg.rcUnit u))).flatten))) ∧
    (Held s id 0x0E03 → exec (.repairLogRead id) s =
      .next (s.finishOut id (b Reg.rlogStat ++ ((List.range 256).map (fun i => b (Reg.rlog i))).flatten))) ∧
    (Held s id 0x0E30 → exec (.dramStatus id) s =
      .next (s.finishOut id (toBytes (s.rd (Reg.dcStat 0)).toNat 8 ++ toBytes (s.rd (Reg.dcStat 1)).toNat 8 ++
        toBytes (s.rd (Reg.dcStat 2)).toNat 8 ++ toBytes (s.rd (Reg.dcStat 3)).toNat 8))) ∧
    (∀ r c l, Held s id 0x0E21 → s.marchOf (param (s.slate id).pkt 0) (param (s.slate id).pkt 1) = (r, c, l) →
      exec (.marchResult id) s = .next (s.finish id St.ok (r + 256 * (c % 256) + 65536 * (l % 256)) false none)) ∧
    (Held s id 0x0F03 → ∃ o, exec (.passStatus id) s = .next (s.finishOut id o) ∧
      slice o 0 1 = [BitVec.ofNat 8 (s.fld Reg.passStat F.PassStat.enables)] ∧
      slice o 8 8 = toBytes (s.rd Reg.passExp).toNat 8 ∧ slice o 24 8 = toBytes (s.rd Reg.passHwm).toNat 8 ∧
      (s.flag Reg.passStat F.PassStat.active = false → slice o 16 8 = zeros 8))

/-! ### Staged commands (Tables 7.2, 7.3b and 8.5) -/

/-- The command's change is staged `n` boundaries ahead. -/
def Stages (o : Out) (s : State) (id n : Nat) (x : Staged) : Prop := o = .next (s.finishStaged id n x)

/-- The command ends with a failure status and result and changes nothing of its own. -/
def Refuses (o : Out) (s : State) (id status result : Nat) : Prop := o = .next (s.finishFail id status result)

/-- A staged change takes the claim OK with the TERM at which it applies in RESULT, and stands last among the staged ones in
place of an earlier change of the same setting. -/
def StagedChange : Prop :=
  ∀ (s : State) (id op n : Nat) (x : Staged), Held s id op → Unreplied s id →
    let s' := s.finishStaged id n x
    (s'.slate id).claim = some (s.mkClaim St.ok (s.fld Reg.termStat F.TermStat.term + n) false none) ∧
      (s'.slate id).st = .claimed ∧ s'.staged = s.staged.filter (fun y => y.place != x.place) ++ [x] ∧
      s'.dtime = s.dtime

/-- Settings of the slate's own House and of functions, sealing and the Term's length. -/
def HouseSettings : Prop :=
  ∀ (s : State) (id : Nat), let p := (s.slate id).pkt; let h := (s.slate id).house
    let g := param p 0 % 64
    (Held s id 0x0101 → s.houseOf g = h →
      (((s.fnsOf h).filter (· != g)).map s.creditNext).sum + le p 53 2 ≤ s.shareNext h 0x0B →
      Stages (exec (.fnConfig id) s) s id 1
        (.fnConfig g (le p 53 2) ((param p 3).testBit 0) (le p 56 2) (le p 64 2 % 1024) (le p 66 2))) ∧
    (Held s id 0x0101 → s.houseOf g ≠ h ∨
        s.shareNext h 0x0B < (((s.fnsOf h).filter (· != g)).map s.creditNext).sum + le p 53 2 →
      Refuses (exec (.fnConfig id) s) s id St.notPermitted 0) ∧
    (Held s id 0x0103 →
      Stages (exec (.thresherSet id) s) s id 1 (.thresher h (min (le p 52 2) 462) (le p 54 2) (le p 56 2))) ∧
    (Held s id 0x0104 → Stages (exec (.regimeSet id) s) s id 1 (.regime h (param p 0 == 1))) ∧
    (Held s id 0x0107 → Stages (exec (.loanSet id) s) s id 1 (.loan h ((param p 0).testBit 0))) ∧
    (Held s id 0x0184 → Stages (exec (.partitionSeal id) s) s id 1 (.sealOn (param p 0))) ∧
    (Held s id 0x0185 → Stages (exec (.partitionUnseal id) s) s id 1 (.sealOff (param p 0))) ∧
    (Held s id 0x0186 → Stages (exec (.termSet id) s) s id 2 (.termLen (le p 52 2) 1)) ∧
    (Held s id 0x0E31 → Stages (exec (.dramSet id) s) s id 1
      (.dram (param p 0) (BitVec.ofNat 64 (le p 64 8)) (BitVec.ofNat 64 (le p 72 8)) (byteAt p 80)))

/-- Shares, ports and regions: staged where the rules allow them, else NOT_PERMITTED. -/
def PartitionSettings : Prop :=
  ∀ (s : State) (id : Nat), let p := (s.slate id).pkt; let h := param p 0
    (Held s id 0x0182 → s.shareRefused h (param p 1) (shareValue p) = false →
      exec (.shareSet id) s = .next ((s.finishStaged id 1 (.share h (param p 1) (shareValue p))).limitSlots h
        (param p 1) (shareValue p))) ∧
    (Held s id 0x0182 → s.shareRefused h (param p 1) (shareValue p) = true → Refuses (exec (.shareSet id) s) s id St.notPermitted 0) ∧
    (Held s id 0x0181 → s.bindRefused h (param p 1) = false →
      ∃ s', exec (.houseBind id) s = .next s' ∧
        ∀ q, q < 4 → (param p 1).testBit q = true → .bind h q ∈ s'.staged) ∧
    (Held s id 0x0181 → s.bindRefused h (param p 1) = true → Refuses (exec (.houseBind id) s) s id St.notPermitted 0) ∧
    (Held s id 0x0183 → s.rgnRefused h (rgnOf p) = false →
      Stages (exec (.dramRgnSet id) s) s id 1
        (.region h (rgnOf p).1 (rgnOf p).2 (!rgnRekeys (s.rgnWords h) (rgnOf p)))) ∧
    (Held s id 0x0183 → s.rgnRefused h (rgnOf p) = true →
      Refuses (exec (.dramRgnSet id) s) s id St.notPermitted 0)

/-- The journal's settings: staged where the area lies within the House's secure regions and meets no other area of its
journal, and the function is the House's; else NOT_PERMITTED. -/
def JournalSettings : Prop :=
  ∀ (s : State) (id : Nat), let p := (s.slate id).pkt; let h := (s.slate id).house
    let b := le p 64 8; let l := byteAt p 72
    let ring := s.areaRefused h (ringArea b l) [s.altNext h, s.sealNext h]
    let alt := s.areaRefused h (ringArea b l) [s.ringNext h, s.sealNext h]
    let area := s.areaRefused h (b, 4096 * 2 ^ l) [s.ringNext h, s.altNext h]
    (Held s id 0x0120 → ring = false → Stages (exec (.jrnlRing id) s) s id 1 (.jRing h b l)) ∧
    (Held s id 0x0120 → ring = true → Refuses (exec (.jrnlRing id) s) s id St.notPermitted 0) ∧
    (Held s id 0x0121 → alt = false → Stages (exec (.jrnlAlt id) s) s id 1 (.jAlt h b l)) ∧
    (Held s id 0x0121 → alt = true → Refuses (exec (.jrnlAlt id) s) s id St.notPermitted 0) ∧
    (Held s id 0x0122 → Stages (exec (.jrnlMarks id) s) s id 1 (.jMarks h (le p 52 4) (le p 56 4))) ∧
    (Held s id 0x0123 → area = false → Stages (exec (.jrnlSealCfg id) s) s id 1 (.jSeal h b l (le p 73 4))) ∧
    (Held s id 0x0123 → area = true → Refuses (exec (.jrnlSealCfg id) s) s id St.notPermitted 0) ∧
    (Held s id 0x0124 → s.houseOf (byteAt p 73) = h →
      Stages (exec (.jrnlMirror id) s) s id 1 (.jMirror h b l (byteAt p 73) (byteAt p 74 == 1) (le p 75 2))) ∧
    (Held s id 0x0124 → s.houseOf (byteAt p 73) ≠ h →
      Refuses (exec (.jrnlMirror id) s) s id St.notPermitted 0) ∧
    (Held s id 0x0125 → s.houseOf (param p 0 % 64) = h →
      Stages (exec (.jrnlAdmin id) s) s id 1 (.jAdmin h (param p 0 % 64) ((param p 1).testBit 0))) ∧
    (Held s id 0x0125 → s.houseOf (param p 0 % 64) ≠ h →
      Refuses (exec (.jrnlAdmin id) s) s id St.notPermitted 0)

/-- The commands whose changes wait for a Term boundary. -/
def Obligations.StagedCommands : Prop := StagedChange ∧ HouseSettings ∧ PartitionSettings ∧ JournalSettings

/-! ### Commands that take effect at once -/

/-- The command ends OK with a result and no output, and the state after it satisfies `P`. -/
def EndsOk (o : Out) (s : State) (id result : Nat) (P : State → Prop) : Prop :=
  ∃ s', o = .next s' ∧ (s'.slate id).claim = some (s.mkClaim St.ok result false none) ∧
    (s'.slate id).st = .claimed ∧ P s'

/-- TIME_SET, TIME_CANCEL and TIME_MASTER_SET (R30, R41): a time in the past is NOT_PERMITTED; without a recent PPS edge the
time steps at once, with one it has to be a whole second and waits for the edge. -/
def TimeCommands : Prop :=
  ∀ (s : State) (id : Nat), Unreplied s id → let p := (s.slate id).pkt; let t := le p 52 8
    (Held s id 0x0C02 → t < s.dtime → Refuses (exec (.timeSet id) s) s id St.notPermitted 0) ∧
    (Held s id 0x0C02 → s.dtime ≤ t → (s.flag Reg.timeCtl F.TimeCtl.ppsInEn && s.edgeRecent) = false →
      ∃ s', exec (.timeSet id) s = .next s' ∧ s'.dtime = t ∧
        (s'.slate id).claim = some (s.mkClaim St.ok 0 false (some (toBytes t 8)))) ∧
    (Held s id 0x0C02 → s.dtime ≤ t → (s.flag Reg.timeCtl F.TimeCtl.ppsInEn && s.edgeRecent) = true →
      t % 1000000000 = 0 → ∃ s', exec (.timeSet id) s = .next s' ∧ s'.dtime = s.dtime ∧
        s'.tb.pendSet = some (t, s.uptime - (s.dtime - (s.slate id).tc)) ∧ s'.flag Reg.timeStat F.TimeStat.setPending = true ∧
        (s'.slate id).claim = some (s.mkClaim St.ok 1 false (some (toBytes t 8)))) ∧
    (Held s id 0x0C02 → s.dtime ≤ t → (s.flag Reg.timeCtl F.TimeCtl.ppsInEn && s.edgeRecent) = true →
      t % 1000000000 ≠ 0 → Refuses (exec (.timeSet id) s) s id St.format 52) ∧
    (Held s id 0x0C03 → s.tb.pendSet.isSome = true → EndsOk (exec (.timeCancel id) s) s id 1 (fun s' =>
      s'.tb.pendSet = none ∧ s'.flag Reg.timeStat F.TimeStat.setPending = false ∧
      s'.flag Reg.timeStat F.TimeStat.setLapsed = true)) ∧
    (Held s id 0x0C03 → s.tb.pendSet = none → EndsOk (exec (.timeCancel id) s) s id 0 (fun s' => s'.tb = s.tb)) ∧
    (Held s id 0x0081 → EndsOk (exec (.timeMasterSet id) s) s id 0 (fun s' =>
      s'.fld Reg.timeCtl F.TimeCtl.masterGfn = param p 0 % 64 ∧
      s'.flag Reg.timeCtl F.TimeCtl.masterEn = (param p 0).testBit 7))

/-- VPOLICY_SET, VFLOOR_SET and BOUND_SET write their settings and ask for an evaluation; TEMPLATE_WRITE writes its entries;
CONFIG_SAVE keeps the settings; ROT_POLICY sets the policy. -/
def PolicyCommands : Prop :=
  ∀ (s : State) (id : Nat), Unreplied s id → let p := (s.slate id).pkt; let h := (s.slate id).house
    (Held s id 0x0080 → EndsOk (exec (.vpolicySet id) s) s id 0 (fun s' =>
      s'.fld Reg.vpolCtl F.VpolCtl.policy = param p 0 % 2 ^ F.VpolCtl.policy.w ∧
      s'.fld Reg.vpolCtl F.VpolCtl.floor = param p 1 % 2 ^ F.VpolCtl.floor.w ∧
      s'.fld Reg.vpolCtl F.VpolCtl.margin = param p 2 % 2 ^ F.VpolCtl.margin.w ∧
      s'.fld Reg.vpolCtl F.VpolCtl.period = param p 4 % 2 ^ F.VpolCtl.period.w ∧
      s'.fld Reg.avsCtl F.AvsCtl.avsTimeout = le p 58 2 % 2 ^ F.AvsCtl.avsTimeout.w ∧ s'.avs.evalNow = true)) ∧
    (Held s id 0x0105 → h < 4 → EndsOk (exec (.vfloorSet id) s) s id 0 (fun s' =>
      s'.vfloorOf h = min 12 (param p 0) ∧ s'.avs.evalNow = true)) ∧
    (Held s id 0x0106 → EndsOk (exec (.boundSet id) s) s id 0 (fun s' =>
      s'.fld (Reg.houseBound h) F.HouseBound.decl = le p 52 4 % 2 ^ F.HouseBound.decl.w ∧ s'.avs.evalNow = true)) ∧
    (Held s id 0x0102 → EndsOk (exec (.templateWrite id) s) s id 0 (fun s' =>
      ∀ k, k < param p 2 → s'.rd (Reg.tpl (1024 * h + le p 52 2 + k)) = BitVec.ofNat 64 (le p (64 + 8 * k) 8))) ∧
    (Held s id 0x018F → EndsOk (exec (.configSave id) s) s id 0 (fun s' =>
      (∀ a, isSaved a = true → Map.find a s'.flash.cfg = Map.find a s'.regs) ∧ s'.flash.supers = s.supers)) ∧
    (Held s id 0x00A1 → EndsOk (exec (.rotPolicy id) s) s id 0 (fun s' =>
      s'.fld Reg.rotPol F.RotPol.autoWorn = le p 52 2 % 2 ^ F.RotPol.autoWorn.w ∧
      s'.fld Reg.rotPol F.RotPol.autoFail = le p 54 2 % 2 ^ F.RotPol.autoFail.w ∧
      s'.fld Reg.rcCtl F.RcCtl.censusMs = le p 56 2 % 2 ^ F.RcCtl.censusMs.w))

/-- MARKS_CONFIG sets the House's buffer and a unit's selector; MARKS_SNAPSHOT writes nothing while the Marker is off;
JRNL_RETIRE retires; a pass that verifies replaces the installed one, and its end ends every enable. -/
def MarksAndPasses : Prop :=
  ∀ (s : State) (id : Nat), Unreplied s id → let p := (s.slate id).pkt; let h := (s.slate id).house
    (Held s id 0x0E11 → s.bufferOk h (le p 64 8) (128 * 2 ^ byteAt p 72) = true → marksEntries p = [] →
      EndsOk (exec (.marksConfig id) s) s id 0 (fun s' =>
        s'.rd (Reg.mkBuf h) = BitVec.ofNat 64 (le p 64 8 + byteAt p 72) ∧ s'.snapAt h = (0, 0))) ∧
    (∀ e, Held s id 0x0E11 → s.bufferOk h (le p 64 8) (128 * 2 ^ byteAt p 72) = true → marksEntries p = [e] →
      s.holdsUnit h e.1 = true → EndsOk (exec (.marksConfig id) s) s id 0 (fun s' =>
        s'.rd (Reg.mkUsel e.1 e.2.1) = BitVec.ofNat 64
          (e.2.2.1 % 2 * 2 ^ 63 + e.2.2.1 / 2 % 2 * 2 ^ 62 + e.2.2.2))) ∧
    (Held s id 0x0E11 → s.bufferOk h (le p 64 8) (128 * 2 ^ byteAt p 72) = false →
      Refuses (exec (.marksConfig id) s) s id St.notPermitted 0) ∧
    (Held s id 0x0E10 → s.flag Reg.mkCtl F.MkCtl.en = false →
      exec (.marksSnapshot id) s = .next (s.finishOk id)) ∧
    (Held s id 0x0E10 → s.flag Reg.mkCtl F.MkCtl.en = true → exec (.marksSnapshot id) s =
      .next ((s.finishOk id).snapshot (if (s.slate id).signer = some ownerSigner then 4 else h) 1)) ∧
    (Held s id 0x0B04 → lowestBad (s.jrangeChecks h (pkOpcode p) p) = none →
      EndsOk (exec (.jrnlRetire id) s) s id 0 (fun s' => (s'.house h).j.retired = le p 52 8)) ∧
    (∀ o, Held s id 0x0B04 → lowestBad (s.jrangeChecks h (pkOpcode p) p) = some o →
      Refuses (exec (.jrnlRetire id) s) s id St.format o) ∧
    (Held s id 0x0F01 → lowestBad (passChecks p) = none → s.passTagOk p = true → s.dtime < le p 80 8 →
      (s.rd Reg.passHwm).toNat < le p 88 8 → byteAt p 96 % 2 = 0 → byteAt p 98 = 0 →
      EndsOk (exec (.passInstall id) s) s id 0 (fun s' =>
        s'.rd Reg.passHwm = BitVec.ofNat 64 (le p 88 8) ∧ s'.flash.passHwm = BitVec.ofNat 64 (le p 88 8) ∧
        s'.rd Reg.passExp = BitVec.ofNat 64 (le p 80 8) ∧ s'.flag Reg.passStat F.PassStat.active = true ∧
        s'.fld Reg.passStat F.PassStat.enables = byteAt p 96 % 2 ^ F.PassStat.enables.w)) ∧
    (Held s id 0x0F01 → lowestBad (passChecks p) = none → s.passTagOk p = false →
      exec (.passInstall id) s = .next (s.finishNeg id 5 none)) ∧
    (Held s id 0x0F01 → lowestBad (passChecks p) = none → s.passTagOk p = true →
      le p 80 8 ≤ s.dtime ∨ le p 88 8 ≤ (s.rd Reg.passHwm).toNat →
      Refuses (exec (.passInstall id) s) s id St.notPermitted 0) ∧
    (Held s id 0x0F02 → EndsOk (exec (.passRevoke id) s) s id 0 (fun s' =>
      s'.rd Reg.passStat = 0 ∧ s'.rd Reg.passExp = 0 ∧
      ∀ t, (s'.tiller t).dbgHalt = false ∧ (s'.tiller t).breaks = []))

/-- Commands that set something at once. -/
def Obligations.SettingCommands : Prop := TimeCommands ∧ PolicyCommands ∧ MarksAndPasses

/-- WARM_RESET and STOP_ENTER end OK with the reset, or the entry, to follow their reply; a leased Sheaf queues the entry.
DOMAIN_SET waits for stores that must drain. The firmware commands write the slot that is not running, and prefer it once
it passes R403. -/
def PowerCommands : Prop :=
  ∀ (s : State) (id : Nat), Unreplied s id → let p := (s.slate id).pkt
    let low : Prop := Held s id 0x00C2 ∧ param p 1 = 0
    (Held s id 0x00C0 → EndsOk (exec (.warmReset id) s) s id 0 (fun s' => (s'.slate id).after = true)) ∧
    (Held s id 0x00C1 → s.deviceUnkept = true → Refuses (exec (.stopEnter id) s) s id St.notPermitted 0) ∧
    (Held s id 0x00C1 → (s.deviceUnkept = false) → (s.loadPower p).sheafLeased = false →
      EndsOk (exec (.stopEnter id) s) s id 0 (fun s' => (s'.slate id).after = true)) ∧
    (Held s id 0x00C1 → s.deviceUnkept = false → (s.loadPower p).sheafLeased = true → s.power.offQueue = [] →
      ∃ s', exec (.stopEnter id) s = .next s' ∧ s'.stopQueued = true ∧
        s'.fld Reg.pwrStat F.PwrStat.state = pwrQueued ∧
        (s'.slate id).claim = some (s.mkClaim St.leased 0 false none)) ∧
    (∀ u, low → s.requestOff (param p 0) .host = .done u → exec (.domainSet id) s = .next (u.finishOk id)) ∧
    (∀ u, low → s.requestOff (param p 0) .host = .leased u → Refuses (exec (.domainSet id) s) u id St.leased 0) ∧
    (low → s.requestOff (param p 0) .host = .refused →
      Refuses (exec (.domainSet id) s) s id St.notPermitted 0) ∧
    (low → s.requestOff (param p 0) .host = .wait → exec (.domainSet id) s = .next s) ∧
    (Held s id 0x00C2 → param p 1 ≠ 0 →
      exec (.domainSet id) s = .next (((s.requestOn (param p 0)).wakePort (param p 0)).finishOk id)) ∧
    (∀ l, Held s id 0x00C3 →
      let w := s.freshWord
      exec (.fwStage id (.bytes l) true) s = .next (({ s with
        flash := s.flash.setImage s.otherSlot (imageOf (slice l 0 (le p 72 4))) }).finishOk id) ∧
      exec (.fwStage id (.bytes l) false) s = .next (({ w.2 with
        flash := s.flash.setImage s.otherSlot (freeImage w.1) }).finishFail id St.integrity 0)) ∧
    (Held s id 0x00C3 → le p 72 4 ≠ 0 → ∀ ok, Refuses (exec (.fwStage id .error ok) s) s id St.format 64) ∧
    (Held s id 0x00C4 → s.flash.slotPasses s.otherSlot = true → EndsOk (exec (.fwCommit id true true) s) s id 0 (fun s' =>
      s'.flash.pref = s.otherSlot ∧
      s'.flash.minSvn = if (param p 0).testBit 0 then (s.flash.slotOf s.otherSlot).svn else s.flash.minSvn)) ∧
    (∀ head body, Held s id 0x00C4 → (head && body && s.flash.slotPasses s.otherSlot) = false →
      exec (.fwCommit id head body) s = .next (s.finishNeg id 7 none))

/-- House and unit resets, ROTATE, an extra census pass and a march test end OK, and their effect follows; what the unit's
state does not allow is NOT_PERMITTED. -/
def UnitCommands : Prop :=
  ∀ (s : State) (id : Nat), Unreplied s id → let p := (s.slate id).pkt; let h := (s.slate id).house
    let u := le p 52 2; let m := le p 54 2; let k := param p 0; let n := param p 1
    (Held s id 0x010F → exec (.houseReset id) s = .next ((s.finishOk id).resetIfUp h)) ∧
    (Held s id 0x0188 → exec (.houseResetOwner id) s = .next ((s.finishOk id).resetIfUp (param p 0))) ∧
    (Held s id 0x00A2 → exec (.unitReset id) s = .next ((s.finishOk id).unitReset u)) ∧
    (Held s id 0x00A0 → s.rotatable u = true → s.rotQueued u = false → s.targetOk u m = true →
      EndsOk (exec (.rotate id) s) s id 0 (fun s' => s'.rotQueued u = true ∧
        ∀ r ∈ s'.wear.rots, r.u = u → r.target = (if m = 0xFFFF then none else some m) ∧
          r.now = (byteAt p 56).testBit 0)) ∧
    (Held s id 0x00A0 → s.rotatable u = false ∨ s.rotQueued u = true ∨ s.targetOk u m = false →
      Refuses (exec (.rotate id) s) s id St.notPermitted 0) ∧
    (Held s id 0x0E02 → EndsOk (exec (.rollcallRun id) s) s id 0 (fun s' => s'.wear.passRunning = true)) ∧
    (Held s id 0x0E20 → s.marchRefused k n (param p 2) = false →
      EndsOk (exec (.marchRun id) s) s id 0 (fun s' => (s'.marchOf k n).1 = marchRunning ∧
        (param p 2 = 0 → Map.find n s'.wear.marchLine = some 0))) ∧
    (Held s id 0x0E20 → s.marchRefused k n (param p 2) = true →
      Refuses (exec (.marchRun id) s) s id St.notPermitted 0)

/-- Power, firmware, resets and units. -/
def Obligations.PowerAndUnitCommands : Prop := PowerCommands ∧ UnitCommands

/-! ### Key commands (R161 to R184, R195 to R197) -/

/-- Reports of a key and of the journal, where the handle resolves and the range stands. -/
def KeyReports : Prop :=
  ∀ (s : State) (id : Nat), let p := (s.slate id).pkt; let h := (s.slate id).house; let a := le p 52 8
    let n := le p 64 4
    (∀ r k u, Held s id 0x0201 → s.getKey h (pkKey p 0) = .ok r k u →
      exec (.keyInfo id) s = .next (u.finishOut id (keyInfo k))) ∧
    (∀ u, Held s id 0x0201 → s.getKey h (pkKey p 0) = .absent u →
      exec (.keyInfo id) s = .next (u.finishFail id St.keyAbsent 0)) ∧
    (∀ r k u, Held s id 0x0202 → s.getKey h (pkKey p 0) = .ok r k u →
      exec (.pubkeyRead id) s =
        .next (if isAsym (attrType k.attr) then u.finishOut id k.pub else u.finishFail id St.keyUsage 0)) ∧
    (Held s id 0x0B01 → exec (.jrnlStatus id) s = .next (s.finishOut id
      (toBytes (s.house h).j.next 8 ++ toBytes (s.house h).j.retired 8 ++ (s.house h).j.lastSealed))) ∧
    (Held s id 0x0B02 → lowestBad (s.jrangeChecks h (pkOpcode p) p) = none → s.recordsHeld h a n = false →
      (∀ i, i < n → s.readError (s.ringLine h (a + i)) 64 = false) →
      exec (.jrnlRead id) s = .next (s.finishOut id (s.ringRecords h a n))) ∧
    (Held s id 0x0B03 → lowestBad (s.jrangeChecks h (pkOpcode p) p) = none →
      (∀ x ∈ (s.house h).j.seals, x.no ≠ a) → s.frozenAt (s.sealAddr h a) = false →
      s.readError (s.sealAddr h a) 4096 = false →
      exec (.jrnlSealRead id) s = .next (s.finishOut id (s.bytesAt (s.sealAddr h a) 4096)))

/-- Key blocks and records: a record of either class that unwraps goes to its table entry (an asymmetric one comes from a host
buffer, log 16), a block whose MAC is good becomes a key, and an exportable key leaves under a strong enough KBPK. -/
def KeyTransport : Prop :=
  ∀ (s : State) (id : Nat), let p := (s.slate id).pkt; let h := (s.slate id).house
    let sym := slice p 64 128
    let named (b : List Byte) : Word := BitVec.ofNat 64 (le b 0 8)
    let loads (o : Out) (asym : Bool) (b : List Byte) : Prop := ∃ u : State, u.slates = s.slates ∧
      (∀ x, Memory.byte u.mem x = (let a := s.tableEntry h asym (hIndex (named b))
        if a ≤ x ∧ x < a + b.length then b.getD (x - a) 0 else Memory.byte s.mem x)) ∧ o = .next (u.finishOk id)
    let fits (asym : Bool) (b : List Byte) : Prop := hHouse (named b) = h ∧ hKind (named b) = (if asym then 4 else 3) ∧
      (s.unwrap h b).isSome = true
    (∀ inp, Held s id 0x0203 → pkOwnWords p ≠ 1 → let o := exec (.recordLoad ⟨id, inp⟩) s
      (fits false sym → hIndex (named sym) < s.tableCount h false → loads o false sym) ∧
      (fits false sym → s.tableCount h false ≤ hIndex (named sym) → Refuses o s id St.notPermitted 0) ∧
      (¬ fits false sym → o = .next (s.finishNeg id 5 none))) ∧
    (∀ l, Held s id 0x0203 → pkOwnWords p = 1 → let b := slice l 0 4096; let o := exec (.recordLoad ⟨id, .bytes l⟩) s
      (fits true b → hIndex (named b) < s.tableCount h true → loads o true b) ∧
      (fits true b → s.tableCount h true ≤ hIndex (named b) → Refuses o s id St.notPermitted 0) ∧
      (¬ fits true b → o = .next (s.finishNeg id 5 none))) ∧
    (Held s id 0x0203 → pkOwnWords p = 1 → Refuses (exec (.recordLoad ⟨id, .error⟩) s) s id St.format 64) ∧
    (∀ r k u key pl w, Held s id 0x0281 → s.getKey h (pkKey p 0) = .ok r k u → hKind (pkKey p 0) ≠ 5 →
      kbpkOk bUnwrap k = true → u.useOk k = true →
      openBlock (attrType k.attr) (strength (attrType k.attr) 0) k.val (slice p 64 (le p 52 2)) = .key key →
      (u.countUse r).place h key (param p 2) (le p 56 4) = (some pl, w) →
      exec (.keyImport id) s = .next (w.finishOut id (createdOutput pl key false))) ∧
    (∀ r kb u q k w, Held s id 0x0282 → s.getKey h (pkKey p 0) = .ok r kb u → hKind (pkKey p 0) ≠ 5 →
      kbpkOk bWrap kb = true → u.useOk kb = true →
      u.getKey h (pkKey p 1) = .ok q k w → hKind (pkKey p 1) ≠ 5 → isAsym (attrType k.attr) = false →
      (attrExport k.attr = 1 ∨ attrExport k.attr = 2) → param p 0 = versionOf (attrType kb.attr) →
      strength (attrType k.attr) (attrKlen k.attr) ≤ strength (attrType kb.attr) 0 →
      exec (.keyExport id) s = .next ((w.countUse r).finishOut id (exportBlock kb k)))

/-- KEY_GENERATE draws from the House's DRBG, and waits while it is dry; PUBKEY_LOAD takes a valid public key; KEY_DELETE
marks its key, with the reply waiting until no slate holds it. -/
def KeyCreation : Prop :=
  ∀ (s : State) (id blocks : Nat) (l : List Byte), let p := (s.slate id).pkt; let h := (s.slate id).house
    let spec := extWord p 0; let ty := attrType (specAttr spec); let n := genBytes ty (attrKlen (specAttr spec)) blocks
    let pub := slice l 0 (le p (extOff 1 32) 4); let v := pkKey p 0
    (Held s id 0x0283 → s.drbgReady h n = true → isAsym ty = false →
      exec (.keyGenerate id blocks) s = .next ((s.draw h n).2.create id spec
        (specKey spec [bGenerated] (s.draw h n).1 []) [] true)) ∧
    (Held s id 0x0283 → s.drbgReady h n = true → isAsym ty = true →
      let val := (s.draw h n).1.drop (n - privLen ty)
      exec (.keyGenerate id blocks) s = .next ((s.draw h n).2.create id spec
        (specKey spec [bGenerated] val ((List.range (pubLen ty)).map (Config.pkOut ty val [] [] 0))) [] true)) ∧
    (Held s id 0x0283 → s.drbgReady h n = false → exec (.keyGenerate id blocks) s = .next s) ∧
    (Held s id 0x0284 → exec (.pubkeyLoad id (.bytes l)) s = .next (
      if pkValid ty pub = true then s.create id spec (specKey spec [] [] pub) [] false
      else s.finishNeg id 8 (some (zeros (if byteAt spec 32 = 1 then 16 + 4096 else 16))))) ∧
    (Held s id 0x0284 → le p (extOff 1 32) 4 ≠ 0 →
      Refuses (exec (.pubkeyLoad id .error) s) s id St.format (extOff 1 24)) ∧
    (∀ r k u, Held s id 0x0285 → Unreplied s id → s.getKey h v = .ok r k u → hKind v ≠ 5 →
      ∃ w : State, (w.slate id).waiting = true ∧ (∀ j, j ≠ id → w.slate j = s.slate j) ∧
        (hKind v = 1 → (w.slot false (slotNo false h (hIndex v))).deleting = true) ∧
        (hKind v = 2 → (w.slot true (slotNo true h (hIndex v))).deleting = true) ∧
        (hKind v ≠ 1 → hKind v ≠ 2 → ∀ e ∈ w.symCache ++ w.asymCache, e.handle = v → e.key.deleting = true) ∧
        exec (.keyDelete id) s = .next (w.finishOk id)) ∧
    (∀ u, Held s id 0x0285 → s.getKey h v = .absent u → Refuses (exec (.keyDelete id) s) u id St.keyAbsent 0) ∧
    (∀ pl w b k, s.place h k (byteAt spec 32) (le spec 36 4) = (some pl, w) →
      s.create id spec k b false = w.finishOut id (b ++ createdOutput pl k false))

/-- A component session opens, starts an exchange with a card, closes into a key, or is given up; one session at a time.
COMP_ENTER waits for a busy interface and for a dry DRBG; without a card it ends with reason 0x09 and a free status word
(log 42). -/
def ComponentSessions : Prop :=
  ∀ (s : State) (id : Nat), let p := (s.slate id).pkt; let h := (s.slate id).house; let i := param p 0
    (Held s id 0x0286 → s.session h = none → ∃ s', exec (.compBegin id) s = .next s' ∧
      s'.session h = some ⟨extWord p 0, param p 0, 0, [], s.uptime⟩) ∧
    (Held s id 0x0286 → (s.session h).isSome = true → Refuses (exec (.compBegin id) s) s id St.notPermitted 0) ∧
    (∀ c, Held s id 0x0287 → s.session h = some c → c.cards.length < c.count →
      ((s.card i).exchange = none → (s.card i).present = true → s.drbgReady h 80 = true →
        ∃ s' x, exec (.compEnter id) s = .next s' ∧ (s'.card i).exchange = some x ∧
          x.slate = some (id, (s.slate id).gen) ∧ x.at_ = .select ∧
          x.eph ++ x.nonce = (s.draw h 80).1 ∧ s'.out = .apdu i x.command :: s.out ∧
          s'.slates = s.slates ∧ ∀ k, k ≠ h → s'.house k = s.house k) ∧
      ((s.card i).exchange.isSome = true ∨ ((s.card i).present = true ∧ s.drbgReady h 80 = false) →
        exec (.compEnter id) s = .next s) ∧
      ((s.card i).exchange = none → (s.card i).present = false → exec (.compEnter id) s =
        .next (s.freshWord.2.finishNeg id (s.freshWord.1.toNat % 65536 * 65536 + 9) (some (zeros 8))))) ∧
    (∀ c, Held s id 0x0287 → s.session h = some c → c.count ≤ c.cards.length →
      Refuses (exec (.compEnter id) s) s id St.notPermitted 0) ∧
    (Held s id 0x0287 → s.session h = none → Refuses (exec (.compEnter id) s) s id St.notPermitted 0) ∧
    (∀ c pl w, Held s id 0x0288 → s.session h = some c → c.cards.length = c.count →
      s.place h (c.key c.acc) (byteAt c.spec 32) (le c.spec 36 4) = (some pl, w) →
      exec (.compComplete id) s =
        .next ((w.finishOut id (createdOutput pl (c.key c.acc) false)).setSession h none)) ∧
    (∀ c, Held s id 0x0288 → s.session h = some c → c.cards.length ≠ c.count →
      Refuses (exec (.compComplete id) s) s id St.notPermitted 0) ∧
    (Held s id 0x0289 → ∃ s', exec (.compAbort id) s = .next s' ∧ s'.session h = none)

/-- What rolls, clears or replaces keys: HSK_EPOCH rises; a zeroised House has no key in any slot; a rekey window opens; the
custodian root, the tamper settings and the command key are set; LATCH clears only with owner keys. -/
def KeyStoreCommands : Prop :=
  ∀ (s : State) (id : Nat), Unreplied s id → let p := (s.slate id).pkt; let h := (s.slate id).house
    (Held s id 0x028E → ∃ u : State, u = s.finishOk id ∧ ∃ s', exec (.hskRoll id) s = .next s' ∧
      (s'.house h).hskEpoch = (u.house h).hskEpoch + 1 ∧
      (s'.slate id).claim = some (s.mkClaim St.ok 0 false none)) ∧
    (Held s id 0x028F → EndsOk (exec (.houseZeroise id) s) s id 0 (fun s' =>
      (∀ asym n, (s'.slot asym n).used = true → (s'.slot asym n).house ≠ h) ∧
      ∀ e ∈ s'.symCache ++ s'.asymCache, hHouse e.handle ≠ h)) ∧
    (Held s id 0x02A0 → EndsOk (exec (.ownerRekey id) s) s id 0 (fun s' => s'.rekeyAt = some s.uptime)) ∧
    (Held s id 0x02A1 → EndsOk (exec (.custRootSet id) s) s id 0 (fun s' =>
      s'.dev.custRoot = some (BitVec.ofNat 384 (ofBytesBE (slice (extWord p 0) 0 48))) ∧
      s'.flash.dev.custRoot = s'.dev.custRoot)) ∧
    (Held s id 0x02C0 → EndsOk (exec (.tamperConfig id) s) s id 0 (fun s' =>
      s'.rd Reg.tampCtl = BitVec.ofNat 64 (le p 52 4))) ∧
    (Held s id 0x02C1 → s.dev.ownerMaster.isSome = true → EndsOk (exec (.tamperClear id) s) s id 0 (fun s' =>
      s'.flag Reg.tampStat F.TampStat.latch = false)) ∧
    (Held s id 0x02C1 → s.dev.ownerMaster = none → Refuses (exec (.tamperClear id) s) s id St.notPermitted 0) ∧
    (∀ ok key, let b := slice p 64 (le p 54 2)
      Held s id 0x0187 → s.dev.okek = some ok → byteAt b 0 = 0x44 →
      openBlock 3 256 (toBytesBE ok.toNat 32) b = .key key → attrType key.attr = 3 →
      EndsOk (exec (.houseRekey id) s) s id 0 (fun s' =>
        Map.find (param p 0) s'.dev.cmd = some (BitVec.ofNat 256 (ofBytesBE key.val)) ∧
        (s'.house (param p 0)).ctr = []))

/-- The key commands. -/
def Obligations.KeyCommands : Prop :=
  KeyReports ∧ KeyTransport ∧ KeyCreation ∧ ComponentSessions ∧ KeyStoreCommands

/-! ### Public-key operations, hashes and the fast path (R104 to R130, R189 to R191) -/

/-- SIGN and VERIFY: a key of KEY0 whose usage, mode and TYPE fit, and the buffers as the host function reads them. A
signature that does not verify is a negative with reason 7, a public key that is not valid one with reason 8, and a buffer
that does not read ends FORMAT. -/
def Signatures : Prop :=
  ∀ (s : State) (id : Nat) (m a q : List Byte), let p := (s.slate id).pkt; let h := (s.slate id).house
    let inp := slice m 0 (le p 72 4); let sig := slice a 0 (le p 76 4); let pub := slice q 0 (le p 96 4)
    (∀ r k u, Held s id 0x0801 → s.drbgReady h (nonceLen p) = true → s.getKey h (pkKey p 0) = .ok r k u →
      hKind (pkKey p 0) ≠ 5 → opKey p [0x10] bGenerate k = true → u.useOk k = true →
      let w := u.countUse r
      exec (.sign id (.bytes m) (.bytes a) (.bytes q)) s = .next ((w.draw h (nonceLen p)).2.finishOut id
        ((List.range (sigLen (opAlg p))).map (Config.pkOut (opAlg p) k.val (opForm p ++ inp) (w.draw h (nonceLen p)).1 1))) ∧
      (le p 72 4 ≠ 0 → exec (.sign id .error (.bytes a) (.bytes q)) s = .next (u.finishFail id St.format 64))) ∧
    (∀ r k u, Held s id 0x0801 → s.drbgReady h (nonceLen p) = true → s.getKey h (pkKey p 0) = .ok r k u →
      hKind (pkKey p 0) = 5 ∨ opKey p [0x10] bGenerate k = false ∨ u.useOk k = false →
      exec (.sign id (.bytes m) (.bytes a) (.bytes q)) s = .next (u.finishFail id St.keyUsage 0)) ∧
    (Held s id 0x0801 → s.drbgReady h (nonceLen p) = false →
      exec (.sign id (.bytes m) (.bytes a) (.bytes q)) s = .next s) ∧
    let verified (u : State) (key : List Byte) : State :=
      if pkValid (opAlg p) key = false then u.finishNeg id 8 none
      else if Config.pkVerify (opAlg p) key inp sig (opForm p) = true then u.finishOk id else u.finishNeg id 7 none
    (Held s id 0x0802 → pkKey p 0 = 0 →
      exec (.verify id (.bytes m) (.bytes a) (.bytes q)) s = .next (verified s pub)) ∧
    (∀ r k u, Held s id 0x0802 → pkKey p 0 ≠ 0 → s.getKey h (pkKey p 0) = .ok r k u → hKind (pkKey p 0) ≠ 5 →
      opKey p [0x10, 0x11] bVerify k = true → u.useOk k = true →
      exec (.verify id (.bytes m) (.bytes a) (.bytes q)) s = .next (verified (u.countUse r) k.pub))

/-- ENCAPSULATE, DECAPSULATE and ECDH make a key under their specification; a public key that is not valid ends with
reason 8. -/
def SecretSharing : Prop :=
  ∀ (s : State) (id : Nat) (m a q : List Byte), let p := (s.slate id).pkt; let h := (s.slate id).house
    let spec := extWord p 1; let x := slice a 0 (le p 76 4); let pub := slice q 0 (le p 96 4)
    let out (key msg rnd : List Byte) (n f : Nat) : List Byte :=
      (List.range n).map (Config.pkOut (opAlg p) key msg rnd f)
    let shares (u : State) (key : List Byte) : State :=
      if pkValid (opAlg p) key = false then
        u.finishNeg id 8 (some (zeros (kemLen (opAlg p) + (if byteAt spec 32 = 1 then 144 else 16))))
      else
        let d := u.draw h 32
        d.2.create id spec (specKey spec [] (out key [] d.1 32 3) []) (out key [] d.1 (kemLen (opAlg p)) 2) false
    (Held s id 0x0803 → s.drbgReady h 32 = true → pkKey p 0 = 0 →
      exec (.encapsulate id (.bytes m) (.bytes a) (.bytes q)) s = .next (shares s pub)) ∧
    (∀ r k u, Held s id 0x0803 → s.drbgReady h 32 = true → pkKey p 0 ≠ 0 → s.getKey h (pkKey p 0) = .ok r k u →
      hKind (pkKey p 0) ≠ 5 → opKey p [0x12, 0x13] bEncrypt k = true → u.useOk k = true →
      exec (.encapsulate id (.bytes m) (.bytes a) (.bytes q)) s = .next (shares (u.countUse r) k.pub)) ∧
    (Held s id 0x0803 → s.drbgReady h 32 = false →
      exec (.encapsulate id (.bytes m) (.bytes a) (.bytes q)) s = .next s) ∧
    (∀ r k u, Held s id 0x0804 → s.getKey h (pkKey p 0) = .ok r k u → hKind (pkKey p 0) ≠ 5 →
      opKey p [0x12] bDecrypt k = true → u.useOk k = true →
      exec (.decapsulate id (.bytes m) (.bytes a) (.bytes q)) s = .next ((u.countUse r).create id spec
        (specKey spec [] (out k.val x [] 32 4) []) [] false)) ∧
    (∀ r k u, Held s id 0x0805 → s.getKey h (pkKey p 0) = .ok r k u → hKind (pkKey p 0) ≠ 5 →
      opKey p [0x14] bDerive k = true → u.useOk k = true →
      let peer := x.take (pubLen (opAlg p))
      let z := out k.val peer [] (privLen (opAlg p)) 5
      let n := symLen (attrType (specAttr spec)) (attrKlen (specAttr spec))
      exec (.ecdh id (.bytes m) (.bytes a) (.bytes q)) s = .next (
        if pkValid (opAlg p) peer = false then
          (u.countUse r).finishNeg id 8 (some (zeros (if byteAt spec 32 = 1 then 144 else 16)))
        else (u.countUse r).create id spec (specKey spec []
          (slice (oneStep sha256b z (x.drop (pubLen (opAlg p)))) 0 n) []) [] false))

/-- The long hashes end OK with their digest of the packet's message. -/
def LongHashes : Prop :=
  ∀ (s : State) (id : Nat), let p := (s.slate id).pkt; let m := slice p 64 (le p 52 2)
    (Held s id 0x0902 →
      exec (.sha384 id) s = .next (s.finishOut id (toBytesBE (Config.sha384 m).toNat 48))) ∧
    (Held s id 0x0903 →
      exec (.sha512 id) s = .next (s.finishOut id (toBytesBE (Config.sha512 m).toNat 64))) ∧
    (Held s id 0x0904 →
      exec (.sha3256 id) s = .next (s.finishOut id (toBytesBE (Config.sha3_256 m).toNat 32))) ∧
    (Held s id 0x0905 →
      exec (.sha3512 id) s = .next (s.finishOut id (toBytesBE (Config.sha3_512 m).toNat 64))) ∧
    (Held s id 0x0906 →
      exec (.shake256 id) s = .next (s.finishOut id ((List.range (param p 2)).map (Config.shake256 m))))

/-- Signatures, key agreement and long hashes on Tabqua. -/
def Obligations.PublicKeyCommands : Prop := Signatures ∧ SecretSharing ∧ LongHashes

/-- In its lane a fast-path command computes the slate's result from its packet, its keys and its random fill; the claim is
not yet taken, and nothing else of the slate changes. A slate whose key was zeroised gets KEY_ABSENT. -/
def ComputesInLane (o : Out) (s : State) (id op : Nat) : Prop :=
  s.inLane id op = true →
    let sl := s.slate id
    let ks := sl.keys.map (s.keyAt sl.house)
    let d := s.fastDraw sl.house sl.pkt
    ∃ s', o = .next s' ∧ s'.slate id = { sl with res := some (match goneKey 0 ks with
        | some i => s.mkClaim St.keyAbsent i false none
        | none => s.mkClaim (fastRun sl.pkt ks d.1).status (fastRun sl.pkt ks d.1).result
            (fastRun sl.pkt ks d.1).neg (fastRun sl.pkt ks d.1).out) } ∧
      (∀ j, j ≠ id → s'.slate j = s.slate j) ∧ s'.mem = s.mem ∧ s'.tillers = s.tillers ∧ s'.dtime = s.dtime

/-- Forwarded to Tabqua, a fast-path command whose keys are there and usable counts their uses and ends with the same
result; it waits for random fill while the DRBG is dry. A key that was zeroised ends it KEY_ABSENT, one that may not be used
now KEY_USAGE. -/
def EndsForwarded (o : Out) (s : State) (id op : Nat) : Prop :=
  Held s id op →
    let sl := s.slate id
    let ks := sl.keys.map (s.keyAt sl.house)
    let d := s.fastDraw sl.house sl.pkt
    let r := fastRun sl.pkt ks d.1
    let dry : Prop := needsFill sl.pkt = true ∧ s.drbgReady sl.house 16 = false
    (∀ i, goneKey 0 ks = some i → Refuses o s id St.keyAbsent i) ∧
    (∀ i, goneKey 0 ks = none → s.badUse 0 ks = some i → Refuses o s id St.keyUsage i) ∧
    (goneKey 0 ks = none → s.badUse 0 ks = none → (dry → o = .next s) ∧
      (¬ dry → o = .next ((sl.keys.foldl (fun (s : State) r => s.countUse r) d.2).finish id r.status r.result
        r.neg r.out)))

/-- The fast-path commands. -/
def Obligations.FastPathCommands : Prop :=
  ∀ (s : State) (id : Nat),
    let both (c : Instr) (op : Nat) : Prop := ComputesInLane (exec c s) s id op ∧ EndsForwarded (exec c s) s id op
    both (.pinXlate id) 0x0301 ∧ both (.pinVerifyOfs id) 0x0302 ∧ both (.pinVerifyVal id) 0x0303 ∧
    both (.cryptoVerify id) 0x0401 ∧ both (.cryptoRespond id) 0x0402 ∧ both (.cryptoVerifyRespond id) 0x0403 ∧
    both (.macGen id) 0x0501 ∧ both (.macVerify id) 0x0502 ∧ both (.dukptDecrypt id) 0x0601 ∧
    both (.dukptPinXlate id) 0x0602 ∧ both (.dukptMacVerify id) 0x0603 ∧ both (.ff1Tokenise id) 0x0701 ∧
    both (.ff1Detokenise id) 0x0702 ∧ both (.sha256Short id) 0x0901 ∧
    (∀ p ks rnd, pkOpcode p = 0x0901 →
      fastRun p ks rnd = { out := some (toBytesBE (Config.sha256 (slice p 64 (le p 52 2))).toNat 32) })

/-! ### The whole block -/

/-- Every step keeps memory and the register file in canonical form: addresses strictly rising, nothing listed that equals
what an unlisted address reads as (the model's form, log entries 5 and 6). -/
def Obligations.StepKeepsCanonical : Prop := ∀ s t : State, Canonical s → step s = .next t → Canonical t

/-- Reset: PORST_N is low, the part does not serve, no command waits, every register reads its reset value, every byte of
memory 0 (the model's choice, log entry 5), no slate is in use, every lane position is free, every Satchel slot is empty, and
the state is canonical. -/
def Obligations.ResetState : Prop :=
  let s := State.reset
  Canonical s ∧ s.pending = [] ∧ s.dtime = 0 ∧ s.power.porst = true ∧ s.serving = false ∧
    (∀ a, s.rd a = regReset a) ∧ (∀ a, Memory.byte s.mem a = 0) ∧ (∀ i, (s.slate i).st = .free) ∧
    (∀ n p, (s.lane n).pos.getD p none = none) ∧ (∀ asym n, (s.slot asym n).used = false) ∧
    (∀ t, (s.tiller t).ring = 0 ∧ (s.tiller t).pc = 0x0F0000000800 ∧ (s.tiller t).maskOpen = 3 ∧
      (s.tiller t).maskSecure = 3)

/-- While no command waits a step is one cycle of the time base (the model's choice, log entry 1): device time advances by
4 ns, or by 0 or 8 ns on a cycle that slews; it stands while the time base does not run; it never decreases. Nothing else of
the part moves, unless a stand-in may not wait for the cycle (R92, log entry 3). -/
def Obligations.IdleStepIsATick : Prop :=
  ∀ s : State, s.pending = [] →
    ∃ s', step s = .next s' ∧ s.dtime ≤ s'.dtime ∧ s'.pending = [] ∧
      ((∀ h, h < 4 → s.bellLate h 8 = false) → s'.mem = s.mem ∧ s'.regs = s.regs ∧ s'.slates = s.slates ∧
        s'.tillers = s.tillers ∧ s'.out = s.out ∧ s'.picks = s.picks) ∧
      (s.timeRuns = false → s' = s) ∧
      (s.timeRuns = true → s'.tb.cycles = s.tb.cycles + 1) ∧
      (s.timeRuns = true → s.tb.slew = 0 ∨ s.tb.sinceSlew < 65536 → s'.dtime = s.dtime + 4) ∧
      (s.timeRuns = true → 65536 ≤ s.tb.sinceSlew → 0 < s.tb.slew →
        s'.dtime = s.dtime ∧ s'.tb.slew = s.tb.slew - 4 ∧ s'.tb.sinceSlew = 1) ∧
      (s.timeRuns = true → 65536 ≤ s.tb.sinceSlew → s.tb.slew < 0 →
        s'.dtime = s.dtime + 8 ∧ s'.tb.slew = s.tb.slew + 4 ∧ s'.tb.sinceSlew = 1)

/-- Every command answers a next state, with the queue behind it untouched, but one: a handshake that times out below the
voltage at which R19 guarantees anything. -/
def Obligations.EveryCommandAnswersAndLeavesTheQueue : Prop :=
  ∀ (c : Instr) (s : State), (∃ t, exec c s = .next t ∧ t.pending = s.pending) ∨
    ∃ u, c = .handshakeTimeout u false ∧ exec c s = .fault (.notGuaranteed "R19")
end

