-- ==== Sys2Proof/Laws/Decode.lean ====
section
/-! SUPPORT. The fields of an instruction word: what each format puts into them, and the word that they make
(Table 9.1). -/

namespace Sys2Proof

/-- A register field is what its five bits are. -/
theorem toFin_eq {v : BitVec 5} {r : Fin 32} (h : v = BitVec.ofFin (w := 5) r) : v.toFin = r := by subst h; rfl

/-- Five bits as a register number and back. -/
theorem ofFin_toFin (v : BitVec 5) : BitVec.ofFin (w := 5) v.toFin = v := rfl

/-! ### Format R -/

@[simp] theorem wMajor_fmtR (mj : BitVec 6) (rd a b : Fin 32) (f : BitVec 11) : wMajor (fmtR mj rd a b f) = mj := by
  ext i hi; simp [wMajor, fmtR, BitVec.getElem_extractLsb']; grind
@[simp] theorem wFunc_fmtR (mj : BitVec 6) (rd a b : Fin 32) (f : BitVec 11) : wFunc (fmtR mj rd a b f) = f := by
  ext i hi; simp [wFunc, fmtR, BitVec.getElem_extractLsb']; grind
@[simp] theorem wA_fmtR (mj : BitVec 6) (rd a b : Fin 32) (f : BitVec 11) : wA (fmtR mj rd a b f) = rd :=
  toFin_eq (by
  unfold fmtR; generalize BitVec.ofFin (w := 5) rd = rdv; generalize BitVec.ofFin (w := 5) a = av; generalize BitVec.ofFin (w := 5) b = bv; ext i hi; simp [BitVec.getElem_extractLsb']; grind)
@[simp] theorem wB_fmtR (mj : BitVec 6) (rd a b : Fin 32) (f : BitVec 11) : wB (fmtR mj rd a b f) = a :=
  toFin_eq (by
  unfold fmtR; generalize BitVec.ofFin (w := 5) rd = rdv; generalize BitVec.ofFin (w := 5) a = av; generalize BitVec.ofFin (w := 5) b = bv; ext i hi; simp [BitVec.getElem_extractLsb']; grind)
@[simp] theorem wC_fmtR (mj : BitVec 6) (rd a b : Fin 32) (f : BitVec 11) : wC (fmtR mj rd a b f) = b :=
  toFin_eq (by
  unfold fmtR; generalize BitVec.ofFin (w := 5) rd = rdv; generalize BitVec.ofFin (w := 5) a = av; generalize BitVec.ofFin (w := 5) b = bv; ext i hi; simp [BitVec.getElem_extractLsb']; grind)
theorem fmtR_fields (w : BitVec 32) : fmtR (wMajor w) (wA w) (wB w) (wC w) (wFunc w) = w := by
  simp only [fmtR, wMajor, wA, wB, wC, wFunc, ofFin_toFin]; ext i hi; simp [BitVec.getElem_append]; grind

/-! ### Formats I and S -/

@[simp] theorem wMajor_fmtI (mj : BitVec 6) (a b : Fin 32) (v : BitVec 16) : wMajor (fmtI mj a b v) = mj := by
  ext i hi; simp [wMajor, fmtI, BitVec.getElem_extractLsb']; grind
@[simp] theorem wA_fmtI (mj : BitVec 6) (a b : Fin 32) (v : BitVec 16) : wA (fmtI mj a b v) = a :=
  toFin_eq (by
  unfold fmtI; generalize BitVec.ofFin (w := 5) a = av; generalize BitVec.ofFin (w := 5) b = bv; ext i hi; simp [BitVec.getElem_extractLsb']; grind)
@[simp] theorem wB_fmtI (mj : BitVec 6) (a b : Fin 32) (v : BitVec 16) : wB (fmtI mj a b v) = b :=
  toFin_eq (by
  unfold fmtI; generalize BitVec.ofFin (w := 5) a = av; generalize BitVec.ofFin (w := 5) b = bv; ext i hi; simp [BitVec.getElem_extractLsb']; grind)
@[simp] theorem wImm_fmtI (mj : BitVec 6) (a b : Fin 32) (v : BitVec 16) : wImm (fmtI mj a b v) = v := by
  ext i hi; simp [wImm, fmtI, BitVec.getElem_extractLsb']; grind
theorem fmtI_fields (w : BitVec 32) : fmtI (wMajor w) (wA w) (wB w) (wImm w) = w := by
  simp only [fmtI, wMajor, wA, wB, wImm, ofFin_toFin]; ext i hi; simp [BitVec.getElem_append]; grind

/-! ### Formats B, J and U -/

@[simp] theorem wMajor_fmtB (mj : BitVec 6) (a b : Fin 32) (n : Bool) (d : BitVec 15) : wMajor (fmtB mj a b n d) = mj := by
  ext i hi; simp [wMajor, fmtB, BitVec.getElem_extractLsb']; grind
@[simp] theorem wA_fmtB (mj : BitVec 6) (a b : Fin 32) (n : Bool) (d : BitVec 15) : wA (fmtB mj a b n d) = a :=
  toFin_eq (by
  unfold fmtB; generalize BitVec.ofFin (w := 5) a = av; generalize BitVec.ofFin (w := 5) b = bv; ext i hi; simp [BitVec.getElem_extractLsb']; grind)
@[simp] theorem wB_fmtB (mj : BitVec 6) (a b : Fin 32) (n : Bool) (d : BitVec 15) : wB (fmtB mj a b n d) = b :=
  toFin_eq (by
  unfold fmtB; generalize BitVec.ofFin (w := 5) a = av; generalize BitVec.ofFin (w := 5) b = bv; ext i hi; simp [BitVec.getElem_extractLsb']; grind)
theorem fmtB_fields (w : BitVec 32) :
    fmtB (wMajor w) (wA w) (wB w) (w.getLsbD 15) (w.extractLsb' 0 15) = w := by
  simp only [fmtB, wMajor, wA, wB, ofFin_toFin]; ext i hi; simp [BitVec.getElem_append]; grind
@[simp] theorem wMajor_fmtJ (mj : BitVec 6) (d : BitVec 26) : wMajor (fmtJ mj d) = mj := by
  ext i hi; simp [wMajor, fmtJ, BitVec.getElem_extractLsb']; grind
theorem fmtJ_fields (w : BitVec 32) : fmtJ (wMajor w) (w.extractLsb' 0 26) = w := by
  simp only [fmtJ, wMajor, ofFin_toFin]; ext i hi; simp [BitVec.getElem_append]; grind
@[simp] theorem wMajor_fmtU (mj : BitVec 6) (rd : Fin 32) (v : BitVec 21) : wMajor (fmtU mj rd v) = mj := by
  ext i hi; simp [wMajor, fmtU, BitVec.getElem_extractLsb']; grind
@[simp] theorem wA_fmtU (mj : BitVec 6) (rd : Fin 32) (v : BitVec 21) : wA (fmtU mj rd v) = rd :=
  toFin_eq (by
  unfold fmtU; generalize BitVec.ofFin (w := 5) rd = rdv; ext i hi; simp [BitVec.getElem_extractLsb']; grind)
theorem fmtU_fields (w : BitVec 32) : fmtU (wMajor w) (wA w) (w.extractLsb' 0 21) = w := by
  simp only [fmtU, wMajor, wA, ofFin_toFin]; ext i hi; simp [BitVec.getElem_append]; grind

/-! ### The remaining fields -/

@[simp] theorem disp_fmtB (mj : BitVec 6) (a b : Fin 32) (n : Bool) (d : BitVec 15) :
    (fmtB mj a b n d).extractLsb' 0 15 = d := by
  unfold fmtB; ext i hi; simp; grind
@[simp] theorem ann_fmtB (mj : BitVec 6) (a b : Fin 32) (n : Bool) (d : BitVec 15) :
    (fmtB mj a b n d).getLsbD 15 = n := by
  unfold fmtB; generalize BitVec.ofFin (w := 5) a = u; generalize BitVec.ofFin (w := 5) b = v; simp; grind
@[simp] theorem far_fmtJ (mj : BitVec 6) (d : BitVec 26) : (fmtJ mj d).extractLsb' 0 26 = d := by
  unfold fmtJ; ext i hi; simp; grind
@[simp] theorem imm_fmtU (mj : BitVec 6) (rd : Fin 32) (v : BitVec 21) : (fmtU mj rd v).extractLsb' 0 21 = v := by
  unfold fmtU; ext i hi; simp; grind
@[simp] theorem amount_low (h : BitVec 6) : (0#10 ++ h).extractLsb' 0 6 = h := by
  ext i hi; simp; grind
@[simp] theorem csr_low (c : BitVec 12) : (0#4 ++ c).extractLsb' 0 12 = c := by
  ext i hi; simp; grind

end Sys2Proof
end

