-- ==== Sys2Proof/Laws/Maps.lean ====
section
/-! SUPPORT. Laws of the sparse tables and of memory: a read after a write, and that every operation keeps
the canonical form. -/

namespace Sys2Proof.Laws

open Sys2Proof.Machine

variable {α : Type}

/-! ### Reading after writing -/

theorem find_insert (k j : Nat) (v : α) (m : List (Nat × α)) :
    Map.find j (Map.insert k v m) = if j = k then some v else Map.find j m := by
  induction m with
  | nil => simp [Map.insert, Map.find, eq_comm]
  | cons e m ih =>
    obtain ⟨a, w⟩ := e
    simp only [Map.insert]
    split
    · simp [Map.find, eq_comm]
    · split
      · rename_i h2
        subst h2
        by_cases h : j = a
        · simp [Map.find, h]
        · simp [Map.find, h, Ne.symm h]
      · rename_i h1 h2
        by_cases h : j = k
        · subst h; simp [Map.find, ih, h2]
        · simp [Map.find, ih, h]

theorem find_erase (k j : Nat) (m : List (Nat × α)) :
    Map.find j (Map.erase k m) = if j = k then none else Map.find j m := by
  induction m with
  | nil => simp [Map.erase, Map.find]
  | cons e m ih =>
    obtain ⟨a, w⟩ := e
    simp only [Map.erase]
    split
    · rename_i h2
      subst h2
      rw [ih]
      by_cases h : j = a
      · simp [h]
      · simp [Map.find, h, Ne.symm h]
    · rename_i h2
      by_cases h : j = k
      · subst h; simp [Map.find, ih, h2]
      · simp [Map.find, ih, h]

/-- What a key reads after a write. -/
@[simp] theorem get_put [DecidableEq α] (d v : α) (m : List (Nat × α)) (k j : Nat) :
    Map.get d (Map.put d m k v) j = if j = k then v else Map.get d m j := by
  unfold Map.put Map.get
  split
  · rw [find_erase]; by_cases h : j = k <;> simp_all
  · rw [find_insert]; by_cases h : j = k <;> simp_all

/-- The same where the written key has a default of its own. -/
theorem get_put_ne [DecidableEq α] (d d' v : α) (m : List (Nat × α)) (k j : Nat) (h : j ≠ k) :
    Map.get d (Map.put d' m k v) j = Map.get d m j := by
  unfold Map.put Map.get
  split
  · rw [find_erase]; simp [h]
  · rw [find_insert]; simp [h]

/-! ### The canonical form -/

theorem sorted_iff (m : List (Nat × α)) :
    Map.sorted m = true ↔ m.Pairwise (fun a b => a.1 < b.1) := by
  induction m with
  | nil => simp [Map.sorted]
  | cons e m ih =>
    cases m with
    | nil => simp [Map.sorted]
    | cons f m =>
      obtain ⟨a, v⟩ := e
      obtain ⟨b, w⟩ := f
      simp only [Map.sorted, Bool.and_eq_true, decide_eq_true_eq, ih, List.pairwise_cons]
      constructor
      · rintro ⟨h, h1, h2⟩
        refine ⟨?_, h1, h2⟩
        intro x hx
        rcases List.mem_cons.1 hx with rfl | hx
        · exact h
        · exact lt_trans h (h1 x hx)
      · rintro ⟨h0, h1, h2⟩
        exact ⟨h0 _ (List.mem_cons_self), h1, h2⟩

theorem wf_iff [DecidableEq α] (d : Nat → α) (m : List (Nat × α)) :
    Map.wf d m = true ↔ m.Pairwise (fun a b => a.1 < b.1) ∧ ∀ e ∈ m, e.2 ≠ d e.1 := by
  simp [Map.wf, sorted_iff]

theorem mem_insert (k : Nat) (v : α) (m : List (Nat × α)) (e : Nat × α) (h : e ∈ Map.insert k v m) :
    e = (k, v) ∨ e ∈ m := by
  induction m with
  | nil => simpa [Map.insert] using h
  | cons f m ih =>
    simp only [Map.insert] at h
    split at h
    · simpa using h
    · split at h
      · simp only [List.mem_cons] at h ⊢; tauto
      · simp only [List.mem_cons] at h ⊢
        rcases h with h | h
        · exact .inr (.inl h)
        · rcases ih h with h | h
          · exact .inl h
          · exact .inr (.inr h)

theorem erase_sublist (k : Nat) (m : List (Nat × α)) : (Map.erase k m).Sublist m := by
  induction m with
  | nil => exact .slnil
  | cons f m ih =>
    simp only [Map.erase]
    split
    · exact ih.cons _
    · exact ih.cons_cons _

theorem pairwise_insert (k : Nat) (v : α) (m : List (Nat × α))
    (h : m.Pairwise (fun a b => a.1 < b.1)) : (Map.insert k v m).Pairwise (fun a b => a.1 < b.1) := by
  induction m with
  | nil => simp [Map.insert]
  | cons f m ih =>
    obtain ⟨a, w⟩ := f
    have hm := List.pairwise_cons.1 h
    simp only [Map.insert]
    split
    · rename_i hk
      refine List.pairwise_cons.2 ⟨?_, h⟩
      intro x hx
      rcases List.mem_cons.1 hx with rfl | hx
      · exact hk
      · exact lt_trans hk (hm.1 x hx)
    · split
      · subst_vars; exact List.pairwise_cons.2 ⟨hm.1, hm.2⟩
      · refine List.pairwise_cons.2 ⟨?_, ih hm.2⟩
        intro x hx
        rcases mem_insert k v m x hx with rfl | hx
        · show a < k; omega
        · exact hm.1 x hx

/-- A write keeps the canonical form. -/
theorem wf_put [DecidableEq α] (d : Nat → α) (m : List (Nat × α)) (k : Nat) (v : α)
    (h : Map.wf d m = true) : Map.wf d (Map.put (d k) m k v) = true := by
  rw [wf_iff] at h ⊢
  unfold Map.put
  split
  · have hs := erase_sublist k m
    exact ⟨h.1.sublist hs, fun e he => h.2 e (hs.subset he)⟩
  · refine ⟨pairwise_insert k v m h.1, fun e he => ?_⟩
    rcases mem_insert k v m e he with rfl | he
    · assumption
    · exact h.2 e he

/-- Dropping entries keeps it. -/
theorem wf_filter [DecidableEq α] (d : Nat → α) (m : List (Nat × α)) (p : Nat × α → Bool)
    (h : Map.wf d m = true) : Map.wf d (m.filter p) = true := by
  rw [wf_iff] at h ⊢
  have hs := List.filter_sublist (p := p) (l := m)
  exact ⟨h.1.sublist hs, fun e he => h.2 e (hs.subset he)⟩

/-! ### Memory -/

/-- A byte after a store of one byte. -/
@[simp] theorem byte_setByte (m : List Host.Cell) (a b : Nat) (v : Byte) :
    Memory.byte (Memory.setByte m a v) b = if b = a then v else Memory.byte m b := get_put 0 v m a b

/-- A byte after a store: the stored byte inside the range, as before outside it. -/
theorem byte_store (bs : List Byte) (m : List Host.Cell) (a b : Nat) :
    Memory.byte (Memory.store m a bs) b =
      if a ≤ b ∧ b < a + bs.length then bs.getD (b - a) 0 else Memory.byte m b := by
  induction bs generalizing m a with
  | nil =>
    simp [Memory.store]
  | cons x xs ih =>
    simp only [Memory.store, ih, byte_setByte, List.length_cons]
    by_cases h : b = a
    · subst h; simp
    · by_cases h2 : a + 1 ≤ b ∧ b < a + 1 + xs.length
      · have h3 : a ≤ b ∧ b < a + (xs.length + 1) := by omega
        obtain ⟨n, rfl⟩ : ∃ n, b = a + 1 + n := ⟨b - (a + 1), by omega⟩
        simp [h2.2, h3, show a + 1 + n - a = n + 1 by omega]
      · have h3 : ¬ (a ≤ b ∧ b < a + (xs.length + 1)) := by omega
        rw [if_neg h2, if_neg h, if_neg h3]

/-- A store leaves every byte outside its range. -/
theorem byte_store_outside (bs : List Byte) (m : List Host.Cell) (a b : Nat)
    (h : b < a ∨ a + bs.length ≤ b) : Memory.byte (Memory.store m a bs) b = Memory.byte m b := by
  rw [byte_store, if_neg (by omega)]

/-- Memory.setByte keeps the canonical form. -/
theorem wf_setByte (m : List Host.Cell) (a : Nat) (v : Byte) (h : Memory.wf m = true) :
    Memory.wf (Memory.setByte m a v) = true := wf_put (fun _ => (0 : Byte)) m a v h

/-- Memory.store keeps the canonical form. -/
theorem wf_store (bs : List Byte) (m : List Host.Cell) (a : Nat) (h : Memory.wf m = true) :
    Memory.wf (Memory.store m a bs) = true := by
  induction bs generalizing m a with
  | nil => exact h
  | cons x xs ih => exact ih _ _ (wf_setByte m a x h)

/-- Dropping cells keeps it. -/
theorem wf_memFilter (m : List Host.Cell) (p : Host.Cell → Bool) (h : Memory.wf m = true) :
    Memory.wf (m.filter p) = true := wf_filter _ m p h

theorem length_memBytes (m : List Host.Cell) (n a : Nat) : (Memory.bytes m a n).length = n := by
  induction n generalizing a with
  | zero => rfl
  | succ n ih => simp [Memory.bytes, ih]

theorem length_toBytes (n v : Nat) : (toBytes v n).length = n := by
  induction n generalizing v with
  | zero => rfl
  | succ n ih => simp [toBytes, ih]

/-- The little-endian bytes of a number give it back. -/
theorem ofBytes_toBytes (n v : Nat) : ofBytes (toBytes v n) = v % 2 ^ (8 * n) := by
  induction n generalizing v with
  | zero => simp [toBytes, ofBytes, Nat.mod_one]
  | succ n ih =>
    simp only [toBytes, ofBytes, ih, BitVec.toNat_ofNat]
    rw [show 2 ^ (8 * (n + 1)) = 2 ^ 8 * 2 ^ (8 * n) by rw [← pow_add]; ring_nf, Nat.mod_mul]
    norm_num

end Sys2Proof.Laws
end

