-- ==== Sys2Proof/Laws/State.lean ====
section
/-! SUPPORT. For each operation that writes one field of the state: every other field is as before. Each
is true by rfl and tagged for simp, so that no proof unfolds a record update. -/

namespace Sys2Proof.Laws

open Sys2Proof.Machine

variable (s : State)

/-! setSlate writes only slates. -/

@[simp] theorem pending_setSlate (i : Nat) (v : Slate) : (s.setSlate i v).pending = s.pending := rfl
@[simp] theorem dtime_setSlate (i : Nat) (v : Slate) : (s.setSlate i v).dtime = s.dtime := rfl
@[simp] theorem termAt_setSlate (i : Nat) (v : Slate) : (s.setSlate i v).termAt = s.termAt := rfl
@[simp] theorem regs_setSlate (i : Nat) (v : Slate) : (s.setSlate i v).regs = s.regs := rfl
@[simp] theorem mem_setSlate (i : Nat) (v : Slate) : (s.setSlate i v).mem = s.mem := rfl
@[simp] theorem poison_setSlate (i : Nat) (v : Slate) : (s.setSlate i v).poison = s.poison := rfl
@[simp] theorem l2_setSlate (i : Nat) (v : Slate) : (s.setSlate i v).l2 = s.l2 := rfl
@[simp] theorem granary_setSlate (i : Nat) (v : Slate) : (s.setSlate i v).granary = s.granary := rfl
@[simp] theorem tb_setSlate (i : Nat) (v : Slate) : (s.setSlate i v).tb = s.tb := rfl
@[simp] theorem avs_setSlate (i : Nat) (v : Slate) : (s.setSlate i v).avs = s.avs := rfl
@[simp] theorem ports_setSlate (i : Nat) (v : Slate) : (s.setSlate i v).ports = s.ports := rfl
@[simp] theorem fns_setSlate (i : Nat) (v : Slate) : (s.setSlate i v).fns = s.fns := rfl
@[simp] theorem stepQ_setSlate (i : Nat) (v : Slate) : (s.setSlate i v).stepQ = s.stepQ := rfl
@[simp] theorem lanes_setSlate (i : Nat) (v : Slate) : (s.setSlate i v).lanes = s.lanes := rfl
@[simp] theorem poolQ_setSlate (i : Nat) (v : Slate) : (s.setSlate i v).poolQ = s.poolQ := rfl
@[simp] theorem supers_setSlate (i : Nat) (v : Slate) : (s.setSlate i v).supers = s.supers := rfl
@[simp] theorem symSlots_setSlate (i : Nat) (v : Slate) : (s.setSlate i v).symSlots = s.symSlots := rfl
@[simp] theorem asymSlots_setSlate (i : Nat) (v : Slate) : (s.setSlate i v).asymSlots = s.asymSlots := rfl
@[simp] theorem dev_setSlate (i : Nat) (v : Slate) : (s.setSlate i v).dev = s.dev := rfl
@[simp] theorem ownerCtr_setSlate (i : Nat) (v : Slate) : (s.setSlate i v).ownerCtr = s.ownerCtr := rfl
@[simp] theorem rekeyAt_setSlate (i : Nat) (v : Slate) : (s.setSlate i v).rekeyAt = s.rekeyAt := rfl
@[simp] theorem symCache_setSlate (i : Nat) (v : Slate) : (s.setSlate i v).symCache = s.symCache := rfl
@[simp] theorem asymCache_setSlate (i : Nat) (v : Slate) : (s.setSlate i v).asymCache = s.asymCache := rfl
@[simp] theorem cards_setSlate (i : Nat) (v : Slate) : (s.setSlate i v).cards = s.cards := rfl
@[simp] theorem entropy_setSlate (i : Nat) (v : Slate) : (s.setSlate i v).entropy = s.entropy := rfl
@[simp] theorem entPool_setSlate (i : Nat) (v : Slate) : (s.setSlate i v).entPool = s.entPool := rfl
@[simp] theorem dramKeys_setSlate (i : Nat) (v : Slate) : (s.setSlate i v).dramKeys = s.dramKeys := rfl
@[simp] theorem smills_setSlate (i : Nat) (v : Slate) : (s.setSlate i v).smills = s.smills := rfl
@[simp] theorem pmills_setSlate (i : Nat) (v : Slate) : (s.setSlate i v).pmills = s.pmills := rfl
@[simp] theorem millQ_setSlate (i : Nat) (v : Slate) : (s.setSlate i v).millQ = s.millQ := rfl
@[simp] theorem millOwn_setSlate (i : Nat) (v : Slate) : (s.setSlate i v).millOwn = s.millOwn := rfl
@[simp] theorem millLoans_setSlate (i : Nat) (v : Slate) : (s.setSlate i v).millLoans = s.millLoans := rfl
@[simp] theorem millUsed_setSlate (i : Nat) (v : Slate) : (s.setSlate i v).millUsed = s.millUsed := rfl
@[simp] theorem millWaited_setSlate (i : Nat) (v : Slate) : (s.setSlate i v).millWaited = s.millWaited := rfl
@[simp] theorem houses_setSlate (i : Nat) (v : Slate) : (s.setSlate i v).houses = s.houses := rfl
@[simp] theorem staged_setSlate (i : Nat) (v : Slate) : (s.setSlate i v).staged = s.staged := rfl
@[simp] theorem ways_setSlate (i : Nat) (v : Slate) : (s.setSlate i v).ways = s.ways := rfl
@[simp] theorem tillers_setSlate (i : Nat) (v : Slate) : (s.setSlate i v).tillers = s.tillers := rfl
@[simp] theorem leaving_setSlate (i : Nat) (v : Slate) : (s.setSlate i v).leaving = s.leaving := rfl
@[simp] theorem sharedEdges_setSlate (i : Nat) (v : Slate) : (s.setSlate i v).sharedEdges = s.sharedEdges := rfl
@[simp] theorem chutes_setSlate (i : Nat) (v : Slate) : (s.setSlate i v).chutes = s.chutes := rfl
@[simp] theorem hoppers_setSlate (i : Nat) (v : Slate) : (s.setSlate i v).hoppers = s.hoppers := rfl
@[simp] theorem chans_setSlate (i : Nat) (v : Slate) : (s.setSlate i v).chans = s.chans := rfl
@[simp] theorem power_setSlate (i : Nat) (v : Slate) : (s.setSlate i v).power = s.power := rfl
@[simp] theorem flash_setSlate (i : Nat) (v : Slate) : (s.setSlate i v).flash = s.flash := rfl
@[simp] theorem wear_setSlate (i : Nat) (v : Slate) : (s.setSlate i v).wear = s.wear := rfl
@[simp] theorem tap_setSlate (i : Nat) (v : Slate) : (s.setSlate i v).tap = s.tap := rfl
@[simp] theorem sealQ_setSlate (i : Nat) (v : Slate) : (s.setSlate i v).sealQ = s.sealQ := rfl
@[simp] theorem out_setSlate (i : Nat) (v : Slate) : (s.setSlate i v).out = s.out := rfl
@[simp] theorem picks_setSlate (i : Nat) (v : Slate) : (s.setSlate i v).picks = s.picks := rfl

/-! modSlate writes only slates. -/

@[simp] theorem pending_modSlate (i : Nat) (f : Slate → Slate) : (s.modSlate i f).pending = s.pending := rfl
@[simp] theorem dtime_modSlate (i : Nat) (f : Slate → Slate) : (s.modSlate i f).dtime = s.dtime := rfl
@[simp] theorem termAt_modSlate (i : Nat) (f : Slate → Slate) : (s.modSlate i f).termAt = s.termAt := rfl
@[simp] theorem regs_modSlate (i : Nat) (f : Slate → Slate) : (s.modSlate i f).regs = s.regs := rfl
@[simp] theorem mem_modSlate (i : Nat) (f : Slate → Slate) : (s.modSlate i f).mem = s.mem := rfl
@[simp] theorem poison_modSlate (i : Nat) (f : Slate → Slate) : (s.modSlate i f).poison = s.poison := rfl
@[simp] theorem l2_modSlate (i : Nat) (f : Slate → Slate) : (s.modSlate i f).l2 = s.l2 := rfl
@[simp] theorem granary_modSlate (i : Nat) (f : Slate → Slate) : (s.modSlate i f).granary = s.granary := rfl
@[simp] theorem tb_modSlate (i : Nat) (f : Slate → Slate) : (s.modSlate i f).tb = s.tb := rfl
@[simp] theorem avs_modSlate (i : Nat) (f : Slate → Slate) : (s.modSlate i f).avs = s.avs := rfl
@[simp] theorem ports_modSlate (i : Nat) (f : Slate → Slate) : (s.modSlate i f).ports = s.ports := rfl
@[simp] theorem fns_modSlate (i : Nat) (f : Slate → Slate) : (s.modSlate i f).fns = s.fns := rfl
@[simp] theorem stepQ_modSlate (i : Nat) (f : Slate → Slate) : (s.modSlate i f).stepQ = s.stepQ := rfl
@[simp] theorem lanes_modSlate (i : Nat) (f : Slate → Slate) : (s.modSlate i f).lanes = s.lanes := rfl
@[simp] theorem poolQ_modSlate (i : Nat) (f : Slate → Slate) : (s.modSlate i f).poolQ = s.poolQ := rfl
@[simp] theorem supers_modSlate (i : Nat) (f : Slate → Slate) : (s.modSlate i f).supers = s.supers := rfl
@[simp] theorem symSlots_modSlate (i : Nat) (f : Slate → Slate) : (s.modSlate i f).symSlots = s.symSlots := rfl
@[simp] theorem asymSlots_modSlate (i : Nat) (f : Slate → Slate) : (s.modSlate i f).asymSlots = s.asymSlots := rfl
@[simp] theorem dev_modSlate (i : Nat) (f : Slate → Slate) : (s.modSlate i f).dev = s.dev := rfl
@[simp] theorem ownerCtr_modSlate (i : Nat) (f : Slate → Slate) : (s.modSlate i f).ownerCtr = s.ownerCtr := rfl
@[simp] theorem rekeyAt_modSlate (i : Nat) (f : Slate → Slate) : (s.modSlate i f).rekeyAt = s.rekeyAt := rfl
@[simp] theorem symCache_modSlate (i : Nat) (f : Slate → Slate) : (s.modSlate i f).symCache = s.symCache := rfl
@[simp] theorem asymCache_modSlate (i : Nat) (f : Slate → Slate) : (s.modSlate i f).asymCache = s.asymCache := rfl
@[simp] theorem cards_modSlate (i : Nat) (f : Slate → Slate) : (s.modSlate i f).cards = s.cards := rfl
@[simp] theorem entropy_modSlate (i : Nat) (f : Slate → Slate) : (s.modSlate i f).entropy = s.entropy := rfl
@[simp] theorem entPool_modSlate (i : Nat) (f : Slate → Slate) : (s.modSlate i f).entPool = s.entPool := rfl
@[simp] theorem dramKeys_modSlate (i : Nat) (f : Slate → Slate) : (s.modSlate i f).dramKeys = s.dramKeys := rfl
@[simp] theorem smills_modSlate (i : Nat) (f : Slate → Slate) : (s.modSlate i f).smills = s.smills := rfl
@[simp] theorem pmills_modSlate (i : Nat) (f : Slate → Slate) : (s.modSlate i f).pmills = s.pmills := rfl
@[simp] theorem millQ_modSlate (i : Nat) (f : Slate → Slate) : (s.modSlate i f).millQ = s.millQ := rfl
@[simp] theorem millOwn_modSlate (i : Nat) (f : Slate → Slate) : (s.modSlate i f).millOwn = s.millOwn := rfl
@[simp] theorem millLoans_modSlate (i : Nat) (f : Slate → Slate) : (s.modSlate i f).millLoans = s.millLoans := rfl
@[simp] theorem millUsed_modSlate (i : Nat) (f : Slate → Slate) : (s.modSlate i f).millUsed = s.millUsed := rfl
@[simp] theorem millWaited_modSlate (i : Nat) (f : Slate → Slate) : (s.modSlate i f).millWaited = s.millWaited := rfl
@[simp] theorem houses_modSlate (i : Nat) (f : Slate → Slate) : (s.modSlate i f).houses = s.houses := rfl
@[simp] theorem staged_modSlate (i : Nat) (f : Slate → Slate) : (s.modSlate i f).staged = s.staged := rfl
@[simp] theorem ways_modSlate (i : Nat) (f : Slate → Slate) : (s.modSlate i f).ways = s.ways := rfl
@[simp] theorem tillers_modSlate (i : Nat) (f : Slate → Slate) : (s.modSlate i f).tillers = s.tillers := rfl
@[simp] theorem leaving_modSlate (i : Nat) (f : Slate → Slate) : (s.modSlate i f).leaving = s.leaving := rfl
@[simp] theorem sharedEdges_modSlate (i : Nat) (f : Slate → Slate) : (s.modSlate i f).sharedEdges = s.sharedEdges := rfl
@[simp] theorem chutes_modSlate (i : Nat) (f : Slate → Slate) : (s.modSlate i f).chutes = s.chutes := rfl
@[simp] theorem hoppers_modSlate (i : Nat) (f : Slate → Slate) : (s.modSlate i f).hoppers = s.hoppers := rfl
@[simp] theorem chans_modSlate (i : Nat) (f : Slate → Slate) : (s.modSlate i f).chans = s.chans := rfl
@[simp] theorem power_modSlate (i : Nat) (f : Slate → Slate) : (s.modSlate i f).power = s.power := rfl
@[simp] theorem flash_modSlate (i : Nat) (f : Slate → Slate) : (s.modSlate i f).flash = s.flash := rfl
@[simp] theorem wear_modSlate (i : Nat) (f : Slate → Slate) : (s.modSlate i f).wear = s.wear := rfl
@[simp] theorem tap_modSlate (i : Nat) (f : Slate → Slate) : (s.modSlate i f).tap = s.tap := rfl
@[simp] theorem sealQ_modSlate (i : Nat) (f : Slate → Slate) : (s.modSlate i f).sealQ = s.sealQ := rfl
@[simp] theorem out_modSlate (i : Nat) (f : Slate → Slate) : (s.modSlate i f).out = s.out := rfl
@[simp] theorem picks_modSlate (i : Nat) (f : Slate → Slate) : (s.modSlate i f).picks = s.picks := rfl

/-! setFn writes only fns. -/

@[simp] theorem pending_setFn (i : Nat) (v : Fn) : (s.setFn i v).pending = s.pending := rfl
@[simp] theorem dtime_setFn (i : Nat) (v : Fn) : (s.setFn i v).dtime = s.dtime := rfl
@[simp] theorem termAt_setFn (i : Nat) (v : Fn) : (s.setFn i v).termAt = s.termAt := rfl
@[simp] theorem regs_setFn (i : Nat) (v : Fn) : (s.setFn i v).regs = s.regs := rfl
@[simp] theorem mem_setFn (i : Nat) (v : Fn) : (s.setFn i v).mem = s.mem := rfl
@[simp] theorem poison_setFn (i : Nat) (v : Fn) : (s.setFn i v).poison = s.poison := rfl
@[simp] theorem l2_setFn (i : Nat) (v : Fn) : (s.setFn i v).l2 = s.l2 := rfl
@[simp] theorem granary_setFn (i : Nat) (v : Fn) : (s.setFn i v).granary = s.granary := rfl
@[simp] theorem tb_setFn (i : Nat) (v : Fn) : (s.setFn i v).tb = s.tb := rfl
@[simp] theorem avs_setFn (i : Nat) (v : Fn) : (s.setFn i v).avs = s.avs := rfl
@[simp] theorem ports_setFn (i : Nat) (v : Fn) : (s.setFn i v).ports = s.ports := rfl
@[simp] theorem stepQ_setFn (i : Nat) (v : Fn) : (s.setFn i v).stepQ = s.stepQ := rfl
@[simp] theorem slates_setFn (i : Nat) (v : Fn) : (s.setFn i v).slates = s.slates := rfl
@[simp] theorem lanes_setFn (i : Nat) (v : Fn) : (s.setFn i v).lanes = s.lanes := rfl
@[simp] theorem poolQ_setFn (i : Nat) (v : Fn) : (s.setFn i v).poolQ = s.poolQ := rfl
@[simp] theorem supers_setFn (i : Nat) (v : Fn) : (s.setFn i v).supers = s.supers := rfl
@[simp] theorem symSlots_setFn (i : Nat) (v : Fn) : (s.setFn i v).symSlots = s.symSlots := rfl
@[simp] theorem asymSlots_setFn (i : Nat) (v : Fn) : (s.setFn i v).asymSlots = s.asymSlots := rfl
@[simp] theorem dev_setFn (i : Nat) (v : Fn) : (s.setFn i v).dev = s.dev := rfl
@[simp] theorem ownerCtr_setFn (i : Nat) (v : Fn) : (s.setFn i v).ownerCtr = s.ownerCtr := rfl
@[simp] theorem rekeyAt_setFn (i : Nat) (v : Fn) : (s.setFn i v).rekeyAt = s.rekeyAt := rfl
@[simp] theorem symCache_setFn (i : Nat) (v : Fn) : (s.setFn i v).symCache = s.symCache := rfl
@[simp] theorem asymCache_setFn (i : Nat) (v : Fn) : (s.setFn i v).asymCache = s.asymCache := rfl
@[simp] theorem cards_setFn (i : Nat) (v : Fn) : (s.setFn i v).cards = s.cards := rfl
@[simp] theorem entropy_setFn (i : Nat) (v : Fn) : (s.setFn i v).entropy = s.entropy := rfl
@[simp] theorem entPool_setFn (i : Nat) (v : Fn) : (s.setFn i v).entPool = s.entPool := rfl
@[simp] theorem dramKeys_setFn (i : Nat) (v : Fn) : (s.setFn i v).dramKeys = s.dramKeys := rfl
@[simp] theorem smills_setFn (i : Nat) (v : Fn) : (s.setFn i v).smills = s.smills := rfl
@[simp] theorem pmills_setFn (i : Nat) (v : Fn) : (s.setFn i v).pmills = s.pmills := rfl
@[simp] theorem millQ_setFn (i : Nat) (v : Fn) : (s.setFn i v).millQ = s.millQ := rfl
@[simp] theorem millOwn_setFn (i : Nat) (v : Fn) : (s.setFn i v).millOwn = s.millOwn := rfl
@[simp] theorem millLoans_setFn (i : Nat) (v : Fn) : (s.setFn i v).millLoans = s.millLoans := rfl
@[simp] theorem millUsed_setFn (i : Nat) (v : Fn) : (s.setFn i v).millUsed = s.millUsed := rfl
@[simp] theorem millWaited_setFn (i : Nat) (v : Fn) : (s.setFn i v).millWaited = s.millWaited := rfl
@[simp] theorem houses_setFn (i : Nat) (v : Fn) : (s.setFn i v).houses = s.houses := rfl
@[simp] theorem staged_setFn (i : Nat) (v : Fn) : (s.setFn i v).staged = s.staged := rfl
@[simp] theorem ways_setFn (i : Nat) (v : Fn) : (s.setFn i v).ways = s.ways := rfl
@[simp] theorem tillers_setFn (i : Nat) (v : Fn) : (s.setFn i v).tillers = s.tillers := rfl
@[simp] theorem leaving_setFn (i : Nat) (v : Fn) : (s.setFn i v).leaving = s.leaving := rfl
@[simp] theorem sharedEdges_setFn (i : Nat) (v : Fn) : (s.setFn i v).sharedEdges = s.sharedEdges := rfl
@[simp] theorem chutes_setFn (i : Nat) (v : Fn) : (s.setFn i v).chutes = s.chutes := rfl
@[simp] theorem hoppers_setFn (i : Nat) (v : Fn) : (s.setFn i v).hoppers = s.hoppers := rfl
@[simp] theorem chans_setFn (i : Nat) (v : Fn) : (s.setFn i v).chans = s.chans := rfl
@[simp] theorem power_setFn (i : Nat) (v : Fn) : (s.setFn i v).power = s.power := rfl
@[simp] theorem flash_setFn (i : Nat) (v : Fn) : (s.setFn i v).flash = s.flash := rfl
@[simp] theorem wear_setFn (i : Nat) (v : Fn) : (s.setFn i v).wear = s.wear := rfl
@[simp] theorem tap_setFn (i : Nat) (v : Fn) : (s.setFn i v).tap = s.tap := rfl
@[simp] theorem sealQ_setFn (i : Nat) (v : Fn) : (s.setFn i v).sealQ = s.sealQ := rfl
@[simp] theorem out_setFn (i : Nat) (v : Fn) : (s.setFn i v).out = s.out := rfl
@[simp] theorem picks_setFn (i : Nat) (v : Fn) : (s.setFn i v).picks = s.picks := rfl

/-! modFn writes only fns. -/

@[simp] theorem pending_modFn (i : Nat) (f : Fn → Fn) : (s.modFn i f).pending = s.pending := rfl
@[simp] theorem dtime_modFn (i : Nat) (f : Fn → Fn) : (s.modFn i f).dtime = s.dtime := rfl
@[simp] theorem termAt_modFn (i : Nat) (f : Fn → Fn) : (s.modFn i f).termAt = s.termAt := rfl
@[simp] theorem regs_modFn (i : Nat) (f : Fn → Fn) : (s.modFn i f).regs = s.regs := rfl
@[simp] theorem mem_modFn (i : Nat) (f : Fn → Fn) : (s.modFn i f).mem = s.mem := rfl
@[simp] theorem poison_modFn (i : Nat) (f : Fn → Fn) : (s.modFn i f).poison = s.poison := rfl
@[simp] theorem l2_modFn (i : Nat) (f : Fn → Fn) : (s.modFn i f).l2 = s.l2 := rfl
@[simp] theorem granary_modFn (i : Nat) (f : Fn → Fn) : (s.modFn i f).granary = s.granary := rfl
@[simp] theorem tb_modFn (i : Nat) (f : Fn → Fn) : (s.modFn i f).tb = s.tb := rfl
@[simp] theorem avs_modFn (i : Nat) (f : Fn → Fn) : (s.modFn i f).avs = s.avs := rfl
@[simp] theorem ports_modFn (i : Nat) (f : Fn → Fn) : (s.modFn i f).ports = s.ports := rfl
@[simp] theorem stepQ_modFn (i : Nat) (f : Fn → Fn) : (s.modFn i f).stepQ = s.stepQ := rfl
@[simp] theorem slates_modFn (i : Nat) (f : Fn → Fn) : (s.modFn i f).slates = s.slates := rfl
@[simp] theorem lanes_modFn (i : Nat) (f : Fn → Fn) : (s.modFn i f).lanes = s.lanes := rfl
@[simp] theorem poolQ_modFn (i : Nat) (f : Fn → Fn) : (s.modFn i f).poolQ = s.poolQ := rfl
@[simp] theorem supers_modFn (i : Nat) (f : Fn → Fn) : (s.modFn i f).supers = s.supers := rfl
@[simp] theorem symSlots_modFn (i : Nat) (f : Fn → Fn) : (s.modFn i f).symSlots = s.symSlots := rfl
@[simp] theorem asymSlots_modFn (i : Nat) (f : Fn → Fn) : (s.modFn i f).asymSlots = s.asymSlots := rfl
@[simp] theorem dev_modFn (i : Nat) (f : Fn → Fn) : (s.modFn i f).dev = s.dev := rfl
@[simp] theorem ownerCtr_modFn (i : Nat) (f : Fn → Fn) : (s.modFn i f).ownerCtr = s.ownerCtr := rfl
@[simp] theorem rekeyAt_modFn (i : Nat) (f : Fn → Fn) : (s.modFn i f).rekeyAt = s.rekeyAt := rfl
@[simp] theorem symCache_modFn (i : Nat) (f : Fn → Fn) : (s.modFn i f).symCache = s.symCache := rfl
@[simp] theorem asymCache_modFn (i : Nat) (f : Fn → Fn) : (s.modFn i f).asymCache = s.asymCache := rfl
@[simp] theorem cards_modFn (i : Nat) (f : Fn → Fn) : (s.modFn i f).cards = s.cards := rfl
@[simp] theorem entropy_modFn (i : Nat) (f : Fn → Fn) : (s.modFn i f).entropy = s.entropy := rfl
@[simp] theorem entPool_modFn (i : Nat) (f : Fn → Fn) : (s.modFn i f).entPool = s.entPool := rfl
@[simp] theorem dramKeys_modFn (i : Nat) (f : Fn → Fn) : (s.modFn i f).dramKeys = s.dramKeys := rfl
@[simp] theorem smills_modFn (i : Nat) (f : Fn → Fn) : (s.modFn i f).smills = s.smills := rfl
@[simp] theorem pmills_modFn (i : Nat) (f : Fn → Fn) : (s.modFn i f).pmills = s.pmills := rfl
@[simp] theorem millQ_modFn (i : Nat) (f : Fn → Fn) : (s.modFn i f).millQ = s.millQ := rfl
@[simp] theorem millOwn_modFn (i : Nat) (f : Fn → Fn) : (s.modFn i f).millOwn = s.millOwn := rfl
@[simp] theorem millLoans_modFn (i : Nat) (f : Fn → Fn) : (s.modFn i f).millLoans = s.millLoans := rfl
@[simp] theorem millUsed_modFn (i : Nat) (f : Fn → Fn) : (s.modFn i f).millUsed = s.millUsed := rfl
@[simp] theorem millWaited_modFn (i : Nat) (f : Fn → Fn) : (s.modFn i f).millWaited = s.millWaited := rfl
@[simp] theorem houses_modFn (i : Nat) (f : Fn → Fn) : (s.modFn i f).houses = s.houses := rfl
@[simp] theorem staged_modFn (i : Nat) (f : Fn → Fn) : (s.modFn i f).staged = s.staged := rfl
@[simp] theorem ways_modFn (i : Nat) (f : Fn → Fn) : (s.modFn i f).ways = s.ways := rfl
@[simp] theorem tillers_modFn (i : Nat) (f : Fn → Fn) : (s.modFn i f).tillers = s.tillers := rfl
@[simp] theorem leaving_modFn (i : Nat) (f : Fn → Fn) : (s.modFn i f).leaving = s.leaving := rfl
@[simp] theorem sharedEdges_modFn (i : Nat) (f : Fn → Fn) : (s.modFn i f).sharedEdges = s.sharedEdges := rfl
@[simp] theorem chutes_modFn (i : Nat) (f : Fn → Fn) : (s.modFn i f).chutes = s.chutes := rfl
@[simp] theorem hoppers_modFn (i : Nat) (f : Fn → Fn) : (s.modFn i f).hoppers = s.hoppers := rfl
@[simp] theorem chans_modFn (i : Nat) (f : Fn → Fn) : (s.modFn i f).chans = s.chans := rfl
@[simp] theorem power_modFn (i : Nat) (f : Fn → Fn) : (s.modFn i f).power = s.power := rfl
@[simp] theorem flash_modFn (i : Nat) (f : Fn → Fn) : (s.modFn i f).flash = s.flash := rfl
@[simp] theorem wear_modFn (i : Nat) (f : Fn → Fn) : (s.modFn i f).wear = s.wear := rfl
@[simp] theorem tap_modFn (i : Nat) (f : Fn → Fn) : (s.modFn i f).tap = s.tap := rfl
@[simp] theorem sealQ_modFn (i : Nat) (f : Fn → Fn) : (s.modFn i f).sealQ = s.sealQ := rfl
@[simp] theorem out_modFn (i : Nat) (f : Fn → Fn) : (s.modFn i f).out = s.out := rfl
@[simp] theorem picks_modFn (i : Nat) (f : Fn → Fn) : (s.modFn i f).picks = s.picks := rfl

/-! setPort writes only ports. -/

@[simp] theorem pending_setPort (i : Nat) (v : Port) : (s.setPort i v).pending = s.pending := rfl
@[simp] theorem dtime_setPort (i : Nat) (v : Port) : (s.setPort i v).dtime = s.dtime := rfl
@[simp] theorem termAt_setPort (i : Nat) (v : Port) : (s.setPort i v).termAt = s.termAt := rfl
@[simp] theorem regs_setPort (i : Nat) (v : Port) : (s.setPort i v).regs = s.regs := rfl
@[simp] theorem mem_setPort (i : Nat) (v : Port) : (s.setPort i v).mem = s.mem := rfl
@[simp] theorem poison_setPort (i : Nat) (v : Port) : (s.setPort i v).poison = s.poison := rfl
@[simp] theorem l2_setPort (i : Nat) (v : Port) : (s.setPort i v).l2 = s.l2 := rfl
@[simp] theorem granary_setPort (i : Nat) (v : Port) : (s.setPort i v).granary = s.granary := rfl
@[simp] theorem tb_setPort (i : Nat) (v : Port) : (s.setPort i v).tb = s.tb := rfl
@[simp] theorem avs_setPort (i : Nat) (v : Port) : (s.setPort i v).avs = s.avs := rfl
@[simp] theorem fns_setPort (i : Nat) (v : Port) : (s.setPort i v).fns = s.fns := rfl
@[simp] theorem stepQ_setPort (i : Nat) (v : Port) : (s.setPort i v).stepQ = s.stepQ := rfl
@[simp] theorem slates_setPort (i : Nat) (v : Port) : (s.setPort i v).slates = s.slates := rfl
@[simp] theorem lanes_setPort (i : Nat) (v : Port) : (s.setPort i v).lanes = s.lanes := rfl
@[simp] theorem poolQ_setPort (i : Nat) (v : Port) : (s.setPort i v).poolQ = s.poolQ := rfl
@[simp] theorem supers_setPort (i : Nat) (v : Port) : (s.setPort i v).supers = s.supers := rfl
@[simp] theorem symSlots_setPort (i : Nat) (v : Port) : (s.setPort i v).symSlots = s.symSlots := rfl
@[simp] theorem asymSlots_setPort (i : Nat) (v : Port) : (s.setPort i v).asymSlots = s.asymSlots := rfl
@[simp] theorem dev_setPort (i : Nat) (v : Port) : (s.setPort i v).dev = s.dev := rfl
@[simp] theorem ownerCtr_setPort (i : Nat) (v : Port) : (s.setPort i v).ownerCtr = s.ownerCtr := rfl
@[simp] theorem rekeyAt_setPort (i : Nat) (v : Port) : (s.setPort i v).rekeyAt = s.rekeyAt := rfl
@[simp] theorem symCache_setPort (i : Nat) (v : Port) : (s.setPort i v).symCache = s.symCache := rfl
@[simp] theorem asymCache_setPort (i : Nat) (v : Port) : (s.setPort i v).asymCache = s.asymCache := rfl
@[simp] theorem cards_setPort (i : Nat) (v : Port) : (s.setPort i v).cards = s.cards := rfl
@[simp] theorem entropy_setPort (i : Nat) (v : Port) : (s.setPort i v).entropy = s.entropy := rfl
@[simp] theorem entPool_setPort (i : Nat) (v : Port) : (s.setPort i v).entPool = s.entPool := rfl
@[simp] theorem dramKeys_setPort (i : Nat) (v : Port) : (s.setPort i v).dramKeys = s.dramKeys := rfl
@[simp] theorem smills_setPort (i : Nat) (v : Port) : (s.setPort i v).smills = s.smills := rfl
@[simp] theorem pmills_setPort (i : Nat) (v : Port) : (s.setPort i v).pmills = s.pmills := rfl
@[simp] theorem millQ_setPort (i : Nat) (v : Port) : (s.setPort i v).millQ = s.millQ := rfl
@[simp] theorem millOwn_setPort (i : Nat) (v : Port) : (s.setPort i v).millOwn = s.millOwn := rfl
@[simp] theorem millLoans_setPort (i : Nat) (v : Port) : (s.setPort i v).millLoans = s.millLoans := rfl
@[simp] theorem millUsed_setPort (i : Nat) (v : Port) : (s.setPort i v).millUsed = s.millUsed := rfl
@[simp] theorem millWaited_setPort (i : Nat) (v : Port) : (s.setPort i v).millWaited = s.millWaited := rfl
@[simp] theorem houses_setPort (i : Nat) (v : Port) : (s.setPort i v).houses = s.houses := rfl
@[simp] theorem staged_setPort (i : Nat) (v : Port) : (s.setPort i v).staged = s.staged := rfl
@[simp] theorem ways_setPort (i : Nat) (v : Port) : (s.setPort i v).ways = s.ways := rfl
@[simp] theorem tillers_setPort (i : Nat) (v : Port) : (s.setPort i v).tillers = s.tillers := rfl
@[simp] theorem leaving_setPort (i : Nat) (v : Port) : (s.setPort i v).leaving = s.leaving := rfl
@[simp] theorem sharedEdges_setPort (i : Nat) (v : Port) : (s.setPort i v).sharedEdges = s.sharedEdges := rfl
@[simp] theorem chutes_setPort (i : Nat) (v : Port) : (s.setPort i v).chutes = s.chutes := rfl
@[simp] theorem hoppers_setPort (i : Nat) (v : Port) : (s.setPort i v).hoppers = s.hoppers := rfl
@[simp] theorem chans_setPort (i : Nat) (v : Port) : (s.setPort i v).chans = s.chans := rfl
@[simp] theorem power_setPort (i : Nat) (v : Port) : (s.setPort i v).power = s.power := rfl
@[simp] theorem flash_setPort (i : Nat) (v : Port) : (s.setPort i v).flash = s.flash := rfl
@[simp] theorem wear_setPort (i : Nat) (v : Port) : (s.setPort i v).wear = s.wear := rfl
@[simp] theorem tap_setPort (i : Nat) (v : Port) : (s.setPort i v).tap = s.tap := rfl
@[simp] theorem sealQ_setPort (i : Nat) (v : Port) : (s.setPort i v).sealQ = s.sealQ := rfl
@[simp] theorem out_setPort (i : Nat) (v : Port) : (s.setPort i v).out = s.out := rfl
@[simp] theorem picks_setPort (i : Nat) (v : Port) : (s.setPort i v).picks = s.picks := rfl

/-! modPort writes only ports. -/

@[simp] theorem pending_modPort (i : Nat) (f : Port → Port) : (s.modPort i f).pending = s.pending := rfl
@[simp] theorem dtime_modPort (i : Nat) (f : Port → Port) : (s.modPort i f).dtime = s.dtime := rfl
@[simp] theorem termAt_modPort (i : Nat) (f : Port → Port) : (s.modPort i f).termAt = s.termAt := rfl
@[simp] theorem regs_modPort (i : Nat) (f : Port → Port) : (s.modPort i f).regs = s.regs := rfl
@[simp] theorem mem_modPort (i : Nat) (f : Port → Port) : (s.modPort i f).mem = s.mem := rfl
@[simp] theorem poison_modPort (i : Nat) (f : Port → Port) : (s.modPort i f).poison = s.poison := rfl
@[simp] theorem l2_modPort (i : Nat) (f : Port → Port) : (s.modPort i f).l2 = s.l2 := rfl
@[simp] theorem granary_modPort (i : Nat) (f : Port → Port) : (s.modPort i f).granary = s.granary := rfl
@[simp] theorem tb_modPort (i : Nat) (f : Port → Port) : (s.modPort i f).tb = s.tb := rfl
@[simp] theorem avs_modPort (i : Nat) (f : Port → Port) : (s.modPort i f).avs = s.avs := rfl
@[simp] theorem fns_modPort (i : Nat) (f : Port → Port) : (s.modPort i f).fns = s.fns := rfl
@[simp] theorem stepQ_modPort (i : Nat) (f : Port → Port) : (s.modPort i f).stepQ = s.stepQ := rfl
@[simp] theorem slates_modPort (i : Nat) (f : Port → Port) : (s.modPort i f).slates = s.slates := rfl
@[simp] theorem lanes_modPort (i : Nat) (f : Port → Port) : (s.modPort i f).lanes = s.lanes := rfl
@[simp] theorem poolQ_modPort (i : Nat) (f : Port → Port) : (s.modPort i f).poolQ = s.poolQ := rfl
@[simp] theorem supers_modPort (i : Nat) (f : Port → Port) : (s.modPort i f).supers = s.supers := rfl
@[simp] theorem symSlots_modPort (i : Nat) (f : Port → Port) : (s.modPort i f).symSlots = s.symSlots := rfl
@[simp] theorem asymSlots_modPort (i : Nat) (f : Port → Port) : (s.modPort i f).asymSlots = s.asymSlots := rfl
@[simp] theorem dev_modPort (i : Nat) (f : Port → Port) : (s.modPort i f).dev = s.dev := rfl
@[simp] theorem ownerCtr_modPort (i : Nat) (f : Port → Port) : (s.modPort i f).ownerCtr = s.ownerCtr := rfl
@[simp] theorem rekeyAt_modPort (i : Nat) (f : Port → Port) : (s.modPort i f).rekeyAt = s.rekeyAt := rfl
@[simp] theorem symCache_modPort (i : Nat) (f : Port → Port) : (s.modPort i f).symCache = s.symCache := rfl
@[simp] theorem asymCache_modPort (i : Nat) (f : Port → Port) : (s.modPort i f).asymCache = s.asymCache := rfl
@[simp] theorem cards_modPort (i : Nat) (f : Port → Port) : (s.modPort i f).cards = s.cards := rfl
@[simp] theorem entropy_modPort (i : Nat) (f : Port → Port) : (s.modPort i f).entropy = s.entropy := rfl
@[simp] theorem entPool_modPort (i : Nat) (f : Port → Port) : (s.modPort i f).entPool = s.entPool := rfl
@[simp] theorem dramKeys_modPort (i : Nat) (f : Port → Port) : (s.modPort i f).dramKeys = s.dramKeys := rfl
@[simp] theorem smills_modPort (i : Nat) (f : Port → Port) : (s.modPort i f).smills = s.smills := rfl
@[simp] theorem pmills_modPort (i : Nat) (f : Port → Port) : (s.modPort i f).pmills = s.pmills := rfl
@[simp] theorem millQ_modPort (i : Nat) (f : Port → Port) : (s.modPort i f).millQ = s.millQ := rfl
@[simp] theorem millOwn_modPort (i : Nat) (f : Port → Port) : (s.modPort i f).millOwn = s.millOwn := rfl
@[simp] theorem millLoans_modPort (i : Nat) (f : Port → Port) : (s.modPort i f).millLoans = s.millLoans := rfl
@[simp] theorem millUsed_modPort (i : Nat) (f : Port → Port) : (s.modPort i f).millUsed = s.millUsed := rfl
@[simp] theorem millWaited_modPort (i : Nat) (f : Port → Port) : (s.modPort i f).millWaited = s.millWaited := rfl
@[simp] theorem houses_modPort (i : Nat) (f : Port → Port) : (s.modPort i f).houses = s.houses := rfl
@[simp] theorem staged_modPort (i : Nat) (f : Port → Port) : (s.modPort i f).staged = s.staged := rfl
@[simp] theorem ways_modPort (i : Nat) (f : Port → Port) : (s.modPort i f).ways = s.ways := rfl
@[simp] theorem tillers_modPort (i : Nat) (f : Port → Port) : (s.modPort i f).tillers = s.tillers := rfl
@[simp] theorem leaving_modPort (i : Nat) (f : Port → Port) : (s.modPort i f).leaving = s.leaving := rfl
@[simp] theorem sharedEdges_modPort (i : Nat) (f : Port → Port) : (s.modPort i f).sharedEdges = s.sharedEdges := rfl
@[simp] theorem chutes_modPort (i : Nat) (f : Port → Port) : (s.modPort i f).chutes = s.chutes := rfl
@[simp] theorem hoppers_modPort (i : Nat) (f : Port → Port) : (s.modPort i f).hoppers = s.hoppers := rfl
@[simp] theorem chans_modPort (i : Nat) (f : Port → Port) : (s.modPort i f).chans = s.chans := rfl
@[simp] theorem power_modPort (i : Nat) (f : Port → Port) : (s.modPort i f).power = s.power := rfl
@[simp] theorem flash_modPort (i : Nat) (f : Port → Port) : (s.modPort i f).flash = s.flash := rfl
@[simp] theorem wear_modPort (i : Nat) (f : Port → Port) : (s.modPort i f).wear = s.wear := rfl
@[simp] theorem tap_modPort (i : Nat) (f : Port → Port) : (s.modPort i f).tap = s.tap := rfl
@[simp] theorem sealQ_modPort (i : Nat) (f : Port → Port) : (s.modPort i f).sealQ = s.sealQ := rfl
@[simp] theorem out_modPort (i : Nat) (f : Port → Port) : (s.modPort i f).out = s.out := rfl
@[simp] theorem picks_modPort (i : Nat) (f : Port → Port) : (s.modPort i f).picks = s.picks := rfl

/-! setLane writes only lanes. -/

@[simp] theorem pending_setLane (i : Nat) (v : Lane) : (s.setLane i v).pending = s.pending := rfl
@[simp] theorem dtime_setLane (i : Nat) (v : Lane) : (s.setLane i v).dtime = s.dtime := rfl
@[simp] theorem termAt_setLane (i : Nat) (v : Lane) : (s.setLane i v).termAt = s.termAt := rfl
@[simp] theorem regs_setLane (i : Nat) (v : Lane) : (s.setLane i v).regs = s.regs := rfl
@[simp] theorem mem_setLane (i : Nat) (v : Lane) : (s.setLane i v).mem = s.mem := rfl
@[simp] theorem poison_setLane (i : Nat) (v : Lane) : (s.setLane i v).poison = s.poison := rfl
@[simp] theorem l2_setLane (i : Nat) (v : Lane) : (s.setLane i v).l2 = s.l2 := rfl
@[simp] theorem granary_setLane (i : Nat) (v : Lane) : (s.setLane i v).granary = s.granary := rfl
@[simp] theorem tb_setLane (i : Nat) (v : Lane) : (s.setLane i v).tb = s.tb := rfl
@[simp] theorem avs_setLane (i : Nat) (v : Lane) : (s.setLane i v).avs = s.avs := rfl
@[simp] theorem ports_setLane (i : Nat) (v : Lane) : (s.setLane i v).ports = s.ports := rfl
@[simp] theorem fns_setLane (i : Nat) (v : Lane) : (s.setLane i v).fns = s.fns := rfl
@[simp] theorem stepQ_setLane (i : Nat) (v : Lane) : (s.setLane i v).stepQ = s.stepQ := rfl
@[simp] theorem slates_setLane (i : Nat) (v : Lane) : (s.setLane i v).slates = s.slates := rfl
@[simp] theorem poolQ_setLane (i : Nat) (v : Lane) : (s.setLane i v).poolQ = s.poolQ := rfl
@[simp] theorem supers_setLane (i : Nat) (v : Lane) : (s.setLane i v).supers = s.supers := rfl
@[simp] theorem symSlots_setLane (i : Nat) (v : Lane) : (s.setLane i v).symSlots = s.symSlots := rfl
@[simp] theorem asymSlots_setLane (i : Nat) (v : Lane) : (s.setLane i v).asymSlots = s.asymSlots := rfl
@[simp] theorem dev_setLane (i : Nat) (v : Lane) : (s.setLane i v).dev = s.dev := rfl
@[simp] theorem ownerCtr_setLane (i : Nat) (v : Lane) : (s.setLane i v).ownerCtr = s.ownerCtr := rfl
@[simp] theorem rekeyAt_setLane (i : Nat) (v : Lane) : (s.setLane i v).rekeyAt = s.rekeyAt := rfl
@[simp] theorem symCache_setLane (i : Nat) (v : Lane) : (s.setLane i v).symCache = s.symCache := rfl
@[simp] theorem asymCache_setLane (i : Nat) (v : Lane) : (s.setLane i v).asymCache = s.asymCache := rfl
@[simp] theorem cards_setLane (i : Nat) (v : Lane) : (s.setLane i v).cards = s.cards := rfl
@[simp] theorem entropy_setLane (i : Nat) (v : Lane) : (s.setLane i v).entropy = s.entropy := rfl
@[simp] theorem entPool_setLane (i : Nat) (v : Lane) : (s.setLane i v).entPool = s.entPool := rfl
@[simp] theorem dramKeys_setLane (i : Nat) (v : Lane) : (s.setLane i v).dramKeys = s.dramKeys := rfl
@[simp] theorem smills_setLane (i : Nat) (v : Lane) : (s.setLane i v).smills = s.smills := rfl
@[simp] theorem pmills_setLane (i : Nat) (v : Lane) : (s.setLane i v).pmills = s.pmills := rfl
@[simp] theorem millQ_setLane (i : Nat) (v : Lane) : (s.setLane i v).millQ = s.millQ := rfl
@[simp] theorem millOwn_setLane (i : Nat) (v : Lane) : (s.setLane i v).millOwn = s.millOwn := rfl
@[simp] theorem millLoans_setLane (i : Nat) (v : Lane) : (s.setLane i v).millLoans = s.millLoans := rfl
@[simp] theorem millUsed_setLane (i : Nat) (v : Lane) : (s.setLane i v).millUsed = s.millUsed := rfl
@[simp] theorem millWaited_setLane (i : Nat) (v : Lane) : (s.setLane i v).millWaited = s.millWaited := rfl
@[simp] theorem houses_setLane (i : Nat) (v : Lane) : (s.setLane i v).houses = s.houses := rfl
@[simp] theorem staged_setLane (i : Nat) (v : Lane) : (s.setLane i v).staged = s.staged := rfl
@[simp] theorem ways_setLane (i : Nat) (v : Lane) : (s.setLane i v).ways = s.ways := rfl
@[simp] theorem tillers_setLane (i : Nat) (v : Lane) : (s.setLane i v).tillers = s.tillers := rfl
@[simp] theorem leaving_setLane (i : Nat) (v : Lane) : (s.setLane i v).leaving = s.leaving := rfl
@[simp] theorem sharedEdges_setLane (i : Nat) (v : Lane) : (s.setLane i v).sharedEdges = s.sharedEdges := rfl
@[simp] theorem chutes_setLane (i : Nat) (v : Lane) : (s.setLane i v).chutes = s.chutes := rfl
@[simp] theorem hoppers_setLane (i : Nat) (v : Lane) : (s.setLane i v).hoppers = s.hoppers := rfl
@[simp] theorem chans_setLane (i : Nat) (v : Lane) : (s.setLane i v).chans = s.chans := rfl
@[simp] theorem power_setLane (i : Nat) (v : Lane) : (s.setLane i v).power = s.power := rfl
@[simp] theorem flash_setLane (i : Nat) (v : Lane) : (s.setLane i v).flash = s.flash := rfl
@[simp] theorem wear_setLane (i : Nat) (v : Lane) : (s.setLane i v).wear = s.wear := rfl
@[simp] theorem tap_setLane (i : Nat) (v : Lane) : (s.setLane i v).tap = s.tap := rfl
@[simp] theorem sealQ_setLane (i : Nat) (v : Lane) : (s.setLane i v).sealQ = s.sealQ := rfl
@[simp] theorem out_setLane (i : Nat) (v : Lane) : (s.setLane i v).out = s.out := rfl
@[simp] theorem picks_setLane (i : Nat) (v : Lane) : (s.setLane i v).picks = s.picks := rfl

/-! modLane writes only lanes. -/

@[simp] theorem pending_modLane (i : Nat) (f : Lane → Lane) : (s.modLane i f).pending = s.pending := rfl
@[simp] theorem dtime_modLane (i : Nat) (f : Lane → Lane) : (s.modLane i f).dtime = s.dtime := rfl
@[simp] theorem termAt_modLane (i : Nat) (f : Lane → Lane) : (s.modLane i f).termAt = s.termAt := rfl
@[simp] theorem regs_modLane (i : Nat) (f : Lane → Lane) : (s.modLane i f).regs = s.regs := rfl
@[simp] theorem mem_modLane (i : Nat) (f : Lane → Lane) : (s.modLane i f).mem = s.mem := rfl
@[simp] theorem poison_modLane (i : Nat) (f : Lane → Lane) : (s.modLane i f).poison = s.poison := rfl
@[simp] theorem l2_modLane (i : Nat) (f : Lane → Lane) : (s.modLane i f).l2 = s.l2 := rfl
@[simp] theorem granary_modLane (i : Nat) (f : Lane → Lane) : (s.modLane i f).granary = s.granary := rfl
@[simp] theorem tb_modLane (i : Nat) (f : Lane → Lane) : (s.modLane i f).tb = s.tb := rfl
@[simp] theorem avs_modLane (i : Nat) (f : Lane → Lane) : (s.modLane i f).avs = s.avs := rfl
@[simp] theorem ports_modLane (i : Nat) (f : Lane → Lane) : (s.modLane i f).ports = s.ports := rfl
@[simp] theorem fns_modLane (i : Nat) (f : Lane → Lane) : (s.modLane i f).fns = s.fns := rfl
@[simp] theorem stepQ_modLane (i : Nat) (f : Lane → Lane) : (s.modLane i f).stepQ = s.stepQ := rfl
@[simp] theorem slates_modLane (i : Nat) (f : Lane → Lane) : (s.modLane i f).slates = s.slates := rfl
@[simp] theorem poolQ_modLane (i : Nat) (f : Lane → Lane) : (s.modLane i f).poolQ = s.poolQ := rfl
@[simp] theorem supers_modLane (i : Nat) (f : Lane → Lane) : (s.modLane i f).supers = s.supers := rfl
@[simp] theorem symSlots_modLane (i : Nat) (f : Lane → Lane) : (s.modLane i f).symSlots = s.symSlots := rfl
@[simp] theorem asymSlots_modLane (i : Nat) (f : Lane → Lane) : (s.modLane i f).asymSlots = s.asymSlots := rfl
@[simp] theorem dev_modLane (i : Nat) (f : Lane → Lane) : (s.modLane i f).dev = s.dev := rfl
@[simp] theorem ownerCtr_modLane (i : Nat) (f : Lane → Lane) : (s.modLane i f).ownerCtr = s.ownerCtr := rfl
@[simp] theorem rekeyAt_modLane (i : Nat) (f : Lane → Lane) : (s.modLane i f).rekeyAt = s.rekeyAt := rfl
@[simp] theorem symCache_modLane (i : Nat) (f : Lane → Lane) : (s.modLane i f).symCache = s.symCache := rfl
@[simp] theorem asymCache_modLane (i : Nat) (f : Lane → Lane) : (s.modLane i f).asymCache = s.asymCache := rfl
@[simp] theorem cards_modLane (i : Nat) (f : Lane → Lane) : (s.modLane i f).cards = s.cards := rfl
@[simp] theorem entropy_modLane (i : Nat) (f : Lane → Lane) : (s.modLane i f).entropy = s.entropy := rfl
@[simp] theorem entPool_modLane (i : Nat) (f : Lane → Lane) : (s.modLane i f).entPool = s.entPool := rfl
@[simp] theorem dramKeys_modLane (i : Nat) (f : Lane → Lane) : (s.modLane i f).dramKeys = s.dramKeys := rfl
@[simp] theorem smills_modLane (i : Nat) (f : Lane → Lane) : (s.modLane i f).smills = s.smills := rfl
@[simp] theorem pmills_modLane (i : Nat) (f : Lane → Lane) : (s.modLane i f).pmills = s.pmills := rfl
@[simp] theorem millQ_modLane (i : Nat) (f : Lane → Lane) : (s.modLane i f).millQ = s.millQ := rfl
@[simp] theorem millOwn_modLane (i : Nat) (f : Lane → Lane) : (s.modLane i f).millOwn = s.millOwn := rfl
@[simp] theorem millLoans_modLane (i : Nat) (f : Lane → Lane) : (s.modLane i f).millLoans = s.millLoans := rfl
@[simp] theorem millUsed_modLane (i : Nat) (f : Lane → Lane) : (s.modLane i f).millUsed = s.millUsed := rfl
@[simp] theorem millWaited_modLane (i : Nat) (f : Lane → Lane) : (s.modLane i f).millWaited = s.millWaited := rfl
@[simp] theorem houses_modLane (i : Nat) (f : Lane → Lane) : (s.modLane i f).houses = s.houses := rfl
@[simp] theorem staged_modLane (i : Nat) (f : Lane → Lane) : (s.modLane i f).staged = s.staged := rfl
@[simp] theorem ways_modLane (i : Nat) (f : Lane → Lane) : (s.modLane i f).ways = s.ways := rfl
@[simp] theorem tillers_modLane (i : Nat) (f : Lane → Lane) : (s.modLane i f).tillers = s.tillers := rfl
@[simp] theorem leaving_modLane (i : Nat) (f : Lane → Lane) : (s.modLane i f).leaving = s.leaving := rfl
@[simp] theorem sharedEdges_modLane (i : Nat) (f : Lane → Lane) : (s.modLane i f).sharedEdges = s.sharedEdges := rfl
@[simp] theorem chutes_modLane (i : Nat) (f : Lane → Lane) : (s.modLane i f).chutes = s.chutes := rfl
@[simp] theorem hoppers_modLane (i : Nat) (f : Lane → Lane) : (s.modLane i f).hoppers = s.hoppers := rfl
@[simp] theorem chans_modLane (i : Nat) (f : Lane → Lane) : (s.modLane i f).chans = s.chans := rfl
@[simp] theorem power_modLane (i : Nat) (f : Lane → Lane) : (s.modLane i f).power = s.power := rfl
@[simp] theorem flash_modLane (i : Nat) (f : Lane → Lane) : (s.modLane i f).flash = s.flash := rfl
@[simp] theorem wear_modLane (i : Nat) (f : Lane → Lane) : (s.modLane i f).wear = s.wear := rfl
@[simp] theorem tap_modLane (i : Nat) (f : Lane → Lane) : (s.modLane i f).tap = s.tap := rfl
@[simp] theorem sealQ_modLane (i : Nat) (f : Lane → Lane) : (s.modLane i f).sealQ = s.sealQ := rfl
@[simp] theorem out_modLane (i : Nat) (f : Lane → Lane) : (s.modLane i f).out = s.out := rfl
@[simp] theorem picks_modLane (i : Nat) (f : Lane → Lane) : (s.modLane i f).picks = s.picks := rfl

/-! setHouse writes only houses. -/

@[simp] theorem pending_setHouse (i : Nat) (v : House) : (s.setHouse i v).pending = s.pending := rfl
@[simp] theorem dtime_setHouse (i : Nat) (v : House) : (s.setHouse i v).dtime = s.dtime := rfl
@[simp] theorem termAt_setHouse (i : Nat) (v : House) : (s.setHouse i v).termAt = s.termAt := rfl
@[simp] theorem regs_setHouse (i : Nat) (v : House) : (s.setHouse i v).regs = s.regs := rfl
@[simp] theorem mem_setHouse (i : Nat) (v : House) : (s.setHouse i v).mem = s.mem := rfl
@[simp] theorem poison_setHouse (i : Nat) (v : House) : (s.setHouse i v).poison = s.poison := rfl
@[simp] theorem l2_setHouse (i : Nat) (v : House) : (s.setHouse i v).l2 = s.l2 := rfl
@[simp] theorem granary_setHouse (i : Nat) (v : House) : (s.setHouse i v).granary = s.granary := rfl
@[simp] theorem tb_setHouse (i : Nat) (v : House) : (s.setHouse i v).tb = s.tb := rfl
@[simp] theorem avs_setHouse (i : Nat) (v : House) : (s.setHouse i v).avs = s.avs := rfl
@[simp] theorem ports_setHouse (i : Nat) (v : House) : (s.setHouse i v).ports = s.ports := rfl
@[simp] theorem fns_setHouse (i : Nat) (v : House) : (s.setHouse i v).fns = s.fns := rfl
@[simp] theorem stepQ_setHouse (i : Nat) (v : House) : (s.setHouse i v).stepQ = s.stepQ := rfl
@[simp] theorem slates_setHouse (i : Nat) (v : House) : (s.setHouse i v).slates = s.slates := rfl
@[simp] theorem lanes_setHouse (i : Nat) (v : House) : (s.setHouse i v).lanes = s.lanes := rfl
@[simp] theorem poolQ_setHouse (i : Nat) (v : House) : (s.setHouse i v).poolQ = s.poolQ := rfl
@[simp] theorem supers_setHouse (i : Nat) (v : House) : (s.setHouse i v).supers = s.supers := rfl
@[simp] theorem symSlots_setHouse (i : Nat) (v : House) : (s.setHouse i v).symSlots = s.symSlots := rfl
@[simp] theorem asymSlots_setHouse (i : Nat) (v : House) : (s.setHouse i v).asymSlots = s.asymSlots := rfl
@[simp] theorem dev_setHouse (i : Nat) (v : House) : (s.setHouse i v).dev = s.dev := rfl
@[simp] theorem ownerCtr_setHouse (i : Nat) (v : House) : (s.setHouse i v).ownerCtr = s.ownerCtr := rfl
@[simp] theorem rekeyAt_setHouse (i : Nat) (v : House) : (s.setHouse i v).rekeyAt = s.rekeyAt := rfl
@[simp] theorem symCache_setHouse (i : Nat) (v : House) : (s.setHouse i v).symCache = s.symCache := rfl
@[simp] theorem asymCache_setHouse (i : Nat) (v : House) : (s.setHouse i v).asymCache = s.asymCache := rfl
@[simp] theorem cards_setHouse (i : Nat) (v : House) : (s.setHouse i v).cards = s.cards := rfl
@[simp] theorem entropy_setHouse (i : Nat) (v : House) : (s.setHouse i v).entropy = s.entropy := rfl
@[simp] theorem entPool_setHouse (i : Nat) (v : House) : (s.setHouse i v).entPool = s.entPool := rfl
@[simp] theorem dramKeys_setHouse (i : Nat) (v : House) : (s.setHouse i v).dramKeys = s.dramKeys := rfl
@[simp] theorem smills_setHouse (i : Nat) (v : House) : (s.setHouse i v).smills = s.smills := rfl
@[simp] theorem pmills_setHouse (i : Nat) (v : House) : (s.setHouse i v).pmills = s.pmills := rfl
@[simp] theorem millQ_setHouse (i : Nat) (v : House) : (s.setHouse i v).millQ = s.millQ := rfl
@[simp] theorem millOwn_setHouse (i : Nat) (v : House) : (s.setHouse i v).millOwn = s.millOwn := rfl
@[simp] theorem millLoans_setHouse (i : Nat) (v : House) : (s.setHouse i v).millLoans = s.millLoans := rfl
@[simp] theorem millUsed_setHouse (i : Nat) (v : House) : (s.setHouse i v).millUsed = s.millUsed := rfl
@[simp] theorem millWaited_setHouse (i : Nat) (v : House) : (s.setHouse i v).millWaited = s.millWaited := rfl
@[simp] theorem staged_setHouse (i : Nat) (v : House) : (s.setHouse i v).staged = s.staged := rfl
@[simp] theorem ways_setHouse (i : Nat) (v : House) : (s.setHouse i v).ways = s.ways := rfl
@[simp] theorem tillers_setHouse (i : Nat) (v : House) : (s.setHouse i v).tillers = s.tillers := rfl
@[simp] theorem leaving_setHouse (i : Nat) (v : House) : (s.setHouse i v).leaving = s.leaving := rfl
@[simp] theorem sharedEdges_setHouse (i : Nat) (v : House) : (s.setHouse i v).sharedEdges = s.sharedEdges := rfl
@[simp] theorem chutes_setHouse (i : Nat) (v : House) : (s.setHouse i v).chutes = s.chutes := rfl
@[simp] theorem hoppers_setHouse (i : Nat) (v : House) : (s.setHouse i v).hoppers = s.hoppers := rfl
@[simp] theorem chans_setHouse (i : Nat) (v : House) : (s.setHouse i v).chans = s.chans := rfl
@[simp] theorem power_setHouse (i : Nat) (v : House) : (s.setHouse i v).power = s.power := rfl
@[simp] theorem flash_setHouse (i : Nat) (v : House) : (s.setHouse i v).flash = s.flash := rfl
@[simp] theorem wear_setHouse (i : Nat) (v : House) : (s.setHouse i v).wear = s.wear := rfl
@[simp] theorem tap_setHouse (i : Nat) (v : House) : (s.setHouse i v).tap = s.tap := rfl
@[simp] theorem sealQ_setHouse (i : Nat) (v : House) : (s.setHouse i v).sealQ = s.sealQ := rfl
@[simp] theorem out_setHouse (i : Nat) (v : House) : (s.setHouse i v).out = s.out := rfl
@[simp] theorem picks_setHouse (i : Nat) (v : House) : (s.setHouse i v).picks = s.picks := rfl

/-! modHouse writes only houses. -/

@[simp] theorem pending_modHouse (i : Nat) (f : House → House) : (s.modHouse i f).pending = s.pending := rfl
@[simp] theorem dtime_modHouse (i : Nat) (f : House → House) : (s.modHouse i f).dtime = s.dtime := rfl
@[simp] theorem termAt_modHouse (i : Nat) (f : House → House) : (s.modHouse i f).termAt = s.termAt := rfl
@[simp] theorem regs_modHouse (i : Nat) (f : House → House) : (s.modHouse i f).regs = s.regs := rfl
@[simp] theorem mem_modHouse (i : Nat) (f : House → House) : (s.modHouse i f).mem = s.mem := rfl
@[simp] theorem poison_modHouse (i : Nat) (f : House → House) : (s.modHouse i f).poison = s.poison := rfl
@[simp] theorem l2_modHouse (i : Nat) (f : House → House) : (s.modHouse i f).l2 = s.l2 := rfl
@[simp] theorem granary_modHouse (i : Nat) (f : House → House) : (s.modHouse i f).granary = s.granary := rfl
@[simp] theorem tb_modHouse (i : Nat) (f : House → House) : (s.modHouse i f).tb = s.tb := rfl
@[simp] theorem avs_modHouse (i : Nat) (f : House → House) : (s.modHouse i f).avs = s.avs := rfl
@[simp] theorem ports_modHouse (i : Nat) (f : House → House) : (s.modHouse i f).ports = s.ports := rfl
@[simp] theorem fns_modHouse (i : Nat) (f : House → House) : (s.modHouse i f).fns = s.fns := rfl
@[simp] theorem stepQ_modHouse (i : Nat) (f : House → House) : (s.modHouse i f).stepQ = s.stepQ := rfl
@[simp] theorem slates_modHouse (i : Nat) (f : House → House) : (s.modHouse i f).slates = s.slates := rfl
@[simp] theorem lanes_modHouse (i : Nat) (f : House → House) : (s.modHouse i f).lanes = s.lanes := rfl
@[simp] theorem poolQ_modHouse (i : Nat) (f : House → House) : (s.modHouse i f).poolQ = s.poolQ := rfl
@[simp] theorem supers_modHouse (i : Nat) (f : House → House) : (s.modHouse i f).supers = s.supers := rfl
@[simp] theorem symSlots_modHouse (i : Nat) (f : House → House) : (s.modHouse i f).symSlots = s.symSlots := rfl
@[simp] theorem asymSlots_modHouse (i : Nat) (f : House → House) : (s.modHouse i f).asymSlots = s.asymSlots := rfl
@[simp] theorem dev_modHouse (i : Nat) (f : House → House) : (s.modHouse i f).dev = s.dev := rfl
@[simp] theorem ownerCtr_modHouse (i : Nat) (f : House → House) : (s.modHouse i f).ownerCtr = s.ownerCtr := rfl
@[simp] theorem rekeyAt_modHouse (i : Nat) (f : House → House) : (s.modHouse i f).rekeyAt = s.rekeyAt := rfl
@[simp] theorem symCache_modHouse (i : Nat) (f : House → House) : (s.modHouse i f).symCache = s.symCache := rfl
@[simp] theorem asymCache_modHouse (i : Nat) (f : House → House) : (s.modHouse i f).asymCache = s.asymCache := rfl
@[simp] theorem cards_modHouse (i : Nat) (f : House → House) : (s.modHouse i f).cards = s.cards := rfl
@[simp] theorem entropy_modHouse (i : Nat) (f : House → House) : (s.modHouse i f).entropy = s.entropy := rfl
@[simp] theorem entPool_modHouse (i : Nat) (f : House → House) : (s.modHouse i f).entPool = s.entPool := rfl
@[simp] theorem dramKeys_modHouse (i : Nat) (f : House → House) : (s.modHouse i f).dramKeys = s.dramKeys := rfl
@[simp] theorem smills_modHouse (i : Nat) (f : House → House) : (s.modHouse i f).smills = s.smills := rfl
@[simp] theorem pmills_modHouse (i : Nat) (f : House → House) : (s.modHouse i f).pmills = s.pmills := rfl
@[simp] theorem millQ_modHouse (i : Nat) (f : House → House) : (s.modHouse i f).millQ = s.millQ := rfl
@[simp] theorem millOwn_modHouse (i : Nat) (f : House → House) : (s.modHouse i f).millOwn = s.millOwn := rfl
@[simp] theorem millLoans_modHouse (i : Nat) (f : House → House) : (s.modHouse i f).millLoans = s.millLoans := rfl
@[simp] theorem millUsed_modHouse (i : Nat) (f : House → House) : (s.modHouse i f).millUsed = s.millUsed := rfl
@[simp] theorem millWaited_modHouse (i : Nat) (f : House → House) : (s.modHouse i f).millWaited = s.millWaited := rfl
@[simp] theorem staged_modHouse (i : Nat) (f : House → House) : (s.modHouse i f).staged = s.staged := rfl
@[simp] theorem ways_modHouse (i : Nat) (f : House → House) : (s.modHouse i f).ways = s.ways := rfl
@[simp] theorem tillers_modHouse (i : Nat) (f : House → House) : (s.modHouse i f).tillers = s.tillers := rfl
@[simp] theorem leaving_modHouse (i : Nat) (f : House → House) : (s.modHouse i f).leaving = s.leaving := rfl
@[simp] theorem sharedEdges_modHouse (i : Nat) (f : House → House) : (s.modHouse i f).sharedEdges = s.sharedEdges := rfl
@[simp] theorem chutes_modHouse (i : Nat) (f : House → House) : (s.modHouse i f).chutes = s.chutes := rfl
@[simp] theorem hoppers_modHouse (i : Nat) (f : House → House) : (s.modHouse i f).hoppers = s.hoppers := rfl
@[simp] theorem chans_modHouse (i : Nat) (f : House → House) : (s.modHouse i f).chans = s.chans := rfl
@[simp] theorem power_modHouse (i : Nat) (f : House → House) : (s.modHouse i f).power = s.power := rfl
@[simp] theorem flash_modHouse (i : Nat) (f : House → House) : (s.modHouse i f).flash = s.flash := rfl
@[simp] theorem wear_modHouse (i : Nat) (f : House → House) : (s.modHouse i f).wear = s.wear := rfl
@[simp] theorem tap_modHouse (i : Nat) (f : House → House) : (s.modHouse i f).tap = s.tap := rfl
@[simp] theorem sealQ_modHouse (i : Nat) (f : House → House) : (s.modHouse i f).sealQ = s.sealQ := rfl
@[simp] theorem out_modHouse (i : Nat) (f : House → House) : (s.modHouse i f).out = s.out := rfl
@[simp] theorem picks_modHouse (i : Nat) (f : House → House) : (s.modHouse i f).picks = s.picks := rfl

/-! modJ writes only houses. -/

@[simp] theorem pending_modJ (i : Nat) (f : Journal → Journal) : (s.modJ i f).pending = s.pending := rfl
@[simp] theorem dtime_modJ (i : Nat) (f : Journal → Journal) : (s.modJ i f).dtime = s.dtime := rfl
@[simp] theorem termAt_modJ (i : Nat) (f : Journal → Journal) : (s.modJ i f).termAt = s.termAt := rfl
@[simp] theorem regs_modJ (i : Nat) (f : Journal → Journal) : (s.modJ i f).regs = s.regs := rfl
@[simp] theorem mem_modJ (i : Nat) (f : Journal → Journal) : (s.modJ i f).mem = s.mem := rfl
@[simp] theorem poison_modJ (i : Nat) (f : Journal → Journal) : (s.modJ i f).poison = s.poison := rfl
@[simp] theorem l2_modJ (i : Nat) (f : Journal → Journal) : (s.modJ i f).l2 = s.l2 := rfl
@[simp] theorem granary_modJ (i : Nat) (f : Journal → Journal) : (s.modJ i f).granary = s.granary := rfl
@[simp] theorem tb_modJ (i : Nat) (f : Journal → Journal) : (s.modJ i f).tb = s.tb := rfl
@[simp] theorem avs_modJ (i : Nat) (f : Journal → Journal) : (s.modJ i f).avs = s.avs := rfl
@[simp] theorem ports_modJ (i : Nat) (f : Journal → Journal) : (s.modJ i f).ports = s.ports := rfl
@[simp] theorem fns_modJ (i : Nat) (f : Journal → Journal) : (s.modJ i f).fns = s.fns := rfl
@[simp] theorem stepQ_modJ (i : Nat) (f : Journal → Journal) : (s.modJ i f).stepQ = s.stepQ := rfl
@[simp] theorem slates_modJ (i : Nat) (f : Journal → Journal) : (s.modJ i f).slates = s.slates := rfl
@[simp] theorem lanes_modJ (i : Nat) (f : Journal → Journal) : (s.modJ i f).lanes = s.lanes := rfl
@[simp] theorem poolQ_modJ (i : Nat) (f : Journal → Journal) : (s.modJ i f).poolQ = s.poolQ := rfl
@[simp] theorem supers_modJ (i : Nat) (f : Journal → Journal) : (s.modJ i f).supers = s.supers := rfl
@[simp] theorem symSlots_modJ (i : Nat) (f : Journal → Journal) : (s.modJ i f).symSlots = s.symSlots := rfl
@[simp] theorem asymSlots_modJ (i : Nat) (f : Journal → Journal) : (s.modJ i f).asymSlots = s.asymSlots := rfl
@[simp] theorem dev_modJ (i : Nat) (f : Journal → Journal) : (s.modJ i f).dev = s.dev := rfl
@[simp] theorem ownerCtr_modJ (i : Nat) (f : Journal → Journal) : (s.modJ i f).ownerCtr = s.ownerCtr := rfl
@[simp] theorem rekeyAt_modJ (i : Nat) (f : Journal → Journal) : (s.modJ i f).rekeyAt = s.rekeyAt := rfl
@[simp] theorem symCache_modJ (i : Nat) (f : Journal → Journal) : (s.modJ i f).symCache = s.symCache := rfl
@[simp] theorem asymCache_modJ (i : Nat) (f : Journal → Journal) : (s.modJ i f).asymCache = s.asymCache := rfl
@[simp] theorem cards_modJ (i : Nat) (f : Journal → Journal) : (s.modJ i f).cards = s.cards := rfl
@[simp] theorem entropy_modJ (i : Nat) (f : Journal → Journal) : (s.modJ i f).entropy = s.entropy := rfl
@[simp] theorem entPool_modJ (i : Nat) (f : Journal → Journal) : (s.modJ i f).entPool = s.entPool := rfl
@[simp] theorem dramKeys_modJ (i : Nat) (f : Journal → Journal) : (s.modJ i f).dramKeys = s.dramKeys := rfl
@[simp] theorem smills_modJ (i : Nat) (f : Journal → Journal) : (s.modJ i f).smills = s.smills := rfl
@[simp] theorem pmills_modJ (i : Nat) (f : Journal → Journal) : (s.modJ i f).pmills = s.pmills := rfl
@[simp] theorem millQ_modJ (i : Nat) (f : Journal → Journal) : (s.modJ i f).millQ = s.millQ := rfl
@[simp] theorem millOwn_modJ (i : Nat) (f : Journal → Journal) : (s.modJ i f).millOwn = s.millOwn := rfl
@[simp] theorem millLoans_modJ (i : Nat) (f : Journal → Journal) : (s.modJ i f).millLoans = s.millLoans := rfl
@[simp] theorem millUsed_modJ (i : Nat) (f : Journal → Journal) : (s.modJ i f).millUsed = s.millUsed := rfl
@[simp] theorem millWaited_modJ (i : Nat) (f : Journal → Journal) : (s.modJ i f).millWaited = s.millWaited := rfl
@[simp] theorem staged_modJ (i : Nat) (f : Journal → Journal) : (s.modJ i f).staged = s.staged := rfl
@[simp] theorem ways_modJ (i : Nat) (f : Journal → Journal) : (s.modJ i f).ways = s.ways := rfl
@[simp] theorem tillers_modJ (i : Nat) (f : Journal → Journal) : (s.modJ i f).tillers = s.tillers := rfl
@[simp] theorem leaving_modJ (i : Nat) (f : Journal → Journal) : (s.modJ i f).leaving = s.leaving := rfl
@[simp] theorem sharedEdges_modJ (i : Nat) (f : Journal → Journal) : (s.modJ i f).sharedEdges = s.sharedEdges := rfl
@[simp] theorem chutes_modJ (i : Nat) (f : Journal → Journal) : (s.modJ i f).chutes = s.chutes := rfl
@[simp] theorem hoppers_modJ (i : Nat) (f : Journal → Journal) : (s.modJ i f).hoppers = s.hoppers := rfl
@[simp] theorem chans_modJ (i : Nat) (f : Journal → Journal) : (s.modJ i f).chans = s.chans := rfl
@[simp] theorem power_modJ (i : Nat) (f : Journal → Journal) : (s.modJ i f).power = s.power := rfl
@[simp] theorem flash_modJ (i : Nat) (f : Journal → Journal) : (s.modJ i f).flash = s.flash := rfl
@[simp] theorem wear_modJ (i : Nat) (f : Journal → Journal) : (s.modJ i f).wear = s.wear := rfl
@[simp] theorem tap_modJ (i : Nat) (f : Journal → Journal) : (s.modJ i f).tap = s.tap := rfl
@[simp] theorem sealQ_modJ (i : Nat) (f : Journal → Journal) : (s.modJ i f).sealQ = s.sealQ := rfl
@[simp] theorem out_modJ (i : Nat) (f : Journal → Journal) : (s.modJ i f).out = s.out := rfl
@[simp] theorem picks_modJ (i : Nat) (f : Journal → Journal) : (s.modJ i f).picks = s.picks := rfl

/-! setTiller writes only tillers. -/

@[simp] theorem pending_setTiller (i : Nat) (v : Tiller) : (s.setTiller i v).pending = s.pending := rfl
@[simp] theorem dtime_setTiller (i : Nat) (v : Tiller) : (s.setTiller i v).dtime = s.dtime := rfl
@[simp] theorem termAt_setTiller (i : Nat) (v : Tiller) : (s.setTiller i v).termAt = s.termAt := rfl
@[simp] theorem regs_setTiller (i : Nat) (v : Tiller) : (s.setTiller i v).regs = s.regs := rfl
@[simp] theorem mem_setTiller (i : Nat) (v : Tiller) : (s.setTiller i v).mem = s.mem := rfl
@[simp] theorem poison_setTiller (i : Nat) (v : Tiller) : (s.setTiller i v).poison = s.poison := rfl
@[simp] theorem l2_setTiller (i : Nat) (v : Tiller) : (s.setTiller i v).l2 = s.l2 := rfl
@[simp] theorem granary_setTiller (i : Nat) (v : Tiller) : (s.setTiller i v).granary = s.granary := rfl
@[simp] theorem tb_setTiller (i : Nat) (v : Tiller) : (s.setTiller i v).tb = s.tb := rfl
@[simp] theorem avs_setTiller (i : Nat) (v : Tiller) : (s.setTiller i v).avs = s.avs := rfl
@[simp] theorem ports_setTiller (i : Nat) (v : Tiller) : (s.setTiller i v).ports = s.ports := rfl
@[simp] theorem fns_setTiller (i : Nat) (v : Tiller) : (s.setTiller i v).fns = s.fns := rfl
@[simp] theorem stepQ_setTiller (i : Nat) (v : Tiller) : (s.setTiller i v).stepQ = s.stepQ := rfl
@[simp] theorem slates_setTiller (i : Nat) (v : Tiller) : (s.setTiller i v).slates = s.slates := rfl
@[simp] theorem lanes_setTiller (i : Nat) (v : Tiller) : (s.setTiller i v).lanes = s.lanes := rfl
@[simp] theorem poolQ_setTiller (i : Nat) (v : Tiller) : (s.setTiller i v).poolQ = s.poolQ := rfl
@[simp] theorem supers_setTiller (i : Nat) (v : Tiller) : (s.setTiller i v).supers = s.supers := rfl
@[simp] theorem symSlots_setTiller (i : Nat) (v : Tiller) : (s.setTiller i v).symSlots = s.symSlots := rfl
@[simp] theorem asymSlots_setTiller (i : Nat) (v : Tiller) : (s.setTiller i v).asymSlots = s.asymSlots := rfl
@[simp] theorem dev_setTiller (i : Nat) (v : Tiller) : (s.setTiller i v).dev = s.dev := rfl
@[simp] theorem ownerCtr_setTiller (i : Nat) (v : Tiller) : (s.setTiller i v).ownerCtr = s.ownerCtr := rfl
@[simp] theorem rekeyAt_setTiller (i : Nat) (v : Tiller) : (s.setTiller i v).rekeyAt = s.rekeyAt := rfl
@[simp] theorem symCache_setTiller (i : Nat) (v : Tiller) : (s.setTiller i v).symCache = s.symCache := rfl
@[simp] theorem asymCache_setTiller (i : Nat) (v : Tiller) : (s.setTiller i v).asymCache = s.asymCache := rfl
@[simp] theorem cards_setTiller (i : Nat) (v : Tiller) : (s.setTiller i v).cards = s.cards := rfl
@[simp] theorem entropy_setTiller (i : Nat) (v : Tiller) : (s.setTiller i v).entropy = s.entropy := rfl
@[simp] theorem entPool_setTiller (i : Nat) (v : Tiller) : (s.setTiller i v).entPool = s.entPool := rfl
@[simp] theorem dramKeys_setTiller (i : Nat) (v : Tiller) : (s.setTiller i v).dramKeys = s.dramKeys := rfl
@[simp] theorem smills_setTiller (i : Nat) (v : Tiller) : (s.setTiller i v).smills = s.smills := rfl
@[simp] theorem pmills_setTiller (i : Nat) (v : Tiller) : (s.setTiller i v).pmills = s.pmills := rfl
@[simp] theorem millQ_setTiller (i : Nat) (v : Tiller) : (s.setTiller i v).millQ = s.millQ := rfl
@[simp] theorem millOwn_setTiller (i : Nat) (v : Tiller) : (s.setTiller i v).millOwn = s.millOwn := rfl
@[simp] theorem millLoans_setTiller (i : Nat) (v : Tiller) : (s.setTiller i v).millLoans = s.millLoans := rfl
@[simp] theorem millUsed_setTiller (i : Nat) (v : Tiller) : (s.setTiller i v).millUsed = s.millUsed := rfl
@[simp] theorem millWaited_setTiller (i : Nat) (v : Tiller) : (s.setTiller i v).millWaited = s.millWaited := rfl
@[simp] theorem houses_setTiller (i : Nat) (v : Tiller) : (s.setTiller i v).houses = s.houses := rfl
@[simp] theorem staged_setTiller (i : Nat) (v : Tiller) : (s.setTiller i v).staged = s.staged := rfl
@[simp] theorem ways_setTiller (i : Nat) (v : Tiller) : (s.setTiller i v).ways = s.ways := rfl
@[simp] theorem leaving_setTiller (i : Nat) (v : Tiller) : (s.setTiller i v).leaving = s.leaving := rfl
@[simp] theorem sharedEdges_setTiller (i : Nat) (v : Tiller) : (s.setTiller i v).sharedEdges = s.sharedEdges := rfl
@[simp] theorem chutes_setTiller (i : Nat) (v : Tiller) : (s.setTiller i v).chutes = s.chutes := rfl
@[simp] theorem hoppers_setTiller (i : Nat) (v : Tiller) : (s.setTiller i v).hoppers = s.hoppers := rfl
@[simp] theorem chans_setTiller (i : Nat) (v : Tiller) : (s.setTiller i v).chans = s.chans := rfl
@[simp] theorem power_setTiller (i : Nat) (v : Tiller) : (s.setTiller i v).power = s.power := rfl
@[simp] theorem flash_setTiller (i : Nat) (v : Tiller) : (s.setTiller i v).flash = s.flash := rfl
@[simp] theorem wear_setTiller (i : Nat) (v : Tiller) : (s.setTiller i v).wear = s.wear := rfl
@[simp] theorem tap_setTiller (i : Nat) (v : Tiller) : (s.setTiller i v).tap = s.tap := rfl
@[simp] theorem sealQ_setTiller (i : Nat) (v : Tiller) : (s.setTiller i v).sealQ = s.sealQ := rfl
@[simp] theorem out_setTiller (i : Nat) (v : Tiller) : (s.setTiller i v).out = s.out := rfl
@[simp] theorem picks_setTiller (i : Nat) (v : Tiller) : (s.setTiller i v).picks = s.picks := rfl

/-! modTiller writes only tillers. -/

@[simp] theorem pending_modTiller (i : Nat) (f : Tiller → Tiller) : (s.modTiller i f).pending = s.pending := rfl
@[simp] theorem dtime_modTiller (i : Nat) (f : Tiller → Tiller) : (s.modTiller i f).dtime = s.dtime := rfl
@[simp] theorem termAt_modTiller (i : Nat) (f : Tiller → Tiller) : (s.modTiller i f).termAt = s.termAt := rfl
@[simp] theorem regs_modTiller (i : Nat) (f : Tiller → Tiller) : (s.modTiller i f).regs = s.regs := rfl
@[simp] theorem mem_modTiller (i : Nat) (f : Tiller → Tiller) : (s.modTiller i f).mem = s.mem := rfl
@[simp] theorem poison_modTiller (i : Nat) (f : Tiller → Tiller) : (s.modTiller i f).poison = s.poison := rfl
@[simp] theorem l2_modTiller (i : Nat) (f : Tiller → Tiller) : (s.modTiller i f).l2 = s.l2 := rfl
@[simp] theorem granary_modTiller (i : Nat) (f : Tiller → Tiller) : (s.modTiller i f).granary = s.granary := rfl
@[simp] theorem tb_modTiller (i : Nat) (f : Tiller → Tiller) : (s.modTiller i f).tb = s.tb := rfl
@[simp] theorem avs_modTiller (i : Nat) (f : Tiller → Tiller) : (s.modTiller i f).avs = s.avs := rfl
@[simp] theorem ports_modTiller (i : Nat) (f : Tiller → Tiller) : (s.modTiller i f).ports = s.ports := rfl
@[simp] theorem fns_modTiller (i : Nat) (f : Tiller → Tiller) : (s.modTiller i f).fns = s.fns := rfl
@[simp] theorem stepQ_modTiller (i : Nat) (f : Tiller → Tiller) : (s.modTiller i f).stepQ = s.stepQ := rfl
@[simp] theorem slates_modTiller (i : Nat) (f : Tiller → Tiller) : (s.modTiller i f).slates = s.slates := rfl
@[simp] theorem lanes_modTiller (i : Nat) (f : Tiller → Tiller) : (s.modTiller i f).lanes = s.lanes := rfl
@[simp] theorem poolQ_modTiller (i : Nat) (f : Tiller → Tiller) : (s.modTiller i f).poolQ = s.poolQ := rfl
@[simp] theorem supers_modTiller (i : Nat) (f : Tiller → Tiller) : (s.modTiller i f).supers = s.supers := rfl
@[simp] theorem symSlots_modTiller (i : Nat) (f : Tiller → Tiller) : (s.modTiller i f).symSlots = s.symSlots := rfl
@[simp] theorem asymSlots_modTiller (i : Nat) (f : Tiller → Tiller) : (s.modTiller i f).asymSlots = s.asymSlots := rfl
@[simp] theorem dev_modTiller (i : Nat) (f : Tiller → Tiller) : (s.modTiller i f).dev = s.dev := rfl
@[simp] theorem ownerCtr_modTiller (i : Nat) (f : Tiller → Tiller) : (s.modTiller i f).ownerCtr = s.ownerCtr := rfl
@[simp] theorem rekeyAt_modTiller (i : Nat) (f : Tiller → Tiller) : (s.modTiller i f).rekeyAt = s.rekeyAt := rfl
@[simp] theorem symCache_modTiller (i : Nat) (f : Tiller → Tiller) : (s.modTiller i f).symCache = s.symCache := rfl
@[simp] theorem asymCache_modTiller (i : Nat) (f : Tiller → Tiller) : (s.modTiller i f).asymCache = s.asymCache := rfl
@[simp] theorem cards_modTiller (i : Nat) (f : Tiller → Tiller) : (s.modTiller i f).cards = s.cards := rfl
@[simp] theorem entropy_modTiller (i : Nat) (f : Tiller → Tiller) : (s.modTiller i f).entropy = s.entropy := rfl
@[simp] theorem entPool_modTiller (i : Nat) (f : Tiller → Tiller) : (s.modTiller i f).entPool = s.entPool := rfl
@[simp] theorem dramKeys_modTiller (i : Nat) (f : Tiller → Tiller) : (s.modTiller i f).dramKeys = s.dramKeys := rfl
@[simp] theorem smills_modTiller (i : Nat) (f : Tiller → Tiller) : (s.modTiller i f).smills = s.smills := rfl
@[simp] theorem pmills_modTiller (i : Nat) (f : Tiller → Tiller) : (s.modTiller i f).pmills = s.pmills := rfl
@[simp] theorem millQ_modTiller (i : Nat) (f : Tiller → Tiller) : (s.modTiller i f).millQ = s.millQ := rfl
@[simp] theorem millOwn_modTiller (i : Nat) (f : Tiller → Tiller) : (s.modTiller i f).millOwn = s.millOwn := rfl
@[simp] theorem millLoans_modTiller (i : Nat) (f : Tiller → Tiller) : (s.modTiller i f).millLoans = s.millLoans := rfl
@[simp] theorem millUsed_modTiller (i : Nat) (f : Tiller → Tiller) : (s.modTiller i f).millUsed = s.millUsed := rfl
@[simp] theorem millWaited_modTiller (i : Nat) (f : Tiller → Tiller) : (s.modTiller i f).millWaited = s.millWaited := rfl
@[simp] theorem houses_modTiller (i : Nat) (f : Tiller → Tiller) : (s.modTiller i f).houses = s.houses := rfl
@[simp] theorem staged_modTiller (i : Nat) (f : Tiller → Tiller) : (s.modTiller i f).staged = s.staged := rfl
@[simp] theorem ways_modTiller (i : Nat) (f : Tiller → Tiller) : (s.modTiller i f).ways = s.ways := rfl
@[simp] theorem leaving_modTiller (i : Nat) (f : Tiller → Tiller) : (s.modTiller i f).leaving = s.leaving := rfl
@[simp] theorem sharedEdges_modTiller (i : Nat) (f : Tiller → Tiller) : (s.modTiller i f).sharedEdges = s.sharedEdges := rfl
@[simp] theorem chutes_modTiller (i : Nat) (f : Tiller → Tiller) : (s.modTiller i f).chutes = s.chutes := rfl
@[simp] theorem hoppers_modTiller (i : Nat) (f : Tiller → Tiller) : (s.modTiller i f).hoppers = s.hoppers := rfl
@[simp] theorem chans_modTiller (i : Nat) (f : Tiller → Tiller) : (s.modTiller i f).chans = s.chans := rfl
@[simp] theorem power_modTiller (i : Nat) (f : Tiller → Tiller) : (s.modTiller i f).power = s.power := rfl
@[simp] theorem flash_modTiller (i : Nat) (f : Tiller → Tiller) : (s.modTiller i f).flash = s.flash := rfl
@[simp] theorem wear_modTiller (i : Nat) (f : Tiller → Tiller) : (s.modTiller i f).wear = s.wear := rfl
@[simp] theorem tap_modTiller (i : Nat) (f : Tiller → Tiller) : (s.modTiller i f).tap = s.tap := rfl
@[simp] theorem sealQ_modTiller (i : Nat) (f : Tiller → Tiller) : (s.modTiller i f).sealQ = s.sealQ := rfl
@[simp] theorem out_modTiller (i : Nat) (f : Tiller → Tiller) : (s.modTiller i f).out = s.out := rfl
@[simp] theorem picks_modTiller (i : Nat) (f : Tiller → Tiller) : (s.modTiller i f).picks = s.picks := rfl

/-! setChute writes only chutes. -/

@[simp] theorem pending_setChute (i : Nat) (v : Chute) : (s.setChute i v).pending = s.pending := rfl
@[simp] theorem dtime_setChute (i : Nat) (v : Chute) : (s.setChute i v).dtime = s.dtime := rfl
@[simp] theorem termAt_setChute (i : Nat) (v : Chute) : (s.setChute i v).termAt = s.termAt := rfl
@[simp] theorem regs_setChute (i : Nat) (v : Chute) : (s.setChute i v).regs = s.regs := rfl
@[simp] theorem mem_setChute (i : Nat) (v : Chute) : (s.setChute i v).mem = s.mem := rfl
@[simp] theorem poison_setChute (i : Nat) (v : Chute) : (s.setChute i v).poison = s.poison := rfl
@[simp] theorem l2_setChute (i : Nat) (v : Chute) : (s.setChute i v).l2 = s.l2 := rfl
@[simp] theorem granary_setChute (i : Nat) (v : Chute) : (s.setChute i v).granary = s.granary := rfl
@[simp] theorem tb_setChute (i : Nat) (v : Chute) : (s.setChute i v).tb = s.tb := rfl
@[simp] theorem avs_setChute (i : Nat) (v : Chute) : (s.setChute i v).avs = s.avs := rfl
@[simp] theorem ports_setChute (i : Nat) (v : Chute) : (s.setChute i v).ports = s.ports := rfl
@[simp] theorem fns_setChute (i : Nat) (v : Chute) : (s.setChute i v).fns = s.fns := rfl
@[simp] theorem stepQ_setChute (i : Nat) (v : Chute) : (s.setChute i v).stepQ = s.stepQ := rfl
@[simp] theorem slates_setChute (i : Nat) (v : Chute) : (s.setChute i v).slates = s.slates := rfl
@[simp] theorem lanes_setChute (i : Nat) (v : Chute) : (s.setChute i v).lanes = s.lanes := rfl
@[simp] theorem poolQ_setChute (i : Nat) (v : Chute) : (s.setChute i v).poolQ = s.poolQ := rfl
@[simp] theorem supers_setChute (i : Nat) (v : Chute) : (s.setChute i v).supers = s.supers := rfl
@[simp] theorem symSlots_setChute (i : Nat) (v : Chute) : (s.setChute i v).symSlots = s.symSlots := rfl
@[simp] theorem asymSlots_setChute (i : Nat) (v : Chute) : (s.setChute i v).asymSlots = s.asymSlots := rfl
@[simp] theorem dev_setChute (i : Nat) (v : Chute) : (s.setChute i v).dev = s.dev := rfl
@[simp] theorem ownerCtr_setChute (i : Nat) (v : Chute) : (s.setChute i v).ownerCtr = s.ownerCtr := rfl
@[simp] theorem rekeyAt_setChute (i : Nat) (v : Chute) : (s.setChute i v).rekeyAt = s.rekeyAt := rfl
@[simp] theorem symCache_setChute (i : Nat) (v : Chute) : (s.setChute i v).symCache = s.symCache := rfl
@[simp] theorem asymCache_setChute (i : Nat) (v : Chute) : (s.setChute i v).asymCache = s.asymCache := rfl
@[simp] theorem cards_setChute (i : Nat) (v : Chute) : (s.setChute i v).cards = s.cards := rfl
@[simp] theorem entropy_setChute (i : Nat) (v : Chute) : (s.setChute i v).entropy = s.entropy := rfl
@[simp] theorem entPool_setChute (i : Nat) (v : Chute) : (s.setChute i v).entPool = s.entPool := rfl
@[simp] theorem dramKeys_setChute (i : Nat) (v : Chute) : (s.setChute i v).dramKeys = s.dramKeys := rfl
@[simp] theorem smills_setChute (i : Nat) (v : Chute) : (s.setChute i v).smills = s.smills := rfl
@[simp] theorem pmills_setChute (i : Nat) (v : Chute) : (s.setChute i v).pmills = s.pmills := rfl
@[simp] theorem millQ_setChute (i : Nat) (v : Chute) : (s.setChute i v).millQ = s.millQ := rfl
@[simp] theorem millOwn_setChute (i : Nat) (v : Chute) : (s.setChute i v).millOwn = s.millOwn := rfl
@[simp] theorem millLoans_setChute (i : Nat) (v : Chute) : (s.setChute i v).millLoans = s.millLoans := rfl
@[simp] theorem millUsed_setChute (i : Nat) (v : Chute) : (s.setChute i v).millUsed = s.millUsed := rfl
@[simp] theorem millWaited_setChute (i : Nat) (v : Chute) : (s.setChute i v).millWaited = s.millWaited := rfl
@[simp] theorem houses_setChute (i : Nat) (v : Chute) : (s.setChute i v).houses = s.houses := rfl
@[simp] theorem staged_setChute (i : Nat) (v : Chute) : (s.setChute i v).staged = s.staged := rfl
@[simp] theorem ways_setChute (i : Nat) (v : Chute) : (s.setChute i v).ways = s.ways := rfl
@[simp] theorem tillers_setChute (i : Nat) (v : Chute) : (s.setChute i v).tillers = s.tillers := rfl
@[simp] theorem leaving_setChute (i : Nat) (v : Chute) : (s.setChute i v).leaving = s.leaving := rfl
@[simp] theorem sharedEdges_setChute (i : Nat) (v : Chute) : (s.setChute i v).sharedEdges = s.sharedEdges := rfl
@[simp] theorem hoppers_setChute (i : Nat) (v : Chute) : (s.setChute i v).hoppers = s.hoppers := rfl
@[simp] theorem chans_setChute (i : Nat) (v : Chute) : (s.setChute i v).chans = s.chans := rfl
@[simp] theorem power_setChute (i : Nat) (v : Chute) : (s.setChute i v).power = s.power := rfl
@[simp] theorem flash_setChute (i : Nat) (v : Chute) : (s.setChute i v).flash = s.flash := rfl
@[simp] theorem wear_setChute (i : Nat) (v : Chute) : (s.setChute i v).wear = s.wear := rfl
@[simp] theorem tap_setChute (i : Nat) (v : Chute) : (s.setChute i v).tap = s.tap := rfl
@[simp] theorem sealQ_setChute (i : Nat) (v : Chute) : (s.setChute i v).sealQ = s.sealQ := rfl
@[simp] theorem out_setChute (i : Nat) (v : Chute) : (s.setChute i v).out = s.out := rfl
@[simp] theorem picks_setChute (i : Nat) (v : Chute) : (s.setChute i v).picks = s.picks := rfl

/-! modChute writes only chutes. -/

@[simp] theorem pending_modChute (i : Nat) (f : Chute → Chute) : (s.modChute i f).pending = s.pending := rfl
@[simp] theorem dtime_modChute (i : Nat) (f : Chute → Chute) : (s.modChute i f).dtime = s.dtime := rfl
@[simp] theorem termAt_modChute (i : Nat) (f : Chute → Chute) : (s.modChute i f).termAt = s.termAt := rfl
@[simp] theorem regs_modChute (i : Nat) (f : Chute → Chute) : (s.modChute i f).regs = s.regs := rfl
@[simp] theorem mem_modChute (i : Nat) (f : Chute → Chute) : (s.modChute i f).mem = s.mem := rfl
@[simp] theorem poison_modChute (i : Nat) (f : Chute → Chute) : (s.modChute i f).poison = s.poison := rfl
@[simp] theorem l2_modChute (i : Nat) (f : Chute → Chute) : (s.modChute i f).l2 = s.l2 := rfl
@[simp] theorem granary_modChute (i : Nat) (f : Chute → Chute) : (s.modChute i f).granary = s.granary := rfl
@[simp] theorem tb_modChute (i : Nat) (f : Chute → Chute) : (s.modChute i f).tb = s.tb := rfl
@[simp] theorem avs_modChute (i : Nat) (f : Chute → Chute) : (s.modChute i f).avs = s.avs := rfl
@[simp] theorem ports_modChute (i : Nat) (f : Chute → Chute) : (s.modChute i f).ports = s.ports := rfl
@[simp] theorem fns_modChute (i : Nat) (f : Chute → Chute) : (s.modChute i f).fns = s.fns := rfl
@[simp] theorem stepQ_modChute (i : Nat) (f : Chute → Chute) : (s.modChute i f).stepQ = s.stepQ := rfl
@[simp] theorem slates_modChute (i : Nat) (f : Chute → Chute) : (s.modChute i f).slates = s.slates := rfl
@[simp] theorem lanes_modChute (i : Nat) (f : Chute → Chute) : (s.modChute i f).lanes = s.lanes := rfl
@[simp] theorem poolQ_modChute (i : Nat) (f : Chute → Chute) : (s.modChute i f).poolQ = s.poolQ := rfl
@[simp] theorem supers_modChute (i : Nat) (f : Chute → Chute) : (s.modChute i f).supers = s.supers := rfl
@[simp] theorem symSlots_modChute (i : Nat) (f : Chute → Chute) : (s.modChute i f).symSlots = s.symSlots := rfl
@[simp] theorem asymSlots_modChute (i : Nat) (f : Chute → Chute) : (s.modChute i f).asymSlots = s.asymSlots := rfl
@[simp] theorem dev_modChute (i : Nat) (f : Chute → Chute) : (s.modChute i f).dev = s.dev := rfl
@[simp] theorem ownerCtr_modChute (i : Nat) (f : Chute → Chute) : (s.modChute i f).ownerCtr = s.ownerCtr := rfl
@[simp] theorem rekeyAt_modChute (i : Nat) (f : Chute → Chute) : (s.modChute i f).rekeyAt = s.rekeyAt := rfl
@[simp] theorem symCache_modChute (i : Nat) (f : Chute → Chute) : (s.modChute i f).symCache = s.symCache := rfl
@[simp] theorem asymCache_modChute (i : Nat) (f : Chute → Chute) : (s.modChute i f).asymCache = s.asymCache := rfl
@[simp] theorem cards_modChute (i : Nat) (f : Chute → Chute) : (s.modChute i f).cards = s.cards := rfl
@[simp] theorem entropy_modChute (i : Nat) (f : Chute → Chute) : (s.modChute i f).entropy = s.entropy := rfl
@[simp] theorem entPool_modChute (i : Nat) (f : Chute → Chute) : (s.modChute i f).entPool = s.entPool := rfl
@[simp] theorem dramKeys_modChute (i : Nat) (f : Chute → Chute) : (s.modChute i f).dramKeys = s.dramKeys := rfl
@[simp] theorem smills_modChute (i : Nat) (f : Chute → Chute) : (s.modChute i f).smills = s.smills := rfl
@[simp] theorem pmills_modChute (i : Nat) (f : Chute → Chute) : (s.modChute i f).pmills = s.pmills := rfl
@[simp] theorem millQ_modChute (i : Nat) (f : Chute → Chute) : (s.modChute i f).millQ = s.millQ := rfl
@[simp] theorem millOwn_modChute (i : Nat) (f : Chute → Chute) : (s.modChute i f).millOwn = s.millOwn := rfl
@[simp] theorem millLoans_modChute (i : Nat) (f : Chute → Chute) : (s.modChute i f).millLoans = s.millLoans := rfl
@[simp] theorem millUsed_modChute (i : Nat) (f : Chute → Chute) : (s.modChute i f).millUsed = s.millUsed := rfl
@[simp] theorem millWaited_modChute (i : Nat) (f : Chute → Chute) : (s.modChute i f).millWaited = s.millWaited := rfl
@[simp] theorem houses_modChute (i : Nat) (f : Chute → Chute) : (s.modChute i f).houses = s.houses := rfl
@[simp] theorem staged_modChute (i : Nat) (f : Chute → Chute) : (s.modChute i f).staged = s.staged := rfl
@[simp] theorem ways_modChute (i : Nat) (f : Chute → Chute) : (s.modChute i f).ways = s.ways := rfl
@[simp] theorem tillers_modChute (i : Nat) (f : Chute → Chute) : (s.modChute i f).tillers = s.tillers := rfl
@[simp] theorem leaving_modChute (i : Nat) (f : Chute → Chute) : (s.modChute i f).leaving = s.leaving := rfl
@[simp] theorem sharedEdges_modChute (i : Nat) (f : Chute → Chute) : (s.modChute i f).sharedEdges = s.sharedEdges := rfl
@[simp] theorem hoppers_modChute (i : Nat) (f : Chute → Chute) : (s.modChute i f).hoppers = s.hoppers := rfl
@[simp] theorem chans_modChute (i : Nat) (f : Chute → Chute) : (s.modChute i f).chans = s.chans := rfl
@[simp] theorem power_modChute (i : Nat) (f : Chute → Chute) : (s.modChute i f).power = s.power := rfl
@[simp] theorem flash_modChute (i : Nat) (f : Chute → Chute) : (s.modChute i f).flash = s.flash := rfl
@[simp] theorem wear_modChute (i : Nat) (f : Chute → Chute) : (s.modChute i f).wear = s.wear := rfl
@[simp] theorem tap_modChute (i : Nat) (f : Chute → Chute) : (s.modChute i f).tap = s.tap := rfl
@[simp] theorem sealQ_modChute (i : Nat) (f : Chute → Chute) : (s.modChute i f).sealQ = s.sealQ := rfl
@[simp] theorem out_modChute (i : Nat) (f : Chute → Chute) : (s.modChute i f).out = s.out := rfl
@[simp] theorem picks_modChute (i : Nat) (f : Chute → Chute) : (s.modChute i f).picks = s.picks := rfl

/-! setHopper writes only hoppers. -/

@[simp] theorem pending_setHopper (i : Nat) (v : Hopper) : (s.setHopper i v).pending = s.pending := rfl
@[simp] theorem dtime_setHopper (i : Nat) (v : Hopper) : (s.setHopper i v).dtime = s.dtime := rfl
@[simp] theorem termAt_setHopper (i : Nat) (v : Hopper) : (s.setHopper i v).termAt = s.termAt := rfl
@[simp] theorem regs_setHopper (i : Nat) (v : Hopper) : (s.setHopper i v).regs = s.regs := rfl
@[simp] theorem mem_setHopper (i : Nat) (v : Hopper) : (s.setHopper i v).mem = s.mem := rfl
@[simp] theorem poison_setHopper (i : Nat) (v : Hopper) : (s.setHopper i v).poison = s.poison := rfl
@[simp] theorem l2_setHopper (i : Nat) (v : Hopper) : (s.setHopper i v).l2 = s.l2 := rfl
@[simp] theorem granary_setHopper (i : Nat) (v : Hopper) : (s.setHopper i v).granary = s.granary := rfl
@[simp] theorem tb_setHopper (i : Nat) (v : Hopper) : (s.setHopper i v).tb = s.tb := rfl
@[simp] theorem avs_setHopper (i : Nat) (v : Hopper) : (s.setHopper i v).avs = s.avs := rfl
@[simp] theorem ports_setHopper (i : Nat) (v : Hopper) : (s.setHopper i v).ports = s.ports := rfl
@[simp] theorem fns_setHopper (i : Nat) (v : Hopper) : (s.setHopper i v).fns = s.fns := rfl
@[simp] theorem stepQ_setHopper (i : Nat) (v : Hopper) : (s.setHopper i v).stepQ = s.stepQ := rfl
@[simp] theorem slates_setHopper (i : Nat) (v : Hopper) : (s.setHopper i v).slates = s.slates := rfl
@[simp] theorem lanes_setHopper (i : Nat) (v : Hopper) : (s.setHopper i v).lanes = s.lanes := rfl
@[simp] theorem poolQ_setHopper (i : Nat) (v : Hopper) : (s.setHopper i v).poolQ = s.poolQ := rfl
@[simp] theorem supers_setHopper (i : Nat) (v : Hopper) : (s.setHopper i v).supers = s.supers := rfl
@[simp] theorem symSlots_setHopper (i : Nat) (v : Hopper) : (s.setHopper i v).symSlots = s.symSlots := rfl
@[simp] theorem asymSlots_setHopper (i : Nat) (v : Hopper) : (s.setHopper i v).asymSlots = s.asymSlots := rfl
@[simp] theorem dev_setHopper (i : Nat) (v : Hopper) : (s.setHopper i v).dev = s.dev := rfl
@[simp] theorem ownerCtr_setHopper (i : Nat) (v : Hopper) : (s.setHopper i v).ownerCtr = s.ownerCtr := rfl
@[simp] theorem rekeyAt_setHopper (i : Nat) (v : Hopper) : (s.setHopper i v).rekeyAt = s.rekeyAt := rfl
@[simp] theorem symCache_setHopper (i : Nat) (v : Hopper) : (s.setHopper i v).symCache = s.symCache := rfl
@[simp] theorem asymCache_setHopper (i : Nat) (v : Hopper) : (s.setHopper i v).asymCache = s.asymCache := rfl
@[simp] theorem cards_setHopper (i : Nat) (v : Hopper) : (s.setHopper i v).cards = s.cards := rfl
@[simp] theorem entropy_setHopper (i : Nat) (v : Hopper) : (s.setHopper i v).entropy = s.entropy := rfl
@[simp] theorem entPool_setHopper (i : Nat) (v : Hopper) : (s.setHopper i v).entPool = s.entPool := rfl
@[simp] theorem dramKeys_setHopper (i : Nat) (v : Hopper) : (s.setHopper i v).dramKeys = s.dramKeys := rfl
@[simp] theorem smills_setHopper (i : Nat) (v : Hopper) : (s.setHopper i v).smills = s.smills := rfl
@[simp] theorem pmills_setHopper (i : Nat) (v : Hopper) : (s.setHopper i v).pmills = s.pmills := rfl
@[simp] theorem millQ_setHopper (i : Nat) (v : Hopper) : (s.setHopper i v).millQ = s.millQ := rfl
@[simp] theorem millOwn_setHopper (i : Nat) (v : Hopper) : (s.setHopper i v).millOwn = s.millOwn := rfl
@[simp] theorem millLoans_setHopper (i : Nat) (v : Hopper) : (s.setHopper i v).millLoans = s.millLoans := rfl
@[simp] theorem millUsed_setHopper (i : Nat) (v : Hopper) : (s.setHopper i v).millUsed = s.millUsed := rfl
@[simp] theorem millWaited_setHopper (i : Nat) (v : Hopper) : (s.setHopper i v).millWaited = s.millWaited := rfl
@[simp] theorem houses_setHopper (i : Nat) (v : Hopper) : (s.setHopper i v).houses = s.houses := rfl
@[simp] theorem staged_setHopper (i : Nat) (v : Hopper) : (s.setHopper i v).staged = s.staged := rfl
@[simp] theorem ways_setHopper (i : Nat) (v : Hopper) : (s.setHopper i v).ways = s.ways := rfl
@[simp] theorem tillers_setHopper (i : Nat) (v : Hopper) : (s.setHopper i v).tillers = s.tillers := rfl
@[simp] theorem leaving_setHopper (i : Nat) (v : Hopper) : (s.setHopper i v).leaving = s.leaving := rfl
@[simp] theorem sharedEdges_setHopper (i : Nat) (v : Hopper) : (s.setHopper i v).sharedEdges = s.sharedEdges := rfl
@[simp] theorem chutes_setHopper (i : Nat) (v : Hopper) : (s.setHopper i v).chutes = s.chutes := rfl
@[simp] theorem chans_setHopper (i : Nat) (v : Hopper) : (s.setHopper i v).chans = s.chans := rfl
@[simp] theorem power_setHopper (i : Nat) (v : Hopper) : (s.setHopper i v).power = s.power := rfl
@[simp] theorem flash_setHopper (i : Nat) (v : Hopper) : (s.setHopper i v).flash = s.flash := rfl
@[simp] theorem wear_setHopper (i : Nat) (v : Hopper) : (s.setHopper i v).wear = s.wear := rfl
@[simp] theorem tap_setHopper (i : Nat) (v : Hopper) : (s.setHopper i v).tap = s.tap := rfl
@[simp] theorem sealQ_setHopper (i : Nat) (v : Hopper) : (s.setHopper i v).sealQ = s.sealQ := rfl
@[simp] theorem out_setHopper (i : Nat) (v : Hopper) : (s.setHopper i v).out = s.out := rfl
@[simp] theorem picks_setHopper (i : Nat) (v : Hopper) : (s.setHopper i v).picks = s.picks := rfl

/-! modHopper writes only hoppers. -/

@[simp] theorem pending_modHopper (i : Nat) (f : Hopper → Hopper) : (s.modHopper i f).pending = s.pending := rfl
@[simp] theorem dtime_modHopper (i : Nat) (f : Hopper → Hopper) : (s.modHopper i f).dtime = s.dtime := rfl
@[simp] theorem termAt_modHopper (i : Nat) (f : Hopper → Hopper) : (s.modHopper i f).termAt = s.termAt := rfl
@[simp] theorem regs_modHopper (i : Nat) (f : Hopper → Hopper) : (s.modHopper i f).regs = s.regs := rfl
@[simp] theorem mem_modHopper (i : Nat) (f : Hopper → Hopper) : (s.modHopper i f).mem = s.mem := rfl
@[simp] theorem poison_modHopper (i : Nat) (f : Hopper → Hopper) : (s.modHopper i f).poison = s.poison := rfl
@[simp] theorem l2_modHopper (i : Nat) (f : Hopper → Hopper) : (s.modHopper i f).l2 = s.l2 := rfl
@[simp] theorem granary_modHopper (i : Nat) (f : Hopper → Hopper) : (s.modHopper i f).granary = s.granary := rfl
@[simp] theorem tb_modHopper (i : Nat) (f : Hopper → Hopper) : (s.modHopper i f).tb = s.tb := rfl
@[simp] theorem avs_modHopper (i : Nat) (f : Hopper → Hopper) : (s.modHopper i f).avs = s.avs := rfl
@[simp] theorem ports_modHopper (i : Nat) (f : Hopper → Hopper) : (s.modHopper i f).ports = s.ports := rfl
@[simp] theorem fns_modHopper (i : Nat) (f : Hopper → Hopper) : (s.modHopper i f).fns = s.fns := rfl
@[simp] theorem stepQ_modHopper (i : Nat) (f : Hopper → Hopper) : (s.modHopper i f).stepQ = s.stepQ := rfl
@[simp] theorem slates_modHopper (i : Nat) (f : Hopper → Hopper) : (s.modHopper i f).slates = s.slates := rfl
@[simp] theorem lanes_modHopper (i : Nat) (f : Hopper → Hopper) : (s.modHopper i f).lanes = s.lanes := rfl
@[simp] theorem poolQ_modHopper (i : Nat) (f : Hopper → Hopper) : (s.modHopper i f).poolQ = s.poolQ := rfl
@[simp] theorem supers_modHopper (i : Nat) (f : Hopper → Hopper) : (s.modHopper i f).supers = s.supers := rfl
@[simp] theorem symSlots_modHopper (i : Nat) (f : Hopper → Hopper) : (s.modHopper i f).symSlots = s.symSlots := rfl
@[simp] theorem asymSlots_modHopper (i : Nat) (f : Hopper → Hopper) : (s.modHopper i f).asymSlots = s.asymSlots := rfl
@[simp] theorem dev_modHopper (i : Nat) (f : Hopper → Hopper) : (s.modHopper i f).dev = s.dev := rfl
@[simp] theorem ownerCtr_modHopper (i : Nat) (f : Hopper → Hopper) : (s.modHopper i f).ownerCtr = s.ownerCtr := rfl
@[simp] theorem rekeyAt_modHopper (i : Nat) (f : Hopper → Hopper) : (s.modHopper i f).rekeyAt = s.rekeyAt := rfl
@[simp] theorem symCache_modHopper (i : Nat) (f : Hopper → Hopper) : (s.modHopper i f).symCache = s.symCache := rfl
@[simp] theorem asymCache_modHopper (i : Nat) (f : Hopper → Hopper) : (s.modHopper i f).asymCache = s.asymCache := rfl
@[simp] theorem cards_modHopper (i : Nat) (f : Hopper → Hopper) : (s.modHopper i f).cards = s.cards := rfl
@[simp] theorem entropy_modHopper (i : Nat) (f : Hopper → Hopper) : (s.modHopper i f).entropy = s.entropy := rfl
@[simp] theorem entPool_modHopper (i : Nat) (f : Hopper → Hopper) : (s.modHopper i f).entPool = s.entPool := rfl
@[simp] theorem dramKeys_modHopper (i : Nat) (f : Hopper → Hopper) : (s.modHopper i f).dramKeys = s.dramKeys := rfl
@[simp] theorem smills_modHopper (i : Nat) (f : Hopper → Hopper) : (s.modHopper i f).smills = s.smills := rfl
@[simp] theorem pmills_modHopper (i : Nat) (f : Hopper → Hopper) : (s.modHopper i f).pmills = s.pmills := rfl
@[simp] theorem millQ_modHopper (i : Nat) (f : Hopper → Hopper) : (s.modHopper i f).millQ = s.millQ := rfl
@[simp] theorem millOwn_modHopper (i : Nat) (f : Hopper → Hopper) : (s.modHopper i f).millOwn = s.millOwn := rfl
@[simp] theorem millLoans_modHopper (i : Nat) (f : Hopper → Hopper) : (s.modHopper i f).millLoans = s.millLoans := rfl
@[simp] theorem millUsed_modHopper (i : Nat) (f : Hopper → Hopper) : (s.modHopper i f).millUsed = s.millUsed := rfl
@[simp] theorem millWaited_modHopper (i : Nat) (f : Hopper → Hopper) : (s.modHopper i f).millWaited = s.millWaited := rfl
@[simp] theorem houses_modHopper (i : Nat) (f : Hopper → Hopper) : (s.modHopper i f).houses = s.houses := rfl
@[simp] theorem staged_modHopper (i : Nat) (f : Hopper → Hopper) : (s.modHopper i f).staged = s.staged := rfl
@[simp] theorem ways_modHopper (i : Nat) (f : Hopper → Hopper) : (s.modHopper i f).ways = s.ways := rfl
@[simp] theorem tillers_modHopper (i : Nat) (f : Hopper → Hopper) : (s.modHopper i f).tillers = s.tillers := rfl
@[simp] theorem leaving_modHopper (i : Nat) (f : Hopper → Hopper) : (s.modHopper i f).leaving = s.leaving := rfl
@[simp] theorem sharedEdges_modHopper (i : Nat) (f : Hopper → Hopper) : (s.modHopper i f).sharedEdges = s.sharedEdges := rfl
@[simp] theorem chutes_modHopper (i : Nat) (f : Hopper → Hopper) : (s.modHopper i f).chutes = s.chutes := rfl
@[simp] theorem chans_modHopper (i : Nat) (f : Hopper → Hopper) : (s.modHopper i f).chans = s.chans := rfl
@[simp] theorem power_modHopper (i : Nat) (f : Hopper → Hopper) : (s.modHopper i f).power = s.power := rfl
@[simp] theorem flash_modHopper (i : Nat) (f : Hopper → Hopper) : (s.modHopper i f).flash = s.flash := rfl
@[simp] theorem wear_modHopper (i : Nat) (f : Hopper → Hopper) : (s.modHopper i f).wear = s.wear := rfl
@[simp] theorem tap_modHopper (i : Nat) (f : Hopper → Hopper) : (s.modHopper i f).tap = s.tap := rfl
@[simp] theorem sealQ_modHopper (i : Nat) (f : Hopper → Hopper) : (s.modHopper i f).sealQ = s.sealQ := rfl
@[simp] theorem out_modHopper (i : Nat) (f : Hopper → Hopper) : (s.modHopper i f).out = s.out := rfl
@[simp] theorem picks_modHopper (i : Nat) (f : Hopper → Hopper) : (s.modHopper i f).picks = s.picks := rfl

/-! setChan writes only chans. -/

@[simp] theorem pending_setChan (i : Nat) (v : Chan) : (s.setChan i v).pending = s.pending := rfl
@[simp] theorem dtime_setChan (i : Nat) (v : Chan) : (s.setChan i v).dtime = s.dtime := rfl
@[simp] theorem termAt_setChan (i : Nat) (v : Chan) : (s.setChan i v).termAt = s.termAt := rfl
@[simp] theorem regs_setChan (i : Nat) (v : Chan) : (s.setChan i v).regs = s.regs := rfl
@[simp] theorem mem_setChan (i : Nat) (v : Chan) : (s.setChan i v).mem = s.mem := rfl
@[simp] theorem poison_setChan (i : Nat) (v : Chan) : (s.setChan i v).poison = s.poison := rfl
@[simp] theorem l2_setChan (i : Nat) (v : Chan) : (s.setChan i v).l2 = s.l2 := rfl
@[simp] theorem granary_setChan (i : Nat) (v : Chan) : (s.setChan i v).granary = s.granary := rfl
@[simp] theorem tb_setChan (i : Nat) (v : Chan) : (s.setChan i v).tb = s.tb := rfl
@[simp] theorem avs_setChan (i : Nat) (v : Chan) : (s.setChan i v).avs = s.avs := rfl
@[simp] theorem ports_setChan (i : Nat) (v : Chan) : (s.setChan i v).ports = s.ports := rfl
@[simp] theorem fns_setChan (i : Nat) (v : Chan) : (s.setChan i v).fns = s.fns := rfl
@[simp] theorem stepQ_setChan (i : Nat) (v : Chan) : (s.setChan i v).stepQ = s.stepQ := rfl
@[simp] theorem slates_setChan (i : Nat) (v : Chan) : (s.setChan i v).slates = s.slates := rfl
@[simp] theorem lanes_setChan (i : Nat) (v : Chan) : (s.setChan i v).lanes = s.lanes := rfl
@[simp] theorem poolQ_setChan (i : Nat) (v : Chan) : (s.setChan i v).poolQ = s.poolQ := rfl
@[simp] theorem supers_setChan (i : Nat) (v : Chan) : (s.setChan i v).supers = s.supers := rfl
@[simp] theorem symSlots_setChan (i : Nat) (v : Chan) : (s.setChan i v).symSlots = s.symSlots := rfl
@[simp] theorem asymSlots_setChan (i : Nat) (v : Chan) : (s.setChan i v).asymSlots = s.asymSlots := rfl
@[simp] theorem dev_setChan (i : Nat) (v : Chan) : (s.setChan i v).dev = s.dev := rfl
@[simp] theorem ownerCtr_setChan (i : Nat) (v : Chan) : (s.setChan i v).ownerCtr = s.ownerCtr := rfl
@[simp] theorem rekeyAt_setChan (i : Nat) (v : Chan) : (s.setChan i v).rekeyAt = s.rekeyAt := rfl
@[simp] theorem symCache_setChan (i : Nat) (v : Chan) : (s.setChan i v).symCache = s.symCache := rfl
@[simp] theorem asymCache_setChan (i : Nat) (v : Chan) : (s.setChan i v).asymCache = s.asymCache := rfl
@[simp] theorem cards_setChan (i : Nat) (v : Chan) : (s.setChan i v).cards = s.cards := rfl
@[simp] theorem entropy_setChan (i : Nat) (v : Chan) : (s.setChan i v).entropy = s.entropy := rfl
@[simp] theorem entPool_setChan (i : Nat) (v : Chan) : (s.setChan i v).entPool = s.entPool := rfl
@[simp] theorem dramKeys_setChan (i : Nat) (v : Chan) : (s.setChan i v).dramKeys = s.dramKeys := rfl
@[simp] theorem smills_setChan (i : Nat) (v : Chan) : (s.setChan i v).smills = s.smills := rfl
@[simp] theorem pmills_setChan (i : Nat) (v : Chan) : (s.setChan i v).pmills = s.pmills := rfl
@[simp] theorem millQ_setChan (i : Nat) (v : Chan) : (s.setChan i v).millQ = s.millQ := rfl
@[simp] theorem millOwn_setChan (i : Nat) (v : Chan) : (s.setChan i v).millOwn = s.millOwn := rfl
@[simp] theorem millLoans_setChan (i : Nat) (v : Chan) : (s.setChan i v).millLoans = s.millLoans := rfl
@[simp] theorem millUsed_setChan (i : Nat) (v : Chan) : (s.setChan i v).millUsed = s.millUsed := rfl
@[simp] theorem millWaited_setChan (i : Nat) (v : Chan) : (s.setChan i v).millWaited = s.millWaited := rfl
@[simp] theorem houses_setChan (i : Nat) (v : Chan) : (s.setChan i v).houses = s.houses := rfl
@[simp] theorem staged_setChan (i : Nat) (v : Chan) : (s.setChan i v).staged = s.staged := rfl
@[simp] theorem ways_setChan (i : Nat) (v : Chan) : (s.setChan i v).ways = s.ways := rfl
@[simp] theorem tillers_setChan (i : Nat) (v : Chan) : (s.setChan i v).tillers = s.tillers := rfl
@[simp] theorem leaving_setChan (i : Nat) (v : Chan) : (s.setChan i v).leaving = s.leaving := rfl
@[simp] theorem sharedEdges_setChan (i : Nat) (v : Chan) : (s.setChan i v).sharedEdges = s.sharedEdges := rfl
@[simp] theorem chutes_setChan (i : Nat) (v : Chan) : (s.setChan i v).chutes = s.chutes := rfl
@[simp] theorem hoppers_setChan (i : Nat) (v : Chan) : (s.setChan i v).hoppers = s.hoppers := rfl
@[simp] theorem power_setChan (i : Nat) (v : Chan) : (s.setChan i v).power = s.power := rfl
@[simp] theorem flash_setChan (i : Nat) (v : Chan) : (s.setChan i v).flash = s.flash := rfl
@[simp] theorem wear_setChan (i : Nat) (v : Chan) : (s.setChan i v).wear = s.wear := rfl
@[simp] theorem tap_setChan (i : Nat) (v : Chan) : (s.setChan i v).tap = s.tap := rfl
@[simp] theorem sealQ_setChan (i : Nat) (v : Chan) : (s.setChan i v).sealQ = s.sealQ := rfl
@[simp] theorem out_setChan (i : Nat) (v : Chan) : (s.setChan i v).out = s.out := rfl
@[simp] theorem picks_setChan (i : Nat) (v : Chan) : (s.setChan i v).picks = s.picks := rfl

/-! modChan writes only chans. -/

@[simp] theorem pending_modChan (i : Nat) (f : Chan → Chan) : (s.modChan i f).pending = s.pending := rfl
@[simp] theorem dtime_modChan (i : Nat) (f : Chan → Chan) : (s.modChan i f).dtime = s.dtime := rfl
@[simp] theorem termAt_modChan (i : Nat) (f : Chan → Chan) : (s.modChan i f).termAt = s.termAt := rfl
@[simp] theorem regs_modChan (i : Nat) (f : Chan → Chan) : (s.modChan i f).regs = s.regs := rfl
@[simp] theorem mem_modChan (i : Nat) (f : Chan → Chan) : (s.modChan i f).mem = s.mem := rfl
@[simp] theorem poison_modChan (i : Nat) (f : Chan → Chan) : (s.modChan i f).poison = s.poison := rfl
@[simp] theorem l2_modChan (i : Nat) (f : Chan → Chan) : (s.modChan i f).l2 = s.l2 := rfl
@[simp] theorem granary_modChan (i : Nat) (f : Chan → Chan) : (s.modChan i f).granary = s.granary := rfl
@[simp] theorem tb_modChan (i : Nat) (f : Chan → Chan) : (s.modChan i f).tb = s.tb := rfl
@[simp] theorem avs_modChan (i : Nat) (f : Chan → Chan) : (s.modChan i f).avs = s.avs := rfl
@[simp] theorem ports_modChan (i : Nat) (f : Chan → Chan) : (s.modChan i f).ports = s.ports := rfl
@[simp] theorem fns_modChan (i : Nat) (f : Chan → Chan) : (s.modChan i f).fns = s.fns := rfl
@[simp] theorem stepQ_modChan (i : Nat) (f : Chan → Chan) : (s.modChan i f).stepQ = s.stepQ := rfl
@[simp] theorem slates_modChan (i : Nat) (f : Chan → Chan) : (s.modChan i f).slates = s.slates := rfl
@[simp] theorem lanes_modChan (i : Nat) (f : Chan → Chan) : (s.modChan i f).lanes = s.lanes := rfl
@[simp] theorem poolQ_modChan (i : Nat) (f : Chan → Chan) : (s.modChan i f).poolQ = s.poolQ := rfl
@[simp] theorem supers_modChan (i : Nat) (f : Chan → Chan) : (s.modChan i f).supers = s.supers := rfl
@[simp] theorem symSlots_modChan (i : Nat) (f : Chan → Chan) : (s.modChan i f).symSlots = s.symSlots := rfl
@[simp] theorem asymSlots_modChan (i : Nat) (f : Chan → Chan) : (s.modChan i f).asymSlots = s.asymSlots := rfl
@[simp] theorem dev_modChan (i : Nat) (f : Chan → Chan) : (s.modChan i f).dev = s.dev := rfl
@[simp] theorem ownerCtr_modChan (i : Nat) (f : Chan → Chan) : (s.modChan i f).ownerCtr = s.ownerCtr := rfl
@[simp] theorem rekeyAt_modChan (i : Nat) (f : Chan → Chan) : (s.modChan i f).rekeyAt = s.rekeyAt := rfl
@[simp] theorem symCache_modChan (i : Nat) (f : Chan → Chan) : (s.modChan i f).symCache = s.symCache := rfl
@[simp] theorem asymCache_modChan (i : Nat) (f : Chan → Chan) : (s.modChan i f).asymCache = s.asymCache := rfl
@[simp] theorem cards_modChan (i : Nat) (f : Chan → Chan) : (s.modChan i f).cards = s.cards := rfl
@[simp] theorem entropy_modChan (i : Nat) (f : Chan → Chan) : (s.modChan i f).entropy = s.entropy := rfl
@[simp] theorem entPool_modChan (i : Nat) (f : Chan → Chan) : (s.modChan i f).entPool = s.entPool := rfl
@[simp] theorem dramKeys_modChan (i : Nat) (f : Chan → Chan) : (s.modChan i f).dramKeys = s.dramKeys := rfl
@[simp] theorem smills_modChan (i : Nat) (f : Chan → Chan) : (s.modChan i f).smills = s.smills := rfl
@[simp] theorem pmills_modChan (i : Nat) (f : Chan → Chan) : (s.modChan i f).pmills = s.pmills := rfl
@[simp] theorem millQ_modChan (i : Nat) (f : Chan → Chan) : (s.modChan i f).millQ = s.millQ := rfl
@[simp] theorem millOwn_modChan (i : Nat) (f : Chan → Chan) : (s.modChan i f).millOwn = s.millOwn := rfl
@[simp] theorem millLoans_modChan (i : Nat) (f : Chan → Chan) : (s.modChan i f).millLoans = s.millLoans := rfl
@[simp] theorem millUsed_modChan (i : Nat) (f : Chan → Chan) : (s.modChan i f).millUsed = s.millUsed := rfl
@[simp] theorem millWaited_modChan (i : Nat) (f : Chan → Chan) : (s.modChan i f).millWaited = s.millWaited := rfl
@[simp] theorem houses_modChan (i : Nat) (f : Chan → Chan) : (s.modChan i f).houses = s.houses := rfl
@[simp] theorem staged_modChan (i : Nat) (f : Chan → Chan) : (s.modChan i f).staged = s.staged := rfl
@[simp] theorem ways_modChan (i : Nat) (f : Chan → Chan) : (s.modChan i f).ways = s.ways := rfl
@[simp] theorem tillers_modChan (i : Nat) (f : Chan → Chan) : (s.modChan i f).tillers = s.tillers := rfl
@[simp] theorem leaving_modChan (i : Nat) (f : Chan → Chan) : (s.modChan i f).leaving = s.leaving := rfl
@[simp] theorem sharedEdges_modChan (i : Nat) (f : Chan → Chan) : (s.modChan i f).sharedEdges = s.sharedEdges := rfl
@[simp] theorem chutes_modChan (i : Nat) (f : Chan → Chan) : (s.modChan i f).chutes = s.chutes := rfl
@[simp] theorem hoppers_modChan (i : Nat) (f : Chan → Chan) : (s.modChan i f).hoppers = s.hoppers := rfl
@[simp] theorem power_modChan (i : Nat) (f : Chan → Chan) : (s.modChan i f).power = s.power := rfl
@[simp] theorem flash_modChan (i : Nat) (f : Chan → Chan) : (s.modChan i f).flash = s.flash := rfl
@[simp] theorem wear_modChan (i : Nat) (f : Chan → Chan) : (s.modChan i f).wear = s.wear := rfl
@[simp] theorem tap_modChan (i : Nat) (f : Chan → Chan) : (s.modChan i f).tap = s.tap := rfl
@[simp] theorem sealQ_modChan (i : Nat) (f : Chan → Chan) : (s.modChan i f).sealQ = s.sealQ := rfl
@[simp] theorem out_modChan (i : Nat) (f : Chan → Chan) : (s.modChan i f).out = s.out := rfl
@[simp] theorem picks_modChan (i : Nat) (f : Chan → Chan) : (s.modChan i f).picks = s.picks := rfl

/-! modCard writes only cards. -/

@[simp] theorem pending_modCard (i : Nat) (f : Card → Card) : (s.modCard i f).pending = s.pending := rfl
@[simp] theorem dtime_modCard (i : Nat) (f : Card → Card) : (s.modCard i f).dtime = s.dtime := rfl
@[simp] theorem termAt_modCard (i : Nat) (f : Card → Card) : (s.modCard i f).termAt = s.termAt := rfl
@[simp] theorem regs_modCard (i : Nat) (f : Card → Card) : (s.modCard i f).regs = s.regs := rfl
@[simp] theorem mem_modCard (i : Nat) (f : Card → Card) : (s.modCard i f).mem = s.mem := rfl
@[simp] theorem poison_modCard (i : Nat) (f : Card → Card) : (s.modCard i f).poison = s.poison := rfl
@[simp] theorem l2_modCard (i : Nat) (f : Card → Card) : (s.modCard i f).l2 = s.l2 := rfl
@[simp] theorem granary_modCard (i : Nat) (f : Card → Card) : (s.modCard i f).granary = s.granary := rfl
@[simp] theorem tb_modCard (i : Nat) (f : Card → Card) : (s.modCard i f).tb = s.tb := rfl
@[simp] theorem avs_modCard (i : Nat) (f : Card → Card) : (s.modCard i f).avs = s.avs := rfl
@[simp] theorem ports_modCard (i : Nat) (f : Card → Card) : (s.modCard i f).ports = s.ports := rfl
@[simp] theorem fns_modCard (i : Nat) (f : Card → Card) : (s.modCard i f).fns = s.fns := rfl
@[simp] theorem stepQ_modCard (i : Nat) (f : Card → Card) : (s.modCard i f).stepQ = s.stepQ := rfl
@[simp] theorem slates_modCard (i : Nat) (f : Card → Card) : (s.modCard i f).slates = s.slates := rfl
@[simp] theorem lanes_modCard (i : Nat) (f : Card → Card) : (s.modCard i f).lanes = s.lanes := rfl
@[simp] theorem poolQ_modCard (i : Nat) (f : Card → Card) : (s.modCard i f).poolQ = s.poolQ := rfl
@[simp] theorem supers_modCard (i : Nat) (f : Card → Card) : (s.modCard i f).supers = s.supers := rfl
@[simp] theorem symSlots_modCard (i : Nat) (f : Card → Card) : (s.modCard i f).symSlots = s.symSlots := rfl
@[simp] theorem asymSlots_modCard (i : Nat) (f : Card → Card) : (s.modCard i f).asymSlots = s.asymSlots := rfl
@[simp] theorem dev_modCard (i : Nat) (f : Card → Card) : (s.modCard i f).dev = s.dev := rfl
@[simp] theorem ownerCtr_modCard (i : Nat) (f : Card → Card) : (s.modCard i f).ownerCtr = s.ownerCtr := rfl
@[simp] theorem rekeyAt_modCard (i : Nat) (f : Card → Card) : (s.modCard i f).rekeyAt = s.rekeyAt := rfl
@[simp] theorem symCache_modCard (i : Nat) (f : Card → Card) : (s.modCard i f).symCache = s.symCache := rfl
@[simp] theorem asymCache_modCard (i : Nat) (f : Card → Card) : (s.modCard i f).asymCache = s.asymCache := rfl
@[simp] theorem entropy_modCard (i : Nat) (f : Card → Card) : (s.modCard i f).entropy = s.entropy := rfl
@[simp] theorem entPool_modCard (i : Nat) (f : Card → Card) : (s.modCard i f).entPool = s.entPool := rfl
@[simp] theorem dramKeys_modCard (i : Nat) (f : Card → Card) : (s.modCard i f).dramKeys = s.dramKeys := rfl
@[simp] theorem smills_modCard (i : Nat) (f : Card → Card) : (s.modCard i f).smills = s.smills := rfl
@[simp] theorem pmills_modCard (i : Nat) (f : Card → Card) : (s.modCard i f).pmills = s.pmills := rfl
@[simp] theorem millQ_modCard (i : Nat) (f : Card → Card) : (s.modCard i f).millQ = s.millQ := rfl
@[simp] theorem millOwn_modCard (i : Nat) (f : Card → Card) : (s.modCard i f).millOwn = s.millOwn := rfl
@[simp] theorem millLoans_modCard (i : Nat) (f : Card → Card) : (s.modCard i f).millLoans = s.millLoans := rfl
@[simp] theorem millUsed_modCard (i : Nat) (f : Card → Card) : (s.modCard i f).millUsed = s.millUsed := rfl
@[simp] theorem millWaited_modCard (i : Nat) (f : Card → Card) : (s.modCard i f).millWaited = s.millWaited := rfl
@[simp] theorem houses_modCard (i : Nat) (f : Card → Card) : (s.modCard i f).houses = s.houses := rfl
@[simp] theorem staged_modCard (i : Nat) (f : Card → Card) : (s.modCard i f).staged = s.staged := rfl
@[simp] theorem ways_modCard (i : Nat) (f : Card → Card) : (s.modCard i f).ways = s.ways := rfl
@[simp] theorem tillers_modCard (i : Nat) (f : Card → Card) : (s.modCard i f).tillers = s.tillers := rfl
@[simp] theorem leaving_modCard (i : Nat) (f : Card → Card) : (s.modCard i f).leaving = s.leaving := rfl
@[simp] theorem sharedEdges_modCard (i : Nat) (f : Card → Card) : (s.modCard i f).sharedEdges = s.sharedEdges := rfl
@[simp] theorem chutes_modCard (i : Nat) (f : Card → Card) : (s.modCard i f).chutes = s.chutes := rfl
@[simp] theorem hoppers_modCard (i : Nat) (f : Card → Card) : (s.modCard i f).hoppers = s.hoppers := rfl
@[simp] theorem chans_modCard (i : Nat) (f : Card → Card) : (s.modCard i f).chans = s.chans := rfl
@[simp] theorem power_modCard (i : Nat) (f : Card → Card) : (s.modCard i f).power = s.power := rfl
@[simp] theorem flash_modCard (i : Nat) (f : Card → Card) : (s.modCard i f).flash = s.flash := rfl
@[simp] theorem wear_modCard (i : Nat) (f : Card → Card) : (s.modCard i f).wear = s.wear := rfl
@[simp] theorem tap_modCard (i : Nat) (f : Card → Card) : (s.modCard i f).tap = s.tap := rfl
@[simp] theorem sealQ_modCard (i : Nat) (f : Card → Card) : (s.modCard i f).sealQ = s.sealQ := rfl
@[simp] theorem out_modCard (i : Nat) (f : Card → Card) : (s.modCard i f).out = s.out := rfl
@[simp] theorem picks_modCard (i : Nat) (f : Card → Card) : (s.modCard i f).picks = s.picks := rfl

/-! modSource writes only entropy. -/

@[simp] theorem pending_modSource (i : Nat) (f : Entropy → Entropy) : (s.modSource i f).pending = s.pending := rfl
@[simp] theorem dtime_modSource (i : Nat) (f : Entropy → Entropy) : (s.modSource i f).dtime = s.dtime := rfl
@[simp] theorem termAt_modSource (i : Nat) (f : Entropy → Entropy) : (s.modSource i f).termAt = s.termAt := rfl
@[simp] theorem regs_modSource (i : Nat) (f : Entropy → Entropy) : (s.modSource i f).regs = s.regs := rfl
@[simp] theorem mem_modSource (i : Nat) (f : Entropy → Entropy) : (s.modSource i f).mem = s.mem := rfl
@[simp] theorem poison_modSource (i : Nat) (f : Entropy → Entropy) : (s.modSource i f).poison = s.poison := rfl
@[simp] theorem l2_modSource (i : Nat) (f : Entropy → Entropy) : (s.modSource i f).l2 = s.l2 := rfl
@[simp] theorem granary_modSource (i : Nat) (f : Entropy → Entropy) : (s.modSource i f).granary = s.granary := rfl
@[simp] theorem tb_modSource (i : Nat) (f : Entropy → Entropy) : (s.modSource i f).tb = s.tb := rfl
@[simp] theorem avs_modSource (i : Nat) (f : Entropy → Entropy) : (s.modSource i f).avs = s.avs := rfl
@[simp] theorem ports_modSource (i : Nat) (f : Entropy → Entropy) : (s.modSource i f).ports = s.ports := rfl
@[simp] theorem fns_modSource (i : Nat) (f : Entropy → Entropy) : (s.modSource i f).fns = s.fns := rfl
@[simp] theorem stepQ_modSource (i : Nat) (f : Entropy → Entropy) : (s.modSource i f).stepQ = s.stepQ := rfl
@[simp] theorem slates_modSource (i : Nat) (f : Entropy → Entropy) : (s.modSource i f).slates = s.slates := rfl
@[simp] theorem lanes_modSource (i : Nat) (f : Entropy → Entropy) : (s.modSource i f).lanes = s.lanes := rfl
@[simp] theorem poolQ_modSource (i : Nat) (f : Entropy → Entropy) : (s.modSource i f).poolQ = s.poolQ := rfl
@[simp] theorem supers_modSource (i : Nat) (f : Entropy → Entropy) : (s.modSource i f).supers = s.supers := rfl
@[simp] theorem symSlots_modSource (i : Nat) (f : Entropy → Entropy) : (s.modSource i f).symSlots = s.symSlots := rfl
@[simp] theorem asymSlots_modSource (i : Nat) (f : Entropy → Entropy) : (s.modSource i f).asymSlots = s.asymSlots := rfl
@[simp] theorem dev_modSource (i : Nat) (f : Entropy → Entropy) : (s.modSource i f).dev = s.dev := rfl
@[simp] theorem ownerCtr_modSource (i : Nat) (f : Entropy → Entropy) : (s.modSource i f).ownerCtr = s.ownerCtr := rfl
@[simp] theorem rekeyAt_modSource (i : Nat) (f : Entropy → Entropy) : (s.modSource i f).rekeyAt = s.rekeyAt := rfl
@[simp] theorem symCache_modSource (i : Nat) (f : Entropy → Entropy) : (s.modSource i f).symCache = s.symCache := rfl
@[simp] theorem asymCache_modSource (i : Nat) (f : Entropy → Entropy) : (s.modSource i f).asymCache = s.asymCache := rfl
@[simp] theorem cards_modSource (i : Nat) (f : Entropy → Entropy) : (s.modSource i f).cards = s.cards := rfl
@[simp] theorem entPool_modSource (i : Nat) (f : Entropy → Entropy) : (s.modSource i f).entPool = s.entPool := rfl
@[simp] theorem dramKeys_modSource (i : Nat) (f : Entropy → Entropy) : (s.modSource i f).dramKeys = s.dramKeys := rfl
@[simp] theorem smills_modSource (i : Nat) (f : Entropy → Entropy) : (s.modSource i f).smills = s.smills := rfl
@[simp] theorem pmills_modSource (i : Nat) (f : Entropy → Entropy) : (s.modSource i f).pmills = s.pmills := rfl
@[simp] theorem millQ_modSource (i : Nat) (f : Entropy → Entropy) : (s.modSource i f).millQ = s.millQ := rfl
@[simp] theorem millOwn_modSource (i : Nat) (f : Entropy → Entropy) : (s.modSource i f).millOwn = s.millOwn := rfl
@[simp] theorem millLoans_modSource (i : Nat) (f : Entropy → Entropy) : (s.modSource i f).millLoans = s.millLoans := rfl
@[simp] theorem millUsed_modSource (i : Nat) (f : Entropy → Entropy) : (s.modSource i f).millUsed = s.millUsed := rfl
@[simp] theorem millWaited_modSource (i : Nat) (f : Entropy → Entropy) : (s.modSource i f).millWaited = s.millWaited := rfl
@[simp] theorem houses_modSource (i : Nat) (f : Entropy → Entropy) : (s.modSource i f).houses = s.houses := rfl
@[simp] theorem staged_modSource (i : Nat) (f : Entropy → Entropy) : (s.modSource i f).staged = s.staged := rfl
@[simp] theorem ways_modSource (i : Nat) (f : Entropy → Entropy) : (s.modSource i f).ways = s.ways := rfl
@[simp] theorem tillers_modSource (i : Nat) (f : Entropy → Entropy) : (s.modSource i f).tillers = s.tillers := rfl
@[simp] theorem leaving_modSource (i : Nat) (f : Entropy → Entropy) : (s.modSource i f).leaving = s.leaving := rfl
@[simp] theorem sharedEdges_modSource (i : Nat) (f : Entropy → Entropy) : (s.modSource i f).sharedEdges = s.sharedEdges := rfl
@[simp] theorem chutes_modSource (i : Nat) (f : Entropy → Entropy) : (s.modSource i f).chutes = s.chutes := rfl
@[simp] theorem hoppers_modSource (i : Nat) (f : Entropy → Entropy) : (s.modSource i f).hoppers = s.hoppers := rfl
@[simp] theorem chans_modSource (i : Nat) (f : Entropy → Entropy) : (s.modSource i f).chans = s.chans := rfl
@[simp] theorem power_modSource (i : Nat) (f : Entropy → Entropy) : (s.modSource i f).power = s.power := rfl
@[simp] theorem flash_modSource (i : Nat) (f : Entropy → Entropy) : (s.modSource i f).flash = s.flash := rfl
@[simp] theorem wear_modSource (i : Nat) (f : Entropy → Entropy) : (s.modSource i f).wear = s.wear := rfl
@[simp] theorem tap_modSource (i : Nat) (f : Entropy → Entropy) : (s.modSource i f).tap = s.tap := rfl
@[simp] theorem sealQ_modSource (i : Nat) (f : Entropy → Entropy) : (s.modSource i f).sealQ = s.sealQ := rfl
@[simp] theorem out_modSource (i : Nat) (f : Entropy → Entropy) : (s.modSource i f).out = s.out := rfl
@[simp] theorem picks_modSource (i : Nat) (f : Entropy → Entropy) : (s.modSource i f).picks = s.picks := rfl

/-! wr writes only regs. -/

@[simp] theorem pending_wr (a : Nat) (v : Word) : (s.wr a v).pending = s.pending := rfl
@[simp] theorem dtime_wr (a : Nat) (v : Word) : (s.wr a v).dtime = s.dtime := rfl
@[simp] theorem termAt_wr (a : Nat) (v : Word) : (s.wr a v).termAt = s.termAt := rfl
@[simp] theorem mem_wr (a : Nat) (v : Word) : (s.wr a v).mem = s.mem := rfl
@[simp] theorem poison_wr (a : Nat) (v : Word) : (s.wr a v).poison = s.poison := rfl
@[simp] theorem l2_wr (a : Nat) (v : Word) : (s.wr a v).l2 = s.l2 := rfl
@[simp] theorem granary_wr (a : Nat) (v : Word) : (s.wr a v).granary = s.granary := rfl
@[simp] theorem tb_wr (a : Nat) (v : Word) : (s.wr a v).tb = s.tb := rfl
@[simp] theorem avs_wr (a : Nat) (v : Word) : (s.wr a v).avs = s.avs := rfl
@[simp] theorem ports_wr (a : Nat) (v : Word) : (s.wr a v).ports = s.ports := rfl
@[simp] theorem fns_wr (a : Nat) (v : Word) : (s.wr a v).fns = s.fns := rfl
@[simp] theorem stepQ_wr (a : Nat) (v : Word) : (s.wr a v).stepQ = s.stepQ := rfl
@[simp] theorem slates_wr (a : Nat) (v : Word) : (s.wr a v).slates = s.slates := rfl
@[simp] theorem lanes_wr (a : Nat) (v : Word) : (s.wr a v).lanes = s.lanes := rfl
@[simp] theorem poolQ_wr (a : Nat) (v : Word) : (s.wr a v).poolQ = s.poolQ := rfl
@[simp] theorem supers_wr (a : Nat) (v : Word) : (s.wr a v).supers = s.supers := rfl
@[simp] theorem symSlots_wr (a : Nat) (v : Word) : (s.wr a v).symSlots = s.symSlots := rfl
@[simp] theorem asymSlots_wr (a : Nat) (v : Word) : (s.wr a v).asymSlots = s.asymSlots := rfl
@[simp] theorem dev_wr (a : Nat) (v : Word) : (s.wr a v).dev = s.dev := rfl
@[simp] theorem ownerCtr_wr (a : Nat) (v : Word) : (s.wr a v).ownerCtr = s.ownerCtr := rfl
@[simp] theorem rekeyAt_wr (a : Nat) (v : Word) : (s.wr a v).rekeyAt = s.rekeyAt := rfl
@[simp] theorem symCache_wr (a : Nat) (v : Word) : (s.wr a v).symCache = s.symCache := rfl
@[simp] theorem asymCache_wr (a : Nat) (v : Word) : (s.wr a v).asymCache = s.asymCache := rfl
@[simp] theorem cards_wr (a : Nat) (v : Word) : (s.wr a v).cards = s.cards := rfl
@[simp] theorem entropy_wr (a : Nat) (v : Word) : (s.wr a v).entropy = s.entropy := rfl
@[simp] theorem entPool_wr (a : Nat) (v : Word) : (s.wr a v).entPool = s.entPool := rfl
@[simp] theorem dramKeys_wr (a : Nat) (v : Word) : (s.wr a v).dramKeys = s.dramKeys := rfl
@[simp] theorem smills_wr (a : Nat) (v : Word) : (s.wr a v).smills = s.smills := rfl
@[simp] theorem pmills_wr (a : Nat) (v : Word) : (s.wr a v).pmills = s.pmills := rfl
@[simp] theorem millQ_wr (a : Nat) (v : Word) : (s.wr a v).millQ = s.millQ := rfl
@[simp] theorem millOwn_wr (a : Nat) (v : Word) : (s.wr a v).millOwn = s.millOwn := rfl
@[simp] theorem millLoans_wr (a : Nat) (v : Word) : (s.wr a v).millLoans = s.millLoans := rfl
@[simp] theorem millUsed_wr (a : Nat) (v : Word) : (s.wr a v).millUsed = s.millUsed := rfl
@[simp] theorem millWaited_wr (a : Nat) (v : Word) : (s.wr a v).millWaited = s.millWaited := rfl
@[simp] theorem houses_wr (a : Nat) (v : Word) : (s.wr a v).houses = s.houses := rfl
@[simp] theorem staged_wr (a : Nat) (v : Word) : (s.wr a v).staged = s.staged := rfl
@[simp] theorem ways_wr (a : Nat) (v : Word) : (s.wr a v).ways = s.ways := rfl
@[simp] theorem tillers_wr (a : Nat) (v : Word) : (s.wr a v).tillers = s.tillers := rfl
@[simp] theorem leaving_wr (a : Nat) (v : Word) : (s.wr a v).leaving = s.leaving := rfl
@[simp] theorem sharedEdges_wr (a : Nat) (v : Word) : (s.wr a v).sharedEdges = s.sharedEdges := rfl
@[simp] theorem chutes_wr (a : Nat) (v : Word) : (s.wr a v).chutes = s.chutes := rfl
@[simp] theorem hoppers_wr (a : Nat) (v : Word) : (s.wr a v).hoppers = s.hoppers := rfl
@[simp] theorem chans_wr (a : Nat) (v : Word) : (s.wr a v).chans = s.chans := rfl
@[simp] theorem power_wr (a : Nat) (v : Word) : (s.wr a v).power = s.power := rfl
@[simp] theorem flash_wr (a : Nat) (v : Word) : (s.wr a v).flash = s.flash := rfl
@[simp] theorem wear_wr (a : Nat) (v : Word) : (s.wr a v).wear = s.wear := rfl
@[simp] theorem tap_wr (a : Nat) (v : Word) : (s.wr a v).tap = s.tap := rfl
@[simp] theorem sealQ_wr (a : Nat) (v : Word) : (s.wr a v).sealQ = s.sealQ := rfl
@[simp] theorem out_wr (a : Nat) (v : Word) : (s.wr a v).out = s.out := rfl
@[simp] theorem picks_wr (a : Nat) (v : Word) : (s.wr a v).picks = s.picks := rfl

/-! setFld writes only regs. -/

@[simp] theorem pending_setFld (a : Nat) (f : Fld) (n : Nat) : (s.setFld a f n).pending = s.pending := rfl
@[simp] theorem dtime_setFld (a : Nat) (f : Fld) (n : Nat) : (s.setFld a f n).dtime = s.dtime := rfl
@[simp] theorem termAt_setFld (a : Nat) (f : Fld) (n : Nat) : (s.setFld a f n).termAt = s.termAt := rfl
@[simp] theorem mem_setFld (a : Nat) (f : Fld) (n : Nat) : (s.setFld a f n).mem = s.mem := rfl
@[simp] theorem poison_setFld (a : Nat) (f : Fld) (n : Nat) : (s.setFld a f n).poison = s.poison := rfl
@[simp] theorem l2_setFld (a : Nat) (f : Fld) (n : Nat) : (s.setFld a f n).l2 = s.l2 := rfl
@[simp] theorem granary_setFld (a : Nat) (f : Fld) (n : Nat) : (s.setFld a f n).granary = s.granary := rfl
@[simp] theorem tb_setFld (a : Nat) (f : Fld) (n : Nat) : (s.setFld a f n).tb = s.tb := rfl
@[simp] theorem avs_setFld (a : Nat) (f : Fld) (n : Nat) : (s.setFld a f n).avs = s.avs := rfl
@[simp] theorem ports_setFld (a : Nat) (f : Fld) (n : Nat) : (s.setFld a f n).ports = s.ports := rfl
@[simp] theorem fns_setFld (a : Nat) (f : Fld) (n : Nat) : (s.setFld a f n).fns = s.fns := rfl
@[simp] theorem stepQ_setFld (a : Nat) (f : Fld) (n : Nat) : (s.setFld a f n).stepQ = s.stepQ := rfl
@[simp] theorem slates_setFld (a : Nat) (f : Fld) (n : Nat) : (s.setFld a f n).slates = s.slates := rfl
@[simp] theorem lanes_setFld (a : Nat) (f : Fld) (n : Nat) : (s.setFld a f n).lanes = s.lanes := rfl
@[simp] theorem poolQ_setFld (a : Nat) (f : Fld) (n : Nat) : (s.setFld a f n).poolQ = s.poolQ := rfl
@[simp] theorem supers_setFld (a : Nat) (f : Fld) (n : Nat) : (s.setFld a f n).supers = s.supers := rfl
@[simp] theorem symSlots_setFld (a : Nat) (f : Fld) (n : Nat) : (s.setFld a f n).symSlots = s.symSlots := rfl
@[simp] theorem asymSlots_setFld (a : Nat) (f : Fld) (n : Nat) : (s.setFld a f n).asymSlots = s.asymSlots := rfl
@[simp] theorem dev_setFld (a : Nat) (f : Fld) (n : Nat) : (s.setFld a f n).dev = s.dev := rfl
@[simp] theorem ownerCtr_setFld (a : Nat) (f : Fld) (n : Nat) : (s.setFld a f n).ownerCtr = s.ownerCtr := rfl
@[simp] theorem rekeyAt_setFld (a : Nat) (f : Fld) (n : Nat) : (s.setFld a f n).rekeyAt = s.rekeyAt := rfl
@[simp] theorem symCache_setFld (a : Nat) (f : Fld) (n : Nat) : (s.setFld a f n).symCache = s.symCache := rfl
@[simp] theorem asymCache_setFld (a : Nat) (f : Fld) (n : Nat) : (s.setFld a f n).asymCache = s.asymCache := rfl
@[simp] theorem cards_setFld (a : Nat) (f : Fld) (n : Nat) : (s.setFld a f n).cards = s.cards := rfl
@[simp] theorem entropy_setFld (a : Nat) (f : Fld) (n : Nat) : (s.setFld a f n).entropy = s.entropy := rfl
@[simp] theorem entPool_setFld (a : Nat) (f : Fld) (n : Nat) : (s.setFld a f n).entPool = s.entPool := rfl
@[simp] theorem dramKeys_setFld (a : Nat) (f : Fld) (n : Nat) : (s.setFld a f n).dramKeys = s.dramKeys := rfl
@[simp] theorem smills_setFld (a : Nat) (f : Fld) (n : Nat) : (s.setFld a f n).smills = s.smills := rfl
@[simp] theorem pmills_setFld (a : Nat) (f : Fld) (n : Nat) : (s.setFld a f n).pmills = s.pmills := rfl
@[simp] theorem millQ_setFld (a : Nat) (f : Fld) (n : Nat) : (s.setFld a f n).millQ = s.millQ := rfl
@[simp] theorem millOwn_setFld (a : Nat) (f : Fld) (n : Nat) : (s.setFld a f n).millOwn = s.millOwn := rfl
@[simp] theorem millLoans_setFld (a : Nat) (f : Fld) (n : Nat) : (s.setFld a f n).millLoans = s.millLoans := rfl
@[simp] theorem millUsed_setFld (a : Nat) (f : Fld) (n : Nat) : (s.setFld a f n).millUsed = s.millUsed := rfl
@[simp] theorem millWaited_setFld (a : Nat) (f : Fld) (n : Nat) : (s.setFld a f n).millWaited = s.millWaited := rfl
@[simp] theorem houses_setFld (a : Nat) (f : Fld) (n : Nat) : (s.setFld a f n).houses = s.houses := rfl
@[simp] theorem staged_setFld (a : Nat) (f : Fld) (n : Nat) : (s.setFld a f n).staged = s.staged := rfl
@[simp] theorem ways_setFld (a : Nat) (f : Fld) (n : Nat) : (s.setFld a f n).ways = s.ways := rfl
@[simp] theorem tillers_setFld (a : Nat) (f : Fld) (n : Nat) : (s.setFld a f n).tillers = s.tillers := rfl
@[simp] theorem leaving_setFld (a : Nat) (f : Fld) (n : Nat) : (s.setFld a f n).leaving = s.leaving := rfl
@[simp] theorem sharedEdges_setFld (a : Nat) (f : Fld) (n : Nat) : (s.setFld a f n).sharedEdges = s.sharedEdges := rfl
@[simp] theorem chutes_setFld (a : Nat) (f : Fld) (n : Nat) : (s.setFld a f n).chutes = s.chutes := rfl
@[simp] theorem hoppers_setFld (a : Nat) (f : Fld) (n : Nat) : (s.setFld a f n).hoppers = s.hoppers := rfl
@[simp] theorem chans_setFld (a : Nat) (f : Fld) (n : Nat) : (s.setFld a f n).chans = s.chans := rfl
@[simp] theorem power_setFld (a : Nat) (f : Fld) (n : Nat) : (s.setFld a f n).power = s.power := rfl
@[simp] theorem flash_setFld (a : Nat) (f : Fld) (n : Nat) : (s.setFld a f n).flash = s.flash := rfl
@[simp] theorem wear_setFld (a : Nat) (f : Fld) (n : Nat) : (s.setFld a f n).wear = s.wear := rfl
@[simp] theorem tap_setFld (a : Nat) (f : Fld) (n : Nat) : (s.setFld a f n).tap = s.tap := rfl
@[simp] theorem sealQ_setFld (a : Nat) (f : Fld) (n : Nat) : (s.setFld a f n).sealQ = s.sealQ := rfl
@[simp] theorem out_setFld (a : Nat) (f : Fld) (n : Nat) : (s.setFld a f n).out = s.out := rfl
@[simp] theorem picks_setFld (a : Nat) (f : Fld) (n : Nat) : (s.setFld a f n).picks = s.picks := rfl

/-! setFlag writes only regs. -/

@[simp] theorem pending_setFlag (a : Nat) (f : Fld) (b : Bool) : (s.setFlag a f b).pending = s.pending := rfl
@[simp] theorem dtime_setFlag (a : Nat) (f : Fld) (b : Bool) : (s.setFlag a f b).dtime = s.dtime := rfl
@[simp] theorem termAt_setFlag (a : Nat) (f : Fld) (b : Bool) : (s.setFlag a f b).termAt = s.termAt := rfl
@[simp] theorem mem_setFlag (a : Nat) (f : Fld) (b : Bool) : (s.setFlag a f b).mem = s.mem := rfl
@[simp] theorem poison_setFlag (a : Nat) (f : Fld) (b : Bool) : (s.setFlag a f b).poison = s.poison := rfl
@[simp] theorem l2_setFlag (a : Nat) (f : Fld) (b : Bool) : (s.setFlag a f b).l2 = s.l2 := rfl
@[simp] theorem granary_setFlag (a : Nat) (f : Fld) (b : Bool) : (s.setFlag a f b).granary = s.granary := rfl
@[simp] theorem tb_setFlag (a : Nat) (f : Fld) (b : Bool) : (s.setFlag a f b).tb = s.tb := rfl
@[simp] theorem avs_setFlag (a : Nat) (f : Fld) (b : Bool) : (s.setFlag a f b).avs = s.avs := rfl
@[simp] theorem ports_setFlag (a : Nat) (f : Fld) (b : Bool) : (s.setFlag a f b).ports = s.ports := rfl
@[simp] theorem fns_setFlag (a : Nat) (f : Fld) (b : Bool) : (s.setFlag a f b).fns = s.fns := rfl
@[simp] theorem stepQ_setFlag (a : Nat) (f : Fld) (b : Bool) : (s.setFlag a f b).stepQ = s.stepQ := rfl
@[simp] theorem slates_setFlag (a : Nat) (f : Fld) (b : Bool) : (s.setFlag a f b).slates = s.slates := rfl
@[simp] theorem lanes_setFlag (a : Nat) (f : Fld) (b : Bool) : (s.setFlag a f b).lanes = s.lanes := rfl
@[simp] theorem poolQ_setFlag (a : Nat) (f : Fld) (b : Bool) : (s.setFlag a f b).poolQ = s.poolQ := rfl
@[simp] theorem supers_setFlag (a : Nat) (f : Fld) (b : Bool) : (s.setFlag a f b).supers = s.supers := rfl
@[simp] theorem symSlots_setFlag (a : Nat) (f : Fld) (b : Bool) : (s.setFlag a f b).symSlots = s.symSlots := rfl
@[simp] theorem asymSlots_setFlag (a : Nat) (f : Fld) (b : Bool) : (s.setFlag a f b).asymSlots = s.asymSlots := rfl
@[simp] theorem dev_setFlag (a : Nat) (f : Fld) (b : Bool) : (s.setFlag a f b).dev = s.dev := rfl
@[simp] theorem ownerCtr_setFlag (a : Nat) (f : Fld) (b : Bool) : (s.setFlag a f b).ownerCtr = s.ownerCtr := rfl
@[simp] theorem rekeyAt_setFlag (a : Nat) (f : Fld) (b : Bool) : (s.setFlag a f b).rekeyAt = s.rekeyAt := rfl
@[simp] theorem symCache_setFlag (a : Nat) (f : Fld) (b : Bool) : (s.setFlag a f b).symCache = s.symCache := rfl
@[simp] theorem asymCache_setFlag (a : Nat) (f : Fld) (b : Bool) : (s.setFlag a f b).asymCache = s.asymCache := rfl
@[simp] theorem cards_setFlag (a : Nat) (f : Fld) (b : Bool) : (s.setFlag a f b).cards = s.cards := rfl
@[simp] theorem entropy_setFlag (a : Nat) (f : Fld) (b : Bool) : (s.setFlag a f b).entropy = s.entropy := rfl
@[simp] theorem entPool_setFlag (a : Nat) (f : Fld) (b : Bool) : (s.setFlag a f b).entPool = s.entPool := rfl
@[simp] theorem dramKeys_setFlag (a : Nat) (f : Fld) (b : Bool) : (s.setFlag a f b).dramKeys = s.dramKeys := rfl
@[simp] theorem smills_setFlag (a : Nat) (f : Fld) (b : Bool) : (s.setFlag a f b).smills = s.smills := rfl
@[simp] theorem pmills_setFlag (a : Nat) (f : Fld) (b : Bool) : (s.setFlag a f b).pmills = s.pmills := rfl
@[simp] theorem millQ_setFlag (a : Nat) (f : Fld) (b : Bool) : (s.setFlag a f b).millQ = s.millQ := rfl
@[simp] theorem millOwn_setFlag (a : Nat) (f : Fld) (b : Bool) : (s.setFlag a f b).millOwn = s.millOwn := rfl
@[simp] theorem millLoans_setFlag (a : Nat) (f : Fld) (b : Bool) : (s.setFlag a f b).millLoans = s.millLoans := rfl
@[simp] theorem millUsed_setFlag (a : Nat) (f : Fld) (b : Bool) : (s.setFlag a f b).millUsed = s.millUsed := rfl
@[simp] theorem millWaited_setFlag (a : Nat) (f : Fld) (b : Bool) : (s.setFlag a f b).millWaited = s.millWaited := rfl
@[simp] theorem houses_setFlag (a : Nat) (f : Fld) (b : Bool) : (s.setFlag a f b).houses = s.houses := rfl
@[simp] theorem staged_setFlag (a : Nat) (f : Fld) (b : Bool) : (s.setFlag a f b).staged = s.staged := rfl
@[simp] theorem ways_setFlag (a : Nat) (f : Fld) (b : Bool) : (s.setFlag a f b).ways = s.ways := rfl
@[simp] theorem tillers_setFlag (a : Nat) (f : Fld) (b : Bool) : (s.setFlag a f b).tillers = s.tillers := rfl
@[simp] theorem leaving_setFlag (a : Nat) (f : Fld) (b : Bool) : (s.setFlag a f b).leaving = s.leaving := rfl
@[simp] theorem sharedEdges_setFlag (a : Nat) (f : Fld) (b : Bool) : (s.setFlag a f b).sharedEdges = s.sharedEdges := rfl
@[simp] theorem chutes_setFlag (a : Nat) (f : Fld) (b : Bool) : (s.setFlag a f b).chutes = s.chutes := rfl
@[simp] theorem hoppers_setFlag (a : Nat) (f : Fld) (b : Bool) : (s.setFlag a f b).hoppers = s.hoppers := rfl
@[simp] theorem chans_setFlag (a : Nat) (f : Fld) (b : Bool) : (s.setFlag a f b).chans = s.chans := rfl
@[simp] theorem power_setFlag (a : Nat) (f : Fld) (b : Bool) : (s.setFlag a f b).power = s.power := rfl
@[simp] theorem flash_setFlag (a : Nat) (f : Fld) (b : Bool) : (s.setFlag a f b).flash = s.flash := rfl
@[simp] theorem wear_setFlag (a : Nat) (f : Fld) (b : Bool) : (s.setFlag a f b).wear = s.wear := rfl
@[simp] theorem tap_setFlag (a : Nat) (f : Fld) (b : Bool) : (s.setFlag a f b).tap = s.tap := rfl
@[simp] theorem sealQ_setFlag (a : Nat) (f : Fld) (b : Bool) : (s.setFlag a f b).sealQ = s.sealQ := rfl
@[simp] theorem out_setFlag (a : Nat) (f : Fld) (b : Bool) : (s.setFlag a f b).out = s.out := rfl
@[simp] theorem picks_setFlag (a : Nat) (f : Fld) (b : Bool) : (s.setFlag a f b).picks = s.picks := rfl

/-! countFld writes only regs. -/

@[simp] theorem pending_countFld (a : Nat) (f : Fld) (n : Nat) : (s.countFld a f n).pending = s.pending := rfl
@[simp] theorem dtime_countFld (a : Nat) (f : Fld) (n : Nat) : (s.countFld a f n).dtime = s.dtime := rfl
@[simp] theorem termAt_countFld (a : Nat) (f : Fld) (n : Nat) : (s.countFld a f n).termAt = s.termAt := rfl
@[simp] theorem mem_countFld (a : Nat) (f : Fld) (n : Nat) : (s.countFld a f n).mem = s.mem := rfl
@[simp] theorem poison_countFld (a : Nat) (f : Fld) (n : Nat) : (s.countFld a f n).poison = s.poison := rfl
@[simp] theorem l2_countFld (a : Nat) (f : Fld) (n : Nat) : (s.countFld a f n).l2 = s.l2 := rfl
@[simp] theorem granary_countFld (a : Nat) (f : Fld) (n : Nat) : (s.countFld a f n).granary = s.granary := rfl
@[simp] theorem tb_countFld (a : Nat) (f : Fld) (n : Nat) : (s.countFld a f n).tb = s.tb := rfl
@[simp] theorem avs_countFld (a : Nat) (f : Fld) (n : Nat) : (s.countFld a f n).avs = s.avs := rfl
@[simp] theorem ports_countFld (a : Nat) (f : Fld) (n : Nat) : (s.countFld a f n).ports = s.ports := rfl
@[simp] theorem fns_countFld (a : Nat) (f : Fld) (n : Nat) : (s.countFld a f n).fns = s.fns := rfl
@[simp] theorem stepQ_countFld (a : Nat) (f : Fld) (n : Nat) : (s.countFld a f n).stepQ = s.stepQ := rfl
@[simp] theorem slates_countFld (a : Nat) (f : Fld) (n : Nat) : (s.countFld a f n).slates = s.slates := rfl
@[simp] theorem lanes_countFld (a : Nat) (f : Fld) (n : Nat) : (s.countFld a f n).lanes = s.lanes := rfl
@[simp] theorem poolQ_countFld (a : Nat) (f : Fld) (n : Nat) : (s.countFld a f n).poolQ = s.poolQ := rfl
@[simp] theorem supers_countFld (a : Nat) (f : Fld) (n : Nat) : (s.countFld a f n).supers = s.supers := rfl
@[simp] theorem symSlots_countFld (a : Nat) (f : Fld) (n : Nat) : (s.countFld a f n).symSlots = s.symSlots := rfl
@[simp] theorem asymSlots_countFld (a : Nat) (f : Fld) (n : Nat) : (s.countFld a f n).asymSlots = s.asymSlots := rfl
@[simp] theorem dev_countFld (a : Nat) (f : Fld) (n : Nat) : (s.countFld a f n).dev = s.dev := rfl
@[simp] theorem ownerCtr_countFld (a : Nat) (f : Fld) (n : Nat) : (s.countFld a f n).ownerCtr = s.ownerCtr := rfl
@[simp] theorem rekeyAt_countFld (a : Nat) (f : Fld) (n : Nat) : (s.countFld a f n).rekeyAt = s.rekeyAt := rfl
@[simp] theorem symCache_countFld (a : Nat) (f : Fld) (n : Nat) : (s.countFld a f n).symCache = s.symCache := rfl
@[simp] theorem asymCache_countFld (a : Nat) (f : Fld) (n : Nat) : (s.countFld a f n).asymCache = s.asymCache := rfl
@[simp] theorem cards_countFld (a : Nat) (f : Fld) (n : Nat) : (s.countFld a f n).cards = s.cards := rfl
@[simp] theorem entropy_countFld (a : Nat) (f : Fld) (n : Nat) : (s.countFld a f n).entropy = s.entropy := rfl
@[simp] theorem entPool_countFld (a : Nat) (f : Fld) (n : Nat) : (s.countFld a f n).entPool = s.entPool := rfl
@[simp] theorem dramKeys_countFld (a : Nat) (f : Fld) (n : Nat) : (s.countFld a f n).dramKeys = s.dramKeys := rfl
@[simp] theorem smills_countFld (a : Nat) (f : Fld) (n : Nat) : (s.countFld a f n).smills = s.smills := rfl
@[simp] theorem pmills_countFld (a : Nat) (f : Fld) (n : Nat) : (s.countFld a f n).pmills = s.pmills := rfl
@[simp] theorem millQ_countFld (a : Nat) (f : Fld) (n : Nat) : (s.countFld a f n).millQ = s.millQ := rfl
@[simp] theorem millOwn_countFld (a : Nat) (f : Fld) (n : Nat) : (s.countFld a f n).millOwn = s.millOwn := rfl
@[simp] theorem millLoans_countFld (a : Nat) (f : Fld) (n : Nat) : (s.countFld a f n).millLoans = s.millLoans := rfl
@[simp] theorem millUsed_countFld (a : Nat) (f : Fld) (n : Nat) : (s.countFld a f n).millUsed = s.millUsed := rfl
@[simp] theorem millWaited_countFld (a : Nat) (f : Fld) (n : Nat) : (s.countFld a f n).millWaited = s.millWaited := rfl
@[simp] theorem houses_countFld (a : Nat) (f : Fld) (n : Nat) : (s.countFld a f n).houses = s.houses := rfl
@[simp] theorem staged_countFld (a : Nat) (f : Fld) (n : Nat) : (s.countFld a f n).staged = s.staged := rfl
@[simp] theorem ways_countFld (a : Nat) (f : Fld) (n : Nat) : (s.countFld a f n).ways = s.ways := rfl
@[simp] theorem tillers_countFld (a : Nat) (f : Fld) (n : Nat) : (s.countFld a f n).tillers = s.tillers := rfl
@[simp] theorem leaving_countFld (a : Nat) (f : Fld) (n : Nat) : (s.countFld a f n).leaving = s.leaving := rfl
@[simp] theorem sharedEdges_countFld (a : Nat) (f : Fld) (n : Nat) : (s.countFld a f n).sharedEdges = s.sharedEdges := rfl
@[simp] theorem chutes_countFld (a : Nat) (f : Fld) (n : Nat) : (s.countFld a f n).chutes = s.chutes := rfl
@[simp] theorem hoppers_countFld (a : Nat) (f : Fld) (n : Nat) : (s.countFld a f n).hoppers = s.hoppers := rfl
@[simp] theorem chans_countFld (a : Nat) (f : Fld) (n : Nat) : (s.countFld a f n).chans = s.chans := rfl
@[simp] theorem power_countFld (a : Nat) (f : Fld) (n : Nat) : (s.countFld a f n).power = s.power := rfl
@[simp] theorem flash_countFld (a : Nat) (f : Fld) (n : Nat) : (s.countFld a f n).flash = s.flash := rfl
@[simp] theorem wear_countFld (a : Nat) (f : Fld) (n : Nat) : (s.countFld a f n).wear = s.wear := rfl
@[simp] theorem tap_countFld (a : Nat) (f : Fld) (n : Nat) : (s.countFld a f n).tap = s.tap := rfl
@[simp] theorem sealQ_countFld (a : Nat) (f : Fld) (n : Nat) : (s.countFld a f n).sealQ = s.sealQ := rfl
@[simp] theorem out_countFld (a : Nat) (f : Fld) (n : Nat) : (s.countFld a f n).out = s.out := rfl
@[simp] theorem picks_countFld (a : Nat) (f : Fld) (n : Nat) : (s.countFld a f n).picks = s.picks := rfl

/-! satFld writes only regs. -/

@[simp] theorem pending_satFld (a : Nat) (f : Fld) (n : Nat) : (s.satFld a f n).pending = s.pending := rfl
@[simp] theorem dtime_satFld (a : Nat) (f : Fld) (n : Nat) : (s.satFld a f n).dtime = s.dtime := rfl
@[simp] theorem termAt_satFld (a : Nat) (f : Fld) (n : Nat) : (s.satFld a f n).termAt = s.termAt := rfl
@[simp] theorem mem_satFld (a : Nat) (f : Fld) (n : Nat) : (s.satFld a f n).mem = s.mem := rfl
@[simp] theorem poison_satFld (a : Nat) (f : Fld) (n : Nat) : (s.satFld a f n).poison = s.poison := rfl
@[simp] theorem l2_satFld (a : Nat) (f : Fld) (n : Nat) : (s.satFld a f n).l2 = s.l2 := rfl
@[simp] theorem granary_satFld (a : Nat) (f : Fld) (n : Nat) : (s.satFld a f n).granary = s.granary := rfl
@[simp] theorem tb_satFld (a : Nat) (f : Fld) (n : Nat) : (s.satFld a f n).tb = s.tb := rfl
@[simp] theorem avs_satFld (a : Nat) (f : Fld) (n : Nat) : (s.satFld a f n).avs = s.avs := rfl
@[simp] theorem ports_satFld (a : Nat) (f : Fld) (n : Nat) : (s.satFld a f n).ports = s.ports := rfl
@[simp] theorem fns_satFld (a : Nat) (f : Fld) (n : Nat) : (s.satFld a f n).fns = s.fns := rfl
@[simp] theorem stepQ_satFld (a : Nat) (f : Fld) (n : Nat) : (s.satFld a f n).stepQ = s.stepQ := rfl
@[simp] theorem slates_satFld (a : Nat) (f : Fld) (n : Nat) : (s.satFld a f n).slates = s.slates := rfl
@[simp] theorem lanes_satFld (a : Nat) (f : Fld) (n : Nat) : (s.satFld a f n).lanes = s.lanes := rfl
@[simp] theorem poolQ_satFld (a : Nat) (f : Fld) (n : Nat) : (s.satFld a f n).poolQ = s.poolQ := rfl
@[simp] theorem supers_satFld (a : Nat) (f : Fld) (n : Nat) : (s.satFld a f n).supers = s.supers := rfl
@[simp] theorem symSlots_satFld (a : Nat) (f : Fld) (n : Nat) : (s.satFld a f n).symSlots = s.symSlots := rfl
@[simp] theorem asymSlots_satFld (a : Nat) (f : Fld) (n : Nat) : (s.satFld a f n).asymSlots = s.asymSlots := rfl
@[simp] theorem dev_satFld (a : Nat) (f : Fld) (n : Nat) : (s.satFld a f n).dev = s.dev := rfl
@[simp] theorem ownerCtr_satFld (a : Nat) (f : Fld) (n : Nat) : (s.satFld a f n).ownerCtr = s.ownerCtr := rfl
@[simp] theorem rekeyAt_satFld (a : Nat) (f : Fld) (n : Nat) : (s.satFld a f n).rekeyAt = s.rekeyAt := rfl
@[simp] theorem symCache_satFld (a : Nat) (f : Fld) (n : Nat) : (s.satFld a f n).symCache = s.symCache := rfl
@[simp] theorem asymCache_satFld (a : Nat) (f : Fld) (n : Nat) : (s.satFld a f n).asymCache = s.asymCache := rfl
@[simp] theorem cards_satFld (a : Nat) (f : Fld) (n : Nat) : (s.satFld a f n).cards = s.cards := rfl
@[simp] theorem entropy_satFld (a : Nat) (f : Fld) (n : Nat) : (s.satFld a f n).entropy = s.entropy := rfl
@[simp] theorem entPool_satFld (a : Nat) (f : Fld) (n : Nat) : (s.satFld a f n).entPool = s.entPool := rfl
@[simp] theorem dramKeys_satFld (a : Nat) (f : Fld) (n : Nat) : (s.satFld a f n).dramKeys = s.dramKeys := rfl
@[simp] theorem smills_satFld (a : Nat) (f : Fld) (n : Nat) : (s.satFld a f n).smills = s.smills := rfl
@[simp] theorem pmills_satFld (a : Nat) (f : Fld) (n : Nat) : (s.satFld a f n).pmills = s.pmills := rfl
@[simp] theorem millQ_satFld (a : Nat) (f : Fld) (n : Nat) : (s.satFld a f n).millQ = s.millQ := rfl
@[simp] theorem millOwn_satFld (a : Nat) (f : Fld) (n : Nat) : (s.satFld a f n).millOwn = s.millOwn := rfl
@[simp] theorem millLoans_satFld (a : Nat) (f : Fld) (n : Nat) : (s.satFld a f n).millLoans = s.millLoans := rfl
@[simp] theorem millUsed_satFld (a : Nat) (f : Fld) (n : Nat) : (s.satFld a f n).millUsed = s.millUsed := rfl
@[simp] theorem millWaited_satFld (a : Nat) (f : Fld) (n : Nat) : (s.satFld a f n).millWaited = s.millWaited := rfl
@[simp] theorem houses_satFld (a : Nat) (f : Fld) (n : Nat) : (s.satFld a f n).houses = s.houses := rfl
@[simp] theorem staged_satFld (a : Nat) (f : Fld) (n : Nat) : (s.satFld a f n).staged = s.staged := rfl
@[simp] theorem ways_satFld (a : Nat) (f : Fld) (n : Nat) : (s.satFld a f n).ways = s.ways := rfl
@[simp] theorem tillers_satFld (a : Nat) (f : Fld) (n : Nat) : (s.satFld a f n).tillers = s.tillers := rfl
@[simp] theorem leaving_satFld (a : Nat) (f : Fld) (n : Nat) : (s.satFld a f n).leaving = s.leaving := rfl
@[simp] theorem sharedEdges_satFld (a : Nat) (f : Fld) (n : Nat) : (s.satFld a f n).sharedEdges = s.sharedEdges := rfl
@[simp] theorem chutes_satFld (a : Nat) (f : Fld) (n : Nat) : (s.satFld a f n).chutes = s.chutes := rfl
@[simp] theorem hoppers_satFld (a : Nat) (f : Fld) (n : Nat) : (s.satFld a f n).hoppers = s.hoppers := rfl
@[simp] theorem chans_satFld (a : Nat) (f : Fld) (n : Nat) : (s.satFld a f n).chans = s.chans := rfl
@[simp] theorem power_satFld (a : Nat) (f : Fld) (n : Nat) : (s.satFld a f n).power = s.power := rfl
@[simp] theorem flash_satFld (a : Nat) (f : Fld) (n : Nat) : (s.satFld a f n).flash = s.flash := rfl
@[simp] theorem wear_satFld (a : Nat) (f : Fld) (n : Nat) : (s.satFld a f n).wear = s.wear := rfl
@[simp] theorem tap_satFld (a : Nat) (f : Fld) (n : Nat) : (s.satFld a f n).tap = s.tap := rfl
@[simp] theorem sealQ_satFld (a : Nat) (f : Fld) (n : Nat) : (s.satFld a f n).sealQ = s.sealQ := rfl
@[simp] theorem out_satFld (a : Nat) (f : Fld) (n : Nat) : (s.satFld a f n).out = s.out := rfl
@[simp] theorem picks_satFld (a : Nat) (f : Fld) (n : Nat) : (s.satFld a f n).picks = s.picks := rfl

/-! post writes only out. -/

@[simp] theorem pending_post (p : Post) : (s.post p).pending = s.pending := rfl
@[simp] theorem dtime_post (p : Post) : (s.post p).dtime = s.dtime := rfl
@[simp] theorem termAt_post (p : Post) : (s.post p).termAt = s.termAt := rfl
@[simp] theorem regs_post (p : Post) : (s.post p).regs = s.regs := rfl
@[simp] theorem mem_post (p : Post) : (s.post p).mem = s.mem := rfl
@[simp] theorem poison_post (p : Post) : (s.post p).poison = s.poison := rfl
@[simp] theorem l2_post (p : Post) : (s.post p).l2 = s.l2 := rfl
@[simp] theorem granary_post (p : Post) : (s.post p).granary = s.granary := rfl
@[simp] theorem tb_post (p : Post) : (s.post p).tb = s.tb := rfl
@[simp] theorem avs_post (p : Post) : (s.post p).avs = s.avs := rfl
@[simp] theorem ports_post (p : Post) : (s.post p).ports = s.ports := rfl
@[simp] theorem fns_post (p : Post) : (s.post p).fns = s.fns := rfl
@[simp] theorem stepQ_post (p : Post) : (s.post p).stepQ = s.stepQ := rfl
@[simp] theorem slates_post (p : Post) : (s.post p).slates = s.slates := rfl
@[simp] theorem lanes_post (p : Post) : (s.post p).lanes = s.lanes := rfl
@[simp] theorem poolQ_post (p : Post) : (s.post p).poolQ = s.poolQ := rfl
@[simp] theorem supers_post (p : Post) : (s.post p).supers = s.supers := rfl
@[simp] theorem symSlots_post (p : Post) : (s.post p).symSlots = s.symSlots := rfl
@[simp] theorem asymSlots_post (p : Post) : (s.post p).asymSlots = s.asymSlots := rfl
@[simp] theorem dev_post (p : Post) : (s.post p).dev = s.dev := rfl
@[simp] theorem ownerCtr_post (p : Post) : (s.post p).ownerCtr = s.ownerCtr := rfl
@[simp] theorem rekeyAt_post (p : Post) : (s.post p).rekeyAt = s.rekeyAt := rfl
@[simp] theorem symCache_post (p : Post) : (s.post p).symCache = s.symCache := rfl
@[simp] theorem asymCache_post (p : Post) : (s.post p).asymCache = s.asymCache := rfl
@[simp] theorem cards_post (p : Post) : (s.post p).cards = s.cards := rfl
@[simp] theorem entropy_post (p : Post) : (s.post p).entropy = s.entropy := rfl
@[simp] theorem entPool_post (p : Post) : (s.post p).entPool = s.entPool := rfl
@[simp] theorem dramKeys_post (p : Post) : (s.post p).dramKeys = s.dramKeys := rfl
@[simp] theorem smills_post (p : Post) : (s.post p).smills = s.smills := rfl
@[simp] theorem pmills_post (p : Post) : (s.post p).pmills = s.pmills := rfl
@[simp] theorem millQ_post (p : Post) : (s.post p).millQ = s.millQ := rfl
@[simp] theorem millOwn_post (p : Post) : (s.post p).millOwn = s.millOwn := rfl
@[simp] theorem millLoans_post (p : Post) : (s.post p).millLoans = s.millLoans := rfl
@[simp] theorem millUsed_post (p : Post) : (s.post p).millUsed = s.millUsed := rfl
@[simp] theorem millWaited_post (p : Post) : (s.post p).millWaited = s.millWaited := rfl
@[simp] theorem houses_post (p : Post) : (s.post p).houses = s.houses := rfl
@[simp] theorem staged_post (p : Post) : (s.post p).staged = s.staged := rfl
@[simp] theorem ways_post (p : Post) : (s.post p).ways = s.ways := rfl
@[simp] theorem tillers_post (p : Post) : (s.post p).tillers = s.tillers := rfl
@[simp] theorem leaving_post (p : Post) : (s.post p).leaving = s.leaving := rfl
@[simp] theorem sharedEdges_post (p : Post) : (s.post p).sharedEdges = s.sharedEdges := rfl
@[simp] theorem chutes_post (p : Post) : (s.post p).chutes = s.chutes := rfl
@[simp] theorem hoppers_post (p : Post) : (s.post p).hoppers = s.hoppers := rfl
@[simp] theorem chans_post (p : Post) : (s.post p).chans = s.chans := rfl
@[simp] theorem power_post (p : Post) : (s.post p).power = s.power := rfl
@[simp] theorem flash_post (p : Post) : (s.post p).flash = s.flash := rfl
@[simp] theorem wear_post (p : Post) : (s.post p).wear = s.wear := rfl
@[simp] theorem tap_post (p : Post) : (s.post p).tap = s.tap := rfl
@[simp] theorem sealQ_post (p : Post) : (s.post p).sealQ = s.sealQ := rfl
@[simp] theorem picks_post (p : Post) : (s.post p).picks = s.picks := rfl

/-! setPending writes only pending. -/

@[simp] theorem dtime_setPending (q : List Instr) : (s.setPending q).dtime = s.dtime := rfl
@[simp] theorem termAt_setPending (q : List Instr) : (s.setPending q).termAt = s.termAt := rfl
@[simp] theorem regs_setPending (q : List Instr) : (s.setPending q).regs = s.regs := rfl
@[simp] theorem mem_setPending (q : List Instr) : (s.setPending q).mem = s.mem := rfl
@[simp] theorem poison_setPending (q : List Instr) : (s.setPending q).poison = s.poison := rfl
@[simp] theorem l2_setPending (q : List Instr) : (s.setPending q).l2 = s.l2 := rfl
@[simp] theorem granary_setPending (q : List Instr) : (s.setPending q).granary = s.granary := rfl
@[simp] theorem tb_setPending (q : List Instr) : (s.setPending q).tb = s.tb := rfl
@[simp] theorem avs_setPending (q : List Instr) : (s.setPending q).avs = s.avs := rfl
@[simp] theorem ports_setPending (q : List Instr) : (s.setPending q).ports = s.ports := rfl
@[simp] theorem fns_setPending (q : List Instr) : (s.setPending q).fns = s.fns := rfl
@[simp] theorem stepQ_setPending (q : List Instr) : (s.setPending q).stepQ = s.stepQ := rfl
@[simp] theorem slates_setPending (q : List Instr) : (s.setPending q).slates = s.slates := rfl
@[simp] theorem lanes_setPending (q : List Instr) : (s.setPending q).lanes = s.lanes := rfl
@[simp] theorem poolQ_setPending (q : List Instr) : (s.setPending q).poolQ = s.poolQ := rfl
@[simp] theorem supers_setPending (q : List Instr) : (s.setPending q).supers = s.supers := rfl
@[simp] theorem symSlots_setPending (q : List Instr) : (s.setPending q).symSlots = s.symSlots := rfl
@[simp] theorem asymSlots_setPending (q : List Instr) : (s.setPending q).asymSlots = s.asymSlots := rfl
@[simp] theorem dev_setPending (q : List Instr) : (s.setPending q).dev = s.dev := rfl
@[simp] theorem ownerCtr_setPending (q : List Instr) : (s.setPending q).ownerCtr = s.ownerCtr := rfl
@[simp] theorem rekeyAt_setPending (q : List Instr) : (s.setPending q).rekeyAt = s.rekeyAt := rfl
@[simp] theorem symCache_setPending (q : List Instr) : (s.setPending q).symCache = s.symCache := rfl
@[simp] theorem asymCache_setPending (q : List Instr) : (s.setPending q).asymCache = s.asymCache := rfl
@[simp] theorem cards_setPending (q : List Instr) : (s.setPending q).cards = s.cards := rfl
@[simp] theorem entropy_setPending (q : List Instr) : (s.setPending q).entropy = s.entropy := rfl
@[simp] theorem entPool_setPending (q : List Instr) : (s.setPending q).entPool = s.entPool := rfl
@[simp] theorem dramKeys_setPending (q : List Instr) : (s.setPending q).dramKeys = s.dramKeys := rfl
@[simp] theorem smills_setPending (q : List Instr) : (s.setPending q).smills = s.smills := rfl
@[simp] theorem pmills_setPending (q : List Instr) : (s.setPending q).pmills = s.pmills := rfl
@[simp] theorem millQ_setPending (q : List Instr) : (s.setPending q).millQ = s.millQ := rfl
@[simp] theorem millOwn_setPending (q : List Instr) : (s.setPending q).millOwn = s.millOwn := rfl
@[simp] theorem millLoans_setPending (q : List Instr) : (s.setPending q).millLoans = s.millLoans := rfl
@[simp] theorem millUsed_setPending (q : List Instr) : (s.setPending q).millUsed = s.millUsed := rfl
@[simp] theorem millWaited_setPending (q : List Instr) : (s.setPending q).millWaited = s.millWaited := rfl
@[simp] theorem houses_setPending (q : List Instr) : (s.setPending q).houses = s.houses := rfl
@[simp] theorem staged_setPending (q : List Instr) : (s.setPending q).staged = s.staged := rfl
@[simp] theorem ways_setPending (q : List Instr) : (s.setPending q).ways = s.ways := rfl
@[simp] theorem tillers_setPending (q : List Instr) : (s.setPending q).tillers = s.tillers := rfl
@[simp] theorem leaving_setPending (q : List Instr) : (s.setPending q).leaving = s.leaving := rfl
@[simp] theorem sharedEdges_setPending (q : List Instr) : (s.setPending q).sharedEdges = s.sharedEdges := rfl
@[simp] theorem chutes_setPending (q : List Instr) : (s.setPending q).chutes = s.chutes := rfl
@[simp] theorem hoppers_setPending (q : List Instr) : (s.setPending q).hoppers = s.hoppers := rfl
@[simp] theorem chans_setPending (q : List Instr) : (s.setPending q).chans = s.chans := rfl
@[simp] theorem power_setPending (q : List Instr) : (s.setPending q).power = s.power := rfl
@[simp] theorem flash_setPending (q : List Instr) : (s.setPending q).flash = s.flash := rfl
@[simp] theorem wear_setPending (q : List Instr) : (s.setPending q).wear = s.wear := rfl
@[simp] theorem tap_setPending (q : List Instr) : (s.setPending q).tap = s.tap := rfl
@[simp] theorem sealQ_setPending (q : List Instr) : (s.setPending q).sealQ = s.sealQ := rfl
@[simp] theorem out_setPending (q : List Instr) : (s.setPending q).out = s.out := rfl
@[simp] theorem picks_setPending (q : List Instr) : (s.setPending q).picks = s.picks := rfl

end Sys2Proof.Laws
end

