-- ==== Sys2Proof/Laws/Units.lean ====
section
/-! SUPPORT. Laws of the numbered units and of the registers: what a unit or a register reads after one
has been written. -/

namespace Sys2Proof.Laws

open Sys2Proof.Machine

variable (s : State)

@[simp] theorem slate_setSlate (i j : Nat) (v : Slate) : (s.setSlate i v).slate j = if j = i then v else s.slate j :=
  get_put _ v s.slates i j
@[simp] theorem slate_modSlate (i j : Nat) (f : Slate → Slate) : (s.modSlate i f).slate j = if j = i then f (s.slate i) else s.slate j :=
  get_put _ _ s.slates i j

@[simp] theorem fn_setFn (i j : Nat) (v : Fn) : (s.setFn i v).fn j = if j = i then v else s.fn j :=
  get_put _ v s.fns i j
@[simp] theorem fn_modFn (i j : Nat) (f : Fn → Fn) : (s.modFn i f).fn j = if j = i then f (s.fn i) else s.fn j :=
  get_put _ _ s.fns i j

@[simp] theorem port_setPort (i j : Nat) (v : Port) : (s.setPort i v).port j = if j = i then v else s.port j :=
  get_put _ v s.ports i j
@[simp] theorem port_modPort (i j : Nat) (f : Port → Port) : (s.modPort i f).port j = if j = i then f (s.port i) else s.port j :=
  get_put _ _ s.ports i j

@[simp] theorem lane_setLane (i j : Nat) (v : Lane) : (s.setLane i v).lane j = if j = i then v else s.lane j :=
  get_put _ v s.lanes i j
@[simp] theorem lane_modLane (i j : Nat) (f : Lane → Lane) : (s.modLane i f).lane j = if j = i then f (s.lane i) else s.lane j :=
  get_put _ _ s.lanes i j

@[simp] theorem house_setHouse (i j : Nat) (v : House) : (s.setHouse i v).house j = if j = i then v else s.house j :=
  get_put _ v s.houses i j
@[simp] theorem house_modHouse (i j : Nat) (f : House → House) : (s.modHouse i f).house j = if j = i then f (s.house i) else s.house j :=
  get_put _ _ s.houses i j

@[simp] theorem chute_setChute (i j : Nat) (v : Chute) : (s.setChute i v).chute j = if j = i then v else s.chute j :=
  get_put _ v s.chutes i j
@[simp] theorem chute_modChute (i j : Nat) (f : Chute → Chute) : (s.modChute i f).chute j = if j = i then f (s.chute i) else s.chute j :=
  get_put _ _ s.chutes i j

@[simp] theorem hopper_setHopper (i j : Nat) (v : Hopper) : (s.setHopper i v).hopper j = if j = i then v else s.hopper j :=
  get_put _ v s.hoppers i j
@[simp] theorem hopper_modHopper (i j : Nat) (f : Hopper → Hopper) : (s.modHopper i f).hopper j = if j = i then f (s.hopper i) else s.hopper j :=
  get_put _ _ s.hoppers i j

@[simp] theorem chan_setChan (i j : Nat) (v : Chan) : (s.setChan i v).chan j = if j = i then v else s.chan j :=
  get_put _ v s.chans i j
@[simp] theorem chan_modChan (i j : Nat) (f : Chan → Chan) : (s.modChan i f).chan j = if j = i then f (s.chan i) else s.chan j :=
  get_put _ _ s.chans i j

@[simp] theorem tiller_setTiller (i j : Nat) (v : Tiller) :
    (s.setTiller i v).tiller j = if j = i then v else s.tiller j := by
  by_cases h : j = i
  · subst h; rw [if_pos rfl]; exact (get_put _ v s.tillers j j).trans (if_pos rfl)
  · rw [if_neg h]; exact get_put_ne _ _ v s.tillers i j h
@[simp] theorem tiller_modTiller (i j : Nat) (f : Tiller → Tiller) :
    (s.modTiller i f).tiller j = if j = i then f (s.tiller i) else s.tiller j := tiller_setTiller s i j _

/-! A unit that another field's write leaves. -/

@[simp] theorem fn_setSlate_ne (i : Nat) (v : Slate) (j : Nat) : (s.setSlate i v).fn j = s.fn j := rfl
@[simp] theorem port_setSlate_ne (i : Nat) (v : Slate) (j : Nat) : (s.setSlate i v).port j = s.port j := rfl
@[simp] theorem lane_setSlate_ne (i : Nat) (v : Slate) (j : Nat) : (s.setSlate i v).lane j = s.lane j := rfl
@[simp] theorem house_setSlate_ne (i : Nat) (v : Slate) (j : Nat) : (s.setSlate i v).house j = s.house j := rfl
@[simp] theorem tiller_setSlate_ne (i : Nat) (v : Slate) (j : Nat) : (s.setSlate i v).tiller j = s.tiller j := rfl
@[simp] theorem chute_setSlate_ne (i : Nat) (v : Slate) (j : Nat) : (s.setSlate i v).chute j = s.chute j := rfl
@[simp] theorem hopper_setSlate_ne (i : Nat) (v : Slate) (j : Nat) : (s.setSlate i v).hopper j = s.hopper j := rfl
@[simp] theorem chan_setSlate_ne (i : Nat) (v : Slate) (j : Nat) : (s.setSlate i v).chan j = s.chan j := rfl
@[simp] theorem rd_setSlate_ne (i : Nat) (v : Slate) (j : Nat) : (s.setSlate i v).rd j = s.rd j := rfl
@[simp] theorem fld_setSlate_ne (i : Nat) (v : Slate) (j : Nat) (k : Fld) : (s.setSlate i v).fld j k = s.fld j k := rfl
@[simp] theorem flag_setSlate_ne (i : Nat) (v : Slate) (j : Nat) (k : Fld) : (s.setSlate i v).flag j k = s.flag j k := rfl
@[simp] theorem fn_modSlate_ne (i : Nat) (f : Slate → Slate) (j : Nat) : (s.modSlate i f).fn j = s.fn j := rfl
@[simp] theorem port_modSlate_ne (i : Nat) (f : Slate → Slate) (j : Nat) : (s.modSlate i f).port j = s.port j := rfl
@[simp] theorem lane_modSlate_ne (i : Nat) (f : Slate → Slate) (j : Nat) : (s.modSlate i f).lane j = s.lane j := rfl
@[simp] theorem house_modSlate_ne (i : Nat) (f : Slate → Slate) (j : Nat) : (s.modSlate i f).house j = s.house j := rfl
@[simp] theorem tiller_modSlate_ne (i : Nat) (f : Slate → Slate) (j : Nat) : (s.modSlate i f).tiller j = s.tiller j := rfl
@[simp] theorem chute_modSlate_ne (i : Nat) (f : Slate → Slate) (j : Nat) : (s.modSlate i f).chute j = s.chute j := rfl
@[simp] theorem hopper_modSlate_ne (i : Nat) (f : Slate → Slate) (j : Nat) : (s.modSlate i f).hopper j = s.hopper j := rfl
@[simp] theorem chan_modSlate_ne (i : Nat) (f : Slate → Slate) (j : Nat) : (s.modSlate i f).chan j = s.chan j := rfl
@[simp] theorem rd_modSlate_ne (i : Nat) (f : Slate → Slate) (j : Nat) : (s.modSlate i f).rd j = s.rd j := rfl
@[simp] theorem fld_modSlate_ne (i : Nat) (f : Slate → Slate) (j : Nat) (k : Fld) : (s.modSlate i f).fld j k = s.fld j k := rfl
@[simp] theorem flag_modSlate_ne (i : Nat) (f : Slate → Slate) (j : Nat) (k : Fld) : (s.modSlate i f).flag j k = s.flag j k := rfl
@[simp] theorem slate_setFn_ne (i : Nat) (v : Fn) (j : Nat) : (s.setFn i v).slate j = s.slate j := rfl
@[simp] theorem port_setFn_ne (i : Nat) (v : Fn) (j : Nat) : (s.setFn i v).port j = s.port j := rfl
@[simp] theorem lane_setFn_ne (i : Nat) (v : Fn) (j : Nat) : (s.setFn i v).lane j = s.lane j := rfl
@[simp] theorem house_setFn_ne (i : Nat) (v : Fn) (j : Nat) : (s.setFn i v).house j = s.house j := rfl
@[simp] theorem tiller_setFn_ne (i : Nat) (v : Fn) (j : Nat) : (s.setFn i v).tiller j = s.tiller j := rfl
@[simp] theorem chute_setFn_ne (i : Nat) (v : Fn) (j : Nat) : (s.setFn i v).chute j = s.chute j := rfl
@[simp] theorem hopper_setFn_ne (i : Nat) (v : Fn) (j : Nat) : (s.setFn i v).hopper j = s.hopper j := rfl
@[simp] theorem chan_setFn_ne (i : Nat) (v : Fn) (j : Nat) : (s.setFn i v).chan j = s.chan j := rfl
@[simp] theorem rd_setFn_ne (i : Nat) (v : Fn) (j : Nat) : (s.setFn i v).rd j = s.rd j := rfl
@[simp] theorem fld_setFn_ne (i : Nat) (v : Fn) (j : Nat) (k : Fld) : (s.setFn i v).fld j k = s.fld j k := rfl
@[simp] theorem flag_setFn_ne (i : Nat) (v : Fn) (j : Nat) (k : Fld) : (s.setFn i v).flag j k = s.flag j k := rfl
@[simp] theorem slate_modFn_ne (i : Nat) (f : Fn → Fn) (j : Nat) : (s.modFn i f).slate j = s.slate j := rfl
@[simp] theorem port_modFn_ne (i : Nat) (f : Fn → Fn) (j : Nat) : (s.modFn i f).port j = s.port j := rfl
@[simp] theorem lane_modFn_ne (i : Nat) (f : Fn → Fn) (j : Nat) : (s.modFn i f).lane j = s.lane j := rfl
@[simp] theorem house_modFn_ne (i : Nat) (f : Fn → Fn) (j : Nat) : (s.modFn i f).house j = s.house j := rfl
@[simp] theorem tiller_modFn_ne (i : Nat) (f : Fn → Fn) (j : Nat) : (s.modFn i f).tiller j = s.tiller j := rfl
@[simp] theorem chute_modFn_ne (i : Nat) (f : Fn → Fn) (j : Nat) : (s.modFn i f).chute j = s.chute j := rfl
@[simp] theorem hopper_modFn_ne (i : Nat) (f : Fn → Fn) (j : Nat) : (s.modFn i f).hopper j = s.hopper j := rfl
@[simp] theorem chan_modFn_ne (i : Nat) (f : Fn → Fn) (j : Nat) : (s.modFn i f).chan j = s.chan j := rfl
@[simp] theorem rd_modFn_ne (i : Nat) (f : Fn → Fn) (j : Nat) : (s.modFn i f).rd j = s.rd j := rfl
@[simp] theorem fld_modFn_ne (i : Nat) (f : Fn → Fn) (j : Nat) (k : Fld) : (s.modFn i f).fld j k = s.fld j k := rfl
@[simp] theorem flag_modFn_ne (i : Nat) (f : Fn → Fn) (j : Nat) (k : Fld) : (s.modFn i f).flag j k = s.flag j k := rfl
@[simp] theorem slate_modPort_ne (i : Nat) (f : Port → Port) (j : Nat) : (s.modPort i f).slate j = s.slate j := rfl
@[simp] theorem fn_modPort_ne (i : Nat) (f : Port → Port) (j : Nat) : (s.modPort i f).fn j = s.fn j := rfl
@[simp] theorem lane_modPort_ne (i : Nat) (f : Port → Port) (j : Nat) : (s.modPort i f).lane j = s.lane j := rfl
@[simp] theorem house_modPort_ne (i : Nat) (f : Port → Port) (j : Nat) : (s.modPort i f).house j = s.house j := rfl
@[simp] theorem tiller_modPort_ne (i : Nat) (f : Port → Port) (j : Nat) : (s.modPort i f).tiller j = s.tiller j := rfl
@[simp] theorem chute_modPort_ne (i : Nat) (f : Port → Port) (j : Nat) : (s.modPort i f).chute j = s.chute j := rfl
@[simp] theorem hopper_modPort_ne (i : Nat) (f : Port → Port) (j : Nat) : (s.modPort i f).hopper j = s.hopper j := rfl
@[simp] theorem chan_modPort_ne (i : Nat) (f : Port → Port) (j : Nat) : (s.modPort i f).chan j = s.chan j := rfl
@[simp] theorem rd_modPort_ne (i : Nat) (f : Port → Port) (j : Nat) : (s.modPort i f).rd j = s.rd j := rfl
@[simp] theorem fld_modPort_ne (i : Nat) (f : Port → Port) (j : Nat) (k : Fld) : (s.modPort i f).fld j k = s.fld j k := rfl
@[simp] theorem flag_modPort_ne (i : Nat) (f : Port → Port) (j : Nat) (k : Fld) : (s.modPort i f).flag j k = s.flag j k := rfl
@[simp] theorem slate_modLane_ne (i : Nat) (f : Lane → Lane) (j : Nat) : (s.modLane i f).slate j = s.slate j := rfl
@[simp] theorem fn_modLane_ne (i : Nat) (f : Lane → Lane) (j : Nat) : (s.modLane i f).fn j = s.fn j := rfl
@[simp] theorem port_modLane_ne (i : Nat) (f : Lane → Lane) (j : Nat) : (s.modLane i f).port j = s.port j := rfl
@[simp] theorem house_modLane_ne (i : Nat) (f : Lane → Lane) (j : Nat) : (s.modLane i f).house j = s.house j := rfl
@[simp] theorem tiller_modLane_ne (i : Nat) (f : Lane → Lane) (j : Nat) : (s.modLane i f).tiller j = s.tiller j := rfl
@[simp] theorem chute_modLane_ne (i : Nat) (f : Lane → Lane) (j : Nat) : (s.modLane i f).chute j = s.chute j := rfl
@[simp] theorem hopper_modLane_ne (i : Nat) (f : Lane → Lane) (j : Nat) : (s.modLane i f).hopper j = s.hopper j := rfl
@[simp] theorem chan_modLane_ne (i : Nat) (f : Lane → Lane) (j : Nat) : (s.modLane i f).chan j = s.chan j := rfl
@[simp] theorem rd_modLane_ne (i : Nat) (f : Lane → Lane) (j : Nat) : (s.modLane i f).rd j = s.rd j := rfl
@[simp] theorem fld_modLane_ne (i : Nat) (f : Lane → Lane) (j : Nat) (k : Fld) : (s.modLane i f).fld j k = s.fld j k := rfl
@[simp] theorem flag_modLane_ne (i : Nat) (f : Lane → Lane) (j : Nat) (k : Fld) : (s.modLane i f).flag j k = s.flag j k := rfl
@[simp] theorem slate_modHouse_ne (i : Nat) (f : House → House) (j : Nat) : (s.modHouse i f).slate j = s.slate j := rfl
@[simp] theorem fn_modHouse_ne (i : Nat) (f : House → House) (j : Nat) : (s.modHouse i f).fn j = s.fn j := rfl
@[simp] theorem port_modHouse_ne (i : Nat) (f : House → House) (j : Nat) : (s.modHouse i f).port j = s.port j := rfl
@[simp] theorem lane_modHouse_ne (i : Nat) (f : House → House) (j : Nat) : (s.modHouse i f).lane j = s.lane j := rfl
@[simp] theorem tiller_modHouse_ne (i : Nat) (f : House → House) (j : Nat) : (s.modHouse i f).tiller j = s.tiller j := rfl
@[simp] theorem chute_modHouse_ne (i : Nat) (f : House → House) (j : Nat) : (s.modHouse i f).chute j = s.chute j := rfl
@[simp] theorem hopper_modHouse_ne (i : Nat) (f : House → House) (j : Nat) : (s.modHouse i f).hopper j = s.hopper j := rfl
@[simp] theorem chan_modHouse_ne (i : Nat) (f : House → House) (j : Nat) : (s.modHouse i f).chan j = s.chan j := rfl
@[simp] theorem rd_modHouse_ne (i : Nat) (f : House → House) (j : Nat) : (s.modHouse i f).rd j = s.rd j := rfl
@[simp] theorem fld_modHouse_ne (i : Nat) (f : House → House) (j : Nat) (k : Fld) : (s.modHouse i f).fld j k = s.fld j k := rfl
@[simp] theorem flag_modHouse_ne (i : Nat) (f : House → House) (j : Nat) (k : Fld) : (s.modHouse i f).flag j k = s.flag j k := rfl
@[simp] theorem slate_modJ_ne (i : Nat) (f : Journal → Journal) (j : Nat) : (s.modJ i f).slate j = s.slate j := rfl
@[simp] theorem fn_modJ_ne (i : Nat) (f : Journal → Journal) (j : Nat) : (s.modJ i f).fn j = s.fn j := rfl
@[simp] theorem port_modJ_ne (i : Nat) (f : Journal → Journal) (j : Nat) : (s.modJ i f).port j = s.port j := rfl
@[simp] theorem lane_modJ_ne (i : Nat) (f : Journal → Journal) (j : Nat) : (s.modJ i f).lane j = s.lane j := rfl
@[simp] theorem tiller_modJ_ne (i : Nat) (f : Journal → Journal) (j : Nat) : (s.modJ i f).tiller j = s.tiller j := rfl
@[simp] theorem chute_modJ_ne (i : Nat) (f : Journal → Journal) (j : Nat) : (s.modJ i f).chute j = s.chute j := rfl
@[simp] theorem hopper_modJ_ne (i : Nat) (f : Journal → Journal) (j : Nat) : (s.modJ i f).hopper j = s.hopper j := rfl
@[simp] theorem chan_modJ_ne (i : Nat) (f : Journal → Journal) (j : Nat) : (s.modJ i f).chan j = s.chan j := rfl
@[simp] theorem rd_modJ_ne (i : Nat) (f : Journal → Journal) (j : Nat) : (s.modJ i f).rd j = s.rd j := rfl
@[simp] theorem fld_modJ_ne (i : Nat) (f : Journal → Journal) (j : Nat) (k : Fld) : (s.modJ i f).fld j k = s.fld j k := rfl
@[simp] theorem flag_modJ_ne (i : Nat) (f : Journal → Journal) (j : Nat) (k : Fld) : (s.modJ i f).flag j k = s.flag j k := rfl
@[simp] theorem slate_setTiller_ne (i : Nat) (v : Tiller) (j : Nat) : (s.setTiller i v).slate j = s.slate j := rfl
@[simp] theorem fn_setTiller_ne (i : Nat) (v : Tiller) (j : Nat) : (s.setTiller i v).fn j = s.fn j := rfl
@[simp] theorem port_setTiller_ne (i : Nat) (v : Tiller) (j : Nat) : (s.setTiller i v).port j = s.port j := rfl
@[simp] theorem lane_setTiller_ne (i : Nat) (v : Tiller) (j : Nat) : (s.setTiller i v).lane j = s.lane j := rfl
@[simp] theorem house_setTiller_ne (i : Nat) (v : Tiller) (j : Nat) : (s.setTiller i v).house j = s.house j := rfl
@[simp] theorem chute_setTiller_ne (i : Nat) (v : Tiller) (j : Nat) : (s.setTiller i v).chute j = s.chute j := rfl
@[simp] theorem hopper_setTiller_ne (i : Nat) (v : Tiller) (j : Nat) : (s.setTiller i v).hopper j = s.hopper j := rfl
@[simp] theorem chan_setTiller_ne (i : Nat) (v : Tiller) (j : Nat) : (s.setTiller i v).chan j = s.chan j := rfl
@[simp] theorem rd_setTiller_ne (i : Nat) (v : Tiller) (j : Nat) : (s.setTiller i v).rd j = s.rd j := rfl
@[simp] theorem fld_setTiller_ne (i : Nat) (v : Tiller) (j : Nat) (k : Fld) : (s.setTiller i v).fld j k = s.fld j k := rfl
@[simp] theorem flag_setTiller_ne (i : Nat) (v : Tiller) (j : Nat) (k : Fld) : (s.setTiller i v).flag j k = s.flag j k := rfl
@[simp] theorem slate_modTiller_ne (i : Nat) (f : Tiller → Tiller) (j : Nat) : (s.modTiller i f).slate j = s.slate j := rfl
@[simp] theorem fn_modTiller_ne (i : Nat) (f : Tiller → Tiller) (j : Nat) : (s.modTiller i f).fn j = s.fn j := rfl
@[simp] theorem port_modTiller_ne (i : Nat) (f : Tiller → Tiller) (j : Nat) : (s.modTiller i f).port j = s.port j := rfl
@[simp] theorem lane_modTiller_ne (i : Nat) (f : Tiller → Tiller) (j : Nat) : (s.modTiller i f).lane j = s.lane j := rfl
@[simp] theorem house_modTiller_ne (i : Nat) (f : Tiller → Tiller) (j : Nat) : (s.modTiller i f).house j = s.house j := rfl
@[simp] theorem chute_modTiller_ne (i : Nat) (f : Tiller → Tiller) (j : Nat) : (s.modTiller i f).chute j = s.chute j := rfl
@[simp] theorem hopper_modTiller_ne (i : Nat) (f : Tiller → Tiller) (j : Nat) : (s.modTiller i f).hopper j = s.hopper j := rfl
@[simp] theorem chan_modTiller_ne (i : Nat) (f : Tiller → Tiller) (j : Nat) : (s.modTiller i f).chan j = s.chan j := rfl
@[simp] theorem rd_modTiller_ne (i : Nat) (f : Tiller → Tiller) (j : Nat) : (s.modTiller i f).rd j = s.rd j := rfl
@[simp] theorem fld_modTiller_ne (i : Nat) (f : Tiller → Tiller) (j : Nat) (k : Fld) : (s.modTiller i f).fld j k = s.fld j k := rfl
@[simp] theorem flag_modTiller_ne (i : Nat) (f : Tiller → Tiller) (j : Nat) (k : Fld) : (s.modTiller i f).flag j k = s.flag j k := rfl
@[simp] theorem slate_modChute_ne (i : Nat) (f : Chute → Chute) (j : Nat) : (s.modChute i f).slate j = s.slate j := rfl
@[simp] theorem fn_modChute_ne (i : Nat) (f : Chute → Chute) (j : Nat) : (s.modChute i f).fn j = s.fn j := rfl
@[simp] theorem port_modChute_ne (i : Nat) (f : Chute → Chute) (j : Nat) : (s.modChute i f).port j = s.port j := rfl
@[simp] theorem lane_modChute_ne (i : Nat) (f : Chute → Chute) (j : Nat) : (s.modChute i f).lane j = s.lane j := rfl
@[simp] theorem house_modChute_ne (i : Nat) (f : Chute → Chute) (j : Nat) : (s.modChute i f).house j = s.house j := rfl
@[simp] theorem tiller_modChute_ne (i : Nat) (f : Chute → Chute) (j : Nat) : (s.modChute i f).tiller j = s.tiller j := rfl
@[simp] theorem hopper_modChute_ne (i : Nat) (f : Chute → Chute) (j : Nat) : (s.modChute i f).hopper j = s.hopper j := rfl
@[simp] theorem chan_modChute_ne (i : Nat) (f : Chute → Chute) (j : Nat) : (s.modChute i f).chan j = s.chan j := rfl
@[simp] theorem rd_modChute_ne (i : Nat) (f : Chute → Chute) (j : Nat) : (s.modChute i f).rd j = s.rd j := rfl
@[simp] theorem fld_modChute_ne (i : Nat) (f : Chute → Chute) (j : Nat) (k : Fld) : (s.modChute i f).fld j k = s.fld j k := rfl
@[simp] theorem flag_modChute_ne (i : Nat) (f : Chute → Chute) (j : Nat) (k : Fld) : (s.modChute i f).flag j k = s.flag j k := rfl
@[simp] theorem slate_modHopper_ne (i : Nat) (f : Hopper → Hopper) (j : Nat) : (s.modHopper i f).slate j = s.slate j := rfl
@[simp] theorem fn_modHopper_ne (i : Nat) (f : Hopper → Hopper) (j : Nat) : (s.modHopper i f).fn j = s.fn j := rfl
@[simp] theorem port_modHopper_ne (i : Nat) (f : Hopper → Hopper) (j : Nat) : (s.modHopper i f).port j = s.port j := rfl
@[simp] theorem lane_modHopper_ne (i : Nat) (f : Hopper → Hopper) (j : Nat) : (s.modHopper i f).lane j = s.lane j := rfl
@[simp] theorem house_modHopper_ne (i : Nat) (f : Hopper → Hopper) (j : Nat) : (s.modHopper i f).house j = s.house j := rfl
@[simp] theorem tiller_modHopper_ne (i : Nat) (f : Hopper → Hopper) (j : Nat) : (s.modHopper i f).tiller j = s.tiller j := rfl
@[simp] theorem chute_modHopper_ne (i : Nat) (f : Hopper → Hopper) (j : Nat) : (s.modHopper i f).chute j = s.chute j := rfl
@[simp] theorem chan_modHopper_ne (i : Nat) (f : Hopper → Hopper) (j : Nat) : (s.modHopper i f).chan j = s.chan j := rfl
@[simp] theorem rd_modHopper_ne (i : Nat) (f : Hopper → Hopper) (j : Nat) : (s.modHopper i f).rd j = s.rd j := rfl
@[simp] theorem fld_modHopper_ne (i : Nat) (f : Hopper → Hopper) (j : Nat) (k : Fld) : (s.modHopper i f).fld j k = s.fld j k := rfl
@[simp] theorem flag_modHopper_ne (i : Nat) (f : Hopper → Hopper) (j : Nat) (k : Fld) : (s.modHopper i f).flag j k = s.flag j k := rfl
@[simp] theorem slate_modChan_ne (i : Nat) (f : Chan → Chan) (j : Nat) : (s.modChan i f).slate j = s.slate j := rfl
@[simp] theorem fn_modChan_ne (i : Nat) (f : Chan → Chan) (j : Nat) : (s.modChan i f).fn j = s.fn j := rfl
@[simp] theorem port_modChan_ne (i : Nat) (f : Chan → Chan) (j : Nat) : (s.modChan i f).port j = s.port j := rfl
@[simp] theorem lane_modChan_ne (i : Nat) (f : Chan → Chan) (j : Nat) : (s.modChan i f).lane j = s.lane j := rfl
@[simp] theorem house_modChan_ne (i : Nat) (f : Chan → Chan) (j : Nat) : (s.modChan i f).house j = s.house j := rfl
@[simp] theorem tiller_modChan_ne (i : Nat) (f : Chan → Chan) (j : Nat) : (s.modChan i f).tiller j = s.tiller j := rfl
@[simp] theorem chute_modChan_ne (i : Nat) (f : Chan → Chan) (j : Nat) : (s.modChan i f).chute j = s.chute j := rfl
@[simp] theorem hopper_modChan_ne (i : Nat) (f : Chan → Chan) (j : Nat) : (s.modChan i f).hopper j = s.hopper j := rfl
@[simp] theorem rd_modChan_ne (i : Nat) (f : Chan → Chan) (j : Nat) : (s.modChan i f).rd j = s.rd j := rfl
@[simp] theorem fld_modChan_ne (i : Nat) (f : Chan → Chan) (j : Nat) (k : Fld) : (s.modChan i f).fld j k = s.fld j k := rfl
@[simp] theorem flag_modChan_ne (i : Nat) (f : Chan → Chan) (j : Nat) (k : Fld) : (s.modChan i f).flag j k = s.flag j k := rfl
@[simp] theorem slate_wr_ne (a : Nat) (v : Word) (j : Nat) : (s.wr a v).slate j = s.slate j := rfl
@[simp] theorem fn_wr_ne (a : Nat) (v : Word) (j : Nat) : (s.wr a v).fn j = s.fn j := rfl
@[simp] theorem port_wr_ne (a : Nat) (v : Word) (j : Nat) : (s.wr a v).port j = s.port j := rfl
@[simp] theorem lane_wr_ne (a : Nat) (v : Word) (j : Nat) : (s.wr a v).lane j = s.lane j := rfl
@[simp] theorem house_wr_ne (a : Nat) (v : Word) (j : Nat) : (s.wr a v).house j = s.house j := rfl
@[simp] theorem tiller_wr_ne (a : Nat) (v : Word) (j : Nat) : (s.wr a v).tiller j = s.tiller j := rfl
@[simp] theorem chute_wr_ne (a : Nat) (v : Word) (j : Nat) : (s.wr a v).chute j = s.chute j := rfl
@[simp] theorem hopper_wr_ne (a : Nat) (v : Word) (j : Nat) : (s.wr a v).hopper j = s.hopper j := rfl
@[simp] theorem chan_wr_ne (a : Nat) (v : Word) (j : Nat) : (s.wr a v).chan j = s.chan j := rfl
@[simp] theorem slate_setFld_ne (a : Nat) (f : Fld) (n : Nat) (j : Nat) : (s.setFld a f n).slate j = s.slate j := rfl
@[simp] theorem fn_setFld_ne (a : Nat) (f : Fld) (n : Nat) (j : Nat) : (s.setFld a f n).fn j = s.fn j := rfl
@[simp] theorem port_setFld_ne (a : Nat) (f : Fld) (n : Nat) (j : Nat) : (s.setFld a f n).port j = s.port j := rfl
@[simp] theorem lane_setFld_ne (a : Nat) (f : Fld) (n : Nat) (j : Nat) : (s.setFld a f n).lane j = s.lane j := rfl
@[simp] theorem house_setFld_ne (a : Nat) (f : Fld) (n : Nat) (j : Nat) : (s.setFld a f n).house j = s.house j := rfl
@[simp] theorem tiller_setFld_ne (a : Nat) (f : Fld) (n : Nat) (j : Nat) : (s.setFld a f n).tiller j = s.tiller j := rfl
@[simp] theorem chute_setFld_ne (a : Nat) (f : Fld) (n : Nat) (j : Nat) : (s.setFld a f n).chute j = s.chute j := rfl
@[simp] theorem hopper_setFld_ne (a : Nat) (f : Fld) (n : Nat) (j : Nat) : (s.setFld a f n).hopper j = s.hopper j := rfl
@[simp] theorem chan_setFld_ne (a : Nat) (f : Fld) (n : Nat) (j : Nat) : (s.setFld a f n).chan j = s.chan j := rfl
@[simp] theorem slate_setFlag_ne (a : Nat) (f : Fld) (b : Bool) (j : Nat) : (s.setFlag a f b).slate j = s.slate j := rfl
@[simp] theorem fn_setFlag_ne (a : Nat) (f : Fld) (b : Bool) (j : Nat) : (s.setFlag a f b).fn j = s.fn j := rfl
@[simp] theorem port_setFlag_ne (a : Nat) (f : Fld) (b : Bool) (j : Nat) : (s.setFlag a f b).port j = s.port j := rfl
@[simp] theorem lane_setFlag_ne (a : Nat) (f : Fld) (b : Bool) (j : Nat) : (s.setFlag a f b).lane j = s.lane j := rfl
@[simp] theorem house_setFlag_ne (a : Nat) (f : Fld) (b : Bool) (j : Nat) : (s.setFlag a f b).house j = s.house j := rfl
@[simp] theorem tiller_setFlag_ne (a : Nat) (f : Fld) (b : Bool) (j : Nat) : (s.setFlag a f b).tiller j = s.tiller j := rfl
@[simp] theorem chute_setFlag_ne (a : Nat) (f : Fld) (b : Bool) (j : Nat) : (s.setFlag a f b).chute j = s.chute j := rfl
@[simp] theorem hopper_setFlag_ne (a : Nat) (f : Fld) (b : Bool) (j : Nat) : (s.setFlag a f b).hopper j = s.hopper j := rfl
@[simp] theorem chan_setFlag_ne (a : Nat) (f : Fld) (b : Bool) (j : Nat) : (s.setFlag a f b).chan j = s.chan j := rfl
@[simp] theorem slate_countFld_ne (a : Nat) (f : Fld) (n : Nat) (j : Nat) : (s.countFld a f n).slate j = s.slate j := rfl
@[simp] theorem fn_countFld_ne (a : Nat) (f : Fld) (n : Nat) (j : Nat) : (s.countFld a f n).fn j = s.fn j := rfl
@[simp] theorem port_countFld_ne (a : Nat) (f : Fld) (n : Nat) (j : Nat) : (s.countFld a f n).port j = s.port j := rfl
@[simp] theorem lane_countFld_ne (a : Nat) (f : Fld) (n : Nat) (j : Nat) : (s.countFld a f n).lane j = s.lane j := rfl
@[simp] theorem house_countFld_ne (a : Nat) (f : Fld) (n : Nat) (j : Nat) : (s.countFld a f n).house j = s.house j := rfl
@[simp] theorem tiller_countFld_ne (a : Nat) (f : Fld) (n : Nat) (j : Nat) : (s.countFld a f n).tiller j = s.tiller j := rfl
@[simp] theorem chute_countFld_ne (a : Nat) (f : Fld) (n : Nat) (j : Nat) : (s.countFld a f n).chute j = s.chute j := rfl
@[simp] theorem hopper_countFld_ne (a : Nat) (f : Fld) (n : Nat) (j : Nat) : (s.countFld a f n).hopper j = s.hopper j := rfl
@[simp] theorem chan_countFld_ne (a : Nat) (f : Fld) (n : Nat) (j : Nat) : (s.countFld a f n).chan j = s.chan j := rfl
@[simp] theorem slate_satFld_ne (a : Nat) (f : Fld) (n : Nat) (j : Nat) : (s.satFld a f n).slate j = s.slate j := rfl
@[simp] theorem fn_satFld_ne (a : Nat) (f : Fld) (n : Nat) (j : Nat) : (s.satFld a f n).fn j = s.fn j := rfl
@[simp] theorem port_satFld_ne (a : Nat) (f : Fld) (n : Nat) (j : Nat) : (s.satFld a f n).port j = s.port j := rfl
@[simp] theorem lane_satFld_ne (a : Nat) (f : Fld) (n : Nat) (j : Nat) : (s.satFld a f n).lane j = s.lane j := rfl
@[simp] theorem house_satFld_ne (a : Nat) (f : Fld) (n : Nat) (j : Nat) : (s.satFld a f n).house j = s.house j := rfl
@[simp] theorem tiller_satFld_ne (a : Nat) (f : Fld) (n : Nat) (j : Nat) : (s.satFld a f n).tiller j = s.tiller j := rfl
@[simp] theorem chute_satFld_ne (a : Nat) (f : Fld) (n : Nat) (j : Nat) : (s.satFld a f n).chute j = s.chute j := rfl
@[simp] theorem hopper_satFld_ne (a : Nat) (f : Fld) (n : Nat) (j : Nat) : (s.satFld a f n).hopper j = s.hopper j := rfl
@[simp] theorem chan_satFld_ne (a : Nat) (f : Fld) (n : Nat) (j : Nat) : (s.satFld a f n).chan j = s.chan j := rfl
@[simp] theorem slate_post_ne (p : Post) (j : Nat) : (s.post p).slate j = s.slate j := rfl
@[simp] theorem fn_post_ne (p : Post) (j : Nat) : (s.post p).fn j = s.fn j := rfl
@[simp] theorem port_post_ne (p : Post) (j : Nat) : (s.post p).port j = s.port j := rfl
@[simp] theorem lane_post_ne (p : Post) (j : Nat) : (s.post p).lane j = s.lane j := rfl
@[simp] theorem house_post_ne (p : Post) (j : Nat) : (s.post p).house j = s.house j := rfl
@[simp] theorem tiller_post_ne (p : Post) (j : Nat) : (s.post p).tiller j = s.tiller j := rfl
@[simp] theorem chute_post_ne (p : Post) (j : Nat) : (s.post p).chute j = s.chute j := rfl
@[simp] theorem hopper_post_ne (p : Post) (j : Nat) : (s.post p).hopper j = s.hopper j := rfl
@[simp] theorem chan_post_ne (p : Post) (j : Nat) : (s.post p).chan j = s.chan j := rfl
@[simp] theorem rd_post_ne (p : Post) (j : Nat) : (s.post p).rd j = s.rd j := rfl
@[simp] theorem fld_post_ne (p : Post) (j : Nat) (k : Fld) : (s.post p).fld j k = s.fld j k := rfl
@[simp] theorem flag_post_ne (p : Post) (j : Nat) (k : Fld) : (s.post p).flag j k = s.flag j k := rfl

/-! ### Registers -/

@[simp] theorem rd_wr (a b : Nat) (v : Word) : (s.wr a v).rd b = if b = a then v else s.rd b := by
  by_cases h : b = a
  · subst h; rw [if_pos rfl]; exact (get_put _ v s.regs b b).trans (if_pos rfl)
  · rw [if_neg h]; exact get_put_ne _ _ v s.regs a b h

@[simp] theorem rd_setFld (a b : Nat) (f : Fld) (n : Nat) :
    (s.setFld a f n).rd b = if b = a then f.set (s.rd a) n else s.rd b := rd_wr s a b _

@[simp] theorem rd_setFlag (a b : Nat) (f : Fld) (v : Bool) :
    (s.setFlag a f v).rd b = if b = a then f.set (s.rd a) (if v then 1 else 0) else s.rd b := rd_wr s a b _

/-- One bit of a register after a field's write. -/
theorem testBit_set (f : Fld) (v : Word) (n i : Nat) (hi : i < 64) :
    (f.set v n).toNat.testBit i =
      if f.lo ≤ i ∧ i < f.lo + f.w then n.testBit (i - f.lo) else v.toNat.testBit i := by
  obtain ⟨lo, w⟩ := f
  simp only [Fld.set, Fld.mask, BitVec.testBit_toNat, BitVec.getLsbD_or, BitVec.getLsbD_and, BitVec.getLsbD_not,
    BitVec.getLsbD_ofNat, hi, decide_true, Bool.true_and, Nat.testBit_mul_two_pow, Nat.testBit_two_pow_sub_one,
    Nat.testBit_mod_two_pow]
  by_cases h1 : lo ≤ i
  · by_cases h2 : i < lo + w
    · have h3 : i - lo < w := by omega
      simp [h1, h2, h3]
    · have h3 : ¬ i - lo < w := by omega
      simp [h1, h2, h3]
  · simp [h1]

/-- A field that has been written reads the low bits of the value. -/
theorem get_set (f : Fld) (h : f.lo + f.w ≤ 64) (v : Word) (n : Nat) : f.get (f.set v n) = n % 2 ^ f.w := by
  apply Nat.eq_of_testBit_eq
  intro i
  rw [Fld.get, Nat.testBit_mod_two_pow, Nat.testBit_div_two_pow, Nat.testBit_mod_two_pow]
  by_cases hi : i < f.w
  · rw [testBit_set f v n _ (by omega), if_pos (by omega), Nat.add_sub_cancel]
  · simp [hi]

/-- A field that another field's write leaves. -/
theorem get_set_disjoint (f g : Fld) (h : f.lo + f.w ≤ g.lo ∨ g.lo + g.w ≤ f.lo) (v : Word) (n : Nat)
    (hf : f.lo + f.w ≤ 64) : f.get (g.set v n) = f.get v := by
  apply Nat.eq_of_testBit_eq
  intro i
  rw [Fld.get, Fld.get, Nat.testBit_mod_two_pow, Nat.testBit_div_two_pow, Nat.testBit_mod_two_pow,
    Nat.testBit_div_two_pow]
  by_cases hi : i < f.w
  · rw [testBit_set g v n _ (by omega), if_neg (by omega)]
  · simp [hi]

/-- Reading back a field that has been written. -/
theorem fld_setFld_same (a : Nat) (f : Fld) (h : f.lo + f.w ≤ 64) (n : Nat) :
    (s.setFld a f n).fld a f = n % 2 ^ f.w := by
  simp [State.fld, get_set f h]

/-- A field of another register. -/
theorem fld_setFld_ne (a b : Nat) (f g : Fld) (n : Nat) (h : b ≠ a) : (s.setFld a f n).fld b g = s.fld b g := by
  simp [State.fld, h]

end Sys2Proof.Laws
end

