-- ==== Sys2Proof/Laws/Tillers.lean ====
section
/-! SUPPORT. Laws of a Tiller's boundary: what the Marks counters, retirement and the frame of an instruction
change, and that an instruction which is ready runs its own effect. -/

namespace Sys2Proof.Laws

open Sys2Proof.Machine

/-- A property that every step of a fold keeps. -/
theorem foldl_keeps {β : Type} (P : State → Prop) (f : State → β → State)
    (h : ∀ s b, P s → P (f s b)) (l : List β) (s : State) (hs : P s) : P (l.foldl f s) := by
  induction l generalizing s with
  | nil => exact hs
  | cons b l ih => exact ih _ (h s b hs)

/-- Only memory-mapped registers differ. -/
def RegsOnly (s s' : State) : Prop := s' = { s with regs := s'.regs }

theorem RegsOnly.refl (s : State) : RegsOnly s s := rfl

theorem RegsOnly.trans {s1 s2 s3 : State} (h : RegsOnly s1 s2) (k : RegsOnly s2 s3) : RegsOnly s1 s3 := by
  unfold RegsOnly at *
  rw [k, h]

theorem RegsOnly.eq {s s' : State} (h : RegsOnly s s') : s' = { s with regs := s'.regs } := h

theorem setFld_regsOnly (s : State) (a : Nat) (f : Fld) (n : Nat) : RegsOnly s (s.setFld a f n) := rfl

theorem countMark_regsOnly (s : State) (a n : Nat) : RegsOnly s (s.countMark a n) := by
  unfold State.countMark
  dsimp only
  split
  · exact (setFld_regsOnly s _ _ _).trans (setFld_regsOnly _ _ _ _)
  · exact setFld_regsOnly s _ _ _

theorem mark_regsOnly (s : State) (t r ev n : Nat) : RegsOnly s (s.mark t r ev n) := by
  unfold State.mark
  refine foldl_keeps (RegsOnly s) _ ?_ _ _ (RegsOnly.refl s)
  intro s' i h
  dsimp only
  split <;> split
  · exact (h.trans (countMark_regsOnly _ _ _)).trans (countMark_regsOnly _ _ _)
  · exact h.trans (countMark_regsOnly _ _ _)
  · exact h.trans (countMark_regsOnly _ _ _)
  · exact h

theorem topDown_regsOnly (s : State) (t r k n : Nat) : RegsOnly s (s.topDown t r k n) :=
  (countMark_regsOnly s _ n).trans (mark_regsOnly _ t r evRun n)

theorem markUnit_regsOnly (s : State) (u ev n : Nat) : RegsOnly s (s.markUnit u ev n) := by
  unfold State.markUnit
  refine foldl_keeps (RegsOnly s) _ ?_ _ _ (RegsOnly.refl s)
  intro s' i h
  dsimp only
  split
  · exact h.trans (countMark_regsOnly _ _ _)
  · exact h

theorem RegsOnly.pending {s s' : State} (h : RegsOnly s s') : s'.pending = s.pending := by
  have k := congrArg State.pending h.eq
  exact k
theorem RegsOnly.dtime {s s' : State} (h : RegsOnly s s') : s'.dtime = s.dtime := by
  have k := congrArg State.dtime h.eq
  exact k
theorem RegsOnly.termAt {s s' : State} (h : RegsOnly s s') : s'.termAt = s.termAt := by
  have k := congrArg State.termAt h.eq
  exact k
theorem RegsOnly.mem {s s' : State} (h : RegsOnly s s') : s'.mem = s.mem := by
  have k := congrArg State.mem h.eq
  exact k
theorem RegsOnly.poison {s s' : State} (h : RegsOnly s s') : s'.poison = s.poison := by
  have k := congrArg State.poison h.eq
  exact k
theorem RegsOnly.l2 {s s' : State} (h : RegsOnly s s') : s'.l2 = s.l2 := by
  have k := congrArg State.l2 h.eq
  exact k
theorem RegsOnly.granary {s s' : State} (h : RegsOnly s s') : s'.granary = s.granary := by
  have k := congrArg State.granary h.eq
  exact k
theorem RegsOnly.tb {s s' : State} (h : RegsOnly s s') : s'.tb = s.tb := by
  have k := congrArg State.tb h.eq
  exact k
theorem RegsOnly.avs {s s' : State} (h : RegsOnly s s') : s'.avs = s.avs := by
  have k := congrArg State.avs h.eq
  exact k
theorem RegsOnly.ports {s s' : State} (h : RegsOnly s s') : s'.ports = s.ports := by
  have k := congrArg State.ports h.eq
  exact k
theorem RegsOnly.fns {s s' : State} (h : RegsOnly s s') : s'.fns = s.fns := by
  have k := congrArg State.fns h.eq
  exact k
theorem RegsOnly.stepQ {s s' : State} (h : RegsOnly s s') : s'.stepQ = s.stepQ := by
  have k := congrArg State.stepQ h.eq
  exact k
theorem RegsOnly.slates {s s' : State} (h : RegsOnly s s') : s'.slates = s.slates := by
  have k := congrArg State.slates h.eq
  exact k
theorem RegsOnly.lanes {s s' : State} (h : RegsOnly s s') : s'.lanes = s.lanes := by
  have k := congrArg State.lanes h.eq
  exact k
theorem RegsOnly.poolQ {s s' : State} (h : RegsOnly s s') : s'.poolQ = s.poolQ := by
  have k := congrArg State.poolQ h.eq
  exact k
theorem RegsOnly.supers {s s' : State} (h : RegsOnly s s') : s'.supers = s.supers := by
  have k := congrArg State.supers h.eq
  exact k
theorem RegsOnly.symSlots {s s' : State} (h : RegsOnly s s') : s'.symSlots = s.symSlots := by
  have k := congrArg State.symSlots h.eq
  exact k
theorem RegsOnly.asymSlots {s s' : State} (h : RegsOnly s s') : s'.asymSlots = s.asymSlots := by
  have k := congrArg State.asymSlots h.eq
  exact k
theorem RegsOnly.dev {s s' : State} (h : RegsOnly s s') : s'.dev = s.dev := by
  have k := congrArg State.dev h.eq
  exact k
theorem RegsOnly.ownerCtr {s s' : State} (h : RegsOnly s s') : s'.ownerCtr = s.ownerCtr := by
  have k := congrArg State.ownerCtr h.eq
  exact k
theorem RegsOnly.rekeyAt {s s' : State} (h : RegsOnly s s') : s'.rekeyAt = s.rekeyAt := by
  have k := congrArg State.rekeyAt h.eq
  exact k
theorem RegsOnly.symCache {s s' : State} (h : RegsOnly s s') : s'.symCache = s.symCache := by
  have k := congrArg State.symCache h.eq
  exact k
theorem RegsOnly.asymCache {s s' : State} (h : RegsOnly s s') : s'.asymCache = s.asymCache := by
  have k := congrArg State.asymCache h.eq
  exact k
theorem RegsOnly.cards {s s' : State} (h : RegsOnly s s') : s'.cards = s.cards := by
  have k := congrArg State.cards h.eq
  exact k
theorem RegsOnly.entropy {s s' : State} (h : RegsOnly s s') : s'.entropy = s.entropy := by
  have k := congrArg State.entropy h.eq
  exact k
theorem RegsOnly.entPool {s s' : State} (h : RegsOnly s s') : s'.entPool = s.entPool := by
  have k := congrArg State.entPool h.eq
  exact k
theorem RegsOnly.dramKeys {s s' : State} (h : RegsOnly s s') : s'.dramKeys = s.dramKeys := by
  have k := congrArg State.dramKeys h.eq
  exact k
theorem RegsOnly.smills {s s' : State} (h : RegsOnly s s') : s'.smills = s.smills := by
  have k := congrArg State.smills h.eq
  exact k
theorem RegsOnly.pmills {s s' : State} (h : RegsOnly s s') : s'.pmills = s.pmills := by
  have k := congrArg State.pmills h.eq
  exact k
theorem RegsOnly.millQ {s s' : State} (h : RegsOnly s s') : s'.millQ = s.millQ := by
  have k := congrArg State.millQ h.eq
  exact k
theorem RegsOnly.millOwn {s s' : State} (h : RegsOnly s s') : s'.millOwn = s.millOwn := by
  have k := congrArg State.millOwn h.eq
  exact k
theorem RegsOnly.millLoans {s s' : State} (h : RegsOnly s s') : s'.millLoans = s.millLoans := by
  have k := congrArg State.millLoans h.eq
  exact k
theorem RegsOnly.millUsed {s s' : State} (h : RegsOnly s s') : s'.millUsed = s.millUsed := by
  have k := congrArg State.millUsed h.eq
  exact k
theorem RegsOnly.millWaited {s s' : State} (h : RegsOnly s s') : s'.millWaited = s.millWaited := by
  have k := congrArg State.millWaited h.eq
  exact k
theorem RegsOnly.houses {s s' : State} (h : RegsOnly s s') : s'.houses = s.houses := by
  have k := congrArg State.houses h.eq
  exact k
theorem RegsOnly.staged {s s' : State} (h : RegsOnly s s') : s'.staged = s.staged := by
  have k := congrArg State.staged h.eq
  exact k
theorem RegsOnly.ways {s s' : State} (h : RegsOnly s s') : s'.ways = s.ways := by
  have k := congrArg State.ways h.eq
  exact k
theorem RegsOnly.tillers {s s' : State} (h : RegsOnly s s') : s'.tillers = s.tillers := by
  have k := congrArg State.tillers h.eq
  exact k
theorem RegsOnly.leaving {s s' : State} (h : RegsOnly s s') : s'.leaving = s.leaving := by
  have k := congrArg State.leaving h.eq
  exact k
theorem RegsOnly.sharedEdges {s s' : State} (h : RegsOnly s s') : s'.sharedEdges = s.sharedEdges := by
  have k := congrArg State.sharedEdges h.eq
  exact k
theorem RegsOnly.chutes {s s' : State} (h : RegsOnly s s') : s'.chutes = s.chutes := by
  have k := congrArg State.chutes h.eq
  exact k
theorem RegsOnly.hoppers {s s' : State} (h : RegsOnly s s') : s'.hoppers = s.hoppers := by
  have k := congrArg State.hoppers h.eq
  exact k
theorem RegsOnly.chans {s s' : State} (h : RegsOnly s s') : s'.chans = s.chans := by
  have k := congrArg State.chans h.eq
  exact k
theorem RegsOnly.power {s s' : State} (h : RegsOnly s s') : s'.power = s.power := by
  have k := congrArg State.power h.eq
  exact k
theorem RegsOnly.flash {s s' : State} (h : RegsOnly s s') : s'.flash = s.flash := by
  have k := congrArg State.flash h.eq
  exact k
theorem RegsOnly.wear {s s' : State} (h : RegsOnly s s') : s'.wear = s.wear := by
  have k := congrArg State.wear h.eq
  exact k
theorem RegsOnly.tap {s s' : State} (h : RegsOnly s s') : s'.tap = s.tap := by
  have k := congrArg State.tap h.eq
  exact k
theorem RegsOnly.sealQ {s s' : State} (h : RegsOnly s s') : s'.sealQ = s.sealQ := by
  have k := congrArg State.sealQ h.eq
  exact k
theorem RegsOnly.out {s s' : State} (h : RegsOnly s s') : s'.out = s.out := by
  have k := congrArg State.out h.eq
  exact k
theorem RegsOnly.picks {s s' : State} (h : RegsOnly s s') : s'.picks = s.picks := by
  have k := congrArg State.picks h.eq
  exact k

@[simp] theorem pending_countMark (s : State) (a n : Nat) : (s.countMark a n).pending = s.pending :=
  (countMark_regsOnly s a n).pending
@[simp] theorem dtime_countMark (s : State) (a n : Nat) : (s.countMark a n).dtime = s.dtime :=
  (countMark_regsOnly s a n).dtime
@[simp] theorem termAt_countMark (s : State) (a n : Nat) : (s.countMark a n).termAt = s.termAt :=
  (countMark_regsOnly s a n).termAt
@[simp] theorem mem_countMark (s : State) (a n : Nat) : (s.countMark a n).mem = s.mem :=
  (countMark_regsOnly s a n).mem
@[simp] theorem poison_countMark (s : State) (a n : Nat) : (s.countMark a n).poison = s.poison :=
  (countMark_regsOnly s a n).poison
@[simp] theorem l2_countMark (s : State) (a n : Nat) : (s.countMark a n).l2 = s.l2 :=
  (countMark_regsOnly s a n).l2
@[simp] theorem granary_countMark (s : State) (a n : Nat) : (s.countMark a n).granary = s.granary :=
  (countMark_regsOnly s a n).granary
@[simp] theorem tb_countMark (s : State) (a n : Nat) : (s.countMark a n).tb = s.tb :=
  (countMark_regsOnly s a n).tb
@[simp] theorem avs_countMark (s : State) (a n : Nat) : (s.countMark a n).avs = s.avs :=
  (countMark_regsOnly s a n).avs
@[simp] theorem ports_countMark (s : State) (a n : Nat) : (s.countMark a n).ports = s.ports :=
  (countMark_regsOnly s a n).ports
@[simp] theorem fns_countMark (s : State) (a n : Nat) : (s.countMark a n).fns = s.fns :=
  (countMark_regsOnly s a n).fns
@[simp] theorem stepQ_countMark (s : State) (a n : Nat) : (s.countMark a n).stepQ = s.stepQ :=
  (countMark_regsOnly s a n).stepQ
@[simp] theorem slates_countMark (s : State) (a n : Nat) : (s.countMark a n).slates = s.slates :=
  (countMark_regsOnly s a n).slates
@[simp] theorem lanes_countMark (s : State) (a n : Nat) : (s.countMark a n).lanes = s.lanes :=
  (countMark_regsOnly s a n).lanes
@[simp] theorem poolQ_countMark (s : State) (a n : Nat) : (s.countMark a n).poolQ = s.poolQ :=
  (countMark_regsOnly s a n).poolQ
@[simp] theorem supers_countMark (s : State) (a n : Nat) : (s.countMark a n).supers = s.supers :=
  (countMark_regsOnly s a n).supers
@[simp] theorem symSlots_countMark (s : State) (a n : Nat) : (s.countMark a n).symSlots = s.symSlots :=
  (countMark_regsOnly s a n).symSlots
@[simp] theorem asymSlots_countMark (s : State) (a n : Nat) : (s.countMark a n).asymSlots = s.asymSlots :=
  (countMark_regsOnly s a n).asymSlots
@[simp] theorem dev_countMark (s : State) (a n : Nat) : (s.countMark a n).dev = s.dev :=
  (countMark_regsOnly s a n).dev
@[simp] theorem ownerCtr_countMark (s : State) (a n : Nat) : (s.countMark a n).ownerCtr = s.ownerCtr :=
  (countMark_regsOnly s a n).ownerCtr
@[simp] theorem rekeyAt_countMark (s : State) (a n : Nat) : (s.countMark a n).rekeyAt = s.rekeyAt :=
  (countMark_regsOnly s a n).rekeyAt
@[simp] theorem symCache_countMark (s : State) (a n : Nat) : (s.countMark a n).symCache = s.symCache :=
  (countMark_regsOnly s a n).symCache
@[simp] theorem asymCache_countMark (s : State) (a n : Nat) : (s.countMark a n).asymCache = s.asymCache :=
  (countMark_regsOnly s a n).asymCache
@[simp] theorem cards_countMark (s : State) (a n : Nat) : (s.countMark a n).cards = s.cards :=
  (countMark_regsOnly s a n).cards
@[simp] theorem entropy_countMark (s : State) (a n : Nat) : (s.countMark a n).entropy = s.entropy :=
  (countMark_regsOnly s a n).entropy
@[simp] theorem entPool_countMark (s : State) (a n : Nat) : (s.countMark a n).entPool = s.entPool :=
  (countMark_regsOnly s a n).entPool
@[simp] theorem dramKeys_countMark (s : State) (a n : Nat) : (s.countMark a n).dramKeys = s.dramKeys :=
  (countMark_regsOnly s a n).dramKeys
@[simp] theorem smills_countMark (s : State) (a n : Nat) : (s.countMark a n).smills = s.smills :=
  (countMark_regsOnly s a n).smills
@[simp] theorem pmills_countMark (s : State) (a n : Nat) : (s.countMark a n).pmills = s.pmills :=
  (countMark_regsOnly s a n).pmills
@[simp] theorem millQ_countMark (s : State) (a n : Nat) : (s.countMark a n).millQ = s.millQ :=
  (countMark_regsOnly s a n).millQ
@[simp] theorem millOwn_countMark (s : State) (a n : Nat) : (s.countMark a n).millOwn = s.millOwn :=
  (countMark_regsOnly s a n).millOwn
@[simp] theorem millLoans_countMark (s : State) (a n : Nat) : (s.countMark a n).millLoans = s.millLoans :=
  (countMark_regsOnly s a n).millLoans
@[simp] theorem millUsed_countMark (s : State) (a n : Nat) : (s.countMark a n).millUsed = s.millUsed :=
  (countMark_regsOnly s a n).millUsed
@[simp] theorem millWaited_countMark (s : State) (a n : Nat) : (s.countMark a n).millWaited = s.millWaited :=
  (countMark_regsOnly s a n).millWaited
@[simp] theorem houses_countMark (s : State) (a n : Nat) : (s.countMark a n).houses = s.houses :=
  (countMark_regsOnly s a n).houses
@[simp] theorem staged_countMark (s : State) (a n : Nat) : (s.countMark a n).staged = s.staged :=
  (countMark_regsOnly s a n).staged
@[simp] theorem ways_countMark (s : State) (a n : Nat) : (s.countMark a n).ways = s.ways :=
  (countMark_regsOnly s a n).ways
@[simp] theorem tillers_countMark (s : State) (a n : Nat) : (s.countMark a n).tillers = s.tillers :=
  (countMark_regsOnly s a n).tillers
@[simp] theorem leaving_countMark (s : State) (a n : Nat) : (s.countMark a n).leaving = s.leaving :=
  (countMark_regsOnly s a n).leaving
@[simp] theorem sharedEdges_countMark (s : State) (a n : Nat) : (s.countMark a n).sharedEdges = s.sharedEdges :=
  (countMark_regsOnly s a n).sharedEdges
@[simp] theorem chutes_countMark (s : State) (a n : Nat) : (s.countMark a n).chutes = s.chutes :=
  (countMark_regsOnly s a n).chutes
@[simp] theorem hoppers_countMark (s : State) (a n : Nat) : (s.countMark a n).hoppers = s.hoppers :=
  (countMark_regsOnly s a n).hoppers
@[simp] theorem chans_countMark (s : State) (a n : Nat) : (s.countMark a n).chans = s.chans :=
  (countMark_regsOnly s a n).chans
@[simp] theorem power_countMark (s : State) (a n : Nat) : (s.countMark a n).power = s.power :=
  (countMark_regsOnly s a n).power
@[simp] theorem flash_countMark (s : State) (a n : Nat) : (s.countMark a n).flash = s.flash :=
  (countMark_regsOnly s a n).flash
@[simp] theorem wear_countMark (s : State) (a n : Nat) : (s.countMark a n).wear = s.wear :=
  (countMark_regsOnly s a n).wear
@[simp] theorem tap_countMark (s : State) (a n : Nat) : (s.countMark a n).tap = s.tap :=
  (countMark_regsOnly s a n).tap
@[simp] theorem sealQ_countMark (s : State) (a n : Nat) : (s.countMark a n).sealQ = s.sealQ :=
  (countMark_regsOnly s a n).sealQ
@[simp] theorem out_countMark (s : State) (a n : Nat) : (s.countMark a n).out = s.out :=
  (countMark_regsOnly s a n).out
@[simp] theorem picks_countMark (s : State) (a n : Nat) : (s.countMark a n).picks = s.picks :=
  (countMark_regsOnly s a n).picks
@[simp] theorem tiller_countMark (s : State) (a n : Nat) (j : Nat) : (s.countMark a n).tiller j = s.tiller j := by
  simp only [State.tiller, tillers_countMark]
@[simp] theorem slate_countMark (s : State) (a n : Nat) (j : Nat) : (s.countMark a n).slate j = s.slate j := by
  simp only [State.slate, slates_countMark]
@[simp] theorem house_countMark (s : State) (a n : Nat) (j : Nat) : (s.countMark a n).house j = s.house j := by
  simp only [State.house, houses_countMark]
@[simp] theorem chute_countMark (s : State) (a n : Nat) (j : Nat) : (s.countMark a n).chute j = s.chute j := by
  simp only [State.chute, chutes_countMark]
@[simp] theorem hopper_countMark (s : State) (a n : Nat) (j : Nat) : (s.countMark a n).hopper j = s.hopper j := by
  simp only [State.hopper, hoppers_countMark]
@[simp] theorem chan_countMark (s : State) (a n : Nat) (j : Nat) : (s.countMark a n).chan j = s.chan j := by
  simp only [State.chan, chans_countMark]
@[simp] theorem fn_countMark (s : State) (a n : Nat) (j : Nat) : (s.countMark a n).fn j = s.fn j := by
  simp only [State.fn, fns_countMark]
@[simp] theorem lane_countMark (s : State) (a n : Nat) (j : Nat) : (s.countMark a n).lane j = s.lane j := by
  simp only [State.lane, lanes_countMark]

@[simp] theorem pending_mark (s : State) (t r ev n : Nat) : (s.mark t r ev n).pending = s.pending :=
  (mark_regsOnly s t r ev n).pending
@[simp] theorem dtime_mark (s : State) (t r ev n : Nat) : (s.mark t r ev n).dtime = s.dtime :=
  (mark_regsOnly s t r ev n).dtime
@[simp] theorem termAt_mark (s : State) (t r ev n : Nat) : (s.mark t r ev n).termAt = s.termAt :=
  (mark_regsOnly s t r ev n).termAt
@[simp] theorem mem_mark (s : State) (t r ev n : Nat) : (s.mark t r ev n).mem = s.mem :=
  (mark_regsOnly s t r ev n).mem
@[simp] theorem poison_mark (s : State) (t r ev n : Nat) : (s.mark t r ev n).poison = s.poison :=
  (mark_regsOnly s t r ev n).poison
@[simp] theorem l2_mark (s : State) (t r ev n : Nat) : (s.mark t r ev n).l2 = s.l2 :=
  (mark_regsOnly s t r ev n).l2
@[simp] theorem granary_mark (s : State) (t r ev n : Nat) : (s.mark t r ev n).granary = s.granary :=
  (mark_regsOnly s t r ev n).granary
@[simp] theorem tb_mark (s : State) (t r ev n : Nat) : (s.mark t r ev n).tb = s.tb :=
  (mark_regsOnly s t r ev n).tb
@[simp] theorem avs_mark (s : State) (t r ev n : Nat) : (s.mark t r ev n).avs = s.avs :=
  (mark_regsOnly s t r ev n).avs
@[simp] theorem ports_mark (s : State) (t r ev n : Nat) : (s.mark t r ev n).ports = s.ports :=
  (mark_regsOnly s t r ev n).ports
@[simp] theorem fns_mark (s : State) (t r ev n : Nat) : (s.mark t r ev n).fns = s.fns :=
  (mark_regsOnly s t r ev n).fns
@[simp] theorem stepQ_mark (s : State) (t r ev n : Nat) : (s.mark t r ev n).stepQ = s.stepQ :=
  (mark_regsOnly s t r ev n).stepQ
@[simp] theorem slates_mark (s : State) (t r ev n : Nat) : (s.mark t r ev n).slates = s.slates :=
  (mark_regsOnly s t r ev n).slates
@[simp] theorem lanes_mark (s : State) (t r ev n : Nat) : (s.mark t r ev n).lanes = s.lanes :=
  (mark_regsOnly s t r ev n).lanes
@[simp] theorem poolQ_mark (s : State) (t r ev n : Nat) : (s.mark t r ev n).poolQ = s.poolQ :=
  (mark_regsOnly s t r ev n).poolQ
@[simp] theorem supers_mark (s : State) (t r ev n : Nat) : (s.mark t r ev n).supers = s.supers :=
  (mark_regsOnly s t r ev n).supers
@[simp] theorem symSlots_mark (s : State) (t r ev n : Nat) : (s.mark t r ev n).symSlots = s.symSlots :=
  (mark_regsOnly s t r ev n).symSlots
@[simp] theorem asymSlots_mark (s : State) (t r ev n : Nat) : (s.mark t r ev n).asymSlots = s.asymSlots :=
  (mark_regsOnly s t r ev n).asymSlots
@[simp] theorem dev_mark (s : State) (t r ev n : Nat) : (s.mark t r ev n).dev = s.dev :=
  (mark_regsOnly s t r ev n).dev
@[simp] theorem ownerCtr_mark (s : State) (t r ev n : Nat) : (s.mark t r ev n).ownerCtr = s.ownerCtr :=
  (mark_regsOnly s t r ev n).ownerCtr
@[simp] theorem rekeyAt_mark (s : State) (t r ev n : Nat) : (s.mark t r ev n).rekeyAt = s.rekeyAt :=
  (mark_regsOnly s t r ev n).rekeyAt
@[simp] theorem symCache_mark (s : State) (t r ev n : Nat) : (s.mark t r ev n).symCache = s.symCache :=
  (mark_regsOnly s t r ev n).symCache
@[simp] theorem asymCache_mark (s : State) (t r ev n : Nat) : (s.mark t r ev n).asymCache = s.asymCache :=
  (mark_regsOnly s t r ev n).asymCache
@[simp] theorem cards_mark (s : State) (t r ev n : Nat) : (s.mark t r ev n).cards = s.cards :=
  (mark_regsOnly s t r ev n).cards
@[simp] theorem entropy_mark (s : State) (t r ev n : Nat) : (s.mark t r ev n).entropy = s.entropy :=
  (mark_regsOnly s t r ev n).entropy
@[simp] theorem entPool_mark (s : State) (t r ev n : Nat) : (s.mark t r ev n).entPool = s.entPool :=
  (mark_regsOnly s t r ev n).entPool
@[simp] theorem dramKeys_mark (s : State) (t r ev n : Nat) : (s.mark t r ev n).dramKeys = s.dramKeys :=
  (mark_regsOnly s t r ev n).dramKeys
@[simp] theorem smills_mark (s : State) (t r ev n : Nat) : (s.mark t r ev n).smills = s.smills :=
  (mark_regsOnly s t r ev n).smills
@[simp] theorem pmills_mark (s : State) (t r ev n : Nat) : (s.mark t r ev n).pmills = s.pmills :=
  (mark_regsOnly s t r ev n).pmills
@[simp] theorem millQ_mark (s : State) (t r ev n : Nat) : (s.mark t r ev n).millQ = s.millQ :=
  (mark_regsOnly s t r ev n).millQ
@[simp] theorem millOwn_mark (s : State) (t r ev n : Nat) : (s.mark t r ev n).millOwn = s.millOwn :=
  (mark_regsOnly s t r ev n).millOwn
@[simp] theorem millLoans_mark (s : State) (t r ev n : Nat) : (s.mark t r ev n).millLoans = s.millLoans :=
  (mark_regsOnly s t r ev n).millLoans
@[simp] theorem millUsed_mark (s : State) (t r ev n : Nat) : (s.mark t r ev n).millUsed = s.millUsed :=
  (mark_regsOnly s t r ev n).millUsed
@[simp] theorem millWaited_mark (s : State) (t r ev n : Nat) : (s.mark t r ev n).millWaited = s.millWaited :=
  (mark_regsOnly s t r ev n).millWaited
@[simp] theorem houses_mark (s : State) (t r ev n : Nat) : (s.mark t r ev n).houses = s.houses :=
  (mark_regsOnly s t r ev n).houses
@[simp] theorem staged_mark (s : State) (t r ev n : Nat) : (s.mark t r ev n).staged = s.staged :=
  (mark_regsOnly s t r ev n).staged
@[simp] theorem ways_mark (s : State) (t r ev n : Nat) : (s.mark t r ev n).ways = s.ways :=
  (mark_regsOnly s t r ev n).ways
@[simp] theorem tillers_mark (s : State) (t r ev n : Nat) : (s.mark t r ev n).tillers = s.tillers :=
  (mark_regsOnly s t r ev n).tillers
@[simp] theorem leaving_mark (s : State) (t r ev n : Nat) : (s.mark t r ev n).leaving = s.leaving :=
  (mark_regsOnly s t r ev n).leaving
@[simp] theorem sharedEdges_mark (s : State) (t r ev n : Nat) : (s.mark t r ev n).sharedEdges = s.sharedEdges :=
  (mark_regsOnly s t r ev n).sharedEdges
@[simp] theorem chutes_mark (s : State) (t r ev n : Nat) : (s.mark t r ev n).chutes = s.chutes :=
  (mark_regsOnly s t r ev n).chutes
@[simp] theorem hoppers_mark (s : State) (t r ev n : Nat) : (s.mark t r ev n).hoppers = s.hoppers :=
  (mark_regsOnly s t r ev n).hoppers
@[simp] theorem chans_mark (s : State) (t r ev n : Nat) : (s.mark t r ev n).chans = s.chans :=
  (mark_regsOnly s t r ev n).chans
@[simp] theorem power_mark (s : State) (t r ev n : Nat) : (s.mark t r ev n).power = s.power :=
  (mark_regsOnly s t r ev n).power
@[simp] theorem flash_mark (s : State) (t r ev n : Nat) : (s.mark t r ev n).flash = s.flash :=
  (mark_regsOnly s t r ev n).flash
@[simp] theorem wear_mark (s : State) (t r ev n : Nat) : (s.mark t r ev n).wear = s.wear :=
  (mark_regsOnly s t r ev n).wear
@[simp] theorem tap_mark (s : State) (t r ev n : Nat) : (s.mark t r ev n).tap = s.tap :=
  (mark_regsOnly s t r ev n).tap
@[simp] theorem sealQ_mark (s : State) (t r ev n : Nat) : (s.mark t r ev n).sealQ = s.sealQ :=
  (mark_regsOnly s t r ev n).sealQ
@[simp] theorem out_mark (s : State) (t r ev n : Nat) : (s.mark t r ev n).out = s.out :=
  (mark_regsOnly s t r ev n).out
@[simp] theorem picks_mark (s : State) (t r ev n : Nat) : (s.mark t r ev n).picks = s.picks :=
  (mark_regsOnly s t r ev n).picks
@[simp] theorem tiller_mark (s : State) (t r ev n : Nat) (j : Nat) : (s.mark t r ev n).tiller j = s.tiller j := by
  simp only [State.tiller, tillers_mark]
@[simp] theorem slate_mark (s : State) (t r ev n : Nat) (j : Nat) : (s.mark t r ev n).slate j = s.slate j := by
  simp only [State.slate, slates_mark]
@[simp] theorem house_mark (s : State) (t r ev n : Nat) (j : Nat) : (s.mark t r ev n).house j = s.house j := by
  simp only [State.house, houses_mark]
@[simp] theorem chute_mark (s : State) (t r ev n : Nat) (j : Nat) : (s.mark t r ev n).chute j = s.chute j := by
  simp only [State.chute, chutes_mark]
@[simp] theorem hopper_mark (s : State) (t r ev n : Nat) (j : Nat) : (s.mark t r ev n).hopper j = s.hopper j := by
  simp only [State.hopper, hoppers_mark]
@[simp] theorem chan_mark (s : State) (t r ev n : Nat) (j : Nat) : (s.mark t r ev n).chan j = s.chan j := by
  simp only [State.chan, chans_mark]
@[simp] theorem fn_mark (s : State) (t r ev n : Nat) (j : Nat) : (s.mark t r ev n).fn j = s.fn j := by
  simp only [State.fn, fns_mark]
@[simp] theorem lane_mark (s : State) (t r ev n : Nat) (j : Nat) : (s.mark t r ev n).lane j = s.lane j := by
  simp only [State.lane, lanes_mark]

@[simp] theorem pending_topDown (s : State) (t r k n : Nat) : (s.topDown t r k n).pending = s.pending :=
  (topDown_regsOnly s t r k n).pending
@[simp] theorem dtime_topDown (s : State) (t r k n : Nat) : (s.topDown t r k n).dtime = s.dtime :=
  (topDown_regsOnly s t r k n).dtime
@[simp] theorem termAt_topDown (s : State) (t r k n : Nat) : (s.topDown t r k n).termAt = s.termAt :=
  (topDown_regsOnly s t r k n).termAt
@[simp] theorem mem_topDown (s : State) (t r k n : Nat) : (s.topDown t r k n).mem = s.mem :=
  (topDown_regsOnly s t r k n).mem
@[simp] theorem poison_topDown (s : State) (t r k n : Nat) : (s.topDown t r k n).poison = s.poison :=
  (topDown_regsOnly s t r k n).poison
@[simp] theorem l2_topDown (s : State) (t r k n : Nat) : (s.topDown t r k n).l2 = s.l2 :=
  (topDown_regsOnly s t r k n).l2
@[simp] theorem granary_topDown (s : State) (t r k n : Nat) : (s.topDown t r k n).granary = s.granary :=
  (topDown_regsOnly s t r k n).granary
@[simp] theorem tb_topDown (s : State) (t r k n : Nat) : (s.topDown t r k n).tb = s.tb :=
  (topDown_regsOnly s t r k n).tb
@[simp] theorem avs_topDown (s : State) (t r k n : Nat) : (s.topDown t r k n).avs = s.avs :=
  (topDown_regsOnly s t r k n).avs
@[simp] theorem ports_topDown (s : State) (t r k n : Nat) : (s.topDown t r k n).ports = s.ports :=
  (topDown_regsOnly s t r k n).ports
@[simp] theorem fns_topDown (s : State) (t r k n : Nat) : (s.topDown t r k n).fns = s.fns :=
  (topDown_regsOnly s t r k n).fns
@[simp] theorem stepQ_topDown (s : State) (t r k n : Nat) : (s.topDown t r k n).stepQ = s.stepQ :=
  (topDown_regsOnly s t r k n).stepQ
@[simp] theorem slates_topDown (s : State) (t r k n : Nat) : (s.topDown t r k n).slates = s.slates :=
  (topDown_regsOnly s t r k n).slates
@[simp] theorem lanes_topDown (s : State) (t r k n : Nat) : (s.topDown t r k n).lanes = s.lanes :=
  (topDown_regsOnly s t r k n).lanes
@[simp] theorem poolQ_topDown (s : State) (t r k n : Nat) : (s.topDown t r k n).poolQ = s.poolQ :=
  (topDown_regsOnly s t r k n).poolQ
@[simp] theorem supers_topDown (s : State) (t r k n : Nat) : (s.topDown t r k n).supers = s.supers :=
  (topDown_regsOnly s t r k n).supers
@[simp] theorem symSlots_topDown (s : State) (t r k n : Nat) : (s.topDown t r k n).symSlots = s.symSlots :=
  (topDown_regsOnly s t r k n).symSlots
@[simp] theorem asymSlots_topDown (s : State) (t r k n : Nat) : (s.topDown t r k n).asymSlots = s.asymSlots :=
  (topDown_regsOnly s t r k n).asymSlots
@[simp] theorem dev_topDown (s : State) (t r k n : Nat) : (s.topDown t r k n).dev = s.dev :=
  (topDown_regsOnly s t r k n).dev
@[simp] theorem ownerCtr_topDown (s : State) (t r k n : Nat) : (s.topDown t r k n).ownerCtr = s.ownerCtr :=
  (topDown_regsOnly s t r k n).ownerCtr
@[simp] theorem rekeyAt_topDown (s : State) (t r k n : Nat) : (s.topDown t r k n).rekeyAt = s.rekeyAt :=
  (topDown_regsOnly s t r k n).rekeyAt
@[simp] theorem symCache_topDown (s : State) (t r k n : Nat) : (s.topDown t r k n).symCache = s.symCache :=
  (topDown_regsOnly s t r k n).symCache
@[simp] theorem asymCache_topDown (s : State) (t r k n : Nat) : (s.topDown t r k n).asymCache = s.asymCache :=
  (topDown_regsOnly s t r k n).asymCache
@[simp] theorem cards_topDown (s : State) (t r k n : Nat) : (s.topDown t r k n).cards = s.cards :=
  (topDown_regsOnly s t r k n).cards
@[simp] theorem entropy_topDown (s : State) (t r k n : Nat) : (s.topDown t r k n).entropy = s.entropy :=
  (topDown_regsOnly s t r k n).entropy
@[simp] theorem entPool_topDown (s : State) (t r k n : Nat) : (s.topDown t r k n).entPool = s.entPool :=
  (topDown_regsOnly s t r k n).entPool
@[simp] theorem dramKeys_topDown (s : State) (t r k n : Nat) : (s.topDown t r k n).dramKeys = s.dramKeys :=
  (topDown_regsOnly s t r k n).dramKeys
@[simp] theorem smills_topDown (s : State) (t r k n : Nat) : (s.topDown t r k n).smills = s.smills :=
  (topDown_regsOnly s t r k n).smills
@[simp] theorem pmills_topDown (s : State) (t r k n : Nat) : (s.topDown t r k n).pmills = s.pmills :=
  (topDown_regsOnly s t r k n).pmills
@[simp] theorem millQ_topDown (s : State) (t r k n : Nat) : (s.topDown t r k n).millQ = s.millQ :=
  (topDown_regsOnly s t r k n).millQ
@[simp] theorem millOwn_topDown (s : State) (t r k n : Nat) : (s.topDown t r k n).millOwn = s.millOwn :=
  (topDown_regsOnly s t r k n).millOwn
@[simp] theorem millLoans_topDown (s : State) (t r k n : Nat) : (s.topDown t r k n).millLoans = s.millLoans :=
  (topDown_regsOnly s t r k n).millLoans
@[simp] theorem millUsed_topDown (s : State) (t r k n : Nat) : (s.topDown t r k n).millUsed = s.millUsed :=
  (topDown_regsOnly s t r k n).millUsed
@[simp] theorem millWaited_topDown (s : State) (t r k n : Nat) : (s.topDown t r k n).millWaited = s.millWaited :=
  (topDown_regsOnly s t r k n).millWaited
@[simp] theorem houses_topDown (s : State) (t r k n : Nat) : (s.topDown t r k n).houses = s.houses :=
  (topDown_regsOnly s t r k n).houses
@[simp] theorem staged_topDown (s : State) (t r k n : Nat) : (s.topDown t r k n).staged = s.staged :=
  (topDown_regsOnly s t r k n).staged
@[simp] theorem ways_topDown (s : State) (t r k n : Nat) : (s.topDown t r k n).ways = s.ways :=
  (topDown_regsOnly s t r k n).ways
@[simp] theorem tillers_topDown (s : State) (t r k n : Nat) : (s.topDown t r k n).tillers = s.tillers :=
  (topDown_regsOnly s t r k n).tillers
@[simp] theorem leaving_topDown (s : State) (t r k n : Nat) : (s.topDown t r k n).leaving = s.leaving :=
  (topDown_regsOnly s t r k n).leaving
@[simp] theorem sharedEdges_topDown (s : State) (t r k n : Nat) : (s.topDown t r k n).sharedEdges = s.sharedEdges :=
  (topDown_regsOnly s t r k n).sharedEdges
@[simp] theorem chutes_topDown (s : State) (t r k n : Nat) : (s.topDown t r k n).chutes = s.chutes :=
  (topDown_regsOnly s t r k n).chutes
@[simp] theorem hoppers_topDown (s : State) (t r k n : Nat) : (s.topDown t r k n).hoppers = s.hoppers :=
  (topDown_regsOnly s t r k n).hoppers
@[simp] theorem chans_topDown (s : State) (t r k n : Nat) : (s.topDown t r k n).chans = s.chans :=
  (topDown_regsOnly s t r k n).chans
@[simp] theorem power_topDown (s : State) (t r k n : Nat) : (s.topDown t r k n).power = s.power :=
  (topDown_regsOnly s t r k n).power
@[simp] theorem flash_topDown (s : State) (t r k n : Nat) : (s.topDown t r k n).flash = s.flash :=
  (topDown_regsOnly s t r k n).flash
@[simp] theorem wear_topDown (s : State) (t r k n : Nat) : (s.topDown t r k n).wear = s.wear :=
  (topDown_regsOnly s t r k n).wear
@[simp] theorem tap_topDown (s : State) (t r k n : Nat) : (s.topDown t r k n).tap = s.tap :=
  (topDown_regsOnly s t r k n).tap
@[simp] theorem sealQ_topDown (s : State) (t r k n : Nat) : (s.topDown t r k n).sealQ = s.sealQ :=
  (topDown_regsOnly s t r k n).sealQ
@[simp] theorem out_topDown (s : State) (t r k n : Nat) : (s.topDown t r k n).out = s.out :=
  (topDown_regsOnly s t r k n).out
@[simp] theorem picks_topDown (s : State) (t r k n : Nat) : (s.topDown t r k n).picks = s.picks :=
  (topDown_regsOnly s t r k n).picks
@[simp] theorem tiller_topDown (s : State) (t r k n : Nat) (j : Nat) : (s.topDown t r k n).tiller j = s.tiller j := by
  simp only [State.tiller, tillers_topDown]
@[simp] theorem slate_topDown (s : State) (t r k n : Nat) (j : Nat) : (s.topDown t r k n).slate j = s.slate j := by
  simp only [State.slate, slates_topDown]
@[simp] theorem house_topDown (s : State) (t r k n : Nat) (j : Nat) : (s.topDown t r k n).house j = s.house j := by
  simp only [State.house, houses_topDown]
@[simp] theorem chute_topDown (s : State) (t r k n : Nat) (j : Nat) : (s.topDown t r k n).chute j = s.chute j := by
  simp only [State.chute, chutes_topDown]
@[simp] theorem hopper_topDown (s : State) (t r k n : Nat) (j : Nat) : (s.topDown t r k n).hopper j = s.hopper j := by
  simp only [State.hopper, hoppers_topDown]
@[simp] theorem chan_topDown (s : State) (t r k n : Nat) (j : Nat) : (s.topDown t r k n).chan j = s.chan j := by
  simp only [State.chan, chans_topDown]
@[simp] theorem fn_topDown (s : State) (t r k n : Nat) (j : Nat) : (s.topDown t r k n).fn j = s.fn j := by
  simp only [State.fn, fns_topDown]
@[simp] theorem lane_topDown (s : State) (t r k n : Nat) (j : Nat) : (s.topDown t r k n).lane j = s.lane j := by
  simp only [State.lane, lanes_topDown]

@[simp] theorem pending_markUnit (s : State) (u ev n : Nat) : (s.markUnit u ev n).pending = s.pending :=
  (markUnit_regsOnly s u ev n).pending
@[simp] theorem dtime_markUnit (s : State) (u ev n : Nat) : (s.markUnit u ev n).dtime = s.dtime :=
  (markUnit_regsOnly s u ev n).dtime
@[simp] theorem termAt_markUnit (s : State) (u ev n : Nat) : (s.markUnit u ev n).termAt = s.termAt :=
  (markUnit_regsOnly s u ev n).termAt
@[simp] theorem mem_markUnit (s : State) (u ev n : Nat) : (s.markUnit u ev n).mem = s.mem :=
  (markUnit_regsOnly s u ev n).mem
@[simp] theorem poison_markUnit (s : State) (u ev n : Nat) : (s.markUnit u ev n).poison = s.poison :=
  (markUnit_regsOnly s u ev n).poison
@[simp] theorem l2_markUnit (s : State) (u ev n : Nat) : (s.markUnit u ev n).l2 = s.l2 :=
  (markUnit_regsOnly s u ev n).l2
@[simp] theorem granary_markUnit (s : State) (u ev n : Nat) : (s.markUnit u ev n).granary = s.granary :=
  (markUnit_regsOnly s u ev n).granary
@[simp] theorem tb_markUnit (s : State) (u ev n : Nat) : (s.markUnit u ev n).tb = s.tb :=
  (markUnit_regsOnly s u ev n).tb
@[simp] theorem avs_markUnit (s : State) (u ev n : Nat) : (s.markUnit u ev n).avs = s.avs :=
  (markUnit_regsOnly s u ev n).avs
@[simp] theorem ports_markUnit (s : State) (u ev n : Nat) : (s.markUnit u ev n).ports = s.ports :=
  (markUnit_regsOnly s u ev n).ports
@[simp] theorem fns_markUnit (s : State) (u ev n : Nat) : (s.markUnit u ev n).fns = s.fns :=
  (markUnit_regsOnly s u ev n).fns
@[simp] theorem stepQ_markUnit (s : State) (u ev n : Nat) : (s.markUnit u ev n).stepQ = s.stepQ :=
  (markUnit_regsOnly s u ev n).stepQ
@[simp] theorem slates_markUnit (s : State) (u ev n : Nat) : (s.markUnit u ev n).slates = s.slates :=
  (markUnit_regsOnly s u ev n).slates
@[simp] theorem lanes_markUnit (s : State) (u ev n : Nat) : (s.markUnit u ev n).lanes = s.lanes :=
  (markUnit_regsOnly s u ev n).lanes
@[simp] theorem poolQ_markUnit (s : State) (u ev n : Nat) : (s.markUnit u ev n).poolQ = s.poolQ :=
  (markUnit_regsOnly s u ev n).poolQ
@[simp] theorem supers_markUnit (s : State) (u ev n : Nat) : (s.markUnit u ev n).supers = s.supers :=
  (markUnit_regsOnly s u ev n).supers
@[simp] theorem symSlots_markUnit (s : State) (u ev n : Nat) : (s.markUnit u ev n).symSlots = s.symSlots :=
  (markUnit_regsOnly s u ev n).symSlots
@[simp] theorem asymSlots_markUnit (s : State) (u ev n : Nat) : (s.markUnit u ev n).asymSlots = s.asymSlots :=
  (markUnit_regsOnly s u ev n).asymSlots
@[simp] theorem dev_markUnit (s : State) (u ev n : Nat) : (s.markUnit u ev n).dev = s.dev :=
  (markUnit_regsOnly s u ev n).dev
@[simp] theorem ownerCtr_markUnit (s : State) (u ev n : Nat) : (s.markUnit u ev n).ownerCtr = s.ownerCtr :=
  (markUnit_regsOnly s u ev n).ownerCtr
@[simp] theorem rekeyAt_markUnit (s : State) (u ev n : Nat) : (s.markUnit u ev n).rekeyAt = s.rekeyAt :=
  (markUnit_regsOnly s u ev n).rekeyAt
@[simp] theorem symCache_markUnit (s : State) (u ev n : Nat) : (s.markUnit u ev n).symCache = s.symCache :=
  (markUnit_regsOnly s u ev n).symCache
@[simp] theorem asymCache_markUnit (s : State) (u ev n : Nat) : (s.markUnit u ev n).asymCache = s.asymCache :=
  (markUnit_regsOnly s u ev n).asymCache
@[simp] theorem cards_markUnit (s : State) (u ev n : Nat) : (s.markUnit u ev n).cards = s.cards :=
  (markUnit_regsOnly s u ev n).cards
@[simp] theorem entropy_markUnit (s : State) (u ev n : Nat) : (s.markUnit u ev n).entropy = s.entropy :=
  (markUnit_regsOnly s u ev n).entropy
@[simp] theorem entPool_markUnit (s : State) (u ev n : Nat) : (s.markUnit u ev n).entPool = s.entPool :=
  (markUnit_regsOnly s u ev n).entPool
@[simp] theorem dramKeys_markUnit (s : State) (u ev n : Nat) : (s.markUnit u ev n).dramKeys = s.dramKeys :=
  (markUnit_regsOnly s u ev n).dramKeys
@[simp] theorem smills_markUnit (s : State) (u ev n : Nat) : (s.markUnit u ev n).smills = s.smills :=
  (markUnit_regsOnly s u ev n).smills
@[simp] theorem pmills_markUnit (s : State) (u ev n : Nat) : (s.markUnit u ev n).pmills = s.pmills :=
  (markUnit_regsOnly s u ev n).pmills
@[simp] theorem millQ_markUnit (s : State) (u ev n : Nat) : (s.markUnit u ev n).millQ = s.millQ :=
  (markUnit_regsOnly s u ev n).millQ
@[simp] theorem millOwn_markUnit (s : State) (u ev n : Nat) : (s.markUnit u ev n).millOwn = s.millOwn :=
  (markUnit_regsOnly s u ev n).millOwn
@[simp] theorem millLoans_markUnit (s : State) (u ev n : Nat) : (s.markUnit u ev n).millLoans = s.millLoans :=
  (markUnit_regsOnly s u ev n).millLoans
@[simp] theorem millUsed_markUnit (s : State) (u ev n : Nat) : (s.markUnit u ev n).millUsed = s.millUsed :=
  (markUnit_regsOnly s u ev n).millUsed
@[simp] theorem millWaited_markUnit (s : State) (u ev n : Nat) : (s.markUnit u ev n).millWaited = s.millWaited :=
  (markUnit_regsOnly s u ev n).millWaited
@[simp] theorem houses_markUnit (s : State) (u ev n : Nat) : (s.markUnit u ev n).houses = s.houses :=
  (markUnit_regsOnly s u ev n).houses
@[simp] theorem staged_markUnit (s : State) (u ev n : Nat) : (s.markUnit u ev n).staged = s.staged :=
  (markUnit_regsOnly s u ev n).staged
@[simp] theorem ways_markUnit (s : State) (u ev n : Nat) : (s.markUnit u ev n).ways = s.ways :=
  (markUnit_regsOnly s u ev n).ways
@[simp] theorem tillers_markUnit (s : State) (u ev n : Nat) : (s.markUnit u ev n).tillers = s.tillers :=
  (markUnit_regsOnly s u ev n).tillers
@[simp] theorem leaving_markUnit (s : State) (u ev n : Nat) : (s.markUnit u ev n).leaving = s.leaving :=
  (markUnit_regsOnly s u ev n).leaving
@[simp] theorem sharedEdges_markUnit (s : State) (u ev n : Nat) : (s.markUnit u ev n).sharedEdges = s.sharedEdges :=
  (markUnit_regsOnly s u ev n).sharedEdges
@[simp] theorem chutes_markUnit (s : State) (u ev n : Nat) : (s.markUnit u ev n).chutes = s.chutes :=
  (markUnit_regsOnly s u ev n).chutes
@[simp] theorem hoppers_markUnit (s : State) (u ev n : Nat) : (s.markUnit u ev n).hoppers = s.hoppers :=
  (markUnit_regsOnly s u ev n).hoppers
@[simp] theorem chans_markUnit (s : State) (u ev n : Nat) : (s.markUnit u ev n).chans = s.chans :=
  (markUnit_regsOnly s u ev n).chans
@[simp] theorem power_markUnit (s : State) (u ev n : Nat) : (s.markUnit u ev n).power = s.power :=
  (markUnit_regsOnly s u ev n).power
@[simp] theorem flash_markUnit (s : State) (u ev n : Nat) : (s.markUnit u ev n).flash = s.flash :=
  (markUnit_regsOnly s u ev n).flash
@[simp] theorem wear_markUnit (s : State) (u ev n : Nat) : (s.markUnit u ev n).wear = s.wear :=
  (markUnit_regsOnly s u ev n).wear
@[simp] theorem tap_markUnit (s : State) (u ev n : Nat) : (s.markUnit u ev n).tap = s.tap :=
  (markUnit_regsOnly s u ev n).tap
@[simp] theorem sealQ_markUnit (s : State) (u ev n : Nat) : (s.markUnit u ev n).sealQ = s.sealQ :=
  (markUnit_regsOnly s u ev n).sealQ
@[simp] theorem out_markUnit (s : State) (u ev n : Nat) : (s.markUnit u ev n).out = s.out :=
  (markUnit_regsOnly s u ev n).out
@[simp] theorem picks_markUnit (s : State) (u ev n : Nat) : (s.markUnit u ev n).picks = s.picks :=
  (markUnit_regsOnly s u ev n).picks
@[simp] theorem tiller_markUnit (s : State) (u ev n : Nat) (j : Nat) : (s.markUnit u ev n).tiller j = s.tiller j := by
  simp only [State.tiller, tillers_markUnit]
@[simp] theorem slate_markUnit (s : State) (u ev n : Nat) (j : Nat) : (s.markUnit u ev n).slate j = s.slate j := by
  simp only [State.slate, slates_markUnit]
@[simp] theorem house_markUnit (s : State) (u ev n : Nat) (j : Nat) : (s.markUnit u ev n).house j = s.house j := by
  simp only [State.house, houses_markUnit]
@[simp] theorem chute_markUnit (s : State) (u ev n : Nat) (j : Nat) : (s.markUnit u ev n).chute j = s.chute j := by
  simp only [State.chute, chutes_markUnit]
@[simp] theorem hopper_markUnit (s : State) (u ev n : Nat) (j : Nat) : (s.markUnit u ev n).hopper j = s.hopper j := by
  simp only [State.hopper, hoppers_markUnit]
@[simp] theorem chan_markUnit (s : State) (u ev n : Nat) (j : Nat) : (s.markUnit u ev n).chan j = s.chan j := by
  simp only [State.chan, chans_markUnit]
@[simp] theorem fn_markUnit (s : State) (u ev n : Nat) (j : Nat) : (s.markUnit u ev n).fn j = s.fn j := by
  simp only [State.fn, fns_markUnit]
@[simp] theorem lane_markUnit (s : State) (u ev n : Nat) (j : Nat) : (s.markUnit u ev n).lane j = s.lane j := by
  simp only [State.lane, lanes_markUnit]

/-! ### Retirement (R244, R347) -/

/-- Sensing one Tiller's inputs touches its claim stack only. -/
theorem senseOne_eq (s : State) (t : Nat) :
    ∃ cl, s.senseOne t = s.modTiller t (fun x => { x with claims := cl }) ∨ s.senseOne t = s := by
  unfold State.senseOne
  split
  · split
    · exact ⟨[], .inr rfl⟩
    · exact ⟨_, .inl rfl⟩
  · exact ⟨[], .inr rfl⟩

theorem closeWindow_tiller_ne (s : State) (t u : Nat) (h : u ≠ t) : (s.closeWindow t).tiller u = s.tiller u := by
  obtain ⟨cl, hc | hc⟩ := senseOne_eq s t <;> simp [State.closeWindow, hc, h]

theorem closeWindow_tiller (s : State) (t : Nat) :
    ∃ cl, (s.closeWindow t).tiller t = { s.tiller t with emptyWin := none, claims := cl } := by
  obtain ⟨cl, h | h⟩ := senseOne_eq s t
  · exact ⟨cl, by simp [State.closeWindow, h]⟩
  · exact ⟨(s.tiller t).claims, by simp [State.closeWindow, h]⟩

@[simp] theorem pending_closeWindow (s : State) (t : Nat) : (s.closeWindow t).pending = s.pending := by
  obtain ⟨cl, h | h⟩ := senseOne_eq s t <;> simp [State.closeWindow, h]
@[simp] theorem dtime_closeWindow (s : State) (t : Nat) : (s.closeWindow t).dtime = s.dtime := by
  obtain ⟨cl, h | h⟩ := senseOne_eq s t <;> simp [State.closeWindow, h]
@[simp] theorem termAt_closeWindow (s : State) (t : Nat) : (s.closeWindow t).termAt = s.termAt := by
  obtain ⟨cl, h | h⟩ := senseOne_eq s t <;> simp [State.closeWindow, h]
@[simp] theorem regs_closeWindow (s : State) (t : Nat) : (s.closeWindow t).regs = s.regs := by
  obtain ⟨cl, h | h⟩ := senseOne_eq s t <;> simp [State.closeWindow, h]
@[simp] theorem mem_closeWindow (s : State) (t : Nat) : (s.closeWindow t).mem = s.mem := by
  obtain ⟨cl, h | h⟩ := senseOne_eq s t <;> simp [State.closeWindow, h]
@[simp] theorem poison_closeWindow (s : State) (t : Nat) : (s.closeWindow t).poison = s.poison := by
  obtain ⟨cl, h | h⟩ := senseOne_eq s t <;> simp [State.closeWindow, h]
@[simp] theorem l2_closeWindow (s : State) (t : Nat) : (s.closeWindow t).l2 = s.l2 := by
  obtain ⟨cl, h | h⟩ := senseOne_eq s t <;> simp [State.closeWindow, h]
@[simp] theorem granary_closeWindow (s : State) (t : Nat) : (s.closeWindow t).granary = s.granary := by
  obtain ⟨cl, h | h⟩ := senseOne_eq s t <;> simp [State.closeWindow, h]
@[simp] theorem tb_closeWindow (s : State) (t : Nat) : (s.closeWindow t).tb = s.tb := by
  obtain ⟨cl, h | h⟩ := senseOne_eq s t <;> simp [State.closeWindow, h]
@[simp] theorem avs_closeWindow (s : State) (t : Nat) : (s.closeWindow t).avs = s.avs := by
  obtain ⟨cl, h | h⟩ := senseOne_eq s t <;> simp [State.closeWindow, h]
@[simp] theorem ports_closeWindow (s : State) (t : Nat) : (s.closeWindow t).ports = s.ports := by
  obtain ⟨cl, h | h⟩ := senseOne_eq s t <;> simp [State.closeWindow, h]
@[simp] theorem fns_closeWindow (s : State) (t : Nat) : (s.closeWindow t).fns = s.fns := by
  obtain ⟨cl, h | h⟩ := senseOne_eq s t <;> simp [State.closeWindow, h]
@[simp] theorem stepQ_closeWindow (s : State) (t : Nat) : (s.closeWindow t).stepQ = s.stepQ := by
  obtain ⟨cl, h | h⟩ := senseOne_eq s t <;> simp [State.closeWindow, h]
@[simp] theorem slates_closeWindow (s : State) (t : Nat) : (s.closeWindow t).slates = s.slates := by
  obtain ⟨cl, h | h⟩ := senseOne_eq s t <;> simp [State.closeWindow, h]
@[simp] theorem lanes_closeWindow (s : State) (t : Nat) : (s.closeWindow t).lanes = s.lanes := by
  obtain ⟨cl, h | h⟩ := senseOne_eq s t <;> simp [State.closeWindow, h]
@[simp] theorem poolQ_closeWindow (s : State) (t : Nat) : (s.closeWindow t).poolQ = s.poolQ := by
  obtain ⟨cl, h | h⟩ := senseOne_eq s t <;> simp [State.closeWindow, h]
@[simp] theorem supers_closeWindow (s : State) (t : Nat) : (s.closeWindow t).supers = s.supers := by
  obtain ⟨cl, h | h⟩ := senseOne_eq s t <;> simp [State.closeWindow, h]
@[simp] theorem symSlots_closeWindow (s : State) (t : Nat) : (s.closeWindow t).symSlots = s.symSlots := by
  obtain ⟨cl, h | h⟩ := senseOne_eq s t <;> simp [State.closeWindow, h]
@[simp] theorem asymSlots_closeWindow (s : State) (t : Nat) : (s.closeWindow t).asymSlots = s.asymSlots := by
  obtain ⟨cl, h | h⟩ := senseOne_eq s t <;> simp [State.closeWindow, h]
@[simp] theorem dev_closeWindow (s : State) (t : Nat) : (s.closeWindow t).dev = s.dev := by
  obtain ⟨cl, h | h⟩ := senseOne_eq s t <;> simp [State.closeWindow, h]
@[simp] theorem ownerCtr_closeWindow (s : State) (t : Nat) : (s.closeWindow t).ownerCtr = s.ownerCtr := by
  obtain ⟨cl, h | h⟩ := senseOne_eq s t <;> simp [State.closeWindow, h]
@[simp] theorem rekeyAt_closeWindow (s : State) (t : Nat) : (s.closeWindow t).rekeyAt = s.rekeyAt := by
  obtain ⟨cl, h | h⟩ := senseOne_eq s t <;> simp [State.closeWindow, h]
@[simp] theorem symCache_closeWindow (s : State) (t : Nat) : (s.closeWindow t).symCache = s.symCache := by
  obtain ⟨cl, h | h⟩ := senseOne_eq s t <;> simp [State.closeWindow, h]
@[simp] theorem asymCache_closeWindow (s : State) (t : Nat) : (s.closeWindow t).asymCache = s.asymCache := by
  obtain ⟨cl, h | h⟩ := senseOne_eq s t <;> simp [State.closeWindow, h]
@[simp] theorem cards_closeWindow (s : State) (t : Nat) : (s.closeWindow t).cards = s.cards := by
  obtain ⟨cl, h | h⟩ := senseOne_eq s t <;> simp [State.closeWindow, h]
@[simp] theorem entropy_closeWindow (s : State) (t : Nat) : (s.closeWindow t).entropy = s.entropy := by
  obtain ⟨cl, h | h⟩ := senseOne_eq s t <;> simp [State.closeWindow, h]
@[simp] theorem entPool_closeWindow (s : State) (t : Nat) : (s.closeWindow t).entPool = s.entPool := by
  obtain ⟨cl, h | h⟩ := senseOne_eq s t <;> simp [State.closeWindow, h]
@[simp] theorem dramKeys_closeWindow (s : State) (t : Nat) : (s.closeWindow t).dramKeys = s.dramKeys := by
  obtain ⟨cl, h | h⟩ := senseOne_eq s t <;> simp [State.closeWindow, h]
@[simp] theorem smills_closeWindow (s : State) (t : Nat) : (s.closeWindow t).smills = s.smills := by
  obtain ⟨cl, h | h⟩ := senseOne_eq s t <;> simp [State.closeWindow, h]
@[simp] theorem pmills_closeWindow (s : State) (t : Nat) : (s.closeWindow t).pmills = s.pmills := by
  obtain ⟨cl, h | h⟩ := senseOne_eq s t <;> simp [State.closeWindow, h]
@[simp] theorem millQ_closeWindow (s : State) (t : Nat) : (s.closeWindow t).millQ = s.millQ := by
  obtain ⟨cl, h | h⟩ := senseOne_eq s t <;> simp [State.closeWindow, h]
@[simp] theorem millOwn_closeWindow (s : State) (t : Nat) : (s.closeWindow t).millOwn = s.millOwn := by
  obtain ⟨cl, h | h⟩ := senseOne_eq s t <;> simp [State.closeWindow, h]
@[simp] theorem millLoans_closeWindow (s : State) (t : Nat) : (s.closeWindow t).millLoans = s.millLoans := by
  obtain ⟨cl, h | h⟩ := senseOne_eq s t <;> simp [State.closeWindow, h]
@[simp] theorem millUsed_closeWindow (s : State) (t : Nat) : (s.closeWindow t).millUsed = s.millUsed := by
  obtain ⟨cl, h | h⟩ := senseOne_eq s t <;> simp [State.closeWindow, h]
@[simp] theorem millWaited_closeWindow (s : State) (t : Nat) : (s.closeWindow t).millWaited = s.millWaited := by
  obtain ⟨cl, h | h⟩ := senseOne_eq s t <;> simp [State.closeWindow, h]
@[simp] theorem houses_closeWindow (s : State) (t : Nat) : (s.closeWindow t).houses = s.houses := by
  obtain ⟨cl, h | h⟩ := senseOne_eq s t <;> simp [State.closeWindow, h]
@[simp] theorem staged_closeWindow (s : State) (t : Nat) : (s.closeWindow t).staged = s.staged := by
  obtain ⟨cl, h | h⟩ := senseOne_eq s t <;> simp [State.closeWindow, h]
@[simp] theorem ways_closeWindow (s : State) (t : Nat) : (s.closeWindow t).ways = s.ways := by
  obtain ⟨cl, h | h⟩ := senseOne_eq s t <;> simp [State.closeWindow, h]
@[simp] theorem leaving_closeWindow (s : State) (t : Nat) : (s.closeWindow t).leaving = s.leaving := by
  obtain ⟨cl, h | h⟩ := senseOne_eq s t <;> simp [State.closeWindow, h]
@[simp] theorem sharedEdges_closeWindow (s : State) (t : Nat) : (s.closeWindow t).sharedEdges = s.sharedEdges := by
  obtain ⟨cl, h | h⟩ := senseOne_eq s t <;> simp [State.closeWindow, h]
@[simp] theorem chutes_closeWindow (s : State) (t : Nat) : (s.closeWindow t).chutes = s.chutes := by
  obtain ⟨cl, h | h⟩ := senseOne_eq s t <;> simp [State.closeWindow, h]
@[simp] theorem hoppers_closeWindow (s : State) (t : Nat) : (s.closeWindow t).hoppers = s.hoppers := by
  obtain ⟨cl, h | h⟩ := senseOne_eq s t <;> simp [State.closeWindow, h]
@[simp] theorem chans_closeWindow (s : State) (t : Nat) : (s.closeWindow t).chans = s.chans := by
  obtain ⟨cl, h | h⟩ := senseOne_eq s t <;> simp [State.closeWindow, h]
@[simp] theorem power_closeWindow (s : State) (t : Nat) : (s.closeWindow t).power = s.power := by
  obtain ⟨cl, h | h⟩ := senseOne_eq s t <;> simp [State.closeWindow, h]
@[simp] theorem flash_closeWindow (s : State) (t : Nat) : (s.closeWindow t).flash = s.flash := by
  obtain ⟨cl, h | h⟩ := senseOne_eq s t <;> simp [State.closeWindow, h]
@[simp] theorem wear_closeWindow (s : State) (t : Nat) : (s.closeWindow t).wear = s.wear := by
  obtain ⟨cl, h | h⟩ := senseOne_eq s t <;> simp [State.closeWindow, h]
@[simp] theorem tap_closeWindow (s : State) (t : Nat) : (s.closeWindow t).tap = s.tap := by
  obtain ⟨cl, h | h⟩ := senseOne_eq s t <;> simp [State.closeWindow, h]
@[simp] theorem sealQ_closeWindow (s : State) (t : Nat) : (s.closeWindow t).sealQ = s.sealQ := by
  obtain ⟨cl, h | h⟩ := senseOne_eq s t <;> simp [State.closeWindow, h]
@[simp] theorem out_closeWindow (s : State) (t : Nat) : (s.closeWindow t).out = s.out := by
  obtain ⟨cl, h | h⟩ := senseOne_eq s t <;> simp [State.closeWindow, h]
@[simp] theorem picks_closeWindow (s : State) (t : Nat) : (s.closeWindow t).picks = s.picks := by
  obtain ⟨cl, h | h⟩ := senseOne_eq s t <;> simp [State.closeWindow, h]

/-- What retirement leaves of the Tiller: the step to the next instruction, and the claim stack. -/
theorem retire_tiller (s : State) (t n : Nat) :
    ∃ cl, (s.retire t n).tiller t = { (s.tiller t).advance with emptyWin := none, claims := cl } := by
  obtain ⟨cl, h⟩ := closeWindow_tiller (s.modTiller t Tiller.advance) t
  exact ⟨cl, by simp only [State.retire, tiller_topDown, tiller_mark, h, tiller_modTiller, if_pos]⟩

/-- Retirement leaves every other Tiller. -/
theorem retire_tiller_ne (s : State) (t n u : Nat) (h : u ≠ t) : (s.retire t n).tiller u = s.tiller u := by
  simp only [State.retire, tiller_topDown, tiller_mark, closeWindow_tiller_ne _ _ _ h, tiller_modTiller, if_neg h]

@[simp] theorem pending_retire (s : State) (t n : Nat) : (s.retire t n).pending = s.pending := by
  simp only [State.retire, pending_topDown, pending_mark, pending_closeWindow, pending_modTiller]
@[simp] theorem dtime_retire (s : State) (t n : Nat) : (s.retire t n).dtime = s.dtime := by
  simp only [State.retire, dtime_topDown, dtime_mark, dtime_closeWindow, dtime_modTiller]
@[simp] theorem termAt_retire (s : State) (t n : Nat) : (s.retire t n).termAt = s.termAt := by
  simp only [State.retire, termAt_topDown, termAt_mark, termAt_closeWindow, termAt_modTiller]
@[simp] theorem mem_retire (s : State) (t n : Nat) : (s.retire t n).mem = s.mem := by
  simp only [State.retire, mem_topDown, mem_mark, mem_closeWindow, mem_modTiller]
@[simp] theorem poison_retire (s : State) (t n : Nat) : (s.retire t n).poison = s.poison := by
  simp only [State.retire, poison_topDown, poison_mark, poison_closeWindow, poison_modTiller]
@[simp] theorem l2_retire (s : State) (t n : Nat) : (s.retire t n).l2 = s.l2 := by
  simp only [State.retire, l2_topDown, l2_mark, l2_closeWindow, l2_modTiller]
@[simp] theorem granary_retire (s : State) (t n : Nat) : (s.retire t n).granary = s.granary := by
  simp only [State.retire, granary_topDown, granary_mark, granary_closeWindow, granary_modTiller]
@[simp] theorem tb_retire (s : State) (t n : Nat) : (s.retire t n).tb = s.tb := by
  simp only [State.retire, tb_topDown, tb_mark, tb_closeWindow, tb_modTiller]
@[simp] theorem avs_retire (s : State) (t n : Nat) : (s.retire t n).avs = s.avs := by
  simp only [State.retire, avs_topDown, avs_mark, avs_closeWindow, avs_modTiller]
@[simp] theorem ports_retire (s : State) (t n : Nat) : (s.retire t n).ports = s.ports := by
  simp only [State.retire, ports_topDown, ports_mark, ports_closeWindow, ports_modTiller]
@[simp] theorem fns_retire (s : State) (t n : Nat) : (s.retire t n).fns = s.fns := by
  simp only [State.retire, fns_topDown, fns_mark, fns_closeWindow, fns_modTiller]
@[simp] theorem stepQ_retire (s : State) (t n : Nat) : (s.retire t n).stepQ = s.stepQ := by
  simp only [State.retire, stepQ_topDown, stepQ_mark, stepQ_closeWindow, stepQ_modTiller]
@[simp] theorem slates_retire (s : State) (t n : Nat) : (s.retire t n).slates = s.slates := by
  simp only [State.retire, slates_topDown, slates_mark, slates_closeWindow, slates_modTiller]
@[simp] theorem lanes_retire (s : State) (t n : Nat) : (s.retire t n).lanes = s.lanes := by
  simp only [State.retire, lanes_topDown, lanes_mark, lanes_closeWindow, lanes_modTiller]
@[simp] theorem poolQ_retire (s : State) (t n : Nat) : (s.retire t n).poolQ = s.poolQ := by
  simp only [State.retire, poolQ_topDown, poolQ_mark, poolQ_closeWindow, poolQ_modTiller]
@[simp] theorem supers_retire (s : State) (t n : Nat) : (s.retire t n).supers = s.supers := by
  simp only [State.retire, supers_topDown, supers_mark, supers_closeWindow, supers_modTiller]
@[simp] theorem symSlots_retire (s : State) (t n : Nat) : (s.retire t n).symSlots = s.symSlots := by
  simp only [State.retire, symSlots_topDown, symSlots_mark, symSlots_closeWindow, symSlots_modTiller]
@[simp] theorem asymSlots_retire (s : State) (t n : Nat) : (s.retire t n).asymSlots = s.asymSlots := by
  simp only [State.retire, asymSlots_topDown, asymSlots_mark, asymSlots_closeWindow, asymSlots_modTiller]
@[simp] theorem dev_retire (s : State) (t n : Nat) : (s.retire t n).dev = s.dev := by
  simp only [State.retire, dev_topDown, dev_mark, dev_closeWindow, dev_modTiller]
@[simp] theorem ownerCtr_retire (s : State) (t n : Nat) : (s.retire t n).ownerCtr = s.ownerCtr := by
  simp only [State.retire, ownerCtr_topDown, ownerCtr_mark, ownerCtr_closeWindow, ownerCtr_modTiller]
@[simp] theorem rekeyAt_retire (s : State) (t n : Nat) : (s.retire t n).rekeyAt = s.rekeyAt := by
  simp only [State.retire, rekeyAt_topDown, rekeyAt_mark, rekeyAt_closeWindow, rekeyAt_modTiller]
@[simp] theorem symCache_retire (s : State) (t n : Nat) : (s.retire t n).symCache = s.symCache := by
  simp only [State.retire, symCache_topDown, symCache_mark, symCache_closeWindow, symCache_modTiller]
@[simp] theorem asymCache_retire (s : State) (t n : Nat) : (s.retire t n).asymCache = s.asymCache := by
  simp only [State.retire, asymCache_topDown, asymCache_mark, asymCache_closeWindow, asymCache_modTiller]
@[simp] theorem cards_retire (s : State) (t n : Nat) : (s.retire t n).cards = s.cards := by
  simp only [State.retire, cards_topDown, cards_mark, cards_closeWindow, cards_modTiller]
@[simp] theorem entropy_retire (s : State) (t n : Nat) : (s.retire t n).entropy = s.entropy := by
  simp only [State.retire, entropy_topDown, entropy_mark, entropy_closeWindow, entropy_modTiller]
@[simp] theorem entPool_retire (s : State) (t n : Nat) : (s.retire t n).entPool = s.entPool := by
  simp only [State.retire, entPool_topDown, entPool_mark, entPool_closeWindow, entPool_modTiller]
@[simp] theorem dramKeys_retire (s : State) (t n : Nat) : (s.retire t n).dramKeys = s.dramKeys := by
  simp only [State.retire, dramKeys_topDown, dramKeys_mark, dramKeys_closeWindow, dramKeys_modTiller]
@[simp] theorem smills_retire (s : State) (t n : Nat) : (s.retire t n).smills = s.smills := by
  simp only [State.retire, smills_topDown, smills_mark, smills_closeWindow, smills_modTiller]
@[simp] theorem pmills_retire (s : State) (t n : Nat) : (s.retire t n).pmills = s.pmills := by
  simp only [State.retire, pmills_topDown, pmills_mark, pmills_closeWindow, pmills_modTiller]
@[simp] theorem millQ_retire (s : State) (t n : Nat) : (s.retire t n).millQ = s.millQ := by
  simp only [State.retire, millQ_topDown, millQ_mark, millQ_closeWindow, millQ_modTiller]
@[simp] theorem millOwn_retire (s : State) (t n : Nat) : (s.retire t n).millOwn = s.millOwn := by
  simp only [State.retire, millOwn_topDown, millOwn_mark, millOwn_closeWindow, millOwn_modTiller]
@[simp] theorem millLoans_retire (s : State) (t n : Nat) : (s.retire t n).millLoans = s.millLoans := by
  simp only [State.retire, millLoans_topDown, millLoans_mark, millLoans_closeWindow, millLoans_modTiller]
@[simp] theorem millUsed_retire (s : State) (t n : Nat) : (s.retire t n).millUsed = s.millUsed := by
  simp only [State.retire, millUsed_topDown, millUsed_mark, millUsed_closeWindow, millUsed_modTiller]
@[simp] theorem millWaited_retire (s : State) (t n : Nat) : (s.retire t n).millWaited = s.millWaited := by
  simp only [State.retire, millWaited_topDown, millWaited_mark, millWaited_closeWindow, millWaited_modTiller]
@[simp] theorem houses_retire (s : State) (t n : Nat) : (s.retire t n).houses = s.houses := by
  simp only [State.retire, houses_topDown, houses_mark, houses_closeWindow, houses_modTiller]
@[simp] theorem staged_retire (s : State) (t n : Nat) : (s.retire t n).staged = s.staged := by
  simp only [State.retire, staged_topDown, staged_mark, staged_closeWindow, staged_modTiller]
@[simp] theorem ways_retire (s : State) (t n : Nat) : (s.retire t n).ways = s.ways := by
  simp only [State.retire, ways_topDown, ways_mark, ways_closeWindow, ways_modTiller]
@[simp] theorem leaving_retire (s : State) (t n : Nat) : (s.retire t n).leaving = s.leaving := by
  simp only [State.retire, leaving_topDown, leaving_mark, leaving_closeWindow, leaving_modTiller]
@[simp] theorem sharedEdges_retire (s : State) (t n : Nat) : (s.retire t n).sharedEdges = s.sharedEdges := by
  simp only [State.retire, sharedEdges_topDown, sharedEdges_mark, sharedEdges_closeWindow, sharedEdges_modTiller]
@[simp] theorem chutes_retire (s : State) (t n : Nat) : (s.retire t n).chutes = s.chutes := by
  simp only [State.retire, chutes_topDown, chutes_mark, chutes_closeWindow, chutes_modTiller]
@[simp] theorem hoppers_retire (s : State) (t n : Nat) : (s.retire t n).hoppers = s.hoppers := by
  simp only [State.retire, hoppers_topDown, hoppers_mark, hoppers_closeWindow, hoppers_modTiller]
@[simp] theorem chans_retire (s : State) (t n : Nat) : (s.retire t n).chans = s.chans := by
  simp only [State.retire, chans_topDown, chans_mark, chans_closeWindow, chans_modTiller]
@[simp] theorem power_retire (s : State) (t n : Nat) : (s.retire t n).power = s.power := by
  simp only [State.retire, power_topDown, power_mark, power_closeWindow, power_modTiller]
@[simp] theorem flash_retire (s : State) (t n : Nat) : (s.retire t n).flash = s.flash := by
  simp only [State.retire, flash_topDown, flash_mark, flash_closeWindow, flash_modTiller]
@[simp] theorem wear_retire (s : State) (t n : Nat) : (s.retire t n).wear = s.wear := by
  simp only [State.retire, wear_topDown, wear_mark, wear_closeWindow, wear_modTiller]
@[simp] theorem tap_retire (s : State) (t n : Nat) : (s.retire t n).tap = s.tap := by
  simp only [State.retire, tap_topDown, tap_mark, tap_closeWindow, tap_modTiller]
@[simp] theorem sealQ_retire (s : State) (t n : Nat) : (s.retire t n).sealQ = s.sealQ := by
  simp only [State.retire, sealQ_topDown, sealQ_mark, sealQ_closeWindow, sealQ_modTiller]
@[simp] theorem out_retire (s : State) (t n : Nat) : (s.retire t n).out = s.out := by
  simp only [State.retire, out_topDown, out_mark, out_closeWindow, out_modTiller]
@[simp] theorem picks_retire (s : State) (t n : Nat) : (s.retire t n).picks = s.picks := by
  simp only [State.retire, picks_topDown, picks_mark, picks_closeWindow, picks_modTiller]

/-! Fields of the Tiller that retirement leaves. -/

@[simp] theorem tiller_g_retire (s : State) (t n : Nat) : ((s.retire t n).tiller t).g = (s.tiller t).g := by
  obtain ⟨cl, h⟩ := retire_tiller s t n
  rw [h]; rfl
@[simp] theorem tiller_ring_retire (s : State) (t n : Nat) : ((s.retire t n).tiller t).ring = (s.tiller t).ring := by
  obtain ⟨cl, h⟩ := retire_tiller s t n
  rw [h]; rfl
@[simp] theorem tiller_carrel_retire (s : State) (t n : Nat) : ((s.retire t n).tiller t).carrel = (s.tiller t).carrel := by
  obtain ⟨cl, h⟩ := retire_tiller s t n
  rw [h]; rfl
@[simp] theorem tiller_cause_retire (s : State) (t n : Nat) : ((s.retire t n).tiller t).cause = (s.tiller t).cause := by
  obtain ⟨cl, h⟩ := retire_tiller s t n
  rw [h]; rfl
@[simp] theorem tiller_epc_retire (s : State) (t n : Nat) : ((s.retire t n).tiller t).epc = (s.tiller t).epc := by
  obtain ⟨cl, h⟩ := retire_tiller s t n
  rw [h]; rfl
@[simp] theorem tiller_entry_retire (s : State) (t n : Nat) : ((s.retire t n).tiller t).entry = (s.tiller t).entry := by
  obtain ⟨cl, h⟩ := retire_tiller s t n
  rw [h]; rfl
@[simp] theorem tiller_sp_retire (s : State) (t n : Nat) : ((s.retire t n).tiller t).sp = (s.tiller t).sp := by
  obtain ⟨cl, h⟩ := retire_tiller s t n
  rw [h]; rfl
@[simp] theorem tiller_maskOpen_retire (s : State) (t n : Nat) : ((s.retire t n).tiller t).maskOpen = (s.tiller t).maskOpen := by
  obtain ⟨cl, h⟩ := retire_tiller s t n
  rw [h]; rfl
@[simp] theorem tiller_maskSecure_retire (s : State) (t n : Nat) : ((s.retire t n).tiller t).maskSecure = (s.tiller t).maskSecure := by
  obtain ⟨cl, h⟩ := retire_tiller s t n
  rw [h]; rfl
@[simp] theorem tiller_predEn_retire (s : State) (t n : Nat) : ((s.retire t n).tiller t).predEn = (s.tiller t).predEn := by
  obtain ⟨cl, h⟩ := retire_tiller s t n
  rw [h]; rfl
@[simp] theorem tiller_arith_retire (s : State) (t n : Nat) : ((s.retire t n).tiller t).arith = (s.tiller t).arith := by
  obtain ⟨cl, h⟩ := retire_tiller s t n
  rw [h]; rfl
@[simp] theorem tiller_ptOpen_retire (s : State) (t n : Nat) : ((s.retire t n).tiller t).ptOpen = (s.tiller t).ptOpen := by
  obtain ⟨cl, h⟩ := retire_tiller s t n
  rw [h]; rfl
@[simp] theorem tiller_ptSecure_retire (s : State) (t n : Nat) : ((s.retire t n).tiller t).ptSecure = (s.tiller t).ptSecure := by
  obtain ⟨cl, h⟩ := retire_tiller s t n
  rw [h]; rfl
@[simp] theorem tiller_carrelCsr_retire (s : State) (t n : Nat) : ((s.retire t n).tiller t).carrelCsr = (s.tiller t).carrelCsr := by
  obtain ⟨cl, h⟩ := retire_tiller s t n
  rw [h]; rfl
@[simp] theorem tiller_openEn_retire (s : State) (t n : Nat) : ((s.retire t n).tiller t).openEn = (s.tiller t).openEn := by
  obtain ⟨cl, h⟩ := retire_tiller s t n
  rw [h]; rfl
@[simp] theorem tiller_pendCsr_retire (s : State) (t n : Nat) : ((s.retire t n).tiller t).pendCsr = (s.tiller t).pendCsr := by
  obtain ⟨cl, h⟩ := retire_tiller s t n
  rw [h]; rfl
@[simp] theorem tiller_sb_retire (s : State) (t n : Nat) : ((s.retire t n).tiller t).sb = (s.tiller t).sb := by
  obtain ⟨cl, h⟩ := retire_tiller s t n
  rw [h]; rfl
@[simp] theorem tiller_posted_retire (s : State) (t n : Nat) : ((s.retire t n).tiller t).posted = (s.tiller t).posted := by
  obtain ⟨cl, h⟩ := retire_tiller s t n
  rw [h]; rfl
@[simp] theorem tiller_fenceNo_retire (s : State) (t n : Nat) : ((s.retire t n).tiller t).fenceNo = (s.tiller t).fenceNo := by
  obtain ⟨cl, h⟩ := retire_tiller s t n
  rw [h]; rfl
@[simp] theorem tiller_overlap_retire (s : State) (t n : Nat) : ((s.retire t n).tiller t).overlap = (s.tiller t).overlap := by
  obtain ⟨cl, h⟩ := retire_tiller s t n
  rw [h]; rfl
@[simp] theorem tiller_overFrames_retire (s : State) (t n : Nat) : ((s.retire t n).tiller t).overFrames = (s.tiller t).overFrames := by
  obtain ⟨cl, h⟩ := retire_tiller s t n
  rw [h]; rfl
@[simp] theorem tiller_tlb_retire (s : State) (t n : Nat) : ((s.retire t n).tiller t).tlb = (s.tiller t).tlb := by
  obtain ⟨cl, h⟩ := retire_tiller s t n
  rw [h]; rfl
@[simp] theorem tiller_pred_retire (s : State) (t n : Nat) : ((s.retire t n).tiller t).pred = (s.tiller t).pred := by
  obtain ⟨cl, h⟩ := retire_tiller s t n
  rw [h]; rfl
@[simp] theorem tiller_fq_retire (s : State) (t n : Nat) : ((s.retire t n).tiller t).fq = (s.tiller t).fq := by
  obtain ⟨cl, h⟩ := retire_tiller s t n
  rw [h]; rfl
@[simp] theorem tiller_icache_retire (s : State) (t n : Nat) : ((s.retire t n).tiller t).icache = (s.tiller t).icache := by
  obtain ⟨cl, h⟩ := retire_tiller s t n
  rw [h]; rfl
@[simp] theorem tiller_dcache_retire (s : State) (t n : Nat) : ((s.retire t n).tiller t).dcache = (s.tiller t).dcache := by
  obtain ⟨cl, h⟩ := retire_tiller s t n
  rw [h]; rfl
@[simp] theorem tiller_stall_retire (s : State) (t n : Nat) : ((s.retire t n).tiller t).stall = (s.tiller t).stall := by
  obtain ⟨cl, h⟩ := retire_tiller s t n
  rw [h]; rfl
@[simp] theorem tiller_dflag_retire (s : State) (t n : Nat) : ((s.retire t n).tiller t).dflag = (s.tiller t).dflag := by
  obtain ⟨cl, h⟩ := retire_tiller s t n
  rw [h]; rfl
@[simp] theorem tiller_dflagAt_retire (s : State) (t n : Nat) : ((s.retire t n).tiller t).dflagAt = (s.tiller t).dflagAt := by
  obtain ⟨cl, h⟩ := retire_tiller s t n
  rw [h]; rfl
@[simp] theorem tiller_dring_retire (s : State) (t n : Nat) : ((s.retire t n).tiller t).dring = (s.tiller t).dring := by
  obtain ⟨cl, h⟩ := retire_tiller s t n
  rw [h]; rfl
@[simp] theorem tiller_keptMask_retire (s : State) (t n : Nat) : ((s.retire t n).tiller t).keptMask = (s.tiller t).keptMask := by
  obtain ⟨cl, h⟩ := retire_tiller s t n
  rw [h]; rfl
@[simp] theorem tiller_emptyCount_retire (s : State) (t n : Nat) : ((s.retire t n).tiller t).emptyCount = (s.tiller t).emptyCount := by
  obtain ⟨cl, h⟩ := retire_tiller s t n
  rw [h]; rfl
@[simp] theorem tiller_why_retire (s : State) (t n : Nat) : ((s.retire t n).tiller t).why = (s.tiller t).why := by
  obtain ⟨cl, h⟩ := retire_tiller s t n
  rw [h]; rfl
@[simp] theorem tiller_holdDue_retire (s : State) (t n : Nat) : ((s.retire t n).tiller t).holdDue = (s.tiller t).holdDue := by
  obtain ⟨cl, h⟩ := retire_tiller s t n
  rw [h]; rfl
@[simp] theorem tiller_edges_retire (s : State) (t n : Nat) : ((s.retire t n).tiller t).edges = (s.tiller t).edges := by
  obtain ⟨cl, h⟩ := retire_tiller s t n
  rw [h]; rfl
@[simp] theorem tiller_slots_retire (s : State) (t n : Nat) : ((s.retire t n).tiller t).slots = (s.tiller t).slots := by
  obtain ⟨cl, h⟩ := retire_tiller s t n
  rw [h]; rfl
@[simp] theorem tiller_millSeq_retire (s : State) (t n : Nat) : ((s.retire t n).tiller t).millSeq = (s.tiller t).millSeq := by
  obtain ⟨cl, h⟩ := retire_tiller s t n
  rw [h]; rfl
@[simp] theorem tiller_ans_retire (s : State) (t n : Nat) : ((s.retire t n).tiller t).ans = (s.tiller t).ans := by
  obtain ⟨cl, h⟩ := retire_tiller s t n
  rw [h]; rfl
@[simp] theorem tiller_cancel_retire (s : State) (t n : Nat) : ((s.retire t n).tiller t).cancel = (s.tiller t).cancel := by
  obtain ⟨cl, h⟩ := retire_tiller s t n
  rw [h]; rfl
@[simp] theorem tiller_halted_retire (s : State) (t n : Nat) : ((s.retire t n).tiller t).halted = (s.tiller t).halted := by
  obtain ⟨cl, h⟩ := retire_tiller s t n
  rw [h]; rfl
@[simp] theorem tiller_dbgHalt_retire (s : State) (t n : Nat) : ((s.retire t n).tiller t).dbgHalt = (s.tiller t).dbgHalt := by
  obtain ⟨cl, h⟩ := retire_tiller s t n
  rw [h]; rfl
@[simp] theorem tiller_breaks_retire (s : State) (t n : Nat) : ((s.retire t n).tiller t).breaks = (s.tiller t).breaks := by
  obtain ⟨cl, h⟩ := retire_tiller s t n
  rw [h]; rfl
@[simp] theorem tiller_pcall_retire (s : State) (t n : Nat) : ((s.retire t n).tiller t).pcall = (s.tiller t).pcall := by
  obtain ⟨cl, h⟩ := retire_tiller s t n
  rw [h]; rfl
@[simp] theorem tiller_pos_retire (s : State) (t n : Nat) : ((s.retire t n).tiller t).pos = (s.tiller t).pos := by
  obtain ⟨cl, h⟩ := retire_tiller s t n
  rw [h]; rfl
@[simp] theorem tiller_mcheck_retire (s : State) (t n : Nat) : ((s.retire t n).tiller t).mcheck = (s.tiller t).mcheck := by
  obtain ⟨cl, h⟩ := retire_tiller s t n
  rw [h]; rfl
@[simp] theorem tiller_term_retire (s : State) (t n : Nat) : ((s.retire t n).tiller t).term = (s.tiller t).term := by
  obtain ⟨cl, h⟩ := retire_tiller s t n
  rw [h]; rfl
@[simp] theorem tiller_on_retire (s : State) (t n : Nat) : ((s.retire t n).tiller t).on = (s.tiller t).on := by
  obtain ⟨cl, h⟩ := retire_tiller s t n
  rw [h]; rfl

@[simp] theorem tiller_pc_retire (s : State) (t n : Nat) :
    ((s.retire t n).tiller t).pc = (s.tiller t).dslot.getD ((s.tiller t).pc + 4) := by
  obtain ⟨cl, h⟩ := retire_tiller s t n
  rw [h]; rfl
@[simp] theorem tiller_dslot_retire (s : State) (t n : Nat) : ((s.retire t n).tiller t).dslot = none := by
  obtain ⟨cl, h⟩ := retire_tiller s t n
  rw [h]; rfl
@[simp] theorem gr_retire (s : State) (t n : Nat) (r : Fin 32) : (s.retire t n).gr t r = s.gr t r := by
  simp only [State.gr, Tiller.get, tiller_g_retire]

end Sys2Proof.Laws
end

