-- ==== Sys2Proof/Laws/Instr.lean ====
section
/-! SUPPORT. An instruction that is ready runs its own effect, and the frames of the shared ways to complete. -/

namespace Sys2Proof.Laws

open Sys2Proof.Machine Sys2Proof.Safety

/-- A ready instruction that may stand where it stands runs its own effect. -/
theorem instr_ready {s : State} {t : Nat} (h : Ready s t) (ok : Bool) (f : State → Res)
    (hs : ok = true ∨ (s.tiller t).dslot = none) : s.instr t ok f = (f (started s t)).settle s t := by
  obtain ⟨a, ha⟩ := Option.isSome_iff_exists.1 h.fetched
  have he : s.endWait t = s := by
    unfold State.endWait
    rw [if_neg]
    rintro ⟨h1, -⟩
    rw [h.free] at h1
    exact absurd h1 (by simp)
  have hf : s.fetch t = .done s := by
    unfold State.fetch
    simp only [ha]
  have hc : s.enterCarrel t = .done (started s t) := by
    unfold State.enterCarrel started
    cases hn : s.nowIn t with
    | none => rfl
    | some c => simp only [h.entry c hn, if_true]
  have hk : (started s t).slotCheck t ok = .done (started s t) := by
    unfold State.slotCheck started
    simp only [tiller_modTiller, if_true]
    rw [if_neg]
    rcases hs with hs | hs <;> simp [hs]
  unfold State.instr
  rw [if_pos h.runs, he]
  simp only [h.free, if_true, h.due, hf, Res.andThen, hc, hk]

@[simp] theorem started_tiller (s : State) (t : Nat) :
    (started s t).tiller t = { s.tiller t with carrel := s.nowIn t } := by
  simp [started]

theorem started_tiller_ne (s : State) (t u : Nat) (h : u ≠ t) : (started s t).tiller u = s.tiller u := by
  simp [started, h]

@[simp] theorem started_gr (s : State) (t : Nat) (r : Fin 32) : (started s t).gr t r = s.gr t r := by
  simp [State.gr, Tiller.get]

/-- Retirement changes no register but the Marks counters. -/
theorem rd_countMark (s : State) (a b n : Nat) (h : b ≠ a) : (s.countMark a n).rd b = s.rd b := by
  unfold State.countMark
  dsimp only
  split <;> simp [h]

theorem rd_mark (s : State) (t r ev n a : Nat) (h : ¬ IsMark a) : (s.mark t r ev n).rd a = s.rd a := by
  unfold State.mark
  refine foldl_keeps (fun s' => s'.rd a = s.rd a) _ ?_ _ _ rfl
  intro s' i hs
  have h1 : a ≠ Reg.mkoCnt (s.tiller t).pos i := fun e => h ⟨_, i, .inl e⟩
  have h2 : a ≠ Reg.mksCnt (s.tiller t).pos i := fun e => h ⟨_, i, .inr (.inl e)⟩
  dsimp only
  split <;> split <;> simp only [rd_countMark _ _ _ _ h1, rd_countMark _ _ _ _ h2, hs]

theorem rd_topDown (s : State) (t r k n a : Nat) (h : ¬ IsMark a) : (s.topDown t r k n).rd a = s.rd a := by
  unfold State.topDown
  dsimp only
  rw [rd_mark _ _ _ _ _ _ h, rd_countMark]
  split
  · exact fun e => h ⟨_, k, .inr (.inr (.inr e))⟩
  · exact fun e => h ⟨_, k, .inr (.inr (.inl e))⟩

theorem rd_closeWindow (s : State) (t a : Nat) : (s.closeWindow t).rd a = s.rd a := by
  obtain ⟨cl, h | h⟩ := senseOne_eq s t <;> simp [State.closeWindow, h]

theorem rd_retire (s : State) (t n a : Nat) (h : ¬ IsMark a) : (s.retire t n).rd a = s.rd a := by
  unfold State.retire
  rw [rd_topDown _ _ _ _ _ _ h, rd_mark _ _ _ _ _ _ h, rd_closeWindow]
  rfl

/-! ### Frames -/

theorem retire_outside (s0 s : State) (t n : Nat) (h : OutsideSame s0 s t) : OutsideSame s0 (s.retire t n) t where
  mem := by intro b; simpa using h.mem b
  others := by intro u hu; rw [retire_tiller_ne _ _ _ _ hu]; exact h.others u hu
  regs := by intro a ha; rw [rd_retire _ _ _ _ ha]; exact h.regs a ha
  dtime := by simpa using h.dtime
  slates := by simpa using h.slates
  houses := by simpa using h.houses
  fns := by simpa using h.fns
  chutes := by simpa using h.chutes
  hoppers := by simpa using h.hoppers
  chans := by simpa using h.chans
  flash := by simpa using h.flash
  keys := by simpa using h.keys
  caches := by simpa using h.caches
  power := by simpa using h.power
  out := by simpa using h.out

theorem modTiller_outside (s0 s : State) (t : Nat) (f : Tiller → Tiller) (h : OutsideSame s0 s t) :
    OutsideSame s0 (s.modTiller t f) t where
  mem := h.mem
  others := by intro u hu; simpa [hu] using h.others u hu
  regs := h.regs
  dtime := h.dtime
  slates := h.slates
  houses := h.houses
  fns := h.fns
  chutes := h.chutes
  hoppers := h.hoppers
  chans := h.chans
  flash := h.flash
  keys := h.keys
  caches := h.caches
  power := h.power
  out := h.out

theorem refl_outside (s : State) (t : Nat) : OutsideSame s s t :=
  ⟨fun _ => rfl, fun _ _ => rfl, fun _ _ => rfl, rfl, rfl, rfl, rfl, rfl, rfl, rfl, rfl, ⟨rfl, rfl, rfl⟩, ⟨rfl, rfl⟩, rfl, rfl⟩

/-- A register write touches the general registers only. -/
theorem put_eq (x : Tiller) (r : Fin 32) (v : Word) : ∃ g, x.put r v = { x with g := g } := by
  unfold Tiller.put; split
  · exact ⟨x.g, rfl⟩
  · exact ⟨_, rfl⟩

theorem tiller_get_put (x : Tiller) (r q : Fin 32) (v : Word) :
    (x.put r v).get q = if q = 0 then 0 else if q = r then v else x.get q := by
  unfold Tiller.put Tiller.get
  by_cases hq : q = 0
  · simp [hq]
  · by_cases hr : r = 0
    · have : ¬ q = r := by rw [hr]; exact hq
      simp [hq, hr]
    · by_cases h : q = r
      · subst h; simp [hr]
      · have h2 : (r : Nat) ≠ q := fun e => h (Fin.ext e.symm)
        simp [hq, hr, h, Vector.getElem_set_ne _ _ h2]

/-- The shared end of a register instruction. -/
theorem result_of (s : State) (t : Nat) (rd : Fin 32) (v : Word) (n : Nat) (F : Tiller → Tiller) (ar : Word)
    (hF : F { s.tiller t with carrel := s.nowIn t } = Tiller.put { s.tiller t with carrel := s.nowIn t, arith := ar } rd v) :
    Result (.next (((started s t).modTiller t F).retire t n)) s t rd v ar := by
  have hg : ∀ q, (((started s t).modTiller t F).retire t n).gr t q = if q = 0 then 0 else if q = rd then v else s.gr t q := by
    intro q
    rw [gr_retire, State.gr, tiller_modTiller, if_pos rfl, started_tiller, hF, tiller_get_put]
    rfl
  obtain ⟨g, hp⟩ := put_eq { s.tiller t with carrel := s.nowIn t, arith := ar } rd v
  rw [hp] at hF
  refine ⟨_, rfl, ⟨?_, ?_, ?_⟩, ?_, ?_, ?_, ?_, ?_, ?_⟩
  · intro h; simp [hg, h]
  · simp [hg]
  · intro r hr
    rw [hg, if_neg hr]
    by_cases h0 : r = 0
    · simp [h0, State.gr, Tiller.get]
    · simp [h0]
  · simp [hF, nextPc]
  · simp
  · simp [hF]
  · exact retire_outside _ _ _ _ (modTiller_outside _ _ _ _ (modTiller_outside _ _ _ _ (refl_outside s t)))
  · constructor <;> simp [hF]
  · constructor <;> simp [hF]

end Sys2Proof.Laws
end

