-- ==== Sys2Proof/Machine/Balls.lean ====
section
/-! DEFINITION. The package's balls and the conditions of its rails (R442 to R447, R451, R452, R455, R456). They are
data beside the machine: the rows carry what the balls deliver. -/

namespace Sys2Proof.Machine

/-- Row letters by index, 1 to 42 (Table 16.2). -/
def rowLetters : List String :=
  ["A", "B", "C", "D", "E", "F", "G", "H", "J", "K", "L", "M", "N", "P", "T", "U", "V", "W", "Y"] ++
  ["AA", "AB", "AC", "AD", "AE", "AF", "AG", "AH", "AJ", "AK", "AL", "AM", "AN", "AP", "AT", "AU", "AV", "AW", "AY"] ++
  ["BA", "BB", "BC", "BD"]

/-- What a ball carries (Table 16.3). -/
inductive Ball where
  | pcie (name : String)
  | ddr (name : String)
  | other (name : String)
  | vcore
  | vedge
  | vaon
  | rsvd
  | vphy085
  | vphy12
  | vddq
  | vio
  | vppFuse
  | gnd
  deriving DecidableEq, Repr

/-- The core region: rows 9 to 34 and columns 10 to 33 (R444). -/
def coreBall (i c : Nat) : Ball :=
  if (i + c) % 2 = 0 then .gnd
  else if i ≤ 11 ∨ 33 ≤ i then .vedge
  else if i = 12 ∧ 11 ≤ c ∧ c ≤ 21 then .vaon
  else if i = 12 ∧ 23 ≤ c then .rsvd
  else .vcore

/-- A differential pair at columns 3l and 3l + 1 of a port, and ground beside it (Table 16.4). -/
def lanePair (port : String) (kind : String) (o : Nat) : Ball :=
  let l := toString (o / 3)
  if o % 3 = 0 then .pcie (port ++ kind ++ l ++ "_P") else if o % 3 = 1 then .pcie (port ++ kind ++ l ++ "_N") else .gnd

/-- The PCIe regions: rows 1 to 6 and 37 to 42, columns 10 to 33 (R445). `r` is 0 for the row at the edge. -/
def pcieBall (r : Nat) (bottom : Bool) (c : Nat) : Ball :=
  let right := decide (22 ≤ c)
  let o := if right then c - 22 else c - 10
  let n := (if bottom then 2 else 0) + (if right then 1 else 0)
  let p := "P" ++ toString n ++ "_"
  match r with
  | 0 => lanePair p "TX" o
  | 2 => lanePair p "RX" o
  | 4 => match o with
    | 0 => .pcie (p ++ "REFCLK_P")
    | 1 => .pcie (p ++ "REFCLK_N")
    | 3 => .pcie (p ++ "PERST#")
    | 4 => .pcie (p ++ "CLKREQ#")
    | 5 => .pcie (p ++ "WAKE#")
    | 6 => .pcie (p ++ "CAL")
    | _ => .gnd
  | 5 => if o ≤ 5 then .vphy085 else if o ≤ 9 then .vphy12 else .gnd
  | _ => .gnd

/-- Columns 8 and 9 of a subchannel's row (Table 16.6). -/
def ddrPair (p : String) (k j : Nat) : Ball :=
  let l : List String := match k with
    | 4 => ["DCK_T", "DCK_C"]
    | 5 => ["DCS0_N", "DCS1_N"]
    | 6 => ["DCA0", "DCA1"]
    | 7 => ["DCA2", "DCA3"]
    | 8 => ["DCA4", "DCA5"]
    | 9 => ["DCA6", "DPAR"]
    | _ => []
  match l with
  | [] => .vddq
  | l => .ddr (p ++ l.getD (j - 8) "")

/-- Relative row `k` and column `j` of a subchannel (Table 16.6). -/
def subBall (p : String) (k j : Nat) : Ball :=
  let bit (b : Nat) : Ball :=
    .ddr (p ++ (if k ≤ 7 then "DQ" ++ toString (4 * k + b) else "CB" ++ toString (4 * k + b - 32)))
  match j with
  | 1 => bit 0
  | 2 => bit 1
  | 3 => .ddr (p ++ "DQS" ++ toString k ++ "_T")
  | 4 => .ddr (p ++ "DQS" ++ toString k ++ "_C")
  | 5 => bit 2
  | 6 => bit 3
  | 7 => .gnd
  | _ => ddrPair p k j

/-- The common row of a channel (Table 16.6). -/
def commonBall (p : String) (j : Nat) : Ball :=
  match ["ALERT_N", "RESET_N", "SB_SCL", "SB_SDA", "DDR_CAL"][j - 1]? with
  | some s => .ddr (p ++ s)
  | none => .gnd

/-- The DDR5 regions: columns 1 to 9 and 34 to 42 (R446). -/
def ddrBall (i c : Nat) : Ball :=
  let right := decide (34 ≤ c)
  let j := if right then 43 - c else c
  let low := decide (22 ≤ i)
  let n := (if right then 2 else 0) + (if low then 1 else 0)
  let p := "C" ++ toString n ++ "_"
  let q := if low then 42 - i else i - 1
  if q = 20 then commonBall p j
  else if q < 10 then subBall (p ++ "A_") q j
  else subBall (p ++ "B_") (q - 10) j

/-- The signals of rows G, H, AU and AV, from column 10 on (Table 16.7). -/
def otherSignals (i : Nat) : List String :=
  let card (n : String) : List String := ["CLK", "IO", "RST", "VCC_EN", "DET"].map (fun s => "CARD" ++ n ++ "_" ++ s)
  match i with
  | 7 => ["XSPI_CLK", "XSPI_CS_N", "XSPI_DQS", "XSPI_RESET_N"] ++
    (List.range 8).map (fun k => "XSPI_DQ" ++ toString k) ++
    ["PORST_N", "SRST_N", "WAKE_IN", "TREF", "PPS_IN", "PPS_OUT", "AVS_CLK", "AVS_MDATA", "AVS_SDATA"] ++
    ["PMB_SCL", "PMB_SDA", "PMB_ALERT_N"]
  | 8 => ["VCORE_EN", "VCORE_PG", "VCORE_SNS_P", "VCORE_SNS_N", "THERM_A", "THERM_K"]
  | 35 => card "0" ++ card "1" ++
    (List.range 4).flatMap (fun k => ["TMESH_OUT" ++ toString k, "TMESH_IN" ++ toString k]) ++
    (List.range 4).map (fun k => "TSW" ++ toString k)
  | _ => ["TCK", "TMS", "TDI", "TDO", "TRST_N", "TEST_MODE"]

/-- The other-signal regions: rows 7, 8, 35 and 36, columns 10 to 33 (R447). -/
def otherBall (i c : Nat) : Ball :=
  match (otherSignals i)[c - 10]? with
  | some s => .other s
  | none =>
    if (i = 8 ∨ i = 36) ∧ 16 ≤ c ∧ c ≤ 27 then .vio
    else if i = 8 ∧ 28 ≤ c ∧ c ≤ 29 then .vppFuse
    else .gnd

/-- The ball at row index `i` and column `c`, each 1 to 42 (R443). -/
def ballAt (i c : Nat) : Ball :=
  if c ≤ 9 ∨ 34 ≤ c then ddrBall i c
  else if i ≤ 6 then pcieBall (i - 1) false c
  else if 37 ≤ i then pcieBall (42 - i) true c
  else if i ≤ 8 ∨ 35 ≤ i then otherBall i c
  else coreBall i c

/-- Every ball of the package. -/
def balls : List Ball := (List.range 42).flatMap (fun i => (List.range 42).map (fun c => ballAt (i + 1) (c + 1)))

/-! ### Rails (R451, R452, R455, R456) -/

/-- The supply rails. -/
inductive Rail where
  | vcore
  | vedge
  | vaon
  | vphy085
  | vphy12
  | vddq
  | vio
  | vppFuse
  deriving DecidableEq, Repr

/-- Operating limits in units of 0.1 mV (Table 16.10). -/
def Rail.operating (r : Rail) : Nat × Nat :=
  match r with
  | .vcore => (5600, 9000)
  | .vedge => (7760, 8240)
  | .vaon => (7275, 7725)
  | .vphy085 => (8245, 8755)
  | .vphy12 => (11640, 12360)
  | .vddq => (10670, 11330)
  | .vio => (17100, 18900)
  | .vppFuse => (17100, 18900)

/-- Absolute maximum in units of 0.1 mV (Table 16.9). -/
def Rail.absMax (r : Rail) : Nat :=
  match r with
  | .vcore => 10000
  | .vedge => 9500
  | .vaon => 9000
  | .vphy085 => 10000
  | .vphy12 => 14000
  | .vddq => 13000
  | .vio => 21000
  | .vppFuse => 21000

/-- A rail is in range. -/
def Rail.inRange (r : Rail) (v : Nat) : Bool := decide (r.operating.1 ≤ v) && decide (v ≤ r.operating.2)

/-- The supervisor holds PORST_N low for a rail at a value (Table 16.13): it watches VCORE from below, except while
the part has switched VCORE off (R456). -/
def supervisorHolds (r : Rail) (v : Nat) (vcoreOff : Bool) : Bool :=
  match r with
  | .vcore => !vcoreOff && decide (v < r.operating.1)
  | .vedge | .vaon | .vio => !r.inRange v
  | _ => false

end Sys2Proof.Machine
end

