-- ==== Sys2Proof/Tests/Slice0.lean ====
section
/-! SUPPORT. Tests: the checks of WellFormed refuse an ill-formed term each; for every statement, concrete states
and operands that meet its hypotheses, clause by clause; and single steps whose results come from the spec. A
hypothesis on an opaque constant of Config stays a hypothesis of its witness: both of its values are possible. -/

open Sys2Proof Sys2Proof.Machine Sys2Proof.Safety

/-- The time base has run for `n` cycles of 4 ns. -/
def Sys2Proof.Machine.State.cyc (s : State) (n : Nat) : State := { s with tb := { s.tb with cycles := n } }

namespace Sys2Proof.Tests

set_option Elab.async false

/-! ### WellFormed refuses -/

theorem test_wf_ports : (Instr.perstAssert 3).wf = true ∧ (Instr.perstAssert 4).wf = false ∧
    (Instr.packetCommit 4 [] true).wf = false ∧ (Instr.portLinkUp 4).wf = false := by decide +kernel
theorem test_wf_functions : (Instr.functionLevelReset 63).wf = true ∧ (Instr.functionLevelReset 64).wf = false ∧
    (Instr.sqTailWrite 64 0).wf = false ∧ (Instr.ingressAdmit 64 .sq).wf = false := by decide +kernel
theorem test_wf_push : (Instr.pushWindowWrite 1 65535 [0]).wf = true ∧ (Instr.pushWindowWrite 1 65536 [0]).wf = false ∧
    (Instr.pushWindowWrite 0 1048575 [0]).wf = true ∧ (Instr.pushWindowWrite 0 1048576 [0]).wf = false ∧
    (Instr.pushWindowWrite 0 0 []).wf = false := by decide +kernel
theorem test_wf_vectors : (Instr.msixUnmask 0 63).wf = true ∧ (Instr.msixUnmask 0 64).wf = false := by decide +kernel
theorem test_wf_slates : (Instr.timeRead 32767).wf = true ∧ (Instr.timeRead 32768).wf = false ∧
    (Instr.examRelease 32768).wf = false ∧ (Instr.pinXlate 32768).wf = false := by decide +kernel
theorem test_wf_houses : (Instr.bellFire 3).wf = true ∧ (Instr.bellFire 4).wf = false ∧
    (Instr.drbgReseed 4).wf = false := by decide +kernel
theorem test_wf_lanes : (Instr.laneResult 8 3 true).wf = true ∧ (Instr.laneResult 9 0 true).wf = false ∧
    (Instr.laneResult 0 4 true).wf = false := by decide +kernel
theorem test_wf_mills : (Instr.millOperationComplete true 17 .done).wf = true ∧
    (Instr.millOperationComplete true 18 .done).wf = false ∧ (Instr.millOperationComplete false 35 .done).wf = true ∧
    (Instr.millOperationComplete false 36 .done).wf = false := by decide +kernel
theorem test_wf_tillers : (Instr.add 63 1 2 3).wf = true ∧ (Instr.add 64 1 2 3).wf = false ∧
    (Instr.yield 64).wf = false ∧ (Instr.storeBufferDrain 0 8 true).wf = false := by decide +kernel
theorem test_wf_chutes : (Instr.chuteRead 0 1 255 504).wf = true ∧ (Instr.chuteRead 0 1 256 0).wf = false ∧
    (Instr.chuteRead 0 1 0 512).wf = false ∧ (Instr.chuteRead 0 1 0 4).wf = false ∧
    (Instr.icuEoi 0 1 288).wf = false := by decide +kernel
theorem test_wf_keys : (Instr.slotSealComplete true 16383 true).wf = true ∧
    (Instr.slotSealComplete true 16384 true).wf = false ∧ (Instr.slotSealComplete false 131072 true).wf = false ∧
    (Instr.entropySample 3 []).wf = false := by decide +kernel
theorem test_wf_channels : (Instr.dramAlert 4).wf = false ∧ (Instr.refreshWindow 0 4).wf = false ∧
    (Instr.patrolScrub 0 32 .ok).wf = false ∧ (Instr.dramRegionZeroComplete 16).wf = false ∧
    (Instr.granaryWayClearComplete 16).wf = false := by decide +kernel
theorem test_wf_hoppers : (Instr.hopperGo 8 0).wf = false ∧ (Instr.hopperGo 0 16).wf = false := by decide +kernel
theorem test_wf_units : (Instr.handshakeTimeout 187 true).wf = true ∧ (Instr.handshakeTimeout 188 true).wf = false ∧
    (Instr.preservingMarchBurst 72 true).wf = false ∧ (Instr.marchTestComplete .l2 8 0 0 true).wf = false := by decide +kernel
theorem test_wf_registers : (Instr.registerWrite 8 8 0).wf = true ∧ (Instr.registerWrite 4 8 0).wf = false ∧
    (Instr.registerWrite 8 3 0).wf = false := by decide +kernel
theorem test_wf_debug : (Instr.dap (.halt 63)).wf = true ∧ (Instr.dap (.halt 64)).wf = false ∧
    (Instr.dap (.read (2 ^ 48))).wf = false := by decide +kernel
theorem test_wf_boot : (Instr.porstNRelease
    { slots := (none, none), dimms := [], failed := [], perstHigh := [], flash := none, vpp := true }).wf = false := by decide +kernel

/-! ### States -/

/-- The part in service. -/
def up : State :=
  { State.reset with
    power := { State.reset.power with porst := false, vcore := true, vaon := true, service := true } }

/-- Address of the test's instruction, in its Tiller's own Desk. -/
abbrev code : Nat := 0x080000001000

/-- A Tiller with its instruction in the fetch queue. -/
def til (f : Tiller → Tiller) : State :=
  up.modTiller 0 (fun x => f { x with pc := 0x080000001000, fq := [(code, code)] })

/-- A general register of that Tiller. -/
def reg (r : Fin 32) (v : Word) (x : Tiller) : Tiller := x.put r v

/-- The conditions of Ready, for an instruction that is no carrel's. -/
def readyB (s : State) (t : Nat) : Bool :=
  s.tillerRuns t && (s.tiller t).stall == .none && (s.tiller t).due == none && (s.tiller t).curPa.isSome &&
  s.nowIn t == none

theorem ready_of (s : State) (t : Nat) (h : readyB s t = true) : Ready s t := by
  simp only [readyB, Bool.and_eq_true, beq_iff_eq] at h
  obtain ⟨⟨⟨⟨h1, h2⟩, h3⟩, h4⟩, h5⟩ := h
  exact ⟨h1, h2, h3, h4, fun c e => by rw [h5] at e; cases e⟩

theorem test_witness_ready : Ready (til id) 0 := ready_of _ _ (by decide +kernel)

/-- A store waits in the buffer. -/
def entry5 : SbEntry :=
  { line := 0x080000001100, bytes := [(0, 5)], side := false, ewa := false, isOpen := true, grp := 0, size := 0, ring := 0 }

theorem test_witness_carrel_ready :
    ((til (fun x => { x with ring := 3 })).nowIn 0 = none) ∧
    (til (fun x => { x with ring := 3 })).tillerRuns 0 = true := by decide +kernel

/-- A condition on the next state. -/
def after (o : Out) (f : State → Bool) : Bool :=
  match o with
  | .next s => f s
  | _ => false

/-- A Tiller with three registers set. -/
def regs3 (a b c : Word) : State := til (fun x => ((x.put 1 a).put 2 b).put 3 c)

/-! ### The step (log entry 1) -/

theorem test_step_front : after (step (up.setPending [.perstAssert 0, .vaonPowerUp]))
    (fun s => (s.port 0).perstLow && s.pending == [.vaonPowerUp]) = true := by decide +kernel
theorem test_step_idle : after (step up) (fun s => s.dtime == 4 && s.pending == []) = true := by decide +kernel
theorem test_idle_stands : after (step State.reset) (fun s => s.dtime == 0) = true := by decide +kernel
theorem test_idle_slews : after (step { up with tb := { slew := 8, sinceSlew := 65536 } })
    (fun s => s.dtime == 0 && s.tb.slew == 4) = true := by decide +kernel
theorem test_idle_slews_back : after (step { up with tb := { slew := -8, sinceSlew := 65536 } })
    (fun s => s.dtime == 8 && s.tb.slew == -4) = true := by decide +kernel

/-! ### Instructions: results from chapter 9 -/

theorem test_add_wraps : after (exec (.add 0 3 1 2) (regs3 0xFFFFFFFFFFFFFFFF 2 0))
    (fun s => s.gr 0 3 == 1 && (s.tiller 0).pc == 0x080000001004 && (s.tiller 0).arith == 0) = true := by decide +kernel
theorem test_add_overflow_sets : after (exec (.add 0 3 1 2) (regs3 0x7FFFFFFFFFFFFFFF 1 0))
    (fun s => s.gr 0 3 == 0x8000000000000000 && (s.tiller 0).arith == 0x200) = true := by decide +kernel
theorem test_sub_source_is_destination : after (exec (.sub 0 1 1 2) (regs3 5 7 0))
    (fun s => s.gr 0 1 == 0xFFFFFFFFFFFFFFFE) = true := by decide +kernel
theorem test_mul_wraps : after (exec (.mul 0 3 1 2) (regs3 0x8000000000000000 2 0))
    (fun s => s.gr 0 3 == 0 && (s.tiller 0).arith == 0x200) = true := by decide +kernel
theorem test_mulh_signed : after (exec (.mulh 0 3 1 2) (regs3 0xFFFFFFFFFFFFFFFF 2 0))
    (fun s => s.gr 0 3 == 0xFFFFFFFFFFFFFFFF) = true := by decide +kernel
theorem test_mulhu_unsigned : after (exec (.mulhu 0 3 1 2) (regs3 0xFFFFFFFFFFFFFFFF 2 0))
    (fun s => s.gr 0 3 == 1) = true := by decide +kernel
theorem test_sra_shifts_sign : after (exec (.sra 0 3 1 2) (regs3 0x8000000000000000 67 0))
    (fun s => s.gr 0 3 == 0xF000000000000000) = true := by decide +kernel
theorem test_ror_rotates : after (exec (.ror 0 3 1 2) (regs3 1 4 0))
    (fun s => s.gr 0 3 == 0x1000000000000000) = true := by decide +kernel
theorem test_slt_signed : after (exec (.slt 0 3 1 2) (regs3 0xFFFFFFFFFFFFFFFF 0 9)) (fun s => s.gr 0 3 == 1) &&
    after (exec (.sltu 0 3 1 2) (regs3 0xFFFFFFFFFFFFFFFF 0 9)) (fun s => s.gr 0 3 == 0) = true := by decide +kernel
theorem test_div_truncates : after (exec (.div 0 3 1 2) (regs3 0xFFFFFFFFFFFFFFF9 2 0))
    (fun s => s.gr 0 3 == 0xFFFFFFFFFFFFFFFD) = true := by decide +kernel
theorem test_rem_sign : after (exec (.rem 0 3 1 2) (regs3 0xFFFFFFFFFFFFFFF9 2 0))
    (fun s => s.gr 0 3 == 0xFFFFFFFFFFFFFFFF) = true := by decide +kernel
theorem test_div_by_zero : after (exec (.divu 0 3 1 2) (regs3 9 0 0))
    (fun s => s.gr 0 3 == 0xFFFFFFFFFFFFFFFF && (s.tiller 0).arith == 0x100) = true := by decide +kernel
theorem test_div_overflow : after (exec (.div 0 3 1 2) (regs3 0x8000000000000000 0xFFFFFFFFFFFFFFFF 0))
    (fun s => s.gr 0 3 == 0x8000000000000000 && (s.tiller 0).arith == 0x200) = true := by decide +kernel
theorem test_g0_discards : after (exec (.addi 0 0 1 7) (regs3 1 0 0)) (fun s => s.gr 0 0 == 0) = true := by decide +kernel
theorem test_slti_sign_extends : after (exec (.slti 0 3 1 0xFFFF) (regs3 0xFFFFFFFFFFFFFFFE 0 0))
    (fun s => s.gr 0 3 == 1) = true := by decide +kernel
theorem test_andi_zero_extends : after (exec (.andi 0 3 1 0xFFFF) (regs3 0xFFFFFFFFFFFFFFFF 0 0))
    (fun s => s.gr 0 3 == 0xFFFF) = true := by decide +kernel
theorem test_lui_shifts : after (exec (.lui 0 3 0x100000) (regs3 0 0 0))
    (fun s => s.gr 0 3 == 0xFFFFFFF000000000) = true := by decide +kernel
theorem test_beq_taken : after (exec (.beq 0 1 2 false 4) (regs3 7 7 0))
    (fun s => (s.tiller 0).pc == 0x080000001004 && (s.tiller 0).dslot == some 0x080000001010) = true := by decide +kernel
theorem test_bne_annuls : after (exec (.bne 0 1 2 true 4) (regs3 7 7 0))
    (fun s => (s.tiller 0).pc == 0x080000001008 && (s.tiller 0).dslot == none) = true := by decide +kernel
theorem test_blt_signed : after (exec (.blt 0 1 2 false 0x7FFF) (regs3 0xFFFFFFFFFFFFFFFF 0 0))
    (fun s => (s.tiller 0).dslot == some 0x080000000FFC) = true := by decide +kernel
theorem test_jal_links : after (exec (.jal 0 8) (regs3 0 0 0))
    (fun s => s.gr 0 31 == 0x080000001008 && (s.tiller 0).dslot == some 0x080000001020) = true := by decide +kernel
theorem test_jalr_same_register : after (exec (.jalr 0 1 1) (regs3 0x080000002000 0 0))
    (fun s => s.gr 0 1 == 0x080000001008 && (s.tiller 0).dslot == some 0x080000002000) = true := by decide +kernel
theorem test_store_then_load : after (exec (.sh 0 2 1 0) (regs3 0x080000001100 0x8123 0))
    (fun s => after (exec (.lh 0 3 1 0) s) (fun u => u.gr 0 3 == 0xFFFFFFFFFFFF8123 && u.mem == [])) = true := by
  decide +kernel
theorem test_dadd_adds : after (exec (.dadd 0 3 1 2) { regs3 0x080000001100 5 0 with mem := [(0x080000001100, 7)] })
    (fun s => s.gr 0 3 == 7 && s.mem == [(0x080000001100, 12)]) = true := by decide +kernel
theorem test_csrw_waits : after (exec (.csrw 0 0x020 1) (regs3 1 0 0))
    (fun s => (s.tiller 0).maskSecure == 3 && (s.tiller 0).pendCsr == [(0x020, 1)]) = true := by decide +kernel
theorem test_maskup_raises : after (exec (.maskup 0 2) (til (fun x => { x with maskSecure := 1 })))
    (fun s => (s.tiller 0).maskSecure == 2) = true := by decide +kernel
theorem test_bfill_pattern : after (exec (.bfill 0 1 2 3) (regs3 0x080000001101 0x0807060504030201 2))
    (fun s => (s.tiller 0).buffered 0x080000001101 == some 2 && (s.tiller 0).buffered 0x080000001102 == some 3 &&
      s.gr 0 1 == 0x080000001103 && s.gr 0 3 == 0) = true := by decide +kernel
theorem test_husksum_check : after (exec (.husksum 0 1 2 3) { regs3 0xFFFFFFFF 0x080000001100 9 with
      mem := (List.range 9).map (fun i => (0x080000001100 + i, BitVec.ofNat 8 (0x31 + i))) })
    (fun s => s.gr 0 1 ^^^ 0xFFFFFFFF == 0xE3069283) = true := by decide +kernel

/-- TakesPlain, as a condition that decides. -/
def takesB (u : State) (t : Nat) (ps : List (Nat × Nat)) : Bool :=
  ps.all (fun p => !(u.addrType (u.tiller t).pos p.1).side && !(u.tiller t).sideLine (lineOf p.1) && !u.frozenAt p.1 &&
    ((u.tiller t).allBuffered p.1 p.2 || !u.readError p.1 p.2))

theorem takes_of (u : State) (t : Nat) (ps : List (Nat × Nat)) (h : takesB u t ps = true) : TakesPlain u t ps := by
  intro p hp
  have := List.all_eq_true.1 h p hp
  simp only [Bool.and_eq_true, Bool.not_eq_true', Bool.or_eq_true] at this
  exact ⟨this.1.1.1, this.1.1.2, this.1.2, this.2⟩

/-- Channel 0 holds 1 GB, and region 0 is 256 MB of it from address 0, House 0's. -/
def dramUp (s : State) : State :=
  let s := (s.modChan 0 (fun x => { x with dimm := ⟨1, 1, false, 24, true⟩ })).setFld (Reg.dcStat 0) F.DcStat.state chanService
  ((s.setFld (Reg.dramRgnA 0) F.DramRgnA.limit 1).setFld (Reg.dramRgnB 0) F.DramRgnB.mode 0).setFld
    (Reg.dramRgnB 0) F.DramRgnB.chmask 1

/-! ### Witnesses: instructions -/

theorem test_witness_overflow : Ready (regs3 0x7FFFFFFFFFFFFFFF 1 0) 0 ∧
    Unfit (((regs3 0x7FFFFFFFFFFFFFFF 1 0).gr 0 1).toInt + ((regs3 0x7FFFFFFFFFFFFFFF 1 0).gr 0 2).toInt) ∧
    ((regs3 0x7FFFFFFFFFFFFFFF 1 0).tiller 0).arith.getLsbD 1 = false :=
  ⟨ready_of _ _ (by decide +kernel),
    Or.inr (by decide +kernel), by decide +kernel⟩

/-- The operands of the one signed overflow of a divide, and a divisor of 0, with no trap enabled. -/
theorem test_witness_divide : Ready (regs3 0x8000000000000000 0xFFFFFFFFFFFFFFFF 0) 0 ∧
    ((regs3 0x8000000000000000 0xFFFFFFFFFFFFFFFF 0).gr 0 1 = 0x8000000000000000#64 ∧
      (regs3 0x8000000000000000 0xFFFFFFFFFFFFFFFF 0).gr 0 2 = 0xFFFFFFFFFFFFFFFF#64 ∧
      (regs3 0x8000000000000000 0xFFFFFFFFFFFFFFFF 0).gr 0 3 = 0) ∧
    ((regs3 0x8000000000000000 0xFFFFFFFFFFFFFFFF 0).tiller 0).arith.getLsbD 0 = false ∧
    ((regs3 0x8000000000000000 0xFFFFFFFFFFFFFFFF 0).tiller 0).arith.getLsbD 1 = false :=
  ⟨ready_of _ _ (by decide +kernel),
    by decide +kernel, by decide +kernel, by decide +kernel⟩

/-- An address of the Tiller's own Desk. -/
abbrev data : Nat := 0x080000001100

theorem test_witness_load_desk : Ready (regs3 0x080000001100 0 0) 0 ∧
    LoadHits (regs3 0x080000001100 0 0) 0 ((regs3 0x080000001100 0 0).gr 0 1 + (0 : BitVec 16).signExtend 64).toNat 8
      [(data, 8)] :=
  ⟨ready_of _ _ (by decide +kernel),
    by decide +kernel, ⟨by decide +kernel, by decide +kernel⟩,
    Or.inr ⟨by decide +kernel, Or.inl (by
      intro p hp
      rw [List.mem_singleton] at hp
      subst hp
      exact ⟨0x1100, by decide +kernel⟩)⟩⟩

/-- A buffered byte is forwarded. -/
theorem test_witness_load_forwarded :
    let s := til (fun x => { x.put 1 0x080000001100 with
      sb := [entry5] })
    LoadHits s 0 (s.gr 0 1 + (0 : BitVec 16).signExtend 64).toNat 1 [(data, 1)] :=
  ⟨by decide +kernel, ⟨by decide +kernel, by decide +kernel⟩, Or.inl (by decide +kernel)⟩

theorem test_witness_store : StoreFits (regs3 0x080000001100 7 0) 0
    ((regs3 0x080000001100 7 0).gr 0 1 + (0 : BitVec 16).signExtend 64).toNat 8 data :=
  ⟨by decide +kernel, by decide +kernel, by decide +kernel, by decide +kernel, by
    intro pre e post h
    have hs : ((regs3 0x080000001100 7 0).tiller 0).sb = [] := by decide +kernel
    rw [hs] at h
    cases pre <;> cases h⟩

theorem test_witness_drain :
    let s := til (fun x => { x with sb := [entry5] })
    (s.tiller 0).sb[0]? = some entry5 ∧
    (s.tiller 0).mayDrain 0 = true ∧ s.running = true ∧ Map.sorted [(0, (5 : Byte))] = true ∧
    s.behind (s.tiller 0).posted 0x080000001100 false = false ∧ s.power.offQueue = [] ∧
    s.placeOf 0x080000001100 ≠ .dram := by decide +kernel

theorem test_witness_atomic :
    let s := regs3 0x080000001100 5 0
    (started s 0).access 0 .atomic (s.gr 0 1).toNat 8 = (.ok [(data, 8)], started s 0) ∧
    (s.tiller 0).holdsLine (lineOf data) = false ∧ (s.tiller 0).sideLine (lineOf data) = false ∧
    s.poisoned data 8 = false ∧ data < 0x0F0000000000 := by decide +kernel

theorem test_witness_control : csrKnown 0x021 = true ∧ csrReadable 0x021 0 = true ∧ csrKnown 0x020 = true ∧
    csrWritable 0x020 0 = true ∧ csrSync 0x020 = true := by decide +kernel

theorem test_witness_synchronise : ((til id).tiller 0).ring ≠ 3 ∧ ((til id).tiller 0).dslot = none := by
  decide +kernel

/-- FENCE.RW with and without a drain owed, FENCE.IO, WAITI with and without a pending source. -/
theorem test_witness_fences :
    let s := til (fun x => { x with sb := [entry5] })
    ((til id).tiller 0).sb = [] ∧ (s.tiller 0).sb ≠ [] ∧ (s.tiller 0).ioPending = false ∧
    (started (til id) 0).anyPending 0 = false := by decide +kernel

theorem test_witness_icinv :
    let s := regs3 0x080000001100 5 0
    (started s 0).access 0 .load (s.gr 0 1).toNat 1 = (.ok [(data, 1)], started s 0) ∧
    (s.tiller 0).holdsLine (lineOf data) = false ∧ (s.tiller 0).sideLine (lineOf data) = false ∧
    (s.tiller 0).dcache = [] ∧ (s.tiller 0).ring = 0 := by
  decide +kernel

/-! ### Witnesses: exceptions, long instructions, mills, data returns -/

/-- A Tiller in ring 0 with its mask lowered and a frame place below SP0 in its Desk. -/
def ring0 (f : Tiller → Tiller) : State :=
  til (fun x => f { x with maskSecure := 0, sp := setBank x.sp 0 0x080000001240 })

/-- EntryFits from its decidable parts, while the store buffer is empty. -/
theorem entryFits_of (s : State) (t r a : Nat) (h1 : (s.tiller t).pendCsr = []) (h2 : (s.tiller t).carrel = none)
    (h3 : (s.applyPending t).frameAt t r = (.at a, s.applyPending t)) (h4 : a % 64 = 0)
    (h5 : (s.tiller t).room a = true) (h6 : (s.tiller t).sb = []) : EntryFits s t r a :=
  ⟨h1, h2, h3, h4, h5, fun pre e post h => by rw [h6] at h; cases pre <;> cases h⟩

theorem test_witness_entry :
    EntryFits (started (ring0 id) 0) 0 (faultTarget (ring0 id) 0) 0x080000001200 ∧
    ((ring0 id).tiller 0).mask ((ring0 id).tiller 0).secure ≠ 3 ∧ ((ring0 id).tiller 0).ring < 4 ∧
    Ready (ring0 id) 0 :=
  ⟨entryFits_of _ _ _ _ (by decide +kernel) (by decide +kernel) (by decide +kernel) (by decide +kernel)
    (by decide +kernel) (by decide +kernel), by decide +kernel, by decide +kernel, ready_of _ _ (by decide +kernel)⟩

/-- A word that encodes nothing, a delay slot, a misaligned jump target, and traps that are enabled. -/
theorem test_witness_faults :
    decodeWord 0xFFFFFFFF = none ∧
    ((ring0 (fun x => { x with dslot := some 0x080000001010 })).tiller 0).dslot.isSome = true ∧
    ((ring0 (fun x => x.put 1 2)).gr 0 1).toNat % 4 ≠ 0 ∧
    (bank ((ring0 id).tiller 0).entry 3).getLsbD 0 = false ∧
    ((ring0 (fun x => { x.put 1 0 with arith := 3 })).tiller 0).arith.getLsbD 0 = true ∧
    ((ring0 (fun x => { x.put 1 0 with arith := 3 })).tiller 0).arith.getLsbD 1 = true := by decide +kernel

/-- Ring 3 in the open world, which PRIV needs, and its instruction at hand. -/
theorem test_witness_ring3 : Ready (til (fun x => { x with ring := 3 })) 0 ∧
    ((til (fun x => { x with ring := 3 })).tiller 0).ring = 3 := ⟨ready_of _ _ (by decide +kernel), by decide +kernel⟩

/-- A PCALL of LEASE_TAKE from ring 1. -/
theorem test_witness_pcall :
    let s := ring0 (fun x => { x with ring := 1 })
    Ready s 0 ∧ (s.tiller 0).dslot = none ∧ (s.tiller 0).ring ≠ 0 ∧ (s.tiller 0).secure = true ∧
    svcRings (0x0020 : BitVec 16).toNat ≠ [] ∧
    EntryFits ((started s 0).retireHere 0 24) 0 0 0x080000001200 :=
  ⟨ready_of _ _ (by decide +kernel), by decide +kernel, by decide +kernel, by decide +kernel, by decide +kernel,
    entryFits_of _ _ _ _ (by decide +kernel) (by decide +kernel) (by decide +kernel) (by decide +kernel)
    (by decide +kernel) (by decide +kernel)⟩

/-- A gate of ring 1 with the descriptor VALID, CALLERS ring 1, OFFSET 0x800. -/
def gated : State :=
  let s := til (fun x => { x with
    ring := 1, entry := setBank x.entry 1 0x080000004800, sp := setBank x.sp 1 0x080000001240 })
  { s with mem := [(0x080000004001, 0x08), (0x080000004007, 0x82)] }

theorem test_witness_gcall :
    Ready gated 0 ∧ (0x0100 : BitVec 16).toNat / 1024 = 0 ∧ (0x0100 : BitVec 16).toNat / 256 % 4 = 1 ∧
    secureRing 1 = (gated.tiller 0).secure ∧ 1 ≤ (gated.tiller 0).ring ∧
    (started gated 0).accessPieces true 0 1 .load none [(0x080000004000, 8)] =
      (.ok [(0x080000004000, 8)], started gated 0) ∧
    TakesPlain (started gated 0) 0 [(0x080000004000, 8)] ∧
    gateOffset (ofBytes (gated.viewBytes 0 0x080000004000 8)) (gated.tiller 0).ring = some 0x800 ∧
    EntryFits ((started gated 0).retireHere 0 16) 0 1 0x080000001200 :=
  ⟨ready_of _ _ (by decide +kernel), by decide +kernel, by decide +kernel, by decide +kernel, by decide +kernel,
    by decide +kernel, takes_of _ _ _ (by decide +kernel), by decide +kernel,
    entryFits_of _ _ _ _ (by decide +kernel) (by decide +kernel) (by decide +kernel) (by decide +kernel)
    (by decide +kernel) (by decide +kernel)⟩

/-- A frame of ring 0 whose every word is 0 but its world: EFLAGS.RING 0 and SECURE. -/
def framed : State :=
  let s := til (fun x => { x with sp := setBank x.sp 0 0x080000001200 })
  { s with mem := Memory.store [] 0x080000001208 (toBytes (s.tiller 0).frameFlags.toNat 8) }

theorem test_witness_retx :
    let f := Frame.of (framed.viewBytes 0 0x080000001200 64)
    Ready framed 0 ∧ (framed.tiller 0).dslot = none ∧ (framed.tiller 0).pendCsr = [] ∧
    (bank (framed.tiller 0).sp (framed.tiller 0).ring).toNat % 64 = 0 ∧
    ((started framed 0).applyPending 0).access 0 .load (bank (framed.tiller 0).sp 0).toNat 64 =
      (.ok [(0x080000001200, 64)], (started framed 0).applyPending 0) ∧
    TakesPlain ((started framed 0).applyPending 0) 0 [(0x080000001200, 64)] ∧
    ((started framed 0).applyPending 0).frameOk 0 0 f = true ∧ f.token = none ∧ f.sec = (framed.tiller 0).secure :=
  ⟨ready_of _ _ (by decide +kernel), by decide +kernel, by decide +kernel, by decide +kernel, by decide +kernel,
    takes_of _ _ _ (by decide +kernel), by decide +kernel, by decide +kernel, by decide +kernel⟩

theorem test_witness_block_fits : BlockFits (started (regs3 0x080000001100 0 8) 0) 0 0x080000001100 8 data :=
  ⟨by decide +kernel, by decide +kernel, by decide +kernel, by decide +kernel, fun pre e post h => by
    have hs : ((started (regs3 0x080000001100 0 8) 0).tiller 0).sb = [] := by decide +kernel
    rw [hs] at h
    cases pre <;> cases h⟩

theorem test_witness_block_reads : BlockReads (started (regs3 0x080000001100 0 8) 0) 0 0x080000001100 8 data :=
  ⟨by decide +kernel, ⟨by decide +kernel, by decide +kernel⟩, by decide +kernel, by decide +kernel, by decide +kernel⟩

/-- A block's source in a Tiller's Desk is not cached, so no line is filled for it. -/
theorem test_witness_block_source :
    ((regs3 0x080000001100 0 8).addrType ((regs3 0x080000001100 0 8).tiller 0).pos data).cached = false := by
  decide +kernel

theorem test_witness_block_lengths :
    ((regs3 1 2 0).gr 0 3).toNat = 0 ∧ ((regs3 1 2 8).gr 0 3).toNat ≠ 0 ∧
    rangesOverlap 0x080000001100 0x080000002100 8 = false ∧ ((regs3 1 2 8).tiller 0).progress = false := by
  decide +kernel

/-- A completion slot that is ready for ticket 5 in slot 0, and a ticket that names none. -/
def ticketed : State :=
  til (fun x => { x.put 1 0x8000000000000500 with
    ring := 1, progress := true, slots := x.slots.set 0 (.ready 5 0 0 7) })

theorem test_witness_millcall :
    Ready ticketed 0 ∧ (ticketed.tiller 0).ring ≠ 0 ∧ (ticketed.tiller 0).progress = true ∧
    ticketed.gr 0 1 = BitVec.ofNat 64 (2 ^ 63 + 5 * 256 + 0) ∧
    (ticketed.tiller 0).slots.toArray.getD 0 .empty = .ready 5 0 0 7 ∧
    ((ticketed.tiller 0).slots.toArray.getD 1 .empty).seqOf ≠ some 5 :=
  ⟨ready_of _ _ (by decide +kernel), by decide +kernel, by decide +kernel, by decide +kernel, by decide +kernel,
    by decide +kernel⟩

/-- A request block of zeros, with a slate of the Tiller's as its tag 0 and without one, and four slots held. -/
theorem test_witness_millcall_requests :
    let s := til (fun x => { x.put 1 0x080000001100 with ring := 1 })
    let u := s.modSlate 0 (fun x => { x with st := .live, work := .tiller 0 })
    Ready s 0 ∧ (s.tiller 0).progress = false ∧ (s.tiller 0).slots.toArray.getD 0 .empty = .empty ∧
    (started s 0).access 0 .load (s.gr 0 1).toNat 64 = (.ok [(data, 64)], started s 0) ∧
    TakesPlain (started s 0) 0 [(data, 64)] ∧ s.millSlate 0 (le (s.pieceBytes 0 [(data, 64)]) 0 4 % 2 ^ 23) = none ∧
    (Ready u 0 ∧ (started u 0).access 0 .load (u.gr 0 1).toNat 64 = (.ok [(data, 64)], started u 0) ∧
      TakesPlain (started u 0) 0 [(data, 64)] ∧ u.millSlate 0 (le (u.pieceBytes 0 [(data, 64)]) 0 4 % 2 ^ 23) ≠ none ∧
      blockOk (u.pieceBytes 0 [(data, 64)]) = false) ∧
    ∀ j, j < 4 → ((til (fun x => { x with ring := 1, slots := Vector.replicate 4 (.ready 5 0 0 7) })).tiller
      0).slots.toArray.getD j .empty ≠ .empty :=
  ⟨ready_of _ _ (by decide +kernel), by decide +kernel, by decide +kernel, by decide +kernel,
    takes_of _ _ _ (by decide +kernel), by decide +kernel, ⟨ready_of _ _ (by decide +kernel), by decide +kernel,
    takes_of _ _ _ (by decide +kernel), by decide +kernel, by decide +kernel⟩, by decide +kernel⟩

/-- A SHA-256 operation of a Tiller that waits for it. -/
def milling : State :=
  let s := til (fun x => { x with
    stall := .mill 0 1, slots := x.slots.set 0 (.running 5 0 0 0x080000001200 4 0 [] [] 32) })
  { s with smills := [(0, ⟨.tiller 0 0, 0, some (0, 0), false, []⟩)] }

theorem test_witness_mill_ends :
    milling.running = true ∧ milling.millQ = [] ∧ milling.tillerRuns 0 = true ∧ (milling.slate 0).replied = false ∧
    milling.millOp false 0 = some ⟨.tiller 0 0, 0, some (0, 0), false, []⟩ ∧ (milling.tiller 0).stall = .mill 0 1 ∧
    (milling.tiller 0).slots.toArray.getD 0 .empty = .running 5 0 0 0x080000001200 4 0 [] [] 32 ∧
    milling.dev.portsClosed = false := by decide +kernel

/-- Waits for data: a load, a fetch and a walk. -/
theorem test_witness_data_returns :
    let s := til (fun x => { x with stall := .load [(data, 8)] [true] false 8 1 })
    let u := til (fun x => { x with stall := .fetch code true })
    s.tillerRuns 0 = true ∧ (s.tiller 0).stall = .load [(data, 8)] [true] false 8 1 ∧ s.placeOf data ≠ .regs ∧
    (s.tillerRead 0 data 8 .ok).1 = .data ∧
    (((dramUp (til (fun x => { x with stall := .load [(64, 8)] [true] false 64 1 }))).setFld (Reg.dcStat 0) F.DcStat.state
      chanFrozen).tillerRead 0 64 8 .ok).1 = .held ∧ (dramUp up).placeOf 64 ≠ .regs ∧
    (u.tiller 0).stall = .fetch code true ∧
    (u.tillerRead 0 code 64 .ok).1 = .data := by decide +kernel

/-- A walk whose first read is a leaf at level 1, and one whose first read is a table. -/
def walking (pte : List Host.Cell) : State :=
  let s := til (fun x => { x with ptSecure := 0x0000080000002001, stall := .walk .load 0 1 0x080000002000 })
  { s with mem := pte }

theorem test_witness_walks :
    (walking []).walkAddr 0 0 .load 0 0x080000002000 = .ok 0x080000002000 ∧
    ((walking []).tillerRead 0 0x080000002000 8 .ok).1 = .data ∧ ((walking []).tiller 0).tlb.length < 48 := by
  decide +kernel

/-! ### Witnesses: walks, interrupts, the ICU page, Chutes -/

/-- A leaf of level 1 with R, A and D, and a pointer to a table. -/
theorem test_witness_walk_ends :
    (match (walking (Memory.store [] 0x080000002000 (toBytes 0x185 8))).walkRead 0 0 .load 0 1 0x080000002000 with
      | .leaf _ => true | _ => false) = true ∧
    (match (walking (Memory.store [] 0x080000002000 (toBytes 0x000008000000000F 8))).walkRead 0 0 .load 0 1
        0x080000002000 with
      | .next _ _ => true | _ => false) = true := by decide +kernel

/-- A leaf of level 3 with CONT, R, A and D: a group of 64 KB. -/
def contWalk : State :=
  let s := til (fun x => { x with ptSecure := 0x0000080000002001, stall := .walk .load 0x1234 3 0x080000002008 })
  { s with mem := Memory.store [] 0x080000002008 (toBytes 0x385 8) }

theorem test_witness_walk_group :
    contWalk.walkAddr 0 0 .load 0x1234 0x080000002008 = .ok 0x080000002008 ∧
    (contWalk.tillerRead 0 0x080000002008 8 .ok).1 = .data ∧ (contWalk.tiller 0).tlb.length < 48 ∧
    (match contWalk.walkRead 0 0 .load 0x1234 3 0x080000002008 with
      | .leaf e => e.size == 16 && (e.page 0x1234).addr 0x1234 == e.addr 0x1234 | _ => false) = true := by
  decide +kernel

/-- Private source 5 is enabled for ring 0 at level 1, and pending. -/
def pended (f : Tiller → Tiller) : State :=
  let s := ring0 (fun x => f { x with edges := [5], entry := setBank x.entry 0 0x080000001000 })
  s.wr (Reg.psrc 5) (F.Psrc.level.set (F.Psrc.en.set 0 1) 1)

theorem test_witness_delivery :
    (pended id).tillerRuns 0 = true ∧ ((pended id).tiller 0).dslot = none ∧ ((pended id).tiller 0).stall = .none ∧
    ((pended id).tiller 0).due = none ∧ ((pended id).tiller 0).dflag = false ∧ (pended id).deliverable 0 = some 5 ∧
    (pended id).srcRing 0 5 = 0 ∧ ((pended id).tiller 0).ring < 4 ∧ EntryFits (pended id) 0 0 0x080000001200 :=
  ⟨by decide +kernel, by decide +kernel, by decide +kernel, by decide +kernel, by decide +kernel, by decide +kernel,
    by decide +kernel, by decide +kernel, entryFits_of _ _ _ _ (by decide +kernel) (by decide +kernel)
    (by decide +kernel) (by decide +kernel) (by decide +kernel) (by decide +kernel)⟩

/-- TCMP 1 has been reached, and a source is pending; without TCMP it has not. -/
theorem test_witness_timer :
    let s := { pended (fun x => { x with stall := .waiti }) with dtime := 2, mem := [(0x08000001FFF8, 1)] }
    s.tillerRuns 0 = true ∧ s.levelInput 0 0 = true ∧ (s.tiller 0).stall = .waiti ∧ s.anyPending 0 = true ∧
    (pended id).levelInput 0 0 = false := by decide +kernel

theorem test_witness_hold :
    let s := ((pended (fun x => { x with dflag := true })).setFld (Reg.icuCtl 0) F.IcuCtl.hold 1).cyc 251
    s.tillerRuns 0 = true ∧ (s.tiller 0).dflag = true ∧ s.fld (Reg.icuCtl 0) F.IcuCtl.hold ≠ 0 ∧
    (s.tiller 0).dflagAt + 1000 * s.fld (Reg.icuCtl 0) F.IcuCtl.hold < s.uptime ∧ s.securePending 0 = true ∧
    ((pended id).tiller 0).dflag = false := by decide +kernel

/-- WindowFits from its decidable parts. -/
theorem windowFits_of (s : State) (t o : Nat) (h1 : readyB s t = true)
    (h2 : (started s t).physFault t (s.tiller t).ring .load (s.tiller t).curPa (windowBase (s.tiller t).pos + o) 8 = none)
    (h3 : s.sideWaits t (windowBase (s.tiller t).pos + o) = false) (h4 : (s.tiller t).emptyWin = none) : WindowFits s t o :=
  ⟨ready_of _ _ h1, h2, h3, h4⟩

/-- The offsets that the statements use, the ends of their ranges among them. -/
theorem test_witness_window :
    WindowFits (ring0 id) 0 8 ∧ WindowFits (ring0 id) 0 0x1000 ∧ WindowFits (ring0 id) 0 0x18F8 ∧
    WindowFits (ring0 id) 0 0x40200 ∧ WindowFits (ring0 id) 0 0x7FFF8 ∧ WindowFits (ring0 id) 0 0x2800 ∧
    WindowFits (ring0 id) 0 0x2FF8 ∧ WindowFits (ring0 id) 0 0x3000 ∧ WindowFits (ring0 id) 0 0x3008 :=
  ⟨windowFits_of _ _ _ (by decide +kernel) (by decide +kernel) (by decide +kernel) (by decide +kernel),
   windowFits_of _ _ _ (by decide +kernel) (by decide +kernel) (by decide +kernel) (by decide +kernel),
   windowFits_of _ _ _ (by decide +kernel) (by decide +kernel) (by decide +kernel) (by decide +kernel),
   windowFits_of _ _ _ (by decide +kernel) (by decide +kernel) (by decide +kernel) (by decide +kernel),
   windowFits_of _ _ _ (by decide +kernel) (by decide +kernel) (by decide +kernel) (by decide +kernel),
   windowFits_of _ _ _ (by decide +kernel) (by decide +kernel) (by decide +kernel) (by decide +kernel),
   windowFits_of _ _ _ (by decide +kernel) (by decide +kernel) (by decide +kernel) (by decide +kernel),
   windowFits_of _ _ _ (by decide +kernel) (by decide +kernel) (by decide +kernel) (by decide +kernel),
   windowFits_of _ _ _ (by decide +kernel) (by decide +kernel) (by decide +kernel) (by decide +kernel)⟩

theorem test_witness_claim :
    let s := pended (fun x => { x with dflag := true })
    WindowFits s 0 8 ∧ (s.tiller 0).claimFault (s.tiller 0).ring = none ∧
    (started s 0).claimable 0 (s.tiller 0).dring = some 5 ∧ (s.tiller 0).claims.length < 4 ∧
    (started (ring0 (fun x => { x with dflag := true })) 0).claimable 0 0 = none :=
  ⟨windowFits_of _ _ _ (by decide +kernel) (by decide +kernel) (by decide +kernel) (by decide +kernel),
    by decide +kernel, by decide +kernel, by decide +kernel, by decide +kernel⟩

theorem test_witness_eoi :
    let s := ring0 (fun x => { x with dflag := true, claims := [(5, false)] })
    WindowFits s 0 (0x1000 + 8 * 5) ∧ (s.tiller 0).claimFault (s.tiller 0).ring = none ∧
    (s.tiller 0).claims = [(5, false)] :=
  ⟨windowFits_of _ _ _ (by decide +kernel) (by decide +kernel) (by decide +kernel) (by decide +kernel),
    by decide +kernel, by decide +kernel⟩

/-- Chute 0 belongs to Tiller 0 and holds the packets. -/
def chuted (l : List Packet) (f : Tiller → Tiller) : State :=
  ((ring0 f).setFld (Reg.chCfg 0) F.ChCfg.role 2).modChute 0 (fun x => { x with pkts := l })

/-- A packet of one word. -/
def packet : Packet := { bytes := [0, 0, 0, 0, 0, 1] ++ zeros 58, writer := none }

/-- CH_DROP counts the words that are not read whole. -/
theorem test_drop_counts_unread_words :
    let two : Packet := { bytes := zeros 128, writer := none }
    let x : Chute := { pkts := [two], taken := [0, 1, 2, 3, 4, 5, 6, 7] }
    ((chuted [packet] id).chute 0).taken = [] ∧ x.unread two = 1 ∧
    ({ x with taken := [0] } : Chute).unread two = 2 := by decide +kernel

theorem test_witness_chutes :
    let s := chuted [packet] id
    WindowFits s 0 (0x40000 + 0x200) ∧ WindowFits s 0 0x2800 ∧ s.chuteRole 0 = roleTiller ∧ s.chuteReader 0 = 0 ∧
    (s.chute 0).pkts = [packet] ∧ 0 / 64 < packet.words ∧ packet.words ≤ 64 / 64 ∧ ((chuted [] id).chute 0).pkts = [] ∧
    ((ring0 (fun x => { x with ans := [(0, some 7)] })).tiller 0).ans = [(0, some 7)] ∧
    ((ring0 (fun x => { x with cancel := [(3, some 9)] })).tiller 0).cancel = [(3, some 9)] :=
  ⟨windowFits_of _ _ _ (by decide +kernel) (by decide +kernel) (by decide +kernel) (by decide +kernel),
   windowFits_of _ _ _ (by decide +kernel) (by decide +kernel) (by decide +kernel) (by decide +kernel),
   by decide +kernel, by decide +kernel, by decide +kernel, by decide +kernel, by decide +kernel, by decide +kernel,
   by decide +kernel, by decide +kernel⟩

/-! ### Witnesses: the Proctor, the TAP, host accesses -/

/-- A PCALL of service `n` from ring `r` is open, with g1 `d`; Tiller 0 belongs to House 0, which owns port 0. -/
def called (n r d : Nat) : State :=
  let s := ring0 (fun x => { x.put 1 (BitVec.ofNat 64 d) with pcall := some (n, r) })
  (s.setFld (Reg.houseTil 0) F.HouseTil.tillers 1).setFld (Reg.houseCfg 0) F.HouseCfg.ports 1

/-- ServiceOpen from its decidable parts. -/
theorem serviceOpen_of (s : State) (t n r : Nat)
    (h : (s.tiller t).pcall = some (n, r) ∧ s.tillerRuns t = true ∧ (s.tiller t).stall = .none ∧ (s.tiller t).sb = []) :
    ServiceOpen s t n r := ⟨h.1, h.2.1, h.2.2.1, .inr h.2.2.2⟩

theorem test_witness_leases :
    ServiceOpen (called svcLeaseTake 1 11) 0 svcLeaseTake 1 ∧ (called svcLeaseTake 1 11).leaseCount 11 < 255 ∧
    ServiceOpen ((called svcLeaseRelease 1 11).setLease 11 2) 0 svcLeaseRelease 1 ∧
    ((called svcLeaseRelease 1 11).setLease 11 2).leaseCount 11 ≠ 0 ∧
    ServiceOpen (called svcLeaseTake 2 11) 0 svcLeaseTake 2 ∧ ((called svcLeaseTake 1 11).gr 0 1).toNat = 11 :=
  ⟨serviceOpen_of _ _ _ _ (by decide +kernel), by decide +kernel, serviceOpen_of _ _ _ _ (by decide +kernel),
    by decide +kernel, serviceOpen_of _ _ _ _ (by decide +kernel), by decide +kernel⟩

theorem test_witness_domains :
    ServiceOpen (called svcReopen 2 0) 0 svcReopen 2 ∧ ((called svcReopen 2 0).tillerFor 0).isSome = true ∧
    ServiceOpen (called svcOff 2 8) 0 svcOff 2 ∧ (called svcOff 2 8).mayName 0 2 8 = true ∧
    (match (called svcOff 2 8).requestOff 8 (.tiller 0) with | .done _ => true | _ => false) = true ∧
    (match ((called svcOff 1 8).setLease 8 1).requestOff 8 (.tiller 0) with | .leased _ => true | _ => false) = true ∧
    ServiceOpen (called svcOn 1 11) 0 svcOn 1 ∧ (called svcOn 1 11).mayName 0 1 11 = true :=
  ⟨serviceOpen_of _ _ _ _ (by decide +kernel), by decide +kernel, serviceOpen_of _ _ _ _ (by decide +kernel),
    by decide +kernel, by decide +kernel, by decide +kernel, serviceOpen_of _ _ _ _ (by decide +kernel), by decide +kernel⟩

/-- Entry 0 of the carrel table is valid for House 0. -/
def carrelled : State :=
  let s := called svcDestroy 2 0
  { s with mem := Memory.store s.mem (s.carrelBase 0 + 37) [1] }

theorem test_witness_destroy :
    ServiceOpen carrelled 0 svcDestroy 2 ∧ (carrelled.carrel 0 0).valid = true ∧
    carrelled.tillerFor 0 = some (carrelled.carrel 0 0).house ∧ carrelled.carrelRunning 0 = false :=
  ⟨serviceOpen_of _ _ _ _ (by decide +kernel), by decide +kernel, by decide +kernel, by decide +kernel⟩

theorem test_witness_service_returns :
    (match (called svcReopen 2 0).topFrame 0 with | (some f, _) => f.token.isNone | _ => false) = true := by decide +kernel

/-- A descriptor in the Desk, and CARREL_CREATE with its address. -/
def creating : State :=
  let s := called svcCreate 2 0x080000001100
  { s with mem := Memory.store [] 0x080000001100 (toBytes 0x080000002000 8 ++ toBytes 0x080000003000 8 ++
      toBytes 0x080000003000 8 ++ toBytes 0x080000004000 8) }

/-- A free number is found where every number is free, whichever the free choice. -/
theorem pickFree_some (s : State) (n : Nat) (f : Nat → Bool) (hn : 0 < n) (h : ∀ i, i < n → f i = false) :
    ∃ c u, s.pickFree n f = (some c, u) := by
  have h0 : ((List.range n).map (fun i => ((s.choose n).1 + i) % n)).find? (fun i => !f i) ≠ none := by
    intro e
    rw [List.find?_eq_none] at e
    have := e (((s.choose n).1 + 0) % n) (List.mem_map.2 ⟨0, List.mem_range.2 hn, rfl⟩)
    rw [h _ (Nat.mod_lt _ hn)] at this
    exact this rfl
  obtain ⟨c, hc⟩ := Option.ne_none_iff_exists'.1 h0
  exact ⟨c, (s.choose n).2, by unfold State.pickFree; rw [← hc]⟩

theorem test_witness_create :
    ServiceOpen creating 0 svcCreate 2 ∧ creating.tillerFor 0 = some 0 ∧
    (match creating.readDescriptor 0 2 with
      | (some b, s1) => s1.carrelAccepted 0 0 (s1.carrelOf b 0) | _ => false) = true ∧
    ∃ c u, (creating.readDescriptor 0 2).2.pickFree 256
      (fun c => ((creating.readDescriptor 0 2).2.carrel 0 c).valid) = (some c, u) :=
  ⟨serviceOpen_of _ _ _ _ (by decide +kernel), by decide +kernel, by decide +kernel,
    pickFree_some _ _ _ (by decide) (by decide +kernel)⟩

/-- The frame that ring 0 keeps lies below the PCALL's own. -/
def yielding : State :=
  let s := called svcYield 1 0
  { s with mem := Memory.store [] 0x080000001288 (toBytes (framed.tiller 0).frameFlags.toNat 8) }

theorem test_witness_yield :
    (yielding.tiller 0).pcall = some (svcYield, 1) ∧ yielding.tillerRuns 0 = true ∧ (yielding.tiller 0).sb = [] ∧
    (match (yielding.modTiller 0 (fun x => { x with sp := setBank x.sp 0 (bank x.sp 0 + 64), pcall := none })).topFrame 0 with
      | (some f, s1) => s1.frameOk 0 0 f | _ => false) = true := by decide +kernel

/-- Power is up; the debug port without a pass, and with one that grants SEC_INV. -/
theorem test_witness_debug :
    up.power.porst = false ∧ up.flag Reg.passStat F.PassStat.active = false ∧
    ((up.setFlag Reg.passStat F.PassStat.active true).setFld Reg.passStat F.PassStat.enables 1).debugEn 0 = true := by
  decide +kernel

/-- The links are up, and every mirror has its function on port 3 (functions 63). -/
def linked (p : Port → Port) : State :=
  let s := up.modPort 0 (fun x => p { x with linkUp := true, perstLow := false })
  (List.range 4).foldl (fun (s : State) h => s.setFld (Reg.jrCtl h) F.JrCtl.mGfn 63) s

theorem test_witness_ports :
    let s := linked id
    s.power.porst = false ∧ (∀ h, h < 4 → portOf (s.mirrorFn h) ≠ 0) ∧ (∀ h, h < 4 → s.mirrorFn h ≠ 0) ∧
    s.barUp 0 = true ∧ (s.port 0).linkUp = true ∧ (up.port 3).perstLow = true ∧ (up.port 3).wakeLow = false ∧
    ((linked (fun x => { x with linkUp := false, training := true })).port 0).training = true ∧
    ((linked (fun x => { x with linkUp := false, training := true })).port 0).perstLow = false ∧
    s.domainIsOff 8 = false := by decide +kernel

/-- Doorbells at the ends of their ranges, push writes, and a pending vector. -/
theorem test_witness_host :
    let s := linked id
    (s.sqSize 0 - 1 < s.sqSize 0 ∧ s.sqSize 0 < 2 ^ 16 ∧ s.cqSize 0 - 1 < s.cqSize 0 ∧ s.cqSize 0 < 2 ^ 16) ∧
    s.flag Reg.pwrCtl F.PwrCtl.wakeDb = false ∧ (s.fn 0).waitSq = [] ∧ up.barUp 0 = false ∧ s.pushRefused 0 0 = true ∧
    ((s.setFlag (Reg.fnCtl 0) F.FnCtl.en true).setFld Reg.pwrStat F.PwrStat.state 0).pushRefused 0 1 = false ∧
    512 + 64 ≤ pushSize 0 ∧ pushSize 0 - 64 + 64 ≤ pushSize 0 ∧ pushSize 63 - 1 + 1 ≤ pushSize 63 ∧
    slotsTouched 500 24 = [0, 1] ∧ slotsTouched (pushSize 0 - 1) 1 = [2047] ∧
    (slotsTouched 500 24).any (fun n => s.pushRefused 0 n) = true ∧
    (slotsTouched 500 24).any (fun n => ((s.setFlag (Reg.fnCtl 0) F.FnCtl.en true).setFld Reg.pwrStat F.PwrStat.state
      0).pushRefused 0 n) = false ∧
    ((s.wr (Reg.msixPba 0) 1).rd (Reg.msixPba 0)).getLsbD 0 = true ∧ (s.rd (Reg.msixPba 0)).getLsbD 0 = false := by
  decide +kernel

theorem test_witness_register_writes :
    up.running = true ∧ up.power.service = true ∧
    (up.setFlag Reg.swmDram F.SwmDram.lock true).flag Reg.swmDram F.SwmDram.lock = true ∧
    (up.setFlag (Reg.swmDesk 71) F.SwmDesk.lock true).flag (Reg.swmDesk 71) F.SwmDesk.lock = true ∧
    State.reset.regsAnswer Reg.wakeTime = false ∧ up.regsAnswer Reg.wakeTime = true ∧ Reg.wakeTime < bar0 0 ∧
    (Reg.wakeTime + 4) % 8 ≠ 0 ∧ up.regsAnswer (bar0 0 + 4) = false ∧ (linked id).regsAnswer (bar0 0 + 4) = true ∧
    hostAligned (bar0 0 + 4) 8 = false ∧ hostAligned (bar0 0 + 4) 2 = true := by decide +kernel

/-! ### Witnesses: ingress -/

/-- Function 0 is enabled for House 0 in SERVICE, with an SQ entry to take; its journal has room. -/
def served : State :=
  let s := linked id
  let s := (s.setFld (Reg.houseCfg 0) F.HouseCfg.ports 1).setFld (Reg.houseCfg 0) F.HouseCfg.state 1
  let s := (s.setFlag (Reg.fnCtl 0) F.FnCtl.en true).setFld (Reg.fnHouse 0) F.FnHouse.cfgCredit 8
  s.setFld (Reg.ringPtr 0) F.RingPtr.sqTail 1

theorem test_witness_commit :
    served.serving = true ∧ served.power.rollOn = true ∧ (served.port 0).linkUp = true ∧
    served.stepOneFn 0 = some 0 ∧ served.pushTurnNow 0 = false ∧
    (let s := served.modFn 0 (fun x => { x with pushQ := [3], pushBusy := [3], pushTurn := true })
     s.serving = true ∧ s.power.rollOn = true ∧ (s.port 0).linkUp = true ∧ s.stepOneFn 0 = some 0 ∧
       s.pushTurnNow 0 = true ∧ (s.fn 0).pushQ = [3]) := by decide +kernel

/-- A packet waits at step 2; the House's journal ring is valid with 2^16 records. -/
def admitting (p : Committed) : State :=
  let s := served.modFn 0 (fun x => { x with waitSq := [p] })
  let s := ((dramUp s).setFld (Reg.jrBase 0) F.JrBase.log2 16).setFld (Reg.jrMark 0) F.JrMark.full 60000
  s.setFld (Reg.jrMark 0) F.JrMark.high 50000

/-- A committed packet of zeros. -/
def waitingOne : Committed := { pkt := zeros 64, push := none, tc := 0, epoch := 0 }

theorem test_witness_admission :
    let s := admitting waitingOne
    let u := s.setFld (Reg.fnHouse 0) F.FnHouse.cfgCredit 0
    let v := (s.setFld (Reg.jrMark 0) F.JrMark.full 0).modFn 0 (fun x => { x with cqReserved := s.cqSize 0 })
    s.serving = true ∧ (s.fn 0).sealing .sq = none ∧ (s.fn 0).waiting .sq = [waitingOne] ∧ s.stepQ = [] ∧
    s.atFullMark (s.houseOf 0) 0 = false ∧ s.mayPass 0 waitingOne = true ∧ s.atStepThree 0 .sq = false ∧
    ((s.popWaiting 0 .sq).takeCredit 0 waitingOne).ctrName 0 waitingOne.pkt = none ∧
    (u.atFullMark (u.houseOf 0) 0 = false ∧ u.mayPass 0 waitingOne = false ∧ u.atStepThree 0 .sq = false) ∧
    State.reset.serving = false ∧
    ((s.popWaiting 0 .sq).takeCredit 0 waitingOne).authenticate 0 (zeros 64) = .skip ∧
    (v.serving = true ∧ (v.fn 0).waiting .sq = [waitingOne] ∧ v.atFullMark (v.houseOf 0) 0 = true ∧
      v.needsCq 0 waitingOne = true ∧ v.cqFree 0 = false) ∧
    (s.needsCq 0 waitingOne = true ∧ s.cqFree 0 = true) := by decide +kernel

/-- A packet of two words with an authentication extension of House 0 and CTR `n`. -/
def authPkt (n : Nat) : List Byte := [0x82, 0, 4, 0] ++ zeros 46 ++ [1] ++ zeros 13 ++ toBytes n 8 ++ zeros 56

/-- House 0's authentication key is loaded. The tag that CMAC gives is opaque: both cases stand. -/
theorem test_witness_authentication :
    let s := { served with dev := { served.dev with cmd := [(0, 7)] } }
    mustAuth (authPkt 1) = true ∧ pkAuthExt (authPkt 1) = true ∧ pkExtCount (authPkt 1) ≠ 0 ∧
    (s.signKey (s.houseOf 0) (authSigner (authPkt 1))).isSome = true ∧ s.ctrOf 0 false = (0, 0) ∧
    authCtr (authPkt 0) ≤ 0 ∧ (0 < authCtr (authPkt 1) ∧ authCtr (authPkt 4095) < 0 + 4096) ∧
    (0 < authCtr (authPkt 4096) ∧ 0 + 4096 ≤ authCtr (authPkt 4096)) := by decide +kernel

/-- A packet at step 3 whose counter is free, and one whose counter a seal of the push stream holds. -/
theorem test_witness_step_three :
    let e : Arrival := ⟨0, .sq, { waitingOne with pkt := authPkt 1 }, 0⟩
    let s := { served with stepQ := [e] }
    let u := s.setSealing 0 .push (some ⟨waitingOne, 4096, false, 0⟩)
    (s.serving = true ∧ (s.fn 0).waiting .sq = [] ∧ (s.fn 0).sealing .sq = none ∧
      splitArrival 0 .sq s.stepQ = some ([], e, []) ∧ s.ctrName 0 e.pk.pkt = some (some 0) ∧ s.ctrBusy (some 0) = false) ∧
    (u.serving = true ∧ (u.fn 0).waiting .sq = [] ∧ (u.fn 0).sealing .sq = none ∧
      splitArrival 0 .sq u.stepQ = some ([], e, []) ∧ u.ctrName 0 e.pk.pkt = some (some 0) ∧ u.ctrBusy (some 0) = true) := by
  decide +kernel

theorem test_witness_counter_seals :
    let s := served.setSealing 0 .push (some ⟨waitingOne, 4096, false, 0⟩)
    let late := { s with tb := { s.tb with cycles := 2500001 } }
    (s.fn 0).sealing .push = some ⟨waitingOne, 4096, false, 0⟩ ∧ s.uptime ≤ 10000000 ∧
    (late.fn 0).sealing .push = some ⟨waitingOne, 4096, false, 0⟩ ∧ 10000000 < late.uptime := by decide +kernel

/-! ### Witnesses: slates, lanes, the Bell, EXAM -/

/-- Slate 7 is LIVE for House 0. -/
def lived (f : Slate → Slate) : State := served.modSlate 7 (fun x => f { x with st := .live, pkt := zeros 64 })

/-- The claim of a lane's result. -/
def result : Claim := { status := 0, result := 5, neg := false, out := none, standin := false, time := 0 }

/-- House 0 shares the pool lanes, and its slate is the head of its queue and of theirs. -/
def queued : State :=
  let s := { (lived (fun x => { x with work := .queued })).modHouse 0 (fun h => { h with queue := [7] }) with poolQ := [7] }
  s.setFld (Reg.thrLane 0) F.ThrLane.state unitService

theorem test_witness_position :
    queued.queueHead 0 = some 7 ∧ queued.freePositions 0 ≠ [] ∧ needsFill (queued.slate 7).pkt = false := by
  decide +kernel

theorem test_witness_lane_results :
    let s := (lived (fun x => { x with work := .lane 0 0, res := some result })).modLane 0 (fun l =>
      { l with pos := [some 7, none, none, none] })
    let u := s.modSlate 7 (fun x => { x with st := .claimed, claim := some result })
    ((s.lane 0).pos.getD 0 none = some 7 ∧ (s.slate 7).replied = false ∧ (s.slate 7).waiting = false ∧
      (s.slate 7).unclaimed = true ∧ (s.slate 7).res = some result) ∧
    ((u.lane 0).pos.getD 0 none = some 7 ∧ (u.slate 7).replied = false ∧ (u.slate 7).waiting = false ∧
      (u.slate 7).unclaimed = false ∧ (u.slate 7).res = some result) := by decide +kernel

theorem test_witness_lane_drain :
    let s := served.modLane 8 (fun l => { l with draining := true, nextHouse := some 3 })
    (s.lane 8).draining = true ∧ (s.lane 8).pos.all (·.isNone) = true ∧ (s.lane 8).retiring = false ∧
    s.lanes.any (fun e => e.2.heir == some 8) = false := by decide +kernel

theorem test_witness_bell :
    let s := { lived (fun x => { x with armed := true, standinPt := 100 }) with dtime := 100 }
    s.firstDue (fun _ sl => s.isDue 0 sl) = some 7 ∧ (s.slate 7).replied = false ∧ (s.slate 7).waiting = false ∧
    s.bellCount 0 < 8 ∧
    (s.modHouse 0 (fun v => { v with bellAt := 100, bellFired := 8 })).bellCount 0 = 8 ∧
    (let w := s.modHouse 0 (fun v => { v with bellAt := 100, bellFired := 8 })
     w.firstDue (fun _ sl => w.isDue 0 sl) = some 7) ∧
    (∀ e ∈ (lived (fun x => { x with armed := true, standinPt := 100 })).slates,
      e.2.house = 0 → e.2.st = .live → e.2.armed = true → (0 : Nat) < e.2.standinPt) := by decide +kernel

theorem test_witness_release :
    let s := (lived (fun x => { x with claim := some result, work := .lane 0 1, replied := true }))
    let u := lived (fun x => { x with st := .claimed, claim := some result, heldRelease := true, release := some 50 })
    ((s.slate 7).claim.isSome = true ∧ (s.slate 7).work = .lane 0 1 ∧ (s.slate 7).replied = true ∧
      (s.slate 7).mills = 0 ∧ (s.slate 7).waiting = false ∧ s.tagInChute (slateTag 7 (s.slate 7)) = false) ∧
    ((s.modSlate 7 (fun x => { x with work := .tiller 3 })).slate 7).work = .tiller 3 ∧
    ({ u with dtime := 50 }.examDue 0 ({ u with dtime := 50 }.slate 7) = true ∧ { u with dtime := 50 }.examEarlier 7 = false) ∧
    u.dtime < (u.slate 7).release.getD 0 ∧
    { u.setSlate 6 { u.slate 7 with release := some 49 } with dtime := 50 }.examEarlier 7 = true := by decide +kernel

/-! ### Witnesses: resets, STOP, the journal -/

/-- A start with a good image in slot A, and one without an image. -/
def boot (a : Bool) : BootInput :=
  { slots := (if a then some ⟨true, 0, true, true, true⟩ else some {}, some {}), dimms := [⟨0, 0, false, 0, false⟩, ⟨0, 0, false, 0, false⟩,
      ⟨0, 0, false, 0, false⟩, ⟨0, 0, false, 0, false⟩], failed := [], perstHigh := [],
    flash := none, vpp := true }

theorem test_witness_starts :
    State.reset.power.porst = true ∧ State.reset.power.vaon = true ∧
    (boot true).slots.1.getD State.reset.flash.slotA = ⟨true, 0, true, true, true⟩ ∧ State.reset.flash.minSvn = 0 ∧
    ((boot false).slots.1.getD State.reset.flash.slotA).formed = false ∧
    ((boot false).slots.2.getD State.reset.flash.slotB).formed = false ∧
    State.reset.power.service = false ∧ up.power.porst = false := by decide +kernel

/-- PWR_STAT holds `n`. -/
def inState (n : Nat) : State := up.setFld Reg.pwrStat F.PwrStat.state n

theorem test_witness_quiesce :
    let s := { up.cyc 2 with power := { up.power with quiesce := some (5, 1) } }
    let u := { up.cyc 2 with power := { up.power with stopping := some 5 } }
    (up.power.quiesce = none ∧ up.power.stopping = none ∧ up.power.vaon = true) ∧ (s.power.quiesce = some (5, 1) ∧
      5 ≤ s.uptime ∧ s.quiesceSteps.allHeld = 0 ∧ (s.cyc 1).uptime < 5) ∧
    (u.power.quiesce = none ∧ u.power.stopping = some 5 ∧ u.quiesceSteps.allHeld = 0) := by decide +kernel

/-- A quiesce with and without mirrors and held records outstanding, the last within and past its 1 ms, and a STOP whose
records are out, that a frozen channel holds, and that goes on. -/
theorem test_witness_quiesce_waits :
    let s := { up.cyc 2 with power := { up.power with quiesce := some (5, 1) } }
    let rec0 : PendRec := { jseq := 0, slate := none, reject := none, written := false, mirror := some 0 }
    let held : HeldRec := { bytes := zeros 64, p := { rec0 with slate := some 7 }, copy := false }
    let m := s.modJ 0 (fun j => { j with pend := [rec0] })
    let k := (dramUp (s.modJ 0 (fun j => { j with held := [held] }))).setFld (Reg.dcStat 0) F.DcStat.state chanFrozen
    let u := { up.cyc 2 with power := { up.power with stopping := some 5 } }
    let v := u.modJ 0 (fun j => { j with pend := [rec0] })
    (s.quiesceSteps.mirrorsOut = false ∧ s.quiesceSteps.allHeld = 0) ∧ m.quiesceSteps.mirrorsOut = true ∧
    (k.quiesceSteps.allHeld = 1 ∧ k.quiesceSteps.mirrorsOut = false ∧ k.quiesceSteps.uptime < 5 + 1000000 ∧
      5 + 1000000 ≤ (k.cyc 250002).quiesceSteps.uptime) ∧
    v.quiesceSteps.stopSeals.recordsOut = true ∧ u.quiesceSteps.stopSeals.recordsOut = false ∧
    u.quiesceSteps.stopSeals.stopStores.isSome = true ∧
    ((dramUp (til (fun x => { x with sb := [{ entry5 with line := 64 }] }))).setFld (Reg.dcStat 0) F.DcStat.state
      chanFrozen).stopStores = none := by decide +kernel

theorem test_witness_wakes :
    let s := ((inState pwrStop).setFlag Reg.pwrCtl F.PwrCtl.wakeInEn true).setFlag Reg.pwrCtl F.PwrCtl.wakePol true
    (s.power.porst = false ∧ s.power.vaon = true ∧ s.flag Reg.pwrCtl F.PwrCtl.wakeInEn = true ∧
      s.flag Reg.pwrCtl F.PwrCtl.wakePol = true ∧ s.fld Reg.pwrStat F.PwrStat.state = pwrStop) ∧
    ((inState pwrQueued).fld Reg.pwrStat F.PwrStat.state = pwrQueued ∧
      ({ inState pwrQueued with power := { (inState pwrQueued).power with offQueue := [(0, .stop)] } } : State).stopQueued
        = true) ∧
    ((s.wr Reg.wakeTime 3).rd Reg.wakeTime ≠ 0 ∧ ((s.wr Reg.wakeTime 3).rd Reg.wakeTime).toNat ≤ 3 ∧
      s.dtime < ((s.wr Reg.wakeTime 3).rd Reg.wakeTime).toNat) ∧
    (inState pwrExiting).fld Reg.pwrStat F.PwrStat.state = pwrExiting ∧
    (inState pwrExiting).flag Reg.tampStat F.TampStat.latch = false ∧
    up.fld Reg.pwrStat F.PwrStat.state ≠ pwrExiting := by decide +kernel

/-- A record whose write is outstanding, or whose mirror is. -/
def record (w : Bool) (m : Option Nat) : PendRec := { jseq := 3, slate := none, reject := none, written := w, mirror := m }

theorem test_witness_records :
    let s (p : PendRec) := up.modJ 2 (fun j => { j with pend := [p, record false none] })
    ((s (record false none)).house 2).j.pend = [record false none, record false none] ∧
    (record false none).done = false ∧ ((s (record true (some 0))).house 2).j.pend.head? = some (record true (some 0)) ∧
    ((s (record false (some 0))).house 2).j.pend = [record false (some 0), record false none] ∧
    up.uptime = 0 ∧ 0 + 1000 * ((up.setFld (Reg.jrCtl 2) F.JrCtl.mrTimeout 0).fld (Reg.jrCtl 2) F.JrCtl.mrTimeout) ≤ up.uptime ∧
    up.uptime < 0 + 1000 * ((up.setFld (Reg.jrCtl 2) F.JrCtl.mrTimeout 1).fld (Reg.jrCtl 2) F.JrCtl.mrTimeout) := by
  decide +kernel

theorem test_witness_seals :
    let s (b : Bool) := up.modJ 1 (fun j => { j with
      seals := [{ no := 0, s := 9, head := 0, sig := (true, true), block := b }], sealed := some (4, 0, 0),
      ckptSeals := 4096, reserveNew := some 77 })
    (∀ b, ((s b).house 1).j.sealing.map (·.block) = some b) ∧ (s true).lineHeld ((s true).sealAddr 1 0) = false ∧
    ((s true).house 1).j.sealed = some (4, 0, 0) ∧ 4096 ≤ ((s true).house 1).j.ckptSeals ∧
    ((s true).house 1).j.noSeals = false ∧ ((up.modJ 1 (fun j => { j with noSeals := true })).house 1).j.noSeals = true ∧
    ((s true).house 1).j.reserveNew = some 77 ∧ ((s true).house 1).j.unbuilt = [] ∧ ((s true).house 1).j.events = [] ∧
    (up.house 1).j.ckptTime + 100000000 ≤ ({ up with tb := { up.tb with cycles := 25000000 } } : State).uptime ∧
    (up.uptime < (up.house 1).j.ckptTime + 100000000 ∧ (up.house 1).j.ckptSeals < 4096) := by decide +kernel

/-! ### Witnesses: Chutes -/

/-- Chute 9 is House 0's Tabqua work Chute, and slate 7 waits for its credit. -/
def credited (l : List Packet) : State :=
  let s := lived (fun x => { x with work := .credit, pkt := [1, 0x0A] ++ zeros 62 })
  (s.setFld (Reg.chHouse 0) F.ChHouse.tq 9).modChute 9 (fun x => { x with pkts := l })

theorem test_witness_work_commits :
    let s := credited []
    (s.slate 7).work = .credit ∧ (s.slate 7).st = .live ∧ s.workChute (s.slate 7) = some 9 ∧ (s.chute 9).pkts.length < 64 ∧
    pkOpcode (s.slate 7).pkt = 0x0A01 ∧ 64 ≤ ((credited (List.replicate 64 packet)).chute 9).pkts.length ∧
    pkOpcode ((lived id).slate 7).pkt ≠ 0x0A01 := by decide +kernel

/-- Tiller 4 has written a whole packet of `n` words to Chute 2. -/
def written (n role : Nat) : State :=
  (up.setFld (Reg.chCfg 2) F.ChCfg.role role).modChute 2 (fun x =>
    { x with bufs := [(4, (List.range (64 * n)).map (fun i => (i, if i = 5 then BitVec.ofNat 8 n else 0)))] })

theorem test_witness_packet_commits :
    (∀ n ∈ [1, 2], bufDone (((written n 2).chute 2).buf 4) = true ∧ bufLen (((written n 2).chute 2).buf 4) = some n ∧
      bufHas (((written n 2).chute 2).buf 4) 0 (64 * n) = true) ∧
    (written 1 2).chuteRole 2 = roleTiller ∧ (written 1 0).chuteRole 2 = roleWork ∧
    ((written 1 2).chute 2).pkts.length < 64 ∧ (written 1 2).bufClaims 2 (((written 1 2).chute 2).buf 4) = false := by
  decide +kernel

/-- Tiller 4 has written a claim request to the REPLY Chute 2, with `n` answers outstanding. -/
def requesting (n : Nat) : State :=
  ((up.setFld (Reg.chCfg 2) F.ChCfg.role roleReply).modChute 2 (fun x =>
    { x with bufs := [(4, (List.range 64).map (fun i => (i, if i = 4 then 3 else if i = 5 then 1 else 0)))] })).modTiller 4
    (fun x => { x with ans := List.replicate n (2, none) })

theorem test_witness_claim_commits :
    ∀ n ∈ [3, 4], let s := requesting n
      s.chuteRole 2 = roleReply ∧ bufDone ((s.chute 2).buf 4) = true ∧ bufLen ((s.chute 2).buf 4) = some 1 ∧
      bufHas ((s.chute 2).buf 4) 0 64 = true ∧ s.bufClaims 2 ((s.chute 2).buf 4) = true ∧
      (s.tiller 4).ans.length = n ∧ (s.chute 2).pkts.length < 64 := by decide +kernel

theorem test_witness_stale :
    let s := (chuted [packet] id).setFld (Reg.chCfg 0) F.ChCfg.staleNs 1
    64 * s.fld (Reg.chCfg 0) F.ChCfg.staleNs ≠ 0 ∧ (s.chute 0).pkts ≠ [] ∧ (s.chute 0).staleAt + 64 ≤ (s.cyc 16).uptime ∧
    s.uptime < (s.chute 0).staleAt + 64 := by decide +kernel

/-- Tiller 4 writes to the REPLY Chute 3 a packet of this kind for slate `id`. -/
def replyPkt (kind id : Nat) : Packet :=
  { bytes := toBytes id 4 ++ [BitVec.ofNat 8 kind, 1] ++ zeros 58, writer := some 4 }

/-- Tiller 4 holds slate 7, and the packet is the head of the REPLY Chute. -/
def replying (kind id : Nat) : State :=
  let s := (lived (fun x => { x with work := .tiller 4 })).setFld (Reg.chCfg 3) F.ChCfg.role 1
  s.modChute 3 (fun x => { x with pkts := [replyPkt kind id] })

theorem test_witness_replies :
    let s := replying 3 7
    let u (k i : Nat) := ((replying k i).chutePop 3).settleAll
    (s.chuteRole 3 = roleReply ∧ (s.chute 3).pkts = [replyPkt 3 7] ∧ pkKind (replyPkt 3 7).bytes = kindClaim ∧
      (replyPkt 3 7).writer = some 4 ∧ (u 3 7).tagSlate (tagOf (replyPkt 3 7).bytes) = some 7 ∧
      ((u 3 7).slate 7).unclaimed = true ∧ (u 3 7).holds (replyPkt 3 7) 7 = true) ∧
    ((u 1 7).tagSlate (tagOf (replyPkt 1 7).bytes) = some 7 ∧ (u 1 7).holds (replyPkt 1 7) 7 = true ∧
      ((u 1 7).slate 7).unclaimed = true) ∧
    (u 3 8).tagSlate (tagOf (replyPkt 3 8).bytes) = none ∧ pkKind (replyPkt 1 7).bytes ≠ kindClaim ∧
    (u 1 7).holds { replyPkt 1 7 with term := 1 } 7 = false := by decide +kernel

/-! ### Witnesses: time, voltage, Terms -/

theorem test_witness_pps :
    let s (c d : Nat) (p : Option (Nat × Nat)) := { up.setFlag Reg.timeCtl F.TimeCtl.ppsInEn true with
      dtime := d, tb := { up.tb with cycles := c, pendSet := p, lastEdge := some 0, good := 3 } }
    (s 0 5 none).timeRuns = true ∧ (s 0 5 none).flag Reg.timeCtl F.TimeCtl.ppsInEn = true ∧
    (phaseError 50 = 50 ∧ phaseError 1000 = 1000 ∧ phaseError 1001 = 1001 ∧ phaseError 999999950 = -50) ∧
    (s 374999999 5 none).uptime < 0 + 1500000000 ∧ 0 + 1500000000 ≤ (s 375000000 5 none).uptime ∧
    ((s 0 5 (some (5, 0))).tb.pendSet = some (5, 0) ∧ (s 0 5 (some (5, 0))).dtime ≤ 5 ∧
      (s 0 5 (some (5, 0))).uptime < 0 + 1500000000 ∧ 4 < (s 0 5 (some (4, 0))).dtime ∧
      0 + 1500000000 ≤ (s 375000000 5 (some (5, 0))).uptime) ∧
    (s 375000000 5 none).tb.lastEdge = some 0 := by decide +kernel

theorem test_witness_pps_out :
    let s (c d : Nat) (b : Bool) := { up.setFlag Reg.timeCtl F.TimeCtl.ppsOutEn true with
      dtime := d, tb := { up.tb with cycles := c, ppsOut := b } }
    ((s 0 999999992 false).timeRuns = true ∧ (s 0 999999992 false).flag Reg.timeCtl F.TimeCtl.ppsOutEn = true ∧
      (s 0 999999992 false).tb.ppsOut = false ∧ 999999992 ≤ (s 0 999999992 false).dtime % 1000000000 ∧
      (s 0 1000000008 false).dtime % 1000000000 ≤ 8 ∧ (s 0 0 false).fld Reg.pwrStat F.PwrStat.state ≠ pwrStop ∧
      (s 0 999999992 false).tb.ppsOutStart + 500000000 < (s 0 999999992 false).dtime + 8) ∧
    ((s 25000000 0 true).tb.ppsOut = true ∧
      (s 25000000 0 true).tb.ppsOutSince + 1000000 * (s 0 0 true).tb.ppsOutWidth ≤ (s 25000000 0 true).uptime ∧
      (s 24999999 0 true).uptime < (s 0 0 true).tb.ppsOutSince + 1000000 * (s 0 0 true).tb.ppsOutWidth) := by decide +kernel

theorem test_witness_tref : up.timeRuns = true ∧ up.mcheckTarget = some 0 ∧ [(305 : Int), 297].max? = some 305 := by
  decide +kernel

theorem test_witness_policy :
    let s := { up with avs := { up.avs with evalNow := true, current := some 12 } }
    s.running = true ∧ s.avs.evalNow = true ∧ s.avs.current = some 12 ∧ up.avs.current = none ∧
    up.avs.evalNow = false ∧ up.uptime < up.avs.lastEval + 50000 * max 1 (up.fld Reg.vpolCtl F.VpolCtl.period) := by
  decide +kernel

/-- A write to be issued, asked for again, or retried; one in time, late, and failed for the first and the second time,
with the 50 µs over or not. -/
theorem test_witness_avs :
    let s (c : Nat) (retried failed : Bool) := { up.setFlag Reg.vpolStat F.VpolStat.busy true with
      tb := { up.tb with cycles := c },
      avs := { up.avs with writing := some 12, retried := retried, failed := failed, lastWrite := some 0 } }
    (up.running = true ∧ up.flag Reg.vpolStat F.VpolStat.busy = false ∧
      up.flag Reg.vpolStat F.VpolStat.avsFault = false ∧ up.avs.current ≠ some up.avs.request ∧ up.avsSpaced = true ∧
      ({ up with avs := { up.avs with again := true } } : State).avs.again = true) ∧
    (∀ f r, (s 12500 r f).flag Reg.vpolStat F.VpolStat.busy = true ∧ (s 12500 r f).avs.writing = some 12 ∧
      (s 12500 r f).avs.failed = f ∧ (s 12500 r f).avs.retried = r ∧ (s 12500 r f).avsSpaced = true ∧
      (s 12499 r f).avsSpaced = false ∧ (s 12500 r f).flag Reg.vpolStat F.VpolStat.avsFault = false) ∧
    ((s 12500 false false).avs.lastWrite = some 0 ∧ (s 12500 false false).uptime ≤ 0 + (s 12500 false false).avsLimit ∧
      0 + (s 2500001 false false).avsLimit < (s 2500001 false false).uptime) ∧
    (up.setFlag Reg.vpolStat F.VpolStat.avsFault true).flag Reg.vpolStat F.VpolStat.avsFault = true ∧
    (up.setFlag Reg.avsCtl F.AvsCtl.pmbEn true).flag Reg.avsCtl F.AvsCtl.pmbEn = true ∧
    (up.setFlag Reg.avsCtl F.AvsCtl.pmbEn false).flag Reg.avsCtl F.AvsCtl.pmbEn = false := by decide +kernel

theorem test_witness_terms :
    let s := { up with dtime := up.termNs, staged := [.loan 1 true] }
    up.termDue = false ∧ s.timeRuns = true ∧ s.termDue = true ∧ s.stopped = false ∧ s.serving = true ∧
    { s with power := { s.power with service := false } }.serving = false ∧
    (s.staged = [.loan 1 true] ∧ (Staged.loan 1 true).step = 3 ∧ s.leaving = [] ∧
      ∀ h, h < 5 → (s.house h).tillersClearing = []) := by
  decide +kernel

theorem test_witness_moves :
    ({ up with staged := [.region 15 1 2 false] }.staged = .region 15 1 2 false :: []) ∧
    Map.find 15 { up with ways := [(15, 4)] }.ways = some 4 := by decide +kernel

/-! ### Witnesses: tamper, seals, entropy, cards, lapses, fills -/

theorem test_witness_tamper :
    let s := (up.setFld Reg.tampCtl F.TampCtl.meshEn 8).setFld Reg.tampCtl F.TampCtl.swEn 8
    (s.power.vaon = true ∧ s.power.porst = false ∧ s.power.offQueue = []) ∧
    { s with power := { s.power with porst := true } }.power.porst = true ∧
    (8#4).toNat &&& s.fld Reg.tampCtl F.TampCtl.meshEn ≠ 0 ∧ (7#4).toNat &&& s.fld Reg.tampCtl F.TampCtl.meshEn = 0 ∧
    (s.fld Reg.tampCtl F.TampCtl.swEn).testBit 3 = true ∧ (s.fld Reg.tampCtl F.TampCtl.swEn).testBit 0 = false := by
  decide +kernel

theorem test_witness_slot_seals : { up with sealQ := [(true, 4095)] }.sealQ.contains (true, 4095) = true := by decide +kernel

theorem test_witness_entropy :
    let s := up.setFlag (Reg.drbgStat 3) F.DrbgStat.drbgWait true
    (s.running = true ∧ s.flag (Reg.drbgStat 3) F.DrbgStat.drbgWait = true) ∧
    (s.setFld (Reg.entStat 0) F.EntStat.state entService).entropyHealthy = true ∧
    ((List.range 3).foldl (fun (s : State) e => s.setFld (Reg.entStat e) F.EntStat.state (entService + 1)) s).entropyHealthy
      = false ∧
    ({ up with entropy := [(2, { last := true, run := 40 })] }.source 2).last = true := by decide +kernel

/-- A component session that one card has entered, and what another and the same card would give. -/
def session1 : CompSession := { spec := zeros 64, count := 2, acc := 9, cards := [([1], [1])], since := 0 }
def got (n : Byte) : CardGot := ⟨[n], [n], 5, 3⟩

/-- An exchange of slate 7 at a step. -/
def exchanging (p : CardStep) : State :=
  let x : Exchange := { slate := some (7, 0), at_ := p, eph := zeros 48, nonce := zeros 32, session := 1 }
  let s := { (lived (fun x => { x with work := .tiller 0, pkt := [0x87, 2] ++ zeros 62 })).modHouse 0 (fun h =>
    { h with comp := some session1 }) with cards := [(0, { present := true, exchange := some x })] }
  s.setFld (Reg.houseTil 0) F.HouseTil.tillers 0

/-- Every step of an exchange; the certificate, its signatures and the tag are opaque, and both cases stand. -/
theorem test_witness_cards :
    (∀ p ∈ [CardStep.select, .cert 0, .cert 254, .agree, .component], (exchanging p).exchangeSlate 0 = some 7 ∧
      ((exchanging p).card 0).exchange.map (·.at_) = some p ∧
      (exchanging p).session ((exchanging p).houseOfSlate 7) = some session1) ∧
    session1.fresh (got 2) = true ∧ session1.fresh (got 1) = false ∧ (0x9000#16 ≠ 0x6A82#16) ∧
    up.exchangeSlate 1 = none ∧ (up.card 0).exchange = none := by
  decide +kernel

theorem test_witness_owner_keys :
    let s := { up with dev := { up.dev with vshare := some 1 },
                       cards := [(0, { present := true, exchange := none }), (1, { present := true, exchange := none })] }
    s.cardsReady = true ∧ up.cardsReady = false := by decide +kernel

theorem test_witness_lapses :
    let s := ({ (up.modHouse 3 (fun h => { h with comp := some session1 })).setFlag Reg.passStat F.PassStat.active true with
      rekeyAt := some 0, dtime := 1 } : State).cyc 150000000000
    s.rekeyAt = some 0 ∧ 0 + 600000000000 ≤ s.uptime ∧ (s.cyc 149999999999).uptime < 0 + 600000000000 ∧
    s.session 3 = some session1 ∧ session1.since + 600000000000 ≤ s.uptime ∧
    (s.cyc 149999999999).uptime < session1.since + 600000000000 ∧
    s.flag Reg.passStat F.PassStat.active = true ∧ (s.rd Reg.passExp).toNat < s.dtime ∧
    { s with dtime := 0 }.dtime ≤ (s.rd Reg.passExp).toNat := by decide +kernel

/-- Slate 7 waits for the fill of its symmetric record 0; its table lies at 4096, in region 0 on the frozen channel 0,
or in no region. -/
def filling (inRegion : Bool) : State :=
  let s := lived (fun x => { x with work := .filling 0, pkt := zeros 23 ++ [0x60] ++ zeros 40 })
  let s := if inRegion then (dramUp s).setFld (Reg.dcStat 0) F.DcStat.state chanFrozen else s
  s.setFld (Reg.ktSym 0) F.KtSym.base 1

/-- With the channel frozen the fill is held; a line of zeros is no record of the handle. (That a record unwraps is for
the opaque cipher to say.) -/
theorem test_witness_fills :
    let v : Word := 0x6000000000000000
    let r (s : State) := s.granaryRead (s.tableEntry 0 false 0) 128 0 .ok
    ((filling false).slate 7).work = .filling 0 ∧ pkKey ((filling false).slate 7).pkt 0 = v ∧
    (r (filling true)).1 = .held ∧ (r (filling false)).1 ≠ .held ∧
    (match (r (filling false)).2.fillRecord 0 v true with | .absent _ => true | _ => false) = true ∧
    ((filling false).slate 7).unclaimed = true := by decide +kernel

/-! ### Witnesses: DRAM channels, Hoppers, roll call -/

/-- Channel 3 is in this state with this action. -/
def chanIn (state action : Nat) : State :=
  ((up.setFld (Reg.dcStat 3) F.DcStat.state state).setFld (Reg.dcAct 3) F.DcAct.action action).setFld
    (Reg.dcCtl 3) F.DcCtl.scrubH 1

theorem test_witness_channels :
    (up.running = true ∧ (chanIn chanService 0).chanState 3 = chanService ∧ (chanIn chanService 0).chanUp 3 = true) ∧
    (∀ a, a < 4 → (chanIn chanFrozen a).frozenFor 3 a = true) ∧
    (∀ h, h < 4 → ((chanIn chanFrozen 1).house h).j.held = [] ∧ ((chanIn chanFrozen 1).house h).j.unbuilt = [] ∧
      ((chanIn chanFrozen 1).house h).j.events = [] ∧
      (chanIn chanFrozen 2).ringOk h = false) ∧
    (chanIn chanFrozen 2).slates = [] ∧ (chanIn chanService 0).chanState 3 ≠ chanFrozen ∧
    (((chanIn chanFrozen 0).chan 3).frozenAt + 100000000 ≤ ((chanIn chanFrozen 0).cyc 25000000).uptime ∧
      (chanIn chanFrozen 0).uptime < ((chanIn chanFrozen 0).chan 3).frozenAt + 100000000) := by decide +kernel

theorem test_witness_retrain_and_scrub :
    let s := ((chanIn chanService 0).setFld (Reg.dcTrn 3) F.DcTrn.period 1).setFld (Reg.dcTrn 3) F.DcTrn.offset 0
    let u := ((chanIn chanService 0).modChan 3 (fun x => { x with dimm := ⟨1, 1, false, 24, true⟩ })).setFld
      (Reg.dramRgnA 0) F.DramRgnA.limit 1
    let v := (u.setFld (Reg.dramRgnB 0) F.DramRgnB.mode 0).setFld (Reg.dramRgnB 0) F.DramRgnB.chmask 8
    s.retrainWindow 3 = some 0 ∧ (s.chan 3).lastPause ≠ some 0 ∧
    ((s.modChan 3 (fun x => { x with lastPause := some 0 })).chan 3).lastPause = some 0 ∧
    v.chanAt 64 = some 3 ∧ v.chanState 3 ≠ chanFrozen ∧ v.readError 64 64 = false ∧
    v.fld (Reg.dcCtl 3) F.DcCtl.scrubH ≠ 0 ∧ v.bankWaits 3 64 = false ∧
    ((v.chan 3).marks.filter (· == v.bankOf 64)).length < 2 := by decide +kernel

/-- Channel 3 holds region 0, and these banks of it wait for their windows. -/
def scrubbing (full : List Nat) : State :=
  let s := ((chanIn chanService 0).setFld (Reg.dramRgnA 0) F.DramRgnA.limit 1).setFld (Reg.dramRgnB 0) F.DramRgnB.mode 0
  (s.setFld (Reg.dramRgnB 0) F.DramRgnB.chmask 8).modChan 3 (fun x =>
    { x with dimm := ⟨1, 1, false, 24, true⟩, full := full })

theorem test_scrubbing_groups : (scrubbing []).groupsAt 64 = List.range 8 ∧
    (scrubbing [(scrubbing []).bankOf 64]).groupsAt 64 = List.range 8 := by decide +kernel

theorem test_witness_waiting_bank :
    let s := scrubbing [(scrubbing []).bankOf 64]
    s.running = true ∧ s.chanAt 64 = some 3 ∧ s.chanState 3 ≠ chanFrozen ∧ s.readError 64 64 = false ∧
    s.bankWaits 3 64 = true := by
  refine ⟨by decide +kernel, by decide +kernel, by decide +kernel, by decide +kernel, ?_⟩
  have h : (scrubbing [(scrubbing []).bankOf 64]).bankOf 64 = (scrubbing []).bankOf 64 := by
    unfold State.bankOf
    rw [test_scrubbing_groups.1]
    exact congrArg (fun gs : List Nat => 4 * gs.getD (Config.lineRow 64 / 2 ^ 18 / 4 % gs.length) 0 +
      Config.lineRow 64 / 2 ^ 18 % 4) test_scrubbing_groups.2
  have c : ((scrubbing [(scrubbing []).bankOf 64]).chan 3).full = [(scrubbing []).bankOf 64] := by
    unfold scrubbing; rw [Sys2Proof.Laws.chan_modChan]; rfl
  show ((scrubbing [(scrubbing []).bankOf 64]).chan 3).full.contains _ = true
  rw [c, h]; simp

theorem test_witness_march :
    let s (l : Nat) := { up with wear := { up.wear with marchLine := [(71, l)] } }
    Map.find 71 (s 2046).wear.marchLine = some 2046 ∧ Map.find 71 (s 2047).wear.marchLine = some 2047 ∧
    (∀ k ∈ [MarchKind.slice, .l2, .caches],
      ((up.setMarch (marchKind k) 7 (marchRunning, 0, 0)).marchOf (marchKind k) 7).1 = marchRunning) := by decide +kernel

/-- Channel 15 of engine 7 copies one line of 8 bytes in the secure world's Desks. -/
def hopping (len : Nat) (h : Hopper) : State :=
  let s := (up.setFlag (Reg.hcCtl 7 15) F.HcCtl.en true).wr (Reg.hcSrc 7 15) 0x080000001000
  let s := (s.wr (Reg.hcDst 7 15) 0x080000002000).setFld (Reg.hcSgeo 7 15) F.HcSgeo.len len
  let s := (s.setFld (Reg.hcSgeo 7 15) F.HcSgeo.lines 1).setFld (Reg.hcDgeo 7 15) F.HcDgeo.lines 1
  { s.setFld (Reg.hcDgeo 7 15) F.HcDgeo.len 8 with hoppers := [(7, h)] }

theorem test_witness_hopper_starts :
    let s := hopping 8 {}
    (s.flag (Reg.hcCtl 7 15) F.HcCtl.en = true ∧ s.hopActive 7 15 = false ∧ s.hopGeometry 7 15 = true) ∧
    (hopping 0 {}).hopGeometry 7 15 = false ∧ up.flag (Reg.hcCtl 7 15) F.HcCtl.en = false ∧
    ((hopping 8 { queue := [15, 3] }).hopper 7).queue = [15, 3] ∧
    ((hopping 8 { queue := [15, 3] }).hopper 7).running = none ∧
    15 ∈ ((hopping 8 { dropping := [15] }).hopper 7).dropping ∧ 15 ∉ (s.hopper 7).dropping := by decide +kernel

theorem test_witness_hopper_ends :
    let s := hopping 8 { running := some 15 }
    ((s.hopper 7).running = some 15 ∧ s.hopSidePasses 7 15 .load (s.hopSrc 7 15) = true ∧
      s.hopSidePasses 7 15 .store (s.hopDst 7 15) = true ∧ s.hopHeld (s.hopSrc 7 15) = false ∧
      s.hopHeld (s.hopDst 7 15) = false ∧ s.hopAnySide 7 (s.hopSrc 7 15) = false ∧
      s.hopAnySide 7 (s.hopDst 7 15) = false ∧ (s.hopSrc 7 15).total = 8 ∧ s.hopMode 7 15 = 0 ∧
      (s.hopDst 7 15).lines = 1 ∧ (s.hopDst 7 15).len = 8) ∧
    (s.wr (Reg.hcDst 7 15) 0).hopSidePasses 7 15 .store ((s.wr (Reg.hcDst 7 15) 0).hopDst 7 15) = false ∧
    (let u := (dramUp s).setFld (Reg.dcStat 0) F.DcStat.state chanFrozen
     u.hopHeld { u.hopSrc 7 15 with addr := 64 } = true) ∧
    s.hopFails 7 15 .response 0x080000001000 = true ∧ s.hopFails 7 15 .response 0x080000002007 = true := by decide +kernel

theorem test_witness_windows :
    let s := { up with wear := { up.wear with passRunning := true, confirm := [(0, 2)] },
                       avs := { up.avs with current := some 12 } }
    (s.running = true ∧ s.loopMv 0 = some 900 ∧ s.loopMv 173 = some 800 ∧ s.wear.passRunning = true) ∧
    s.discards 65536 false = false ∧ s.discards 65536 true = true ∧ s.discards 0 false = true ∧
    Map.get 0 s.wear.confirm 0 = 2 ∧ s.unitState 0 ≠ unitWorn ∧ s.unitState 0 ≠ unitFailed ∧
    (driftAbove (107, 100) 6 = true ∧ driftAbove (106, 100) 6 = false ∧ driftAtLeast (104, 100) 4 = true) := by
  decide +kernel

theorem test_witness_census :
    let s := (up.setFlag Reg.rcCtl F.RcCtl.en true).setFld Reg.rcCtl F.RcCtl.censusMs 1
    (s.serving = true ∧ s.flag Reg.rcCtl F.RcCtl.en = true ∧ s.wear.passRunning = false) ∧
    s.wear.lastPass + 1000000 * s.fld Reg.rcCtl F.RcCtl.censusMs ≤ (s.cyc 250000).uptime ∧
    (s.cyc 249999).uptime < s.wear.lastPass + 1000000 * s.fld Reg.rcCtl F.RcCtl.censusMs := by decide +kernel

/-- The rotation of lane 0 is queued; lane 8 is fallow. -/
def rotating (target : Option Nat) (now : Bool) : State :=
  let s := (List.range 8).foldl (fun (s : State) n => s.setUnitState (72 + n) unitService) up
  { s with wear := { s.wear with rots := [{ u := 72, failed := false, now := now, target := target,
                                            tested := target.isSome }] } }

theorem test_witness_rotations :
    let r (m : Option Nat) (b : Bool) : Rot := { u := 72, failed := false, now := b, target := m, tested := m.isSome }
    let s := rotating none true
    let u := rotating (some 80) true
    let v := s.setUnitState 80 unitService
    (s.running = true ∧ s.wear.rots = [r none true] ∧ s.rotReady (r none true) = none ∧
      s.testTarget (r none true) = some 80) ∧
    ((r (some 80) true).due = true ∧ u.rotReady (r (some 80) true) = some 80 ∧ u.rotWaits (r (some 80) true) = false) ∧
    (v.rotReady (r none true) = none ∧ v.testTarget (r none true) = none) ∧ (r none false).due = false := by decide +kernel

/-! ### Witnesses: the Tabqua path -/

/-- A packet of this opcode with these bytes. -/
def opPkt (op : Nat) (l : List (Nat × Byte)) : List Byte :=
  l.foldl (fun p e => p.set e.1 e.2) (toBytes op 2 ++ zeros 190)

/-- A Tiller holds slate 7 of House `h` with this packet. -/
def held (h op : Nat) (l : List (Nat × Byte)) : State :=
  (up.setFld (Reg.houseTil h) F.HouseTil.tillers 1).modSlate 7 (fun x =>
    { x with st := .live, work := .tiller 0, path := .tabqua, house := h, pkt := opPkt op l })

/-- Held from its decidable parts. -/
theorem held_of (s : State) (op : Nat) (h1 : (s.slate 7).work = .tiller 0) (h2 : (s.slate 7).path = .tabqua)
    (h3 : pkOpcode (s.slate 7).pkt = op) (h4 : (s.slate 7).st = .live) (h5 : (s.slate 7).heldBy = none)
    (h6 : s.tillerServes 0 (s.slate 7).house = true) : Held s 7 op :=
  ⟨⟨0, h1, h6⟩, h2, h3, h4, h5⟩

/-- Every opcode of the Tabqua path can be held, its slate without a reply. -/
theorem test_witness_held : ∀ op ∈ [0x0C01, 0x0010, 0x0E01, 0x0E03, 0x0E30, 0x0E21, 0x0F03, 0x0101, 0x0103, 0x0104, 0x0107,
    0x0184, 0x0185, 0x0186, 0x0E31, 0x0182, 0x0181, 0x0183, 0x0120, 0x0121, 0x0122, 0x0123, 0x0124, 0x0125, 0x0C02, 0x0C03,
    0x0081, 0x0080, 0x0105, 0x0106, 0x0102, 0x018F, 0x00A1, 0x0E11, 0x0E10, 0x0B04, 0x0F01, 0x0F02, 0x00C0, 0x00C1, 0x00C2,
    0x00C3, 0x00C4, 0x010F, 0x0188, 0x00A2, 0x00A0, 0x0E02, 0x0E20, 0x0201, 0x0202, 0x0B01, 0x0B02, 0x0B03, 0x0203, 0x0281,
    0x0282, 0x0283, 0x0284, 0x0285, 0x0286, 0x0287, 0x0288, 0x0289, 0x028E, 0x028F, 0x02A0, 0x02A1, 0x02C0, 0x02C1, 0x0187,
    0x0801, 0x0802, 0x0803, 0x0804, 0x0805, 0x0902, 0x0903, 0x0904, 0x0905, 0x0906, 0x0301, 0x0302, 0x0303, 0x0401, 0x0402,
    0x0403, 0x0501, 0x0502, 0x0601, 0x0602, 0x0603, 0x0701, 0x0702, 0x0901],
    Held (held 0 op []) 7 op ∧ ((held 0 op []).slate 7).replied = false ∧ ((held 0 op []).slate 7).waiting = false := by
  have e : ∀ op ∈ [0x0C01, 0x0010, 0x0E01, 0x0E03, 0x0E30, 0x0E21, 0x0F03, 0x0101, 0x0103, 0x0104, 0x0107,
    0x0184, 0x0185, 0x0186, 0x0E31, 0x0182, 0x0181, 0x0183, 0x0120, 0x0121, 0x0122, 0x0123, 0x0124, 0x0125, 0x0C02, 0x0C03,
    0x0081, 0x0080, 0x0105, 0x0106, 0x0102, 0x018F, 0x00A1, 0x0E11, 0x0E10, 0x0B04, 0x0F01, 0x0F02, 0x00C0, 0x00C1, 0x00C2,
    0x00C3, 0x00C4, 0x010F, 0x0188, 0x00A2, 0x00A0, 0x0E02, 0x0E20, 0x0201, 0x0202, 0x0B01, 0x0B02, 0x0B03, 0x0203, 0x0281,
    0x0282, 0x0283, 0x0284, 0x0285, 0x0286, 0x0287, 0x0288, 0x0289, 0x028E, 0x028F, 0x02A0, 0x02A1, 0x02C0, 0x02C1, 0x0187,
    0x0801, 0x0802, 0x0803, 0x0804, 0x0805, 0x0902, 0x0903, 0x0904, 0x0905, 0x0906, 0x0301, 0x0302, 0x0303, 0x0401, 0x0402,
    0x0403, 0x0501, 0x0502, 0x0601, 0x0602, 0x0603, 0x0701, 0x0702, 0x0901],
      let s := held 0 op []
      (s.slate 7).work = .tiller 0 ∧ (s.slate 7).path = .tabqua ∧ pkOpcode (s.slate 7).pkt = op ∧ (s.slate 7).st = .live ∧
        (s.slate 7).heldBy = none ∧ s.tillerServes 0 (s.slate 7).house = true ∧ (s.slate 7).replied = false ∧
        (s.slate 7).waiting = false := by decide +kernel
  intro op h
  obtain ⟨h1, h2, h3, h4, h5, h6, h7, h8⟩ := e op h
  exact ⟨held_of _ _ h1 h2 h3 h4 h5 h6, h7, h8⟩

theorem test_witness_house_settings :
    let s := held 0 0x0101 []
    s.houseOf 0 = 0 ∧ (((s.fnsOf 0).filter (· != 0)).map s.creditNext).sum + 0 ≤ s.shareNext 0 0x0B ∧
    (held 1 0x0101 []).houseOf 0 ≠ ((held 1 0x0101 []).slate 7).house ∧
    (held 1 0x0124 []).houseOf 0 ≠ ((held 1 0x0124 []).slate 7).house := by decide +kernel

theorem test_witness_partition_settings :
    let s := held 0 0x0182 []
    let u := s.setFlag (Reg.houseCfg 0) F.HouseCfg.sealed true
    s.shareRefused 0 6 0 = false ∧ u.houseSealed 0 = true ∧ s.bindRefused 3 15 = false ∧ Nat.testBit 15 3 = true ∧
    s.rgnRefused 15 (rgnOf (opPkt 0x0183 [(73, 0x30)])) = false ∧
    s.rgnRefused 15 (rgnOf (opPkt 0x0183 [])) = true := by decide +kernel

/-- No area is held and an empty one is no area; one that lies in no region is refused. -/
theorem test_witness_journal_settings :
    let s := held 0 0x0120 []
    s.areaRefused 0 (ringArea 0 0) [s.altNext 0, s.sealNext 0] = false ∧
    s.areaRefused 0 (ringArea 0 12) [s.altNext 0, s.sealNext 0] = true ∧
    s.areaRefused 0 (0, 4096 * 2 ^ 0) [s.ringNext 0, s.altNext 0] = true := by decide +kernel

/-- Region 0 is House 0's, open or secure, of 256 MB. -/
def regional (secure : Nat) (s : State) : State :=
  let s := (((dramUp s).setFld (Reg.dramRgnA 0) F.DramRgnA.limit 1).setFld (Reg.dramRgnB 0) F.DramRgnB.mode 0).setFld
    (Reg.dramRgnB 0) F.DramRgnB.chmask 15
  let s := (s.setFld (Reg.dramRgnB 0) F.DramRgnB.secure secure).setFld (Reg.dramRgnB 0) F.DramRgnB.owner 0
  (List.range 4).foldl (fun (s : State) c => s.setFld (Reg.dcStat c) F.DcStat.state chanService) s

theorem test_witness_areas :
    let s := regional 1 (held 0 0x0123 [])
    s.areaRefused 0 (0, 4096 * 2 ^ 0) [s.ringNext 0, s.altNext 0] = false ∧
    s.areaRefused 0 (ringArea 0 12) [s.altNext 0, s.sealNext 0] = false ∧
    (regional 0 (held 0 0x0E11 [])).bufferOk 0 0 (128 * 2 ^ 5) = true ∧ (held 0 0x0E11 []).bufferOk 0 0 128 = false ∧
    marksEntries (opPkt 0x0E11 []) = [] ∧ marksEntries (opPkt 0x0E11 [(73, 184), (76, 1)]) = [(184, 0, 1, 0)] ∧
    ((regional 0 (held 0 0x0E11 [])).setFld (Reg.houseCfg 0) F.HouseCfg.ports 1).holdsUnit 0 184 = true := by decide +kernel

theorem test_witness_time_set :
    let s := { (held 0 0x0C02 []).setFlag Reg.timeCtl F.TimeCtl.ppsInEn true with
      tb := { up.tb with lastEdge := some 0, pendSet := some (0, 0) } }
    (le (opPkt 0x0C02 []) 52 8 < { s with dtime := 1 }.dtime ∧ s.dtime ≤ le (opPkt 0x0C02 []) 52 8) ∧
    (s.flag Reg.timeCtl F.TimeCtl.ppsInEn && s.edgeRecent) = true ∧ le (opPkt 0x0C02 []) 52 8 % 1000000000 = 0 ∧
    ((held 0 0x0C02 []).flag Reg.timeCtl F.TimeCtl.ppsInEn && (held 0 0x0C02 []).edgeRecent) = false ∧
    s.tb.pendSet.isSome = true ∧ (held 0 0x0C03 []).tb.pendSet = none := by decide +kernel

theorem test_witness_journal_reads :
    let s (op n : Nat) := (held 0 op [(64, BitVec.ofNat 8 n)]).modJ 0 (fun j => { j with next := 4, sealno := 1 })
    let c (op n : Nat) := lowestBad ((s op n).jrangeChecks 0 op (opPkt op [(64, BitVec.ofNat 8 n)]))
    c 0x0B02 4 = none ∧ (s 0x0B02 4).recordsHeld 0 0 4 = false ∧
    (∀ i, i < 4 → (s 0x0B02 4).readError ((s 0x0B02 4).ringLine 0 (0 + i)) 64 = false) ∧
    c 0x0B03 0 = none ∧ ((s 0x0B03 0).house 0).j.seals = [] ∧ (s 0x0B03 0).frozenAt ((s 0x0B03 0).sealAddr 0 0) = false ∧
    (s 0x0B03 0).readError ((s 0x0B03 0).sealAddr 0 0) 4096 = false ∧ c 0x0B04 0 = none ∧
    lowestBad ((held 0 0x0B04 [(52, 5)]).jrangeChecks 0 0x0B04 (opPkt 0x0B04 [(52, 5)])) = some 52 := by decide +kernel

/-- The serial and the tag of a pass are opaque; its other fields are good. -/
theorem test_witness_pass :
    let p := opPkt 0x0F01 [(81, 1), (88, 1), (97, 1)]
    (held 0 0x0F01 []).dtime < le p 80 8 ∧ ((held 0 0x0F01 []).rd Reg.passHwm).toNat < le p 88 8 ∧
    byteAt p 96 % 2 = 0 ∧ byteAt p 98 = 0 ∧ (held 0 0x0F01 []).passTagOk p = false ∧ le (opPkt 0 []) 80 8 ≤ up.dtime := by
  decide +kernel

theorem test_witness_power_commands :
    let s := held 0 0x00C1 []
    let b := ((regional 0 s).setFld (Reg.dramRgnB 0) F.DramRgnB.owner 4).setFld (Reg.dcStat 0) F.DcStat.ranks 1
    let b := b.setFld Reg.dcRetain F.DcRetain.retain 0
    s.deviceUnkept = false ∧ (s.loadPower (opPkt 0x00C1 [])).sheafLeased = false ∧
    ((s.setLease 7 1).loadPower (opPkt 0x00C1 [])).sheafLeased = true ∧ b.deviceUnkept = true ∧
    (match s.requestOff 8 .host with | .done _ => true | _ => false) = true ∧
    (match (s.setFld (Reg.houseTil 0) F.HouseTil.tillers 1).requestOff 0 .host with | .refused => true | _ => false) = true ∧
    (match (s.setLease 8 1).requestOff 8 .host with | .leased _ => true | _ => false) = true ∧
    (s.setLease 7 1).power.offQueue = [] ∧ s.flash.slotPasses s.otherSlot = false ∧
    ({ s with flash := s.flash.setImage s.otherSlot ⟨true, 0, true, true, true⟩ } : State).flash.slotPasses
      ({ s with flash := s.flash.setImage s.otherSlot ⟨true, 0, true, true, true⟩ } : State).otherSlot = true := by
  decide +kernel

/-- A store of a Tiller in Sheaf 7 that a frozen channel holds keeps its domain on. -/
theorem test_witness_domain_waits :
    let s := (((dramUp (held 0 0x00C2 [])).modTiller 63 (fun x => { x with pos := 71, sb := [{ entry5 with line := 64 }] })).setFld
      (Reg.houseTil 0) F.HouseTil.tillers 0).setFld (Reg.dcStat 0) F.DcStat.state chanFrozen
    (match s.requestOff 7 .host with | .wait => true | _ => false) = true := by decide +kernel

theorem test_witness_unit_commands :
    let s := held 0 0x00A0 []
    let u := s.setUnitState 72 unitService
    u.rotatable 72 = true ∧ u.rotQueued 72 = false ∧ u.targetOk 72 0xFFFF = true ∧ u.targetOk 72 80 = true ∧
    s.rotatable 72 = false ∧ u.targetOk 72 72 = false ∧ s.marchRefused 1 71 0 = false ∧ s.marchRefused 2 0 0 = true := by
  decide +kernel

/-! ### Witnesses: keys and the fast path -/

/-- Slot 5 of either Satchel holds a key of House 0 with these attributes; KEY0 names it. -/
def keyed (asym : Bool) (op : Nat) (attr : Word) : State :=
  let k : KeyEnt := { used := true, attr := attr, val := zeros 16 }
  let s := held 0 op [(16, 5), (23, if asym then 0x40 else 0x20), (24, 5), (31, 0x20), (52, 0x44), (100, 0x10)]
  if asym then { s with asymSlots := [(5, k)] } else { s with symSlots := [(5, k)] }

/-- The attribute word of a usage, a TYPE and a mode bit. -/
def attrOf (usage ty b : Nat) : Word := BitVec.ofNat 64 (usage * 2 ^ 56 + ty * 2 ^ 48 + 2 ^ b + 2 ^ 38)

theorem test_witness_keys :
    let h (s : State) := match s.getKey 0 (pkKey (s.slate 7).pkt 0) with | .ok _ k _ => some k | _ => none
    let good (s : State) (f : KeyEnt → Bool) := ((h s).map f).getD false
    let c (us : List Nat) (b : Nat) (s : State) := good s (fun k => opKey (s.slate 7).pkt us b k && s.useOk k)
    good (keyed false 0x0285 0) (fun _ => true) = true ∧ hKind (pkKey ((keyed false 0x0285 0).slate 7).pkt 0) = 1 ∧
    h (held 0 0x0201 []) = none ∧
    good (keyed false 0x0281 (attrOf 0x0B 3 bUnwrap)) (fun k => kbpkOk bUnwrap k) = true ∧
    good (keyed false 0x0282 (attrOf 0x0B 3 bWrap)) (fun k => kbpkOk bWrap k && attrExport k.attr == 1 &&
      versionOf (attrType k.attr) == 0x44 && !isAsym (attrType k.attr)) = true ∧
    c [0x10] bGenerate (keyed true 0x0801 (attrOf 0x10 0x10 bGenerate)) = true ∧
    c [0x10] bGenerate (keyed true 0x0801 (attrOf 0x10 0x10 bVerify)) = false ∧
    c [0x12] bDecrypt (keyed true 0x0804 (attrOf 0x12 0x10 bDecrypt)) = true ∧
    c [0x14] bDerive (keyed true 0x0805 (attrOf 0x14 0x10 bDerive)) = true ∧
    (held 0 0x0801 []).drbgReady 0 32 = true ∧ pkKey (opPkt 0x0802 []) 0 = 0 := by decide +kernel

theorem test_witness_key_creation :
    let s := held 0 0x0283 []
    let u := (s.modHouse 0 (fun h => { h with drbg := {} })).setFlag (Reg.drbgStat 0) F.DrbgStat.drbgWait true
    s.drbgReady 0 32 = true ∧ isAsym 3 = false ∧ u.drbgReady 0 32 = false ∧ hHouse 0x6000000000000000 = 0 ∧
    hKind 0x6000000000000000 = 3 ∧ 0 < (s.setFld (Reg.ktSym 0) F.KtSym.count 1).tableCount 0 false ∧
    s.session 0 = none ∧ (s.card 1).exchange = none ∧
    ({ s with cards := [(1, { present := true, exchange := none })] }.card 1).present = true ∧
    ((s.modHouse 0 (fun h => { h with comp := some session1 })).session 0) = some session1 ∧
    session1.cards.length < session1.count ∧ session1.cards.length ≠ session1.count ∧
    { session1 with count := 1 }.cards.length = { session1 with count := 1 }.count ∧
    (let e := exchanging .select
     (e.card 0).exchange.isSome = true ∧ ((e.modCard 0 (fun x => { x with exchange := none })).card 0).present = true) ∧
    u.drbgReady 0 80 = false ∧ s.drbgReady 0 80 = true ∧
    pkOwnWords (opPkt 0x0203 []) ≠ 1 ∧ pkOwnWords (opPkt 0x0203 [(50, 1)]) = 1 ∧
    hKind (BitVec.ofNat 64 (le (slice (opPkt 0x0203 []) 64 128) 0 8)) ≠ 3 ∧
    { s with dev := { s.dev with ownerMaster := some 3, okek := some 3 } }.dev.ownerMaster.isSome = true ∧
    s.dev.ownerMaster = none := by decide +kernel

/-- In a lane without a result, and forwarded, with a key that is there and one that is gone. -/
theorem test_witness_fast_path :
    let s := (held 0 0x0501 []).modSlate 7 (fun x => { x with work := .lane 0 0, keys := [.sym 5] })
    let u := (keyed false 0x0501 0).modSlate 7 (fun x => { x with keys := [.sym 5] })
    s.inLane 7 0x0501 = true ∧ goneKey 0 ([KeyRef.sym 5].map (s.keyAt 0)) = some 0 ∧
    u.inLane 7 0x0501 = false ∧ goneKey 0 ([KeyRef.sym 5].map (u.keyAt 0)) = none ∧
    u.badUse 0 ([KeyRef.sym 5].map (u.keyAt 0)) = none ∧
    (let w := { keyed false 0x0501 (BitVec.ofNat 64 (2 ^ 36)) with dtime := 1 }
     w.badUse 0 ([KeyRef.sym 5].map (w.keyAt 0)) = some 0) ∧
    needsFill (opPkt 0x0301 []) = false ∧ needsFill (opPkt 0x0301 [(53, 1)]) = true := by decide +kernel

/-! ### The whole block -/

/-- The form of memory and of the register file holds at reset, and a tick runs from there. -/
theorem test_witness_canonical :
    Memory.wf State.reset.mem = true ∧ Map.wf regReset State.reset.regs = true ∧ State.reset.pending = [] ∧
    up.timeRuns = true ∧ up.tb.slew = 0 ∧ 65536 ≤ up.tb.sinceSlew ∧ State.reset.timeRuns = false ∧
    (∀ h, h < 4 → up.bellLate h 8 = false) := by decide +kernel

/-! ### Words of instructions, written out from Tables 9.1 to 9.3 and 11.3 -/

/-- Formats R, I, S, B, J and U; a word of zeros is ADD g0, g0, g0; a field that is not used must be 0 (R248). -/
theorem test_decode_words :
    decodeWord 0x00000000 = some (.add 0 0 0) ∧
    decodeWord 0b000000_00011_00001_00010_00000001000 = some (.sll 3 1 2) ∧
    decodeWord 0b000000_11111_00001_00010_00000011111 = some (.remcu 31 1 2) ∧
    decodeWord 0b000001_00011_00001_1111111111111111 = some (.addi 3 1 0xFFFF) ∧
    decodeWord 0b000111_00101_100000000000000000001 = some (.lui 5 0x100001) ∧
    decodeWord 0b001010_00011_00001_0000000000111111 = some (.srai 3 1 63) ∧
    decodeWord 0b001010_00011_00001_0000000001111111 = none ∧
    decodeWord 0b010110_00011_00001_0000000000001000 = some (.ld 3 1 8) ∧
    decodeWord 0b010111_00011_00000_0000000000001000 = some (.ldpc 3 8) ∧
    decodeWord 0b010111_00011_00001_0000000000001000 = none ∧
    decodeWord 0b011011_00010_00001_1111111111111000 = some (.sd 2 1 0xFFF8) ∧
    decodeWord 0b011100_00011_00001_00010_00000000001 = some (.dswp 3 1 2) ∧
    decodeWord 0b100011_00001_00010_1_000000000000100 = some (.bge 1 2 true 4) ∧
    decodeWord 0b101001_11111111111111111111111110 = some (.jal 0x3FFFFFE) ∧
    decodeWord 0b101010_00011_00001_00000_00000000000 = some (.jalr 3 1) := by decide +kernel

theorem test_decode_system_words :
    decodeWord 0b110000_00000_00000_00000_00000000100 = some .fenceIo ∧
    decodeWord 0b110000_00000_00000_00010_00000010010 = some (.maskup 2) ∧
    decodeWord 0b110000_00000_00000_00100_00000010010 = none ∧
    decodeWord 0b110000_00000_00001_00000_00000100001 = some (.tlbiasid 1) ∧
    decodeWord 0b110000_00000_00000_00000_00000010000 = some .retx ∧
    decodeWord 0b110001_00000_00000_0000000000100000 = some (.pcall 0x20) ∧
    decodeWord 0b110010_00000_00000_0000000100000011 = some (.gcall 0x103) ∧
    decodeWord 0b110011_00011_00000_0000_000000100001 = some (.csrr 3 0x021) ∧
    decodeWord 0b110100_00000_00011_0000_000000100000 = some (.csrw 0x020 3) ∧
    decodeWord 0b111000_00001_00010_00011_00000000010 = some (.husksum 1 2 3) ∧
    decodeWord 0b111000_00001_00010_00000_00000000011 = some (.millcall 1 2) ∧
    decodeWord 0xFFFFFFFF = none := by decide +kernel

/-! ### The package (Table 16.3) -/

/-- Balls by what they carry, as Table 16.3 counts them. -/
theorem test_ball_counts :
    balls.length = 1764 ∧ balls.count .vcore = 240 ∧ balls.count .vedge = 60 ∧ balls.count .vaon = 6 ∧
    balls.count .rsvd = 6 ∧ balls.count .vphy085 = 24 ∧ balls.count .vphy12 = 16 ∧ balls.count .vddq = 64 ∧
    balls.count .vio = 24 ∧ balls.count .vppFuse = 2 ∧ balls.count .gnd = 580 := by decide +kernel

end Sys2Proof.Tests
end

section
/-! SUPPORT. What every command keeps: the queue behind it, and the canonical form of memory and of the register file
(R4, R14; log entries 5 and 6). The relation, and one rule for each way in which the model puts states together. -/

namespace Sys2Proof.Laws

open Sys2Proof.Machine Sys2Proof.Safety

/-- `t` has the queue of `s`, and is canonical where `s` is. -/
structure Keeps (s t : State) : Prop where
  pending : t.pending = s.pending
  canonical : Canonical s → Canonical t

/-- The state that an operation answers, if it answers one, keeps. -/
inductive KeepsOpt (s₀ : State) : Option State → Prop
  | none : KeepsOpt s₀ .none
  | some {s : State} (hs : Keeps s₀ s) : KeepsOpt s₀ (.some s)

/-- So does a service's, which comes with a status and a value. -/
inductive KeepsSvc (s₀ : State) : Option Svc → Prop
  | none : KeepsSvc s₀ .none
  | some {v : Svc} (hs : Keeps s₀ v.1) : KeepsSvc s₀ (.some v)

/-- An instruction's own effect keeps, however it ends. -/
inductive KeepsRes (s₀ : State) : Res → Prop
  | done {s : State} (hs : Keeps s₀ s) : KeepsRes s₀ (.done s)
  | fault {s : State} {c : Nat} {v : Word} (hs : Keeps s₀ s) : KeepsRes s₀ (.fault s c v)
  | wait {s : State} (hs : Keeps s₀ s) : KeepsRes s₀ (.wait s)

/-- A load of a Tiller's window keeps. -/
inductive KeepsWin (s₀ : State) : WinRes → Prop
  | val {s : State} {v : Word} (hs : Keeps s₀ s) : KeepsWin s₀ (.val v s)
  | icuFault {s : State} (hs : Keeps s₀ s) : KeepsWin s₀ (.icuFault s)
  | wait : KeepsWin s₀ .wait

/-- Obtaining a key keeps. -/
inductive KeepsGot (s₀ : State) : Got → Prop
  | absent {s : State} (hs : Keeps s₀ s) : KeepsGot s₀ (.absent s)
  | wait : KeepsGot s₀ .wait
  | ok {s : State} {r : KeyRef} {k : KeyEnt} (hs : Keeps s₀ s) : KeepsGot s₀ (.ok r k s)

/-- Switching a domain off keeps. -/
inductive KeepsOffEnd (s₀ : State) : OffEnd → Prop
  | done {s : State} (hs : Keeps s₀ s) : KeepsOffEnd s₀ (.done s)
  | refused : KeepsOffEnd s₀ .refused
  | wait : KeepsOffEnd s₀ .wait

/-- A request to switch a domain off keeps. -/
inductive KeepsOffRes (s₀ : State) : OffRes → Prop
  | leased {s : State} (hs : Keeps s₀ s) : KeepsOffRes s₀ (.leased s)
  | done {s : State} (hs : Keeps s₀ s) : KeepsOffRes s₀ (.done s)
  | refused : KeepsOffRes s₀ .refused
  | wait : KeepsOffRes s₀ .wait

/-- A command answers a next state, and that state keeps. -/
inductive Answers (s₀ : State) : Out → Prop
  | next {s : State} (hs : Keeps s₀ s) : Answers s₀ (.next s)

variable {s₀ s s' t : State}

/-! ### What an answer holds -/

theorem Keeps.of_snd {α : Type} {p : α × State} {a : α} (hs : Keeps s₀ p.2) (e : p = (a, s)) : Keeps s₀ s := by
  subst e; exact hs

theorem KeepsOpt.of_some {o : Option State} (ho : KeepsOpt s₀ o) (e : o = .some s) : Keeps s₀ s := by
  subst e; cases ho; assumption

theorem KeepsSvc.of_some {o : Option Svc} {v : Svc} (ho : KeepsSvc s₀ o) (e : o = .some v) : Keeps s₀ v.1 := by
  subst e; cases ho; assumption

theorem KeepsRes.of_done {r : Res} (hr : KeepsRes s₀ r) (e : r = .done s) : Keeps s₀ s := by
  subst e; cases hr; assumption

theorem KeepsRes.of_fault {r : Res} {c : Nat} {v : Word} (hr : KeepsRes s₀ r) (e : r = .fault s c v) :
    Keeps s₀ s := by
  subst e; cases hr; assumption

theorem KeepsRes.of_wait {r : Res} (hr : KeepsRes s₀ r) (e : r = .wait s) : Keeps s₀ s := by
  subst e; cases hr; assumption

theorem KeepsWin.of_val {r : WinRes} {v : Word} (hr : KeepsWin s₀ r) (e : r = .val v s) : Keeps s₀ s := by
  subst e; cases hr; assumption

theorem KeepsWin.of_icuFault {r : WinRes} (hr : KeepsWin s₀ r) (e : r = .icuFault s) : Keeps s₀ s := by
  subst e; cases hr; assumption

theorem KeepsGot.of_absent {g : Got} (hg : KeepsGot s₀ g) (e : g = .absent s) : Keeps s₀ s := by
  subst e; cases hg; assumption

theorem KeepsGot.of_ok {g : Got} {r : KeyRef} {k : KeyEnt} (hg : KeepsGot s₀ g) (e : g = .ok r k s) : Keeps s₀ s := by
  subst e; cases hg; assumption

theorem KeepsOffEnd.of_done {r : OffEnd} (hr : KeepsOffEnd s₀ r) (e : r = .done s) : Keeps s₀ s := by
  subst e; cases hr; assumption

theorem KeepsOffRes.of_leased {r : OffRes} (hr : KeepsOffRes s₀ r) (e : r = .leased s) : Keeps s₀ s := by
  subst e; cases hr; assumption

theorem KeepsOffRes.of_done {r : OffRes} (hr : KeepsOffRes s₀ r) (e : r = .done s) : Keeps s₀ s := by
  subst e; cases hr; assumption

/-! ### Putting states together -/

theorem Keeps.refl (s : State) : Keeps s s := ⟨rfl, id⟩

/-- A change that leaves the queue and keeps the form of memory and of the registers; the other fields are free. It is
stated on the constructor, so that the state before the change is the one whose queue the change names. -/
theorem Keeps.change
    {regs mem dtime termAt poison l2 granary tb avs ports fns stepQ slates lanes poolQ supers symSlots asymSlots
      dev ownerCtr rekeyAt symCache asymCache cards entropy entPool dramKeys smills pmills millQ millOwn millLoans
      millUsed millWaited houses staged ways tillers leaving sharedEdges chutes hoppers chans power flash wear tap
      sealQ out picks}
    (hs : Keeps s₀ s) (hm : Memory.wf s.mem = true → Memory.wf mem = true)
    (hr : Map.wf regReset s.regs = true → Map.wf regReset regs = true) :
    Keeps s₀ (.mk s.pending dtime termAt regs mem poison l2 granary tb avs ports fns stepQ slates lanes poolQ
      supers symSlots asymSlots dev ownerCtr rekeyAt symCache asymCache cards entropy entPool dramKeys smills
      pmills millQ millOwn millLoans millUsed millWaited houses staged ways tillers leaving sharedEdges chutes
      hoppers chans power flash wear tap sealQ out picks) :=
  ⟨hs.pending, fun h => ⟨hm (hs.canonical h).1, hr (hs.canonical h).2⟩⟩

/-- A change that leaves the queue, memory and the registers. -/
theorem Keeps.frame
    {dtime termAt poison l2 granary tb avs ports fns stepQ slates lanes poolQ supers symSlots asymSlots dev
      ownerCtr rekeyAt symCache asymCache cards entropy entPool dramKeys smills pmills millQ millOwn millLoans
      millUsed millWaited houses staged ways tillers leaving sharedEdges chutes hoppers chans power flash wear tap
      sealQ out picks}
    (hs : Keeps s₀ s) :
    Keeps s₀ (.mk s.pending dtime termAt s.regs s.mem poison l2 granary tb avs ports fns stepQ slates lanes poolQ
      supers symSlots asymSlots dev ownerCtr rekeyAt symCache asymCache cards entropy entPool dramKeys smills
      pmills millQ millOwn millLoans millUsed millWaited houses staged ways tillers leaving sharedEdges chutes
      hoppers chans power flash wear tap sealQ out picks) :=
  hs.change id id

/-- Giving listed cells other values keeps the form of memory. -/
theorem wf_setBytes (l : List Host.Cell) (f : Host.Cell → Byte) (m : List Host.Cell) (h : Memory.wf m = true) :
    Memory.wf (l.foldl (fun m c => Memory.setByte m c.1 (f c)) m) = true := by
  induction l generalizing m with
  | nil => exact h
  | cons c l ih => exact ih _ (wf_setByte m c.1 (f c) h)

theorem Keeps.ite {c : Prop} [Decidable c] (hs : Keeps s₀ s) (ht : Keeps s₀ t) : Keeps s₀ (if c then s else t) := by
  split
  · exact hs
  · exact ht

theorem KeepsOpt.ite {c : Prop} [Decidable c] {o p : Option State} (ho : KeepsOpt s₀ o) (hp : KeepsOpt s₀ p) :
    KeepsOpt s₀ (if c then o else p) := by
  split
  · exact ho
  · exact hp

theorem KeepsRes.ite {c : Prop} [Decidable c] {r q : Res} (hr : KeepsRes s₀ r) (hq : KeepsRes s₀ q) :
    KeepsRes s₀ (if c then r else q) := by
  split
  · exact hr
  · exact hq

theorem KeepsWin.ite {c : Prop} [Decidable c] {r q : WinRes} (hr : KeepsWin s₀ r) (hq : KeepsWin s₀ q) :
    KeepsWin s₀ (if c then r else q) := by
  split
  · exact hr
  · exact hq

theorem KeepsOpt.getD {o : Option State} (ho : KeepsOpt s₀ o) (hs : Keeps s₀ s) : Keeps s₀ (o.getD s) := by
  cases ho with
  | none => exact hs
  | some ht => exact ht

theorem KeepsOpt.map {o : Option State} {f : State → State} (ho : KeepsOpt s₀ o)
    (hf : ∀ s, Keeps s₀ s → Keeps s₀ (f s)) : KeepsOpt s₀ (o.map f) := by
  cases ho with
  | none => exact .none
  | some hs => exact .some (hf _ hs)

theorem KeepsOpt.bind {o : Option State} {f : State → Option State} (ho : KeepsOpt s₀ o)
    (hf : ∀ s, Keeps s₀ s → KeepsOpt s₀ (f s)) : KeepsOpt s₀ (o.bind f) := by
  cases ho with
  | none => exact .none
  | some hs => exact hf _ hs

theorem KeepsSvc.bind {o : Option Svc} {f : Svc → Option State} (ho : KeepsSvc s₀ o)
    (hf : ∀ v, Keeps s₀ v.1 → KeepsOpt s₀ (f v)) : KeepsOpt s₀ (o.bind f) := by
  cases ho with
  | none => exact .none
  | some hs => exact hf _ hs

/-- What every step of a walk over a list keeps, the walk keeps. -/
theorem Keeps.foldl {α : Type} {l : List α} {f : State → α → State} (hs : Keeps s₀ s)
    (hf : ∀ s a, Keeps s₀ s → Keeps s₀ (f s a)) : Keeps s₀ (l.foldl f s) := by
  induction l generalizing s with
  | nil => exact hs
  | cons a l ih => exact ih (hf s a hs)

/-- The same beside another value. -/
theorem Keeps.foldl_snd {α β : Type} {l : List α} {f : β × State → α → β × State} {p : β × State} (hs : Keeps s₀ p.2)
    (hf : ∀ p a, Keeps s₀ p.2 → Keeps s₀ (f p a).2) : Keeps s₀ (l.foldl f p).2 := by
  induction l generalizing p with
  | nil => exact hs
  | cons a l ih => exact ih (hf p a hs)

theorem Keeps.foldl_fst {α β : Type} {l : List α} {f : State × β → α → State × β} {p : State × β} (hs : Keeps s₀ p.1)
    (hf : ∀ p a, Keeps s₀ p.1 → Keeps s₀ (f p a).1) : Keeps s₀ (l.foldl f p).1 := by
  induction l generalizing p with
  | nil => exact hs
  | cons a l ih => exact ih (hf p a hs)

theorem Keeps.foldlM {α : Type} {l : List α} {f : State → α → Option State} (hs : Keeps s₀ s)
    (hf : ∀ s a, Keeps s₀ s → KeepsOpt s₀ (f s a)) : KeepsOpt s₀ (l.foldlM f s) := by
  induction l generalizing s with
  | nil => exact .some hs
  | cons a l ih => rw [List.foldlM_cons]; exact (hf s a hs).bind fun _ => ih

end Sys2Proof.Laws
end

section
/-! SUPPORT. The operations of chapters 1 to 8 that the part shares: registers, units, keys, replies, the Register,
slates and ingress each keep the queue and the canonical form. -/

namespace Sys2Proof.Laws

open Sys2Proof.Machine Sys2Proof.Safety

variable {s₀ s t : State}

/-! ### Registers -/

theorem Keeps.wr {a v} (hs : Keeps s₀ s) : Keeps s₀ (s.wr a v) := hs.change id (wf_put _ _ _ _)
theorem Keeps.setFld {a f n} (hs : Keeps s₀ s) : Keeps s₀ (s.setFld a f n) := hs.wr
theorem Keeps.setFlag {a f b} (hs : Keeps s₀ s) : Keeps s₀ (s.setFlag a f b) := hs.setFld
theorem Keeps.countFld {a f n} (hs : Keeps s₀ s) : Keeps s₀ (s.countFld a f n) := hs.setFld
theorem Keeps.satFld {a f n} (hs : Keeps s₀ s) : Keeps s₀ (s.satFld a f n) := hs.setFld

theorem Keeps.softWrite {a v} (hs : Keeps s₀ s) : Keeps s₀ (s.softWrite a v) := by
  unfold State.softWrite
  split
  · exact hs.wr
  · exact hs

/-! ### Numbered units, free choices, the outside -/

theorem Keeps.setSlate {i v} (hs : Keeps s₀ s) : Keeps s₀ (s.setSlate i v) := hs.frame
theorem Keeps.modSlate {i f} (hs : Keeps s₀ s) : Keeps s₀ (s.modSlate i f) := hs.setSlate
theorem Keeps.setFn {g v} (hs : Keeps s₀ s) : Keeps s₀ (s.setFn g v) := hs.frame
theorem Keeps.modFn {g f} (hs : Keeps s₀ s) : Keeps s₀ (s.modFn g f) := hs.setFn
theorem Keeps.setPort {p v} (hs : Keeps s₀ s) : Keeps s₀ (s.setPort p v) := hs.frame
theorem Keeps.modPort {p f} (hs : Keeps s₀ s) : Keeps s₀ (s.modPort p f) := hs.setPort
theorem Keeps.setLane {n v} (hs : Keeps s₀ s) : Keeps s₀ (s.setLane n v) := hs.frame
theorem Keeps.modLane {n f} (hs : Keeps s₀ s) : Keeps s₀ (s.modLane n f) := hs.setLane
theorem Keeps.setHouse {h v} (hs : Keeps s₀ s) : Keeps s₀ (s.setHouse h v) := hs.frame
theorem Keeps.modHouse {h f} (hs : Keeps s₀ s) : Keeps s₀ (s.modHouse h f) := hs.setHouse
theorem Keeps.modJ {h f} (hs : Keeps s₀ s) : Keeps s₀ (s.modJ h f) := hs.modHouse
theorem Keeps.setTiller {t v} (hs : Keeps s₀ s) : Keeps s₀ (s.setTiller t v) := hs.frame
theorem Keeps.modTiller {t f} (hs : Keeps s₀ s) : Keeps s₀ (s.modTiller t f) := hs.setTiller
theorem Keeps.setChute {c v} (hs : Keeps s₀ s) : Keeps s₀ (s.setChute c v) := hs.frame
theorem Keeps.modChute {c f} (hs : Keeps s₀ s) : Keeps s₀ (s.modChute c f) := hs.setChute
theorem Keeps.setHopper {e v} (hs : Keeps s₀ s) : Keeps s₀ (s.setHopper e v) := hs.frame
theorem Keeps.modHopper {e f} (hs : Keeps s₀ s) : Keeps s₀ (s.modHopper e f) := hs.setHopper
theorem Keeps.setChan {c v} (hs : Keeps s₀ s) : Keeps s₀ (s.setChan c v) := hs.frame
theorem Keeps.modChan {c f} (hs : Keeps s₀ s) : Keeps s₀ (s.modChan c f) := hs.setChan
theorem Keeps.modCard {k f} (hs : Keeps s₀ s) : Keeps s₀ (s.modCard k f) := hs.frame
theorem Keeps.modSource {e f} (hs : Keeps s₀ s) : Keeps s₀ (s.modSource e f) := hs.frame
theorem Keeps.setSlot {asym n v} (hs : Keeps s₀ s) : Keeps s₀ (s.setSlot asym n v) := .ite hs.frame hs.frame
theorem Keeps.clearPoison {a n} (hs : Keeps s₀ s) : Keeps s₀ (s.clearPoison a n) := hs.frame
theorem Keeps.putLines {a bs} (hs : Keeps s₀ s) : Keeps s₀ (s.putLines a bs) := hs.change (wf_store _ _ _) id
theorem Keeps.choose {n} (hs : Keeps s₀ s) : Keeps s₀ (s.choose n).2 := hs.frame
theorem Keeps.freshWord (hs : Keeps s₀ s) : Keeps s₀ s.freshWord.2 := hs.frame

theorem Keeps.freshWords {n} (hs : Keeps s₀ s) : Keeps s₀ (s.freshWords n).2 := by
  induction n generalizing s with
  | zero => exact hs
  | succ n ih => exact ih hs.freshWord

theorem Keeps.randomBytes {n} (hs : Keeps s₀ s) : Keeps s₀ (s.randomBytes n).2 := hs.frame
theorem Keeps.entropyBytes {n} (hs : Keeps s₀ s) : Keeps s₀ (s.entropyBytes n).2 := hs.frame.randomBytes
theorem Keeps.post {p} (hs : Keeps s₀ s) : Keeps s₀ (s.post p) := hs.frame
theorem Keeps.raisePrivate {t k} (hs : Keeps s₀ s) : Keeps s₀ (s.raisePrivate t k) := .ite hs hs.modTiller
theorem Keeps.raiseShared {n} (hs : Keeps s₀ s) : Keeps s₀ (s.raiseShared n) := .ite hs hs.frame

theorem Keeps.machineCheck (hs : Keeps s₀ s) : Keeps s₀ s.machineCheck := by
  unfold State.machineCheck
  split
  · exact hs.modTiller
  · exact hs

theorem Keeps.countMark {a n} (hs : Keeps s₀ s) : Keeps s₀ (s.countMark a n) := .ite hs.setFld.setFlag hs.setFld

theorem Keeps.markUnit {u ev n} (hs : Keeps s₀ s) : Keeps s₀ (s.markUnit u ev n) :=
  hs.foldl (fun _ _ hs₁ => .ite hs₁.countMark hs₁)

/-! ### The key cache and the Satchels -/

theorem Keeps.setCache {asym l} (hs : Keeps s₀ s) : Keeps s₀ (s.setCache asym l) := .ite hs.frame hs.frame
theorem Keeps.trimCache {h asym} (hs : Keeps s₀ s) : Keeps s₀ (s.trimCache h asym) := hs.setCache
theorem Keeps.cachePut {h asym e} (hs : Keeps s₀ s) : Keeps s₀ (s.cachePut h asym e) := hs.setCache.trimCache

theorem Keeps.cacheTouch {v} (hs : Keeps s₀ s) : Keeps s₀ (s.cacheTouch v) := by
  unfold State.cacheTouch
  extract_lets
  split
  · exact hs.setCache
  · exact hs

theorem Keeps.mapCache {f} (hs : Keeps s₀ s) : Keeps s₀ (s.mapCache f) := hs.frame
theorem Keeps.keepCache {f} (hs : Keeps s₀ s) : Keeps s₀ (s.keepCache f) := hs.frame
theorem Keeps.purgeCache {h} (hs : Keeps s₀ s) : Keeps s₀ (s.purgeCache h) := hs.keepCache.trimCache.trimCache
theorem Keeps.cacheDrop {v} (hs : Keeps s₀ s) : Keeps s₀ (s.cacheDrop v) := hs.keepCache
theorem Keeps.cacheMark {f} (hs : Keeps s₀ s) : Keeps s₀ (s.cacheMark f) := hs.mapCache

theorem Keeps.supersede {h old v} (hs : Keeps s₀ s) : Keeps s₀ (s.supersede h old v) :=
  .ite hs.keepCache hs.cacheMark.purgeCache

theorem Keeps.putRecord {h a rec_} (hs : Keeps s₀ s) : Keeps s₀ (s.putRecord h a rec_) := hs.supersede.putLines

theorem Keeps.pickFree {n busy} (hs : Keeps s₀ s) : Keeps s₀ (s.pickFree n busy).2 := by
  unfold State.pickFree
  dsimp only
  exact hs.choose

theorem Keeps.putSlot {asym n k} (hs : Keeps s₀ s) : Keeps s₀ (s.putSlot asym n k) := hs.setSlot.frame

theorem Keeps.place {h k target tindex} (hs : Keeps s₀ s) : Keeps s₀ (s.place h k target tindex).2 := by
  unfold State.place
  extract_lets asym cap k₁ g s₁ hd n s₂ rec_ n₁
  have hg : Keeps s₀ g.2 := hs.freshWord
  have hs₂ : Keeps s₀ s₂ := hg.modHouse
  split
  · exact hs
  · split
    · split
      · exact hs₂.putRecord
      · exact hs
    · split
      · exact hs.putSlot
      · exact hs
    · split
      · split
        · rename_i e
          exact (hs.pickFree.of_snd e).putSlot
        · rename_i e
          exact hs.pickFree.of_snd e
      · exact hs

theorem Keeps.clearSlot {asym n} (hs : Keeps s₀ s) : Keeps s₀ (s.clearSlot asym n) := hs.setSlot.frame

theorem Keeps.countUse {r} (hs : Keeps s₀ s) : Keeps s₀ (s.countUse r) := by
  unfold State.countUse
  extract_lets step
  have hstep : ∀ asym n, Keeps s₀ (step asym n) := fun _ _ => .ite hs.setSlot hs
  split
  · exact hstep _ _
  · exact hstep _ _
  · exact hs

/-! ### Beat time -/

theorem Keeps.refreshTau (hs : Keeps s₀ s) : Keeps s₀ s.refreshTau := hs.setFld.setFlag

/-! ### Replies to the host -/

theorem Keeps.sendMsix {g vec} (hs : Keeps s₀ s) : Keeps s₀ (s.sendMsix g vec) := hs.post
theorem Keeps.msix {g vec} (hs : Keeps s₀ s) : Keeps s₀ (s.msix g vec) := .ite hs.wr hs.sendMsix

theorem Keeps.writeCq {g pkt r} (hs : Keeps s₀ s) : Keeps s₀ (s.writeCq g pkt r) :=
  .ite hs.post.setFld.modFn hs.post.setFld

theorem Keeps.writeSlot {g slot pkt r} (hs : Keeps s₀ s) : Keeps s₀ (s.writeSlot g slot pkt r) := by
  unfold State.writeSlot
  exact hs.post.modFn

theorem Keeps.deliver {g push pkt r} (hs : Keeps s₀ s) : Keeps s₀ (s.deliver g push pkt r) := by
  unfold State.deliver
  extract_lets s₁ s₂
  have hs₁ : Keeps s₀ s₁ := by
    unfold s₁
    split
    · exact hs.post
    · exact hs
  have hs₂ : Keeps s₀ s₂ := by
    unfold s₂
    split
    · exact hs₁.writeSlot
    · exact hs₁.writeCq
  exact .ite hs₂.msix hs₂

theorem Keeps.returnCredit {g push} (hs : Keeps s₀ s) : Keeps s₀ (s.returnCredit g push) := hs.modFn
theorem Keeps.discardReply {g push} (hs : Keeps s₀ s) : Keeps s₀ (s.discardReply g push) := hs.modFn

theorem Keeps.reply {g epoch push pkt r} (hs : Keeps s₀ s) : Keeps s₀ (s.reply g epoch push pkt r) :=
  .ite hs.returnCredit.deliver hs.discardReply

/-! ### The Register -/

theorem Keeps.requestSeals {h} (hs : Keeps s₀ s) : Keeps s₀ (s.requestSeals h) := hs.modJ.frame
theorem Keeps.mirrorCopy {h n b} (hs : Keeps s₀ s) : Keeps s₀ (s.mirrorCopy h n b) := hs.post.post
theorem Keeps.event {h e} (hs : Keeps s₀ s) : Keeps s₀ (s.event h e) := hs.modJ

theorem Keeps.mirrorSuspend {h cause jseq} (hs : Keeps s₀ s) : Keeps s₀ (s.mirrorSuspend h cause jseq) :=
  hs.modJ.setFlag.event

theorem Keeps.putRec {h b p copy} (hs : Keeps s₀ s) : Keeps s₀ (s.putRec h b p copy) := by
  unfold State.putRec
  extract_lets s₁ pend
  have hs₁ : Keeps s₀ s₁ := hs.putLines
  have hpend : ∀ s p, Keeps s₀ s → Keeps s₀ (pend s p) := fun _ _ hs₂ => hs₂.modJ
  refine .ite ?_ (hpend _ _ hs₁)
  split
  · exact (hpend _ _ hs₁).mirrorSuspend
  · exact (hpend _ _ hs₁).mirrorCopy

theorem Keeps.writeRec {h b p copy} (hs : Keeps s₀ s) : Keeps s₀ (s.writeRec h b p copy) :=
  .ite hs.modJ hs.putRec

theorem Keeps.append {h ty mk slate rej} (hs : Keeps s₀ s) : Keeps s₀ (s.append h ty mk slate rej) :=
  hs.modJ.writeRec.requestSeals

theorem Keeps.appendEvent {h time ty b16 b22} (hs : Keeps s₀ s) : Keeps s₀ (s.appendEvent h time ty b16 b22) :=
  hs.append

theorem Keeps.buildEvent {h time a} (hs : Keeps s₀ s) : Keeps s₀ (s.buildEvent h time a) := by
  unfold State.buildEvent
  split
  · exact hs.modJ.appendEvent
  · exact hs.appendEvent
  · exact hs.appendEvent
  · exact hs.appendEvent
  · exact hs.appendEvent
  · exact hs.appendEvent

theorem Keeps.build {h u} (hs : Keeps s₀ s) : Keeps s₀ (s.build h u) := by
  unfold State.build
  split
  · split
    · exact hs.append.modSlate
    · exact hs
  · exact hs.append

theorem Keeps.buildWaiting {h n} (hs : Keeps s₀ s) : Keeps s₀ (s.buildWaiting h n) := by
  induction n generalizing s with
  | zero => exact hs
  | succ n ih =>
    unfold State.buildWaiting
    split
    · exact hs
    · split
      · exact ih hs.modJ.buildEvent
      · exact ih hs.modJ.build
      · exact hs

theorem Keeps.buildAll {h} (hs : Keeps s₀ s) : Keeps s₀ (s.buildAll h) := hs.buildWaiting
theorem Keeps.record {h u} (hs : Keeps s₀ s) : Keeps s₀ (s.record h u) := hs.modJ.buildAll
theorem Keeps.recordEvent {h e} (hs : Keeps s₀ s) : Keeps s₀ (s.recordEvent h e) := hs.event.buildAll

theorem Keeps.rewriteHeld {h} (hs : Keeps s₀ s) : Keeps s₀ (s.rewriteHeld h) :=
  hs.modJ.foldl (fun _ _ hs₁ => hs₁.writeRec)

theorem Keeps.releaseHeld {h} (hs : Keeps s₀ s) : Keeps s₀ (s.releaseHeld h) := hs.rewriteHeld.buildAll

theorem Keeps.relocate {h base} (hs : Keeps s₀ s) : Keeps s₀ (s.relocate h base) :=
  hs.wr.modJ.rewriteHeld.setFlag.recordEvent

/-! ### Slates, the Bell, dispatch -/

theorem Keeps.dropResult (hs : Keeps s₀ s) : Keeps s₀ s.dropResult := hs.satFld
theorem Keeps.claim {id c} (hs : Keeps s₀ s) : Keeps s₀ (s.claim id c) := hs.modSlate.record
theorem Keeps.fail {id status result} (hs : Keeps s₀ s) : Keeps s₀ (s.fail id status result) := hs.claim

theorem Keeps.freeSlate {id} (hs : Keeps s₀ s) : Keeps s₀ (s.freeSlate id) :=
  (hs.foldl (fun _ _ hs₁ => hs₁.modTiller)).setSlate

theorem Keeps.settle {id} (hs : Keeps s₀ s) : Keeps s₀ (s.settle id) := .ite (.ite hs.freeSlate hs.setSlate) hs

theorem Keeps.settleAll (hs : Keeps s₀ s) : Keeps s₀ s.settleAll :=
  hs.foldl (fun _ _ hs₁ => .ite hs₁.settle hs₁)

theorem Keeps.beginQuiesce {window cause} (hs : Keeps s₀ s) : Keeps s₀ (s.beginQuiesce window cause) := by
  unfold State.beginQuiesce
  split
  · exact hs
  · exact hs.frame.setFld

theorem Keeps.unqueueStop (hs : Keeps s₀ s) : Keeps s₀ s.unqueueStop := .ite hs.frame.setFld hs.frame
theorem Keeps.beginStop (hs : Keeps s₀ s) : Keeps s₀ s.beginStop := hs.frame.setFld

theorem Keeps.afterReply {pkt} (hs : Keeps s₀ s) : Keeps s₀ (s.afterReply pkt) :=
  .ite (.ite hs hs.setFld.beginQuiesce) (.ite (.ite hs hs.beginStop) hs)

theorem Keeps.commitReply {id padded} (hs : Keeps s₀ s) : Keeps s₀ (s.commitReply id padded) := by
  unfold State.commitReply
  extract_lets
  split
  · exact hs
  · exact Keeps.settle (.ite hs.reply.setSlate.afterReply hs.reply.setSlate)

theorem Keeps.examLate {h} (hs : Keeps s₀ s) : Keeps s₀ (s.examLate h) := hs.satFld.setFld

theorem Keeps.completeReply {id} (hs : Keeps s₀ s) : Keeps s₀ (s.completeReply id) := by
  unfold State.completeReply
  extract_lets
  split
  · exact hs
  · exact .ite hs.setSlate (.ite (.ite hs.setSlate hs.examLate.commitReply) hs.commitReply)

theorem Keeps.completeRecord {p} (hs : Keeps s₀ s) : Keeps s₀ (s.completeRecord p) := by
  unfold State.completeRecord
  split
  · exact hs.completeReply
  · exact hs.reply
  · exact hs

theorem Keeps.deleteKey {h v} (hs : Keeps s₀ s) : Keeps s₀ (s.deleteKey h v) := by
  unfold State.deleteKey
  split
  · exact hs.clearSlot
  · exact hs.clearSlot
  · exact hs.putLines.cacheDrop

theorem Keeps.finishDelete {id} (hs : Keeps s₀ s) : Keeps s₀ (s.finishDelete id) :=
  .ite (.ite hs.deleteKey.setSlate.completeReply hs.deleteKey.setSlate) hs

theorem Keeps.finishDeletes (hs : Keeps s₀ s) : Keeps s₀ s.finishDeletes :=
  hs.foldl (fun _ _ hs₁ => hs₁.finishDelete)

theorem Keeps.leaveWork {id} (hs : Keeps s₀ s) : Keeps s₀ (s.leaveWork id) :=
  hs.modSlate.settle.finishDeletes.purgeCache

theorem Keeps.emptyPos {n p} (hs : Keeps s₀ s) : Keeps s₀ (s.emptyPos n p) := hs.modLane
theorem Keeps.unqueue {id} (hs : Keeps s₀ s) : Keeps s₀ (s.unqueue id) := hs.modHouse.frame

theorem Keeps.cancelAt {t c tag} (hs : Keeps s₀ s) : Keeps s₀ (s.cancelAt t c tag) := by
  unfold State.cancelAt
  refine .ite hs.modTiller ?_
  split
  · exact hs.modChute
  · exact hs

theorem Keeps.cancelMills {id gen} (hs : Keeps s₀ s) : Keeps s₀ (s.cancelMills id gen) := hs.frame

theorem Keeps.cancelWork {id} (hs : Keeps s₀ s) : Keeps s₀ (s.cancelWork id) := by
  unfold State.cancelWork
  extract_lets sl s₁ mine
  have hs₁ : Keeps s₀ s₁ := hs.cancelMills
  split
  · exact hs₁
  · exact hs₁
  · exact hs₁
  · exact hs₁.unqueue.leaveWork
  · exact hs₁.leaveWork
  · extract_lets
    split
    · exact .ite hs₁.cancelAt hs₁.modChute.leaveWork
    · exact hs₁.leaveWork
  · exact hs₁.cancelAt

theorem Keeps.standin {id} (hs : Keeps s₀ s) : Keeps s₀ (s.standin id) := by
  unfold State.standin
  exact (Keeps.claim (.ite hs.satFld.setFld.satFld hs.satFld.setFld)).cancelWork

theorem Keeps.timeStep {now} (hs : Keeps s₀ s) : Keeps s₀ (s.timeStep now) := hs.frame

theorem Keeps.bellFire {h} (hs : Keeps s₀ s) : Keeps s₀ (s.bellFire h) := by
  unfold State.bellFire
  split
  · exact .ite hs.modHouse.standin hs
  · exact hs

theorem Keeps.bellMust {h d n} (hs : Keeps s₀ s) : Keeps s₀ (s.bellMust h d n) := by
  induction n generalizing s with
  | zero => exact hs
  | succ n ih => exact .ite (ih hs.bellFire) hs

theorem Keeps.noteWaiting (hs : Keeps s₀ s) : Keeps s₀ s.noteWaiting :=
  (hs.foldl (fun _ _ hs₁ => .ite hs₁ hs₁.modHouse)).frame

theorem Keeps.bells {d} (hs : Keeps s₀ s) : Keeps s₀ (s.bells d) :=
  hs.noteWaiting.foldl (fun _ _ hs₁ => hs₁.bellMust)

theorem Keeps.enqueue {id} (hs : Keeps s₀ s) : Keeps s₀ (s.enqueue id) :=
  .ite hs.modSlate.modHouse.frame hs.modSlate.modHouse

theorem Keeps.requeueHead {id} (hs : Keeps s₀ s) : Keeps s₀ (s.requeueHead id) :=
  .ite hs.modSlate.modHouse.frame hs.modSlate.modHouse

theorem Keeps.markForward {h} (hs : Keeps s₀ s) : Keeps s₀ (s.markForward h) := .ite hs hs.choose.markUnit
theorem Keeps.forward {id} (hs : Keeps s₀ s) : Keeps s₀ (s.forward id) := hs.modSlate.satFld.markForward

theorem Keeps.resolved {id} (hs : Keeps s₀ s) : Keeps s₀ (s.resolved id) := by
  unfold State.resolved
  extract_lets
  split
  · exact hs.fail.leaveWork
  · exact .ite hs.forward hs.enqueue

theorem Keeps.resolveFrom {id i n} (hs : Keeps s₀ s) : Keeps s₀ (s.resolveFrom id i n) := by
  induction n generalizing s i with
  | zero => exact hs.resolved
  | succ n ih =>
    unfold State.resolveFrom
    extract_lets
    split
    · exact hs.fail.leaveWork
    · split
      · exact ih hs.cacheTouch.modSlate
      · exact ih hs.modSlate
    · exact hs.satFld.modSlate

theorem Keeps.startResolution {id} (hs : Keeps s₀ s) : Keeps s₀ (s.startResolution id) := hs.resolveFrom

/-! ### Ingress -/

theorem Keeps.latchWake {w} (hs : Keeps s₀ s) : Keeps s₀ (s.latchWake w) := by
  unfold State.latchWake
  split
  · exact hs.setFlag
  · exact hs.setFlag
  · exact Keeps.setFlag (.ite hs hs.setFld)

theorem Keeps.beginExit (hs : Keeps s₀ s) : Keeps s₀ s.beginExit := hs.setFld.post

theorem Keeps.wake {w} (hs : Keeps s₀ s) : Keeps s₀ (s.wake w) :=
  .ite hs.latchWake.beginExit (.ite hs.latchWake.setFlag.frame (.ite hs.latchWake (.ite hs.unqueueStop hs)))

theorem Keeps.vanish {g push} (hs : Keeps s₀ s) : Keeps s₀ (s.vanish g push) :=
  .ite hs.satFld.setFlag.markUnit.modFn.msix hs.satFld.setFlag.markUnit.modFn

theorem Keeps.hostCheck {g push pkt husk} (hs : Keeps s₀ s) : Keeps s₀ (s.hostCheck g push pkt husk) :=
  .ite hs.markUnit.modFn hs.vanish

theorem Keeps.fetchEntry {g i n} (hs : Keeps s₀ s) : Keeps s₀ (s.fetchEntry g i n) := .ite hs.post.post hs.post

theorem Keeps.stepOneSq {g fetched husk} (hs : Keeps s₀ s) : Keeps s₀ (s.stepOneSq g fetched husk) :=
  hs.fetchEntry.setFld.modFn.hostCheck

theorem Keeps.stepOnePush {g husk} (hs : Keeps s₀ s) : Keeps s₀ (s.stepOnePush g husk) := by
  unfold State.stepOnePush
  split
  · exact hs
  · exact hs.modFn.hostCheck

theorem Keeps.popWaiting {g st} (hs : Keeps s₀ s) : Keeps s₀ (s.popWaiting g st) := hs.modFn
theorem Keeps.setSealing {g st v} (hs : Keeps s₀ s) : Keeps s₀ (s.setSealing g st v) := hs.modFn
theorem Keeps.setCtr {g owner v} (hs : Keeps s₀ s) : Keeps s₀ (s.setCtr g owner v) := .ite hs.frame hs.modHouse

theorem Keeps.takeCredit {g c} (hs : Keeps s₀ s) : Keeps s₀ (s.takeCredit g c) := by
  unfold State.takeCredit
  exact hs.modFn

theorem Keeps.journalFull {g c} (hs : Keeps s₀ s) : Keeps s₀ (s.journalFull g c) :=
  .ite hs.satFld.deliver hs.satFld.modFn

theorem Keeps.reject {g c status} (hs : Keeps s₀ s) : Keeps s₀ (s.reject g c status) :=
  Keeps.record (.ite hs.satFld hs)

theorem Keeps.countShort {id} (hs : Keeps s₀ s) : Keeps s₀ (s.countShort id) := .ite hs.satFld hs

theorem Keeps.dispatch {id} (hs : Keeps s₀ s) : Keeps s₀ (s.dispatch id) := by
  unfold State.dispatch
  extract_lets sl exam s₁ bd
  have hs₁ : Keeps s₀ s₁ := hs.setSlate
  refine .ite ?_ hs₁.modSlate
  refine .ite ?_ hs₁.startResolution
  split
  · exact hs₁
  · exact .ite hs₁.modSlate hs₁.modSlate.startResolution

theorem Keeps.arm {id tpl} (hs : Keeps s₀ s) : Keeps s₀ (s.arm id tpl) :=
  .ite hs.setSlate.countShort.modSlate.standin hs.setSlate.countShort.modSlate.dispatch

theorem Keeps.stepsFiveSix {id} (hs : Keeps s₀ s) : Keeps s₀ (s.stepsFiveSix id) := by
  unfold State.stepsFiveSix
  extract_lets
  refine .ite hs.satFld.fail ?_
  refine .ite hs.fail ?_
  split
  · exact hs.fail
  · exact hs.fail
  · split
    · exact hs.arm
    · exact hs

theorem Keeps.stepFour {g c signer} (hs : Keeps s₀ s) : Keeps s₀ (s.stepFour g c signer) := by
  unfold State.stepFour
  extract_lets
  refine .ite ?_ hs.reject
  split
  · rename_i e
    exact (hs.pickFree.of_snd e).setSlate.stepsFiveSix
  · rename_i e
    exact (hs.pickFree.of_snd e).reject

theorem Keeps.stepThree {g st c} (hs : Keeps s₀ s) : Keeps s₀ (s.stepThree g st c) := by
  unfold State.stepThree
  split
  · exact hs.stepFour
  · exact hs.reject
  · exact hs.reject
  · exact hs.setCtr.stepFour
  · exact hs.setSealing

theorem Keeps.arriveThree {g st c} (hs : Keeps s₀ s) : Keeps s₀ (s.arriveThree g st c) := hs.frame

theorem Keeps.goThree {g st} (hs : Keeps s₀ s) : Keeps s₀ (s.goThree g st) := by
  unfold State.goThree
  split
  · exact .ite hs hs.frame.stepThree
  · exact hs

theorem Keeps.tryTwo {g st} (hs : Keeps s₀ s) : Keeps s₀ (s.tryTwo g st) := by
  unfold State.tryTwo
  split
  · exact .ite (.ite hs.popWaiting.journalFull hs) (.ite hs.popWaiting.takeCredit.arriveThree hs)
  · exact hs

theorem Keeps.stepTwo {g st} (hs : Keeps s₀ s) : Keeps s₀ (s.stepTwo g st) := hs.tryTwo.goThree

theorem Keeps.answerFull {g n} (hs : Keeps s₀ s) : Keeps s₀ (s.answerFull g n) := by
  induction n generalizing s with
  | zero => exact hs
  | succ n ih =>
    unfold State.answerFull
    split
    · exact .ite (ih hs.popWaiting.journalFull) hs
    · exact hs

/-! ### The host's accesses -/

theorem Keeps.doorbellError {g} (hs : Keeps s₀ s) : Keeps s₀ (s.doorbellError g) := hs.setFlag

theorem Keeps.takeTail {g tail} (hs : Keeps s₀ s) : Keeps s₀ (s.takeTail g tail) :=
  .ite hs.setFld.wake hs.setFld

theorem Keeps.sqTailWrite {g tail} (hs : Keeps s₀ s) : Keeps s₀ (s.sqTailWrite g tail) :=
  .ite hs (.ite hs.doorbellError hs.takeTail)

theorem Keeps.cqHeadWrite {g head} (hs : Keeps s₀ s) : Keeps s₀ (s.cqHeadWrite g head) :=
  .ite hs (.ite hs.doorbellError hs.setFld.answerFull)

theorem Keeps.fnCtlWrite {g v} (hs : Keeps s₀ s) : Keeps s₀ (s.fnCtlWrite g v) := .ite hs.wr hs
theorem Keeps.pushDiscard {g} (hs : Keeps s₀ s) : Keeps s₀ (s.pushDiscard g) := hs.satFld.setFlag

theorem Keeps.pushPart {g n o data} (hs : Keeps s₀ s) : Keeps s₀ (s.pushPart g n o data) :=
  .ite hs.modFn.modFn hs.modFn

theorem Keeps.pushWrite {g off data} (hs : Keeps s₀ s) : Keeps s₀ (s.pushWrite g off data) :=
  .ite hs.pushDiscard (hs.foldl (fun _ _ hs₁ => hs₁.pushPart))

theorem Keeps.msixUnmask {g vec} (hs : Keeps s₀ s) : Keeps s₀ (s.msixUnmask g vec) :=
  .ite hs.setFlag.wr.sendMsix hs.setFlag

theorem Keeps.sealFails {g st x} (hs : Keeps s₀ s) : Keeps s₀ (s.sealFails g st x) :=
  hs.setSealing.reject.machineCheck

/-! ### The DRBGs -/

theorem Keeps.modDrbg {h f} (hs : Keeps s₀ s) : Keeps s₀ (s.modDrbg h f) := hs.modHouse

theorem Keeps.reseeded {h live} (hs : Keeps s₀ s) : Keeps s₀ (s.reseeded h live) :=
  .ite hs.setFld.setFlag.satFld hs.setFld.setFlag

theorem Keeps.reseed {h} (hs : Keeps s₀ s) : Keeps s₀ (s.reseed h) := hs.entropyBytes.modDrbg.reseeded
theorem Keeps.reseedDue {h} (hs : Keeps s₀ s) : Keeps s₀ (s.reseedDue h) := .ite hs.reseed hs.setFlag
theorem Keeps.drbgClear {h} (hs : Keeps s₀ s) : Keeps s₀ (s.drbgClear h) := hs.modDrbg

theorem Keeps.drbgRequest {h} (hs : Keeps s₀ s) : Keeps s₀ (s.drbgRequest h) :=
  .ite hs.modDrbg.reseedDue hs.modDrbg.setFld

theorem Keeps.drbgRefill {h} (hs : Keeps s₀ s) : Keeps s₀ (s.drbgRefill h) :=
  hs.foldl (fun _ _ hs₁ => .ite hs₁ hs₁.drbgRequest)

theorem Keeps.drawFrom {h f n} (hs : Keeps s₀ s) : Keeps s₀ (s.drawFrom h f n).2 := by
  induction f generalizing s n with
  | zero => exact hs
  | succ f ih =>
    unfold State.drawFrom
    split
    · exact hs
    · split
      · exact ih hs.drbgRequest
      · exact ih hs.modDrbg

theorem Keeps.draw {h n} (hs : Keeps s₀ s) : Keeps s₀ (s.draw h n).2 := hs.drawFrom.drbgRefill

/-! ### The Thresher -/

theorem Keeps.takePosition {id k} (hs : Keeps s₀ s) : Keeps s₀ (s.takePosition id k) := by
  unfold State.takePosition
  exact hs.unqueue.modSlate.modLane

theorem Keeps.laneClaim {id c} (hs : Keeps s₀ s) : Keeps s₀ (s.laneClaim id c) := .ite hs.claim hs.dropResult
theorem Keeps.laneState {n st} (hs : Keeps s₀ s) : Keeps s₀ (s.laneState n st) := .ite hs hs.setFld

theorem Keeps.laneServe {n} (hs : Keeps s₀ s) : Keeps s₀ (s.laneServe n) := by
  unfold State.laneServe
  extract_lets l s₁
  have hs₁ : Keeps s₀ s₁ := hs.setLane
  split <;> exact hs₁.laneState.setFld

theorem Keeps.laneGone {n} (hs : Keeps s₀ s) : Keeps s₀ (s.laneGone n) := by
  unfold State.laneGone
  extract_lets l ms s₁
  have hs₁ : Keeps s₀ s₁ := hs.setLane
  split
  · exact (hs₁.foldl (fun _ _ hs₂ => hs₂.setFld)).laneServe
  · exact hs₁.foldl (fun _ _ hs₂ => hs₂.setFld.setFld)

/-! ### The journal's events -/

theorem Keeps.settleRecords {h} (hs : Keeps s₀ s) : Keeps s₀ (s.settleRecords h) :=
  hs.modJ.foldl (fun _ _ hs₁ => hs₁.completeRecord)

theorem Keeps.mirrorFail {h cause jseq} (hs : Keeps s₀ s) : Keeps s₀ (s.mirrorFail h cause jseq) := by
  unfold State.mirrorFail
  exact hs.modJ.mirrorSuspend.buildAll.settleRecords

theorem Keeps.mirrorLost {h cause} (hs : Keeps s₀ s) : Keeps s₀ (s.mirrorLost h cause) := by
  unfold State.mirrorLost
  refine .ite ?_ hs
  split
  · exact hs.mirrorFail
  · exact hs.freshWord.mirrorFail

theorem Keeps.writeSealBlock {h x} (hs : Keeps s₀ s) : Keeps s₀ (s.writeSealBlock h x) :=
  hs.randomBytes.putLines

theorem Keeps.sealSigned {h no k} (hs : Keeps s₀ s) : Keeps s₀ (s.sealSigned h no k) := by
  unfold State.sealSigned
  extract_lets j upd seals s₁
  have hs₁ : Keeps s₀ s₁ := hs.modJ
  split
  · exact hs₁.writeSealBlock.modJ
  · exact hs₁

theorem Keeps.sealWritten {h x} (hs : Keeps s₀ s) : Keeps s₀ (s.sealWritten h x) := hs.modJ.recordEvent

theorem Keeps.checkpoint {h} (hs : Keeps s₀ s) : Keeps s₀ (s.checkpoint h) := by
  unfold State.checkpoint
  split
  · exact hs
  · exact .ite hs hs.modJ

/-! ### The fast path -/

theorem Keeps.conclude {id c} (hs : Keeps s₀ s) : Keeps s₀ (s.conclude id c) := by
  unfold State.conclude
  extract_lets
  split
  · exact hs.setSlate.record
  · exact .ite hs.claim hs.dropResult

theorem Keeps.finish {id status result neg out} (hs : Keeps s₀ s) : Keeps s₀ (s.finish id status result neg out) :=
  hs.conclude.leaveWork

theorem Keeps.finishOut {id out} (hs : Keeps s₀ s) : Keeps s₀ (s.finishOut id out) := hs.finish
theorem Keeps.finishOk {id} (hs : Keeps s₀ s) : Keeps s₀ (s.finishOk id) := hs.finish
theorem Keeps.finishNeg {id reason out} (hs : Keeps s₀ s) : Keeps s₀ (s.finishNeg id reason out) := hs.finish

theorem Keeps.finishFail {id status result} (hs : Keeps s₀ s) : Keeps s₀ (s.finishFail id status result) :=
  hs.finish

theorem Keeps.fastDraw {h p} (hs : Keeps s₀ s) : Keeps s₀ (s.fastDraw h p).2 := by
  unfold State.fastDraw
  split
  · exact hs.draw
  · exact hs

theorem Keeps.runForwarded {id} (hs : Keeps s₀ s) : Keeps s₀ (s.runForwarded id) := by
  unfold State.runForwarded
  extract_lets sl ks d s₁ r
  have hd : Keeps s₀ d.2 := hs.fastDraw
  have hs₁ : Keeps s₀ s₁ := hd.foldl (fun _ _ hs₁ => hs₁.countUse)
  split
  · exact hs.finishFail
  · exact hs.finishFail
  · exact .ite hs hs₁.finish

theorem Keeps.runInLane {id} (hs : Keeps s₀ s) : Keeps s₀ (s.runInLane id) := by
  unfold State.runInLane
  exact hs.fastDraw.modSlate

theorem Keeps.fastCommand {id op} (hs : Keeps s₀ s) : Keeps s₀ (s.fastCommand id op) :=
  .ite hs.runInLane (.ite hs.runForwarded hs)

end Sys2Proof.Laws
end

section
/-! SUPPORT. The operations of a Tiller, its memory and its Chutes keep the queue and the canonical form. -/

namespace Sys2Proof.Laws

open Sys2Proof.Machine Sys2Proof.Safety

variable {s₀ s t : State}

/-! ### Caches, errors of memory -/

theorem Keeps.poisonLine {line} (hs : Keeps s₀ s) : Keeps s₀ (s.poisonLine line) := hs.frame
theorem Keeps.trimGranary (hs : Keeps s₀ s) : Keeps s₀ s.trimGranary := hs.frame

theorem Keeps.granaryUse {line dirty} (hs : Keeps s₀ s) : Keeps s₀ (s.granaryUse line dirty) :=
  (Keeps.ite hs.markUnit.markUnit hs.markUnit).frame

theorem Keeps.setL2 {k l} (hs : Keeps s₀ s) : Keeps s₀ (s.setL2 k l) := hs.frame

theorem Keeps.mapTillers {f} (hs : Keeps s₀ s) : Keeps s₀ (s.mapTillers f) :=
  hs.foldl (fun _ _ hs₁ => hs₁.setTiller)

theorem Keeps.l2Use {k line dirty} (hs : Keeps s₀ s) : Keeps s₀ (s.l2Use k line dirty) :=
  hs.setL2.foldl (fun _ _ hs₁ => Keeps.mapTillers (.ite hs₁.granaryUse hs₁))

theorem Keeps.fill {t line code} (hs : Keeps s₀ s) : Keeps s₀ (s.fill t line code) := by
  unfold State.fill
  exact hs.granaryUse.l2Use.modTiller

theorem Keeps.own {t line} (hs : Keeps s₀ s) : Keeps s₀ (s.own t line) := by
  unfold State.own
  exact hs.mapTillers.frame.granaryUse.l2Use.modTiller

theorem Keeps.dropL2 {k} (hs : Keeps s₀ s) : Keeps s₀ (s.dropL2 k) :=
  (hs.foldl (fun _ _ hs₁ => hs₁.granaryUse)).setL2

/-! ### Interrupt sources -/

theorem Keeps.clearEdge {t src} (hs : Keeps s₀ s) : Keeps s₀ (s.clearEdge t src) := .ite hs.modTiller hs.frame

theorem Keeps.setEdge {t src} (hs : Keeps s₀ s) : Keeps s₀ (s.setEdge t src) :=
  .ite hs (.ite hs.modTiller hs.frame)

theorem Keeps.pushClaim {t src} (hs : Keeps s₀ s) : Keeps s₀ (s.pushClaim t src) := by
  unfold State.pushClaim
  exact Keeps.modTiller (.ite hs hs.clearEdge)

theorem Keeps.senseOne {t} (hs : Keeps s₀ s) : Keeps s₀ (s.senseOne t) := by
  unfold State.senseOne
  split
  · exact .ite hs hs.modTiller
  · exact hs

theorem Keeps.sense (hs : Keeps s₀ s) : Keeps s₀ s.sense := hs.foldl (fun _ _ hs₁ => hs₁.senseOne)
theorem Keeps.closeWindow {t} (hs : Keeps s₀ s) : Keeps s₀ (s.closeWindow t) := hs.senseOne.modTiller

theorem Keeps.emptyStack {t} (hs : Keeps s₀ s) : Keeps s₀ (s.emptyStack t) :=
  hs.modTiller.foldl (fun _ _ hs₁ => hs₁.setEdge)

/-! ### A Tiller: registers and Marks -/

theorem Keeps.setGr {t r v} (hs : Keeps s₀ s) : Keeps s₀ (s.setGr t r v) := hs.modTiller

theorem Keeps.csrPut {t key v} (hs : Keeps s₀ s) : Keeps s₀ (s.csrPut t key v) := by
  unfold State.csrPut
  exact hs.modTiller

theorem Keeps.applyPending {t} (hs : Keeps s₀ s) : Keeps s₀ (s.applyPending t) := by
  unfold State.applyPending
  exact (hs.foldl (fun _ _ hs₁ => hs₁.csrPut)).modTiller

theorem Keeps.csrWrite {t n r v} (hs : Keeps s₀ s) : Keeps s₀ (s.csrWrite t n r v) :=
  .ite hs.modTiller hs.modTiller

theorem Keeps.mark {t r ev n} (hs : Keeps s₀ s) : Keeps s₀ (s.mark t r ev n) :=
  hs.foldl (fun _ _ hs₁ => .ite (Keeps.countMark (.ite hs₁.countMark hs₁)) (.ite hs₁.countMark hs₁))

theorem Keeps.topDown {t r k n} (hs : Keeps s₀ s) : Keeps s₀ (s.topDown t r k n) := by
  unfold State.topDown
  exact hs.countMark.mark

theorem Keeps.retire {t beats} (hs : Keeps s₀ s) : Keeps s₀ (s.retire t beats) := by
  unfold State.retire
  exact hs.modTiller.closeWindow.mark.topDown

/-! ### Address translation -/

theorem Keeps.tlbHit {t sec va} (hs : Keeps s₀ s) : Keeps s₀ (s.tlbHit t sec va).2 := by
  unfold State.tlbHit
  dsimp only
  split
  · exact hs
  · exact hs
  · dsimp only
    exact hs.choose

theorem Keeps.tlbDrop {t e} (hs : Keeps s₀ s) : Keeps s₀ (s.tlbDrop t e) := hs.modTiller

theorem Keeps.translate {t ring k va} (hs : Keeps s₀ s) : Keeps s₀ (s.translate t ring k va).2 := by
  unfold State.translate
  extract_lets sec x h
  have hh : Keeps s₀ h.2 := hs.tlbHit
  split
  · split
    · split
      · exact hh
      · split
        · split
          · exact hh.tlbDrop
          · exact hh
        · exact hh
    · exact hs
  · split <;> exact hs

theorem Keeps.tlbHold {va e} (hs : Keeps s₀ s) : Keeps s₀ (s.tlbHold va e).2 := by
  unfold State.tlbHold
  split
  · dsimp only
    exact hs.choose
  · dsimp only
    exact hs

theorem Keeps.tlbFill {t va e} (hs : Keeps s₀ s) : Keeps s₀ (s.tlbFill t va e) :=
  .ite hs.tlbHold.modTiller hs.tlbHold.choose.modTiller

theorem Keeps.walkAll {t ring k va level entry f} (hs : Keeps s₀ s) :
    Keeps s₀ (s.walkAll t ring k va level entry f).2 := by
  induction f generalizing level entry with
  | zero => exact hs
  | succ f ih =>
    unfold State.walkAll
    dsimp only
    split
    · exact hs
    · split
      · exact hs
      · exact hs.tlbFill
      · exact ih

theorem Keeps.translateNow {t ring k va} (hs : Keeps s₀ s) : Keeps s₀ (s.translateNow t ring k va).2 := by
  unfold State.translateNow
  split
  · rename_i e
    exact (hs.translate.of_snd e).walkAll
  · exact hs.translate

theorem Keeps.eachPiece {now one t ring k ipa ps} (hs : Keeps s₀ s) :
    Keeps s₀ (s.eachPiece now one t ring k ipa ps).2 := by
  induction ps generalizing s with
  | nil => exact hs
  | cons p ps ih =>
    unfold State.eachPiece
    extract_lets va r
    have hr : Keeps s₀ r.2 := by
      unfold r
      split
      · exact hs.translateNow
      · exact hs.translate
    split
    · exact hr
    · exact hr
    · split
      · rename_i e
        exact (ih hr).of_snd e
      · exact ih hr

theorem Keeps.accessPieces {now t ring k ipa ps} (hs : Keeps s₀ s) :
    Keeps s₀ (s.accessPieces now t ring k ipa ps).2 := hs.eachPiece

theorem Keeps.access {t k va n} (hs : Keeps s₀ s) : Keeps s₀ (s.access t k va n).2 := hs.accessPieces

/-! ### Exception entry and return -/

theorem Keeps.loseWork {t id} (hs : Keeps s₀ s) : Keeps s₀ (s.loseWork t id) := .ite hs.finishFail hs.leaveWork

theorem Keeps.loseAllWork {t} (hs : Keeps s₀ s) : Keeps s₀ (s.loseAllWork t) :=
  hs.foldl (fun _ _ hs₁ => hs₁.loseWork)

theorem Keeps.hsEvent {t} (hs : Keeps s₀ s) : Keeps s₀ (s.hsEvent t) := by
  unfold State.hsEvent
  split
  · exact hs.foldl (fun _ _ hs₁ => .ite hs₁.raisePrivate hs₁)
  · exact hs

theorem Keeps.closeWorld {t} (hs : Keeps s₀ s) : Keeps s₀ (s.closeWorld t) := hs.modTiller.loseAllWork.hsEvent

theorem Keeps.writeThrough {t a bs} (hs : Keeps s₀ s) : Keeps s₀ (s.writeThrough t a bs) := by
  unfold State.writeThrough
  extract_lets s₁
  have hs₁ : Keeps s₀ s₁ := hs.change (wf_store _ _ _) id
  exact hs₁.modTiller

theorem Keeps.carrelSave {t c epc called} (hs : Keeps s₀ s) : Keeps s₀ (s.carrelSave t c epc called) :=
  .ite hs.writeThrough.writeThrough hs.writeThrough.modTiller

theorem Keeps.halt {t e} (hs : Keeps s₀ s) : Keeps s₀ (s.halt t e) := hs.modTiller.wr.machineCheck

theorem Keeps.frameAt {t r} (hs : Keeps s₀ s) : Keeps s₀ (s.frameAt t r).2 := by
  unfold State.frameAt
  extract_lets
  split
  · exact hs
  · split <;> rename_i e <;> exact hs.accessPieces.of_snd e

theorem Keeps.enterAt {t e a} (hs : Keeps s₀ s) : KeepsOpt s₀ (s.enterAt t e a) := by
  unfold State.enterAt
  extract_lets x token s1₁ y sec fr s2₁ s3₁ s3₂
  have hs1₁ : Keeps s₀ s1₁ := by
    unfold s1₁
    split
    · exact hs.carrelSave
    · exact hs
  have hs2₁ : Keeps s₀ s2₁ := hs1₁.modTiller
  have hs3₁ : Keeps s₀ s3₁ := hs2₁.mark
  have hs3₂ : Keeps s₀ s3₂ := .ite hs3₁.mark hs3₁
  exact .ite .none (.some (.ite hs3₂.closeWorld hs3₂))

theorem Keeps.enter {t e} (hs : Keeps s₀ s) : KeepsOpt s₀ (s.enter t e) := by
  unfold State.enter
  extract_lets s₁
  have hs₁ : Keeps s₀ s₁ := hs.applyPending
  split
  · exact .none
  · rename_i e₁
    exact (hs₁.frameAt.of_snd e₁).enterAt
  · rename_i e₁
    refine .ite (.some (hs₁.frameAt.of_snd e₁).halt) ?_
    split
    · exact .none
    · rename_i e₂
      exact ((hs₁.frameAt.of_snd e₁).frameAt.of_snd e₂).enterAt
    · rename_i e₂
      exact .some ((hs₁.frameAt.of_snd e₁).frameAt.of_snd e₂).halt

theorem Keeps.takeFault {t code tval} (hs : Keeps s₀ s) : KeepsOpt s₀ (s.takeFault t code tval) :=
  .ite (.some hs.halt) hs.enter

theorem Keeps.carrelRestore {t c} (hs : Keeps s₀ s) : Keeps s₀ (s.carrelRestore t c) := by
  unfold State.carrelRestore
  extract_lets a b w st s₁ fl
  have hs₁ : Keeps s₀ s₁ := hs.change (wf_store _ _ _) id
  exact hs₁.modTiller

theorem Keeps.restore {t r f} (hs : Keeps s₀ s) : Keeps s₀ (s.restore t r f) := by
  unfold State.restore
  extract_lets wasSec s₁ s₂
  have hs₁ : Keeps s₀ s₁ := hs.modTiller
  have hs₂ : Keeps s₀ s₂ := by
    unfold s₂
    split
    · exact hs₁.carrelRestore
    · exact hs₁
  exact hs₂.modTiller

/-! ### Memory writes, the DRAM channels -/

theorem Keeps.ring {n off len} (hs : Keeps s₀ s) : Keeps s₀ (s.ring n off len) := by
  unfold State.ring
  split
  · exact hs.foldl (fun _ _ hs₁ => .ite hs₁.raisePrivate hs₁)
  · exact hs

theorem Keeps.memWrite {a bs} (hs : Keeps s₀ s) : Keeps s₀ (s.memWrite a bs) := by
  unfold State.memWrite
  extract_lets s₁
  have hs₁ : Keeps s₀ s₁ := hs.putLines
  split
  · exact .ite hs₁.ring hs₁
  · exact hs₁

theorem Keeps.zeroRange {a n} (hs : Keeps s₀ s) : Keeps s₀ (s.zeroRange a n) := hs.change (wf_memFilter _ _) id
theorem Keeps.queueRow {c row} (hs : Keeps s₀ s) : Keeps s₀ (s.queueRow c row) := hs.modChan.setFld

theorem Keeps.corrected {c line} (hs : Keeps s₀ s) : Keeps s₀ (s.corrected c line) :=
  .ite hs.satFld.modChan.queueRow hs.satFld.modChan

theorem Keeps.freeze {c kind cls line} (hs : Keeps s₀ s) : Keeps s₀ (s.freeze c kind cls line) :=
  .ite hs (Keeps.modChan (.ite hs.setFld.freshWord.wr.wr.queueRow hs.setFld.freshWord.wr.wr)).machineCheck

theorem Keeps.activate {c line} (hs : Keeps s₀ s) : Keeps s₀ (s.activate c line) :=
  .ite hs.choose hs.choose.modChan

theorem Keeps.countUe {a} (hs : Keeps s₀ s) : Keeps s₀ (s.countUe a) := by
  unfold State.countUe
  split
  · exact hs.satFld
  · exact hs

theorem Keeps.deskError {a n} (hs : Keeps s₀ s) : Keeps s₀ (s.deskError a n) := by
  unfold State.deskError
  split
  · exact hs.foldl (fun _ _ hs₁ => hs₁.poisonLine)
  · exact hs

theorem Keeps.chanRead {a n cls ecc} (hs : Keeps s₀ s) : Keeps s₀ (s.chanRead a n cls ecc).2 := by
  unfold State.chanRead
  split
  · split
    · exact hs.deskError
    · split
      · exact hs.satFld
      · exact hs
  · split
    · exact hs
    · split
      · exact hs
      · split
        · exact hs
        · extract_lets s₁
          have hs₁ : Keeps s₀ s₁ := hs.markUnit.activate
          split
          · exact hs₁
          · split
            · exact hs₁
            · exact hs₁.corrected
            · exact hs₁.freeze

theorem Keeps.granaryRead {a n cls ecc} (hs : Keeps s₀ s) : Keeps s₀ (s.granaryRead a n cls ecc).2 := by
  unfold State.granaryRead
  split
  · exact hs.chanRead
  · split
    · exact hs
    · split
      · exact hs
      · exact hs.satFld
      · exact hs.poisonLine

/-! ### Chutes -/

theorem Keeps.chutePush {c p} (hs : Keeps s₀ s) : Keeps s₀ (s.chutePush c p) := hs.modChute
theorem Keeps.rewind {t c} (hs : Keeps s₀ s) : Keeps s₀ (s.rewind t c) := hs.modChute

theorem Keeps.chuteWrite {t c off bs} (hs : Keeps s₀ s) : KeepsOpt s₀ (s.chuteWrite t c off bs) :=
  .ite .none (.ite (.some hs.rewind.modChute) (.some hs.modChute))

theorem Keeps.chuteCommit {t c husk} (hs : Keeps s₀ s) : Keeps s₀ (s.chuteCommit t c husk) := by
  unfold State.chuteCommit
  extract_lets s₁ b s1₁ s1₂
  have hs₁ : Keeps s₀ s₁ := hs.sense
  have hs1₁ : Keeps s₀ s1₁ := hs₁.modChute
  have hs1₂ : Keeps s₀ s1₂ := .ite hs1₁.modTiller hs1₁
  exact .ite hs₁ (.ite hs₁.rewind (.ite hs₁ (.ite hs₁ hs1₂.chutePush)))

theorem Keeps.chutePop {c} (hs : Keeps s₀ s) : Keeps s₀ (s.chutePop c) := by
  unfold State.chutePop
  split
  · exact hs
  · extract_lets s₁
    have hs₁ : Keeps s₀ s₁ := hs.modChute
    refine .ite ?_ hs₁
    split
    · exact .ite hs₁.modSlate hs₁
    · exact hs₁

theorem Keeps.chuteReadAt {c o} (hs : Keeps s₀ s) : Keeps s₀ (s.chuteReadAt c o).2 := by
  unfold State.chuteReadAt
  extract_lets s₁
  have hs₁ : Keeps s₀ s₁ := hs.modChute
  split
  · dsimp only
    exact hs₁.modChute
  · split
    · dsimp only
      exact hs₁.modChute
    · extract_lets v s₂
      have hs₂ : Keeps s₀ s₂ := hs₁.modChute
      split
      · dsimp only
        exact hs₂.chutePop
      · dsimp only
        exact hs₂

theorem Keeps.chuteDrop {c} (hs : Keeps s₀ s) : Keeps s₀ (s.chuteDrop c).2 := by
  unfold State.chuteDrop
  split
  · dsimp only
    exact hs.modChute
  · dsimp only
    exact hs.chutePop

theorem Keeps.chuteAnswer {t} (hs : Keeps s₀ s) : Keeps s₀ (s.chuteAnswer t).2 := by
  unfold State.chuteAnswer
  split
  · dsimp only
    exact hs.modChute
  · dsimp only
    exact hs
  · dsimp only
    exact hs.modTiller

theorem Keeps.chuteCancel {t} (hs : Keeps s₀ s) : Keeps s₀ (s.chuteCancel t).2 := by
  unfold State.chuteCancel
  split
  · dsimp only
    exact hs
  · dsimp only
    exact hs.modTiller

theorem Keeps.chuteStat {c} (hs : Keeps s₀ s) : Keeps s₀ (s.chuteStat c).2 := by
  unfold State.chuteStat
  dsimp only
  exact hs.modChute

theorem Keeps.claimRequest {c p} (hs : Keeps s₀ s) : Keeps s₀ (s.claimRequest c p) := by
  unfold State.claimRequest
  extract_lets t tag ans s₁ c₁
  have hans : ∀ s won, Keeps s₀ s → Keeps s₀ (ans s won) := fun _ _ hs₁ => hs₁.modTiller
  have hs₁ : Keeps s₀ s₁ := hs.chutePop.settleAll
  split
  · exact (hans _ _ hs₁).dropResult
  · exact .ite (hans _ _ hs₁.modSlate) (hans _ _ hs₁).dropResult

theorem Keeps.replyPacket {c p} (hs : Keeps s₀ s) : Keeps s₀ (s.replyPacket c p) := by
  unfold State.replyPacket
  extract_lets s₁
  have hs₁ : Keeps s₀ s₁ := hs.chutePop.settleAll
  split
  · exact hs₁.dropResult
  · exact .ite hs₁.conclude.leaveWork hs₁.dropResult

theorem Keeps.dropTillerChutes {t} (hs : Keeps s₀ s) : Keeps s₀ (s.dropTillerChutes t) :=
  hs.modTiller.foldl (fun _ _ hs₁ => hs₁.modChute)

theorem Keeps.emptyChute {c} (hs : Keeps s₀ s) : Keeps s₀ (s.emptyChute c) := hs.modChute.settleAll

/-! ### Hopper registers -/

theorem Keeps.hopRaise {e k} (hs : Keeps s₀ s) : Keeps s₀ (s.hopRaise e k) := .ite hs.raiseShared hs

theorem Keeps.hopGo {e k} (hs : Keeps s₀ s) : Keeps s₀ (s.hopGo e k) :=
  .ite hs (.ite hs.modHopper.setFlag hs.setFlag.setFld.hopRaise)

theorem Keeps.hopClear {e k} (hs : Keeps s₀ s) : Keeps s₀ (s.hopClear e k) :=
  .ite hs.setFlag.setFlag.modHopper.modHopper hs.setFlag.setFlag.modHopper

theorem Keeps.hopWrite {e k o v} (hs : Keeps s₀ s) : Keeps s₀ (s.hopWrite e k o v) := by
  unfold State.hopWrite
  refine .ite ?_ (.ite hs.softWrite (.ite (.ite hs hs.softWrite) hs))
  extract_lets was en s₁ s₂
  have hs₁ : Keeps s₀ s₁ := hs.setFlag
  have hs₂ : Keeps s₀ s₂ := .ite hs₁.setFlag (.ite hs₁.hopClear hs₁)
  exact .ite hs₂.hopGo hs₂

theorem Keeps.hopReset {e} (hs : Keeps s₀ s) : Keeps s₀ (s.hopReset e) := hs.setHopper.change id (wf_filter _ _ _)

/-! ### Units, marks and repairs -/

theorem Keeps.setUnitState {u v} (hs : Keeps s₀ s) : Keeps s₀ (s.setUnitState u v) := hs.setFld
theorem Keeps.retireUnit {u} (hs : Keeps s₀ s) : Keeps s₀ (s.retireUnit u) := hs.frame

theorem Keeps.bumpTerm {u} (hs : Keeps s₀ s) : Keeps s₀ (s.bumpTerm u) := by
  unfold State.bumpTerm
  split
  · split
    · exact hs.modTiller
    · exact hs
  · exact hs.countFld
  · exact hs.countFld
  · exact hs.countFld
  · exact hs.countFld
  · exact hs

theorem Keeps.countChutes (hs : Keeps s₀ s) : Keeps s₀ s.countChutes := hs.foldl (fun _ _ hs₁ => hs₁.setFld)

theorem Keeps.logRepair {e} (hs : Keeps s₀ s) : Keeps s₀ (s.logRepair e) :=
  .ite hs.setFlag (.ite hs.setFlag.frame hs.setFlag.frame)

theorem Keeps.queueRot {r} (hs : Keeps s₀ s) : Keeps s₀ (s.queueRot r) := hs.frame

theorem Keeps.failUnit {u} (hs : Keeps s₀ s) : Keeps s₀ (s.failUnit u) := by
  unfold State.failUnit
  refine .ite hs ?_
  extract_lets serving s₁
  have hs₁ : Keeps s₀ s₁ := hs.setUnitState
  split
  · exact hs₁
  · exact .ite hs₁.retireUnit (.ite hs₁.queueRot hs₁)

theorem Keeps.wearUnit {u} (hs : Keeps s₀ s) : Keeps s₀ (s.wearUnit u) := by
  unfold State.wearUnit
  extract_lets serving s₁
  have hs₁ : Keeps s₀ s₁ := hs.setUnitState.raiseShared
  split
  · exact hs₁
  · exact .ite hs₁.retireUnit (.ite hs₁.queueRot hs₁)

/-! ### Register reads -/

theorem Keeps.clearRead {a o n} (hs : Keeps s₀ s) : Keeps s₀ (s.clearRead a o n) := by
  unfold State.clearRead
  split
  · exact hs.wr
  · exact hs

theorem Keeps.regRead {a n} (hs : Keeps s₀ s) : Keeps s₀ (s.regRead a n).2 := .ite hs.clearRead hs.clearRead

/-! ### Time and voltage -/

theorem Keeps.tick (hs : Keeps s₀ s) : Keeps s₀ s.tick :=
  .ite hs (.ite hs.frame.frame (.ite hs.frame.bells.frame hs.frame.bells.frame))

theorem Keeps.lapse (hs : Keeps s₀ s) : Keeps s₀ s.lapse := hs.frame.setFlag.setFlag
theorem Keeps.loadPending {t} (hs : Keeps s₀ s) : Keeps s₀ (s.loadPending t) := hs.timeStep.sense.setFlag.frame
theorem Keeps.ppsOff (hs : Keeps s₀ s) : Keeps s₀ s.ppsOff := (Keeps.setFlag (.ite hs.lapse hs)).frame

theorem Keeps.recordPhase {e} (hs : Keeps s₀ s) : Keeps s₀ (s.recordPhase e) := by
  unfold State.recordPhase
  extract_lets near far good s₁ s₂ s₃ x
  have hs₁ : Keeps s₀ s₁ := hs.setFld
  have hs₂ : Keeps s₀ s₂ := .ite hs₁.setFlag hs₁
  have hs₃ : Keeps s₀ s₃ := .ite hs₂.setFlag (.ite hs₂.setFlag hs₂)
  exact hs₃.frame

theorem Keeps.edgeMiss (hs : Keeps s₀ s) : Keeps s₀ s.edgeMiss := by
  unfold State.edgeMiss
  split
  · exact .ite hs.setFlag.setFlag.frame hs
  · exact hs

theorem Keeps.setExpire (hs : Keeps s₀ s) : Keeps s₀ s.setExpire := by
  unfold State.setExpire
  split
  · exact .ite hs.lapse hs
  · exact hs

theorem Keeps.drivePps {active} (hs : Keeps s₀ s) : Keeps s₀ (s.drivePps active) := hs.frame.post
theorem Keeps.driftCheck {c} (hs : Keeps s₀ s) : Keeps s₀ (s.driftCheck c) := .ite hs.setFlag hs
theorem Keeps.evaluate (hs : Keeps s₀ s) : Keeps s₀ s.evaluate := hs.setFld.setFlag.frame

theorem Keeps.avsIssue {c retry} (hs : Keeps s₀ s) : Keeps s₀ (s.avsIssue c retry) :=
  hs.frame.setFlag.post.refreshTau

theorem Keeps.avsBegin {c} (hs : Keeps s₀ s) : Keeps s₀ (s.avsBegin c) :=
  .ite hs.frame.setFlag.refreshTau.avsIssue hs.frame.setFlag.refreshTau

theorem Keeps.avsResume (hs : Keeps s₀ s) : Keeps s₀ s.avsResume := hs.frame.refreshTau

theorem Keeps.readback {vout iout} (hs : Keeps s₀ s) : Keeps s₀ (s.readback vout iout) :=
  .ite hs.setFld.setFld hs

theorem Keeps.onTabqua {id op f} (hs : Keeps s₀ s) (hf : ∀ s, Keeps s₀ s → Keeps s₀ (f s)) :
    Keeps s₀ (s.onTabqua id op f) := .ite (hf _ hs) hs

theorem Keeps.timeSet {id} (hs : Keeps s₀ s) : Keeps s₀ (s.timeSet id) :=
  .ite hs.finishFail (.ite (.ite hs.finishFail hs.finish.setFlag.frame) hs.finish.timeStep.sense)

theorem Keeps.evalSoon (hs : Keeps s₀ s) : Keeps s₀ s.evalSoon := hs.frame

/-! ### Register writes and the local window -/

theorem Keeps.plainWrite {a v part} (hs : Keeps s₀ s) : Keeps s₀ (s.plainWrite a v part) := by
  unfold State.plainWrite
  split
  · exact hs.wr
  · exact hs

theorem Keeps.dropDisabled {a} (hs : Keeps s₀ s) : Keeps s₀ (s.dropDisabled a) :=
  .ite (.ite hs.clearEdge hs) (.ite hs.clearEdge hs)

theorem Keeps.writeOf {name a v part} (hs : Keeps s₀ s) : Keeps s₀ (s.writeOf name a v part) := by
  unfold State.writeOf
  extract_lets old plain₁ merged was p₁ act o
  have hplain₁ : Keeps s₀ plain₁ := hs.plainWrite
  have hp₁ : Keeps s₀ p₁ := .ite hplain₁.ppsOff hplain₁
  split
  · exact .ite hp₁.drivePps hp₁
  · exact .ite hplain₁ hplain₁.refreshTau.evalSoon
  · exact .ite hplain₁ hplain₁.refreshTau.evalSoon
  · exact .ite hplain₁.avsResume hplain₁
  · exact .ite hs hplain₁
  · exact .ite hs hplain₁
  · exact .ite hs.wr hplain₁
  · exact hs
  · exact hs
  · exact hs
  · exact .ite hplain₁.emptyStack hplain₁
  · exact hplain₁.dropDisabled
  · exact hplain₁.dropDisabled
  · exact hplain₁.countChutes
  · exact .ite hs.wr hs
  · exact .ite hs hplain₁
  · exact .ite hs hplain₁
  · exact .ite hs hplain₁
  · exact .ite hs hplain₁
  · exact hs.fnCtlWrite
  · exact .ite hs.sqTailWrite hs
  · exact .ite hs.cqHeadWrite hs
  · exact .ite hplain₁.msixUnmask hplain₁
  · exact hplain₁

theorem Keeps.regWrite {a n v} (hs : Keeps s₀ s) : Keeps s₀ (s.regWrite a n v) := by
  unfold State.regWrite
  refine .ite ?_ hs
  extract_lets
  split
  · exact .ite hs.hopWrite hs
  · split
    · exact hs.writeOf
    · exact hs

theorem Keeps.icuWhy {t w} (hs : Keeps s₀ s) : Keeps s₀ (s.icuWhy t w) := hs.modTiller

theorem Keeps.icuClaim {t ring} (hs : Keeps s₀ s) : KeepsWin s₀ (s.icuClaim t ring) := by
  unfold State.icuClaim
  extract_lets
  split
  · exact .icuFault hs.icuWhy
  · split
    · exact .val hs
    · exact .ite (.icuFault hs.icuWhy) (.val hs.pushClaim)

theorem Keeps.icuEoi {t ring src} (hs : Keeps s₀ s) : KeepsWin s₀ (s.icuEoi t ring src) := by
  unfold State.icuEoi
  extract_lets
  split
  · exact .icuFault hs.icuWhy
  · split
    · exact .icuFault hs.icuWhy
    · exact .ite (.icuFault hs.icuWhy) (.val hs.modTiller)

theorem Keeps.chutePort {t c o} (hs : Keeps s₀ s) : Keeps s₀ (s.chutePort t c o).2 := by
  unfold State.chutePort
  split
  · split
    · exact hs
    · exact hs.chuteReadAt
  · exact hs.freshWord

theorem Keeps.winLoad {t o} (hs : Keeps s₀ s) : KeepsWin s₀ (s.winLoad t o) := by
  unfold State.winLoad
  extract_lets x r v c v₁ v₂ v₃ v₄ base
  have hv : Keeps s₀ v.2 := hs.chuteStat
  have hv₁ : Keeps s₀ v₁.2 := hs.chuteDrop
  have hv₂ : Keeps s₀ v₂.2 := hs.freshWord
  have hv₃ : Keeps s₀ v₃.2 := hs.chuteCancel
  have hv₄ : Keeps s₀ v₄.2 := hs.chutePort
  refine .ite (.val hs.modTiller) ?_
  refine .ite hs.icuClaim ?_
  refine .ite (.val hs) ?_
  refine .ite (.val hs) ?_
  refine .ite hs.icuEoi ?_
  refine .ite (.val hv) ?_
  refine .ite (.ite (.val hv₁) (.val hv₂)) ?_
  refine .ite ?_ (.ite (.val hv₃) (.ite (.val hv₄) (.val hs.clearRead)))
  split
  · rename_i e
    exact .val (hs.chuteAnswer.of_snd e)
  · exact .wait

theorem Keeps.winStore {t o bs} (hs : Keeps s₀ s) : KeepsOpt s₀ (s.winStore t o bs) :=
  .ite (.ite hs.chuteWrite (.some hs)) (.ite (.some hs.regWrite) (.some hs))

/-! ### Hopper channels -/

theorem Keeps.hopTake {a} (hs : Keeps s₀ s) : Keeps s₀ (s.hopTake a).2 := by
  unfold State.hopTake
  split
  · exact hs.regRead
  · exact hs

theorem Keeps.hopRead {e h m} (hs : Keeps s₀ s) : Keeps s₀ (s.hopRead e h m).2 := by
  unfold State.hopRead
  split
  · exact hs.foldl_snd (fun _ _ hs₁ => hs₁.hopTake)
  · exact hs

theorem Keeps.dropCopies {line} (hs : Keeps s₀ s) : Keeps s₀ (s.dropCopies line) := hs.mapTillers.frame

theorem Keeps.hopPut {a bs} (hs : Keeps s₀ s) : Keeps s₀ (s.hopPut a bs) :=
  hs.foldl (fun _ _ hs₁ => hs₁.dropCopies.memWrite)

theorem Keeps.hopGive {a bs} (hs : Keeps s₀ s) : Keeps s₀ (s.hopGive a bs) := by
  unfold State.hopGive
  split
  · exact hs.regWrite
  · exact hs.hopPut

theorem Keeps.hopWriteOut {e h bs n} (hs : Keeps s₀ s) : Keeps s₀ (s.hopWriteOut e h bs n) :=
  .ite (hs.foldl (fun _ _ hs₁ => hs₁.hopGive)) (hs.foldl (fun _ _ hs₁ => hs₁.hopPut))

theorem Keeps.hopUnknown {e h bs n m} (hs : Keeps s₀ s) : Keeps s₀ (s.hopUnknown e h bs n m) := by
  unfold State.hopUnknown
  refine .ite (hs.foldl (fun _ _ hs₁ => .ite (.ite hs₁.choose.hopGive hs₁.choose) hs₁.freshWord.hopPut)) ?_
  exact hs.foldl (fun _ _ hs₁ => hs₁.freshWord.hopPut)

theorem Keeps.hopStop {e k} (hs : Keeps s₀ s) : Keeps s₀ (s.hopStop e k) := hs.modHopper.setFlag

theorem Keeps.hopDone {e k} (hs : Keeps s₀ s) : Keeps s₀ (s.hopDone e k) :=
  .ite hs.sense.hopRead.hopWriteOut.wr.setFlag.hopStop.hopRaise hs

theorem Keeps.hopError {e k code addr done} (hs : Keeps s₀ s) : Keeps s₀ (s.hopError e k code addr done) :=
  hs.choose.hopRead.hopWriteOut.hopUnknown.wr.wr.setFlag.setFld.hopStop.hopRaise

theorem Keeps.hopDrop {e k} (hs : Keeps s₀ s) : Keeps s₀ (s.hopDrop e k) := hs.choose.hopRead.hopUnknown

/-! ### A Tiller's instruction -/

theorem Keeps.beginWalk {t k va} (hs : Keeps s₀ s) : Keeps s₀ (s.beginWalk t k va) := by
  unfold State.beginWalk
  exact hs.modTiller.mark

theorem Keeps.runAhead {t va} (hs : Keeps s₀ s) : Keeps s₀ (s.runAhead t va).2 := by
  unfold State.runAhead
  extract_lets x c
  have hc : Keeps s₀ c.2 := hs.choose
  split
  · exact hc
  · split
    · rename_i e
      split <;> exact hc.translate.of_snd e
    · rename_i e
      exact hc.translate.of_snd e

theorem Keeps.fetch {t} (hs : Keeps s₀ s) : KeepsRes s₀ (s.fetch t) := by
  unfold State.fetch
  extract_lets
  split
  · exact .done hs
  · split
    · rename_i e
      exact .wait (hs.translate.of_snd e).beginWalk
    · rename_i e
      exact .fault (hs.translate.of_snd e)
    · rename_i e
      split
      · exact .fault (hs.translate.of_snd e).modTiller
      · extract_lets line cached r
        have hr : Keeps s₀ r.2 := (hs.translate.of_snd e).runAhead
        exact .ite (.done hr.modTiller) (.wait (hs.translate.of_snd e).modTiller.mark)

theorem Keeps.enterCarrel {t} (hs : Keeps s₀ s) : KeepsRes s₀ (s.enterCarrel t) := by
  unfold State.enterCarrel
  split
  · exact .ite (.done hs.modTiller) (.fault hs.modTiller)
  · exact .done hs.modTiller

theorem Keeps.endWait {t} (hs : Keeps s₀ s) : Keeps s₀ (s.endWait t) := .ite hs.modTiller.retire hs

theorem Keeps.takeDue {t code} (hs : Keeps s₀ s) : KeepsOpt s₀ (s.takeDue t code) := by
  unfold State.takeDue
  exact hs.modTiller.enter

theorem KeepsRes.settle {r t} (hr : KeepsRes s₀ r) (hs : Keeps s₀ s) : Keeps s₀ (r.settle s t) := by
  cases hr with
  | done h => exact h
  | wait h => exact h
  | fault h => exact h.takeFault.getD hs

theorem KeepsRes.andThen {r f} (hr : KeepsRes s₀ r) (hf : ∀ s, Keeps s₀ s → KeepsRes s₀ (f s)) :
    KeepsRes s₀ (r.andThen f) := by
  cases hr with
  | done h => exact hf _ h
  | wait h => exact .wait h
  | fault h => exact .fault h

theorem Keeps.slotCheck {t slotOk} (hs : Keeps s₀ s) : KeepsRes s₀ (s.slotCheck t slotOk) :=
  .ite (.fault hs) (.done hs)

theorem Keeps.instr {t slotOk f} (hs : Keeps s₀ s) (hf : ∀ s, Keeps s₀ s → KeepsRes s₀ (f s)) :
    Keeps s₀ (s.instr t slotOk f) := by
  unfold State.instr
  refine .ite ?_ hs
  extract_lets s₁
  have hs₁ : Keeps s₀ s₁ := hs.endWait
  refine .ite ?_ hs₁
  split
  · exact hs₁.takeDue.getD hs₁
  · refine KeepsRes.settle ?_ hs₁
    refine .andThen ?_ (fun _ hs₂ => hf _ hs₂)
    exact .andThen (.andThen hs₁.fetch (fun _ hs₂ => hs₂.enterCarrel)) (fun _ hs₂ => hs₂.slotCheck)

theorem Keeps.trap {t code} (hs : Keeps s₀ s) : KeepsRes s₀ (s.trap t code) := .fault hs

theorem Keeps.data {t k va n f} (hs : Keeps s₀ s) (hf : ∀ x s, Keeps s₀ s → KeepsRes s₀ (f x s)) :
    KeepsRes s₀ (s.data t k va n f) := by
  unfold State.data
  split
  · rename_i e
    exact .wait (hs.access.of_snd e).beginWalk
  · rename_i e
    exact .fault (hs.access.of_snd e)
  · rename_i e
    exact hf _ _ (hs.access.of_snd e)

theorem Keeps.loaded {t rd sg bs beats} (hs : Keeps s₀ s) : Keeps s₀ (s.loaded t rd sg bs beats) :=
  hs.setGr.retire

theorem Keeps.retireKeep {t beats} (hs : Keeps s₀ s) : Keeps s₀ (s.retireKeep t beats) := by
  unfold State.retireKeep
  exact hs.modTiller.mark.topDown

theorem Keeps.windowLoad {t rd o va} (hs : Keeps s₀ s) : KeepsRes s₀ (s.windowLoad t rd o va) := by
  unfold State.windowLoad
  split
  · rename_i e
    exact .fault (hs.winLoad.of_icuFault e)
  · exact .wait hs
  · split
    · rename_i e₁
      exact .done (hs.closeWindow.winLoad.of_val e₁).sense.setGr.retireKeep
    · exact .wait hs

theorem Keeps.loadPieces {t rd sg va ps} (hs : Keeps s₀ s) : KeepsRes s₀ (s.loadPieces t rd sg va ps) := by
  unfold State.loadPieces
  extract_lets x a k ty cs away own hit s₁
  have haway : KeepsRes s₀ away := .wait hs.modTiller
  have hs₁ : Keeps s₀ s₁ := .ite hs.modTiller hs
  split
  · refine .ite (.wait hs) ?_
    split
    · exact hs.windowLoad
    · exact haway
  · refine .ite (.wait hs) (.ite (.done hs.loaded) (.ite (.wait hs.modTiller) ?_))
    refine .ite ?_ (.ite (.wait hs.modTiller.mark) haway)
    split
    · exact .fault hs.countUe
    · exact .done hs₁.loaded

theorem Keeps.takeBytes {t va ps f} (hs : Keeps s₀ s) (hf : ∀ x s, Keeps s₀ s → KeepsRes s₀ (f x s)) :
    KeepsRes s₀ (s.takeBytes t va ps f) := by
  unfold State.takeBytes
  extract_lets x a n r
  have hr : Keeps s₀ r.2 := by
    refine hs.foldl_snd fun _ _ hp => ?_
    extract_lets v
    exact (hp.regRead : Keeps s₀ v.2)
  split
  · refine .ite (.wait hs) ?_
    split
    · split
      · rename_i e
        exact .fault (hs.winLoad.of_icuFault e)
      · exact .wait hs
      · rename_i e
        exact hf _ _ (hs.winLoad.of_val e).sense
    · exact hf _ _ hr
    · exact hf _ _ hs
  · refine .ite (.wait hs) ?_
    split
    · exact .fault hs.countUe
    · exact hf _ _ hs

theorem Keeps.loadAt {t rd va n sg} (hs : Keeps s₀ s) : KeepsRes s₀ (s.loadAt t rd va n sg) :=
  hs.data (fun _ _ hs₁ => hs₁.loadPieces)

theorem Keeps.storeAt {t va bs} (hs : Keeps s₀ s) : KeepsRes s₀ (s.storeAt t va bs) := by
  unfold State.storeAt
  refine hs.data fun _ _ hs₁ => ?_
  extract_lets
  refine .ite (.ite (.done hs₁.modTiller.retire) (.wait hs₁)) ?_
  split
  · exact .ite (.done hs₁.setTiller.retire) (.wait hs₁)
  · exact .ite (.done hs₁.modTiller.retire) (.wait hs₁)

theorem Keeps.windowInstr {t rd o} (hs : Keeps s₀ s) : Keeps s₀ (s.windowInstr t rd o) := by
  unfold State.windowInstr
  refine hs.instr fun _ hs₁ => ?_
  extract_lets
  split
  · exact .fault hs₁
  · exact .ite (.wait hs₁) hs₁.windowLoad

/-! ### Arithmetic conditions -/

theorem Keeps.arithDone {t rd v ov dz beats} (hs : Keeps s₀ s) : KeepsRes s₀ (s.arithDone t rd v ov dz beats) :=
  .ite hs.trap (.ite hs.trap (.done hs.modTiller.retire))

/-! ### The ALU -/

theorem Keeps.alu {t rd rs1 rs2 f beats} (hs : Keeps s₀ s) : Keeps s₀ (s.alu t rd rs1 rs2 f beats) :=
  hs.instr (fun _ hs₁ => .done hs₁.setGr.retire)

theorem Keeps.aluImm {t rd rs1 f beats} (hs : Keeps s₀ s) : Keeps s₀ (s.aluImm t rd rs1 f beats) :=
  hs.instr (fun _ hs₁ => .done hs₁.setGr.retire)

theorem Keeps.aluOv {t rd rs1 rs2 f ov beats} (hs : Keeps s₀ s) : Keeps s₀ (s.aluOv t rd rs1 rs2 f ov beats) :=
  hs.instr (fun _ hs₁ => hs₁.arithDone)

theorem Keeps.divide {t rd rs1 rs2 sg rem fixed} (hs : Keeps s₀ s) :
    Keeps s₀ (s.divide t rd rs1 rs2 sg rem fixed) := hs.instr (fun _ hs₁ => hs₁.arithDone)

/-! ### Control transfers -/

theorem Keeps.retireBranch {t slow} (hs : Keeps s₀ s) : Keeps s₀ (s.retireBranch t slow) :=
  .ite hs.retire.topDown hs.retire

theorem Keeps.annul {t} (hs : Keeps s₀ s) : Keeps s₀ (s.annul t) := by
  unfold State.annul
  exact hs.modTiller.mark.topDown

theorem Keeps.mispredict {t} (hs : Keeps s₀ s) : Keeps s₀ (s.mispredict t) := by
  unfold State.mispredict
  exact hs.choose.modTiller.mark.mark

theorem Keeps.branchTo {t taken a target} (hs : Keeps s₀ s) : Keeps s₀ (s.branchTo t taken a target) := by
  unfold State.branchTo
  extract_lets x pc wrong s₁ s₂ s₃ s₄
  have hs₁ : Keeps s₀ s₁ := hs.modTiller
  have hs₂ : Keeps s₀ s₂ := hs₁.mark
  have hs₃ : Keeps s₀ s₃ := hs₂.retireBranch
  have hs₄ : Keeps s₀ s₄ := .ite hs₃.mispredict hs₃
  exact .ite hs₄.annul hs₄.modTiller

theorem Keeps.branch {t rs1 rs2 a d f} (hs : Keeps s₀ s) : Keeps s₀ (s.branch t rs1 rs2 a d f) :=
  hs.instr (fun _ hs₁ => .done hs₁.branchTo)

theorem Keeps.jumpTo {t rd target} (hs : Keeps s₀ s) : Keeps s₀ (s.jumpTo t rd target) := by
  unfold State.jumpTo
  exact hs.setGr.retireBranch.modTiller

/-! ### Loads, stores, data returns -/

theorem Keeps.load {t rd rs1 imm n sg} (hs : Keeps s₀ s) : Keeps s₀ (s.load t rd rs1 imm n sg) :=
  hs.instr (fun _ hs₁ => hs₁.loadAt)

theorem Keeps.store {t rs2 rs1 imm n} (hs : Keeps s₀ s) : Keeps s₀ (s.store t rs2 rs1 imm n) :=
  hs.instr (fun _ hs₁ => hs₁.storeAt)

theorem Keeps.atomic {t rd rs1 f} (hs : Keeps s₀ s) : Keeps s₀ (s.atomic t rd rs1 f) := by
  unfold State.atomic
  refine hs.instr fun _ hs₁ => ?_
  extract_lets
  refine hs₁.data ?_
  exact fun _ _ hs₂ => .ite (.wait hs₂) (.ite (.fault hs₂.countUe) (.done hs₂.sense.memWrite.setGr.retire))

theorem Keeps.tillerRead {t a n ecc} (hs : Keeps s₀ s) : Keeps s₀ (s.tillerRead t a n ecc).2 := by
  unfold State.tillerRead
  split
  · exact hs
  · exact hs.granaryRead

theorem Keeps.readPieces {t ecc ps} (hs : Keeps s₀ s) : Keeps s₀ (s.readPieces t ecc ps).2 := by
  induction ps generalizing s with
  | nil => exact hs
  | cons p ps ih =>
    unfold State.readPieces
    extract_lets v r
    have hr : Keeps s₀ r.2 := by
      unfold r
      split
      · exact hs.regRead
      · split
        · rename_i e
          exact hs.tillerRead.of_snd e
        · rename_i e
          exact (hs.tillerRead.of_snd e).countUe
        · rename_i e
          exact .ite (hs.tillerRead.of_snd e).fill (hs.tillerRead.of_snd e)
    clear_value r
    split
    · split
      · rename_i e
        exact (ih hr).of_snd e
      · exact ih hr
    · exact hr

theorem Keeps.drainTo {t e} (hs : Keeps s₀ s) : KeepsOpt s₀ (s.drainTo t e) := by
  unfold State.drainTo
  extract_lets s₁ s₂
  have hs₁ : Keeps s₀ s₁ := hs.sense
  have hs₂ : Keeps s₀ s₂ := .ite hs₁.own hs₁
  refine .ite ?_ (.some (hs₂.foldl (fun _ _ hs₃ => hs₃.memWrite)))
  split
  · exact hs₁.winStore.map (fun _ hs₃ => hs₃.sense)
  · exact .some hs₁.regWrite.sense
  · exact .some hs₁.memWrite

theorem Keeps.perform {t e err} (hs : Keeps s₀ s) : KeepsOpt s₀ (s.perform t e err) :=
  .ite .none (.ite (.some hs.machineCheck) hs.drainTo)

theorem Keeps.drainAll {t} (hs : Keeps s₀ s) : KeepsOpt s₀ (s.drainAll t) :=
  (hs.foldlM (fun _ _ hs₁ => hs₁.perform)).map (fun _ hs₁ => hs₁.modTiller)

theorem Keeps.drainEntry {t i err} (hs : Keeps s₀ s) : Keeps s₀ (s.drainEntry t i err) := by
  unfold State.drainEntry
  extract_lets x gone k
  have hgone : ∀ s, Keeps s₀ s → Keeps s₀ (gone s) := fun _ hs₁ => hs₁.modTiller
  split
  · refine .ite hs ?_
    refine .ite (hgone _ hs).modTiller ?_
    split
    · rename_i e
      exact hgone _ (hs.perform.of_some e)
    · exact hs.modTiller
  · split
    · refine .ite hs ?_
      split
      · rename_i e
        exact (hs.perform.of_some e).modTiller
      · exact hs
    · exact hs

/-! ### System instructions -/

theorem Keeps.refetch {t} (hs : Keeps s₀ s) : Keeps s₀ (s.refetch t) := hs.modTiller
theorem Keeps.tlbi {t f} (hs : Keeps s₀ s) : Keeps s₀ (s.tlbi t f) := hs.modTiller.retire

theorem Keeps.retireHere {t beats} (hs : Keeps s₀ s) : Keeps s₀ (s.retireHere t beats) := by
  unfold State.retireHere
  exact hs.modTiller.closeWindow.mark.topDown

theorem Keeps.returnThrough {t f} (hs : Keeps s₀ s) : KeepsRes s₀ (s.returnThrough t f) :=
  .ite hs.trap (.ite (.wait hs) (.done hs.retireHere.restore))

theorem Keeps.topFrame {t} (hs : Keeps s₀ s) : Keeps s₀ (s.topFrame t).2 := by
  unfold State.topFrame
  split <;> rename_i e <;> exact hs.accessPieces.of_snd e

theorem Keeps.proctorReturn {t status value} (hs : Keeps s₀ s) : KeepsOpt s₀ (s.proctorReturn t status value) := by
  unfold State.proctorReturn
  split
  · rename_i e
    exact .some (hs.topFrame.of_snd e).restore.setGr.setGr
  · exact .none

theorem Keeps.undefinedService {t sec} (hs : Keeps s₀ s) : KeepsOpt s₀ (s.undefinedService t sec) :=
  KeepsOpt.bind (.ite (.some hs.freshWord) hs.freshWord.drainAll) (fun _ hs₁ => hs₁.proctorReturn)

/-! ### Long instructions -/

theorem KeepsRes.inLong {r t} (hr : KeepsRes s₀ r) : KeepsRes s₀ (r.inLong t) := by
  cases hr with
  | done h => exact .done h
  | wait h => exact .wait h
  | fault h => exact .fault h.modTiller

theorem Keeps.blockSource {t src n f} (hs : Keeps s₀ s) (hf : ∀ x s, Keeps s₀ s → KeepsRes s₀ (f x s)) :
    KeepsRes s₀ (s.blockSource t src n f) := by
  unfold State.blockSource
  refine hs.data fun _ _ hs₁ => ?_
  extract_lets
  refine .ite (.fault hs₁) ?_
  refine .ite (.wait hs₁) ?_
  refine .ite (.wait hs₁.modTiller) ?_
  refine .ite (.wait hs₁) ?_
  split
  · exact .fault hs₁.countUe
  · exact hf _ _ (hs₁.foldl (fun _ _ hs₂ => .ite hs₂.fill hs₂))

theorem Keeps.blockDest {t dst bs f} (hs : Keeps s₀ s) (hf : ∀ s, Keeps s₀ s → KeepsRes s₀ (f s)) :
    KeepsRes s₀ (s.blockDest t dst bs f) :=
  hs.data (fun _ _ hs₁ => .ite (.fault hs₁) (.ite (hf _ hs₁.modTiller) (.wait hs₁)))

theorem Keeps.bump {t r n} (hs : Keeps s₀ s) : Keeps s₀ (s.bump t r n) := hs.setGr
theorem Keeps.drop' {t r n} (hs : Keeps s₀ s) : Keeps s₀ (s.drop' t r n) := hs.setGr

theorem Keeps.blockDone {t beats last} (hs : Keeps s₀ s) : Keeps s₀ (s.blockDone t beats last) :=
  .ite hs.retire hs.modTiller.topDown

theorem Keeps.unknownBytes {n} (hs : Keeps s₀ s) : Keeps s₀ (s.unknownBytes n).2 := hs.freshWords

theorem Keeps.copyBlock {t rd rs1 rs2} (hs : Keeps s₀ s) : KeepsRes s₀ (s.copyBlock t rd rs1 rs2) := by
  unfold State.copyBlock
  extract_lets
  refine .ite (.done hs.retire) ?_
  refine hs.blockSource fun _ _ hs₁ => ?_
  extract_lets r
  have hr : Keeps s₀ r.2 := by
    unfold r
    split
    · exact hs₁.unknownBytes
    · exact hs₁
  exact hr.blockDest (fun _ hs₂ => .done hs₂.modTiller.bump.bump.drop'.blockDone)

theorem Keeps.fillBlock {t rd rs1 rs2} (hs : Keeps s₀ s) : KeepsRes s₀ (s.fillBlock t rd rs1 rs2) :=
  .ite (.done hs.retire) (hs.blockDest (fun _ hs₁ => .done hs₁.bump.drop'.blockDone))

theorem Keeps.sumBlock {t rd rs1 rs2} (hs : Keeps s₀ s) : KeepsRes s₀ (s.sumBlock t rd rs1 rs2) :=
  .ite (.done hs.retire) (hs.blockSource (fun _ _ hs₁ => .done hs₁.setGr.bump.drop'.blockDone))

/-! ### Delivery -/

theorem Keeps.passToOne {t m} (hs : Keeps s₀ s) : Keeps s₀ (s.passToOne t m) := hs.modTiller

theorem Keeps.deliverSource {t src} (hs : Keeps s₀ s) : KeepsOpt s₀ (s.deliverSource t src) := by
  unfold State.deliverSource
  extract_lets
  split
  · exact .none
  · rename_i e
    extract_lets x entered s2₁ s3₁
    have hs2₁ : Keeps s₀ s2₁ := (hs.enter.of_some e).pushClaim
    have hs3₁ : Keeps s₀ s3₁ := hs2₁.modTiller
    exact .some (.ite hs3₁.passToOne hs3₁)

theorem Keeps.suspendMill {t} (hs : Keeps s₀ s) : Keeps s₀ (s.suspendMill t) := by
  unfold State.suspendMill
  split
  · exact hs.setGr.modTiller
  · exact hs

end Sys2Proof.Laws
end

section
/-! SUPPORT. The operations of resets, services, mills, keys, Houses, Terms, rotation, the start
and the passes keep the queue and the canonical form. -/

namespace Sys2Proof.Laws

open Sys2Proof.Machine Sys2Proof.Safety

variable {s₀ s t : State}

/-! ### Tiller resets, ports and domains -/

theorem Keeps.millGone {o} (hs : Keeps s₀ s) : Keeps s₀ (s.millGone o) := by
  unfold State.millGone
  split
  · exact .ite hs.modSlate hs
  · exact hs

theorem Keeps.dropTillerMills {t} (hs : Keeps s₀ s) : Keeps s₀ (s.dropTillerMills t) :=
  (hs.frame.foldl (fun _ _ hs₁ => hs₁.millGone)).settleAll

theorem Keeps.reissueWork {t} (hs : Keeps s₀ s) : Keeps s₀ (s.reissueWork t) :=
  hs.foldl (fun _ _ hs₁ => .ite hs₁.modSlate hs₁.loseWork)

theorem Keeps.tillerReset {t bump} (hs : Keeps s₀ s) : Keeps s₀ (s.tillerReset t bump) :=
  hs.emptyStack.dropTillerChutes.dropTillerMills.freshWords.setTiller.wr

theorem Keeps.drainStop {t} (hs : Keeps s₀ s) : KeepsOpt s₀ (s.drainStop t) :=
  (hs.foldlM (fun _ _ hs₁ => .ite .none (.some (hs₁.perform.getD hs₁)))).map (fun _ hs₁ => hs₁.modTiller)

theorem Keeps.flr {g} (hs : Keeps s₀ s) : Keeps s₀ (s.flr g) :=
  (hs.change id (wf_filter _ _ _)).modFn.foldl (fun _ _ hs₁ => .ite hs₁.mirrorLost hs₁)

theorem Keeps.linkDown {p} (hs : Keeps s₀ s) : Keeps s₀ (s.linkDown p) :=
  hs.modPort.foldl (fun _ _ hs₁ => .ite hs₁.mirrorLost hs₁)

theorem Keeps.perstLow {p} (hs : Keeps s₀ s) : Keeps s₀ (s.perstLow p) :=
  hs.linkDown.modPort.foldl (fun _ _ hs₁ => hs₁.flr)

theorem Keeps.driveWake {p low} (hs : Keeps s₀ s) : Keeps s₀ (s.driveWake p low) := .ite hs hs.modPort.post
theorem Keeps.setOff {d b} (hs : Keeps s₀ s) : Keeps s₀ (s.setOff d b) := hs.setFld

theorem Keeps.stopHopper {e} (hs : Keeps s₀ s) : Keeps s₀ (s.stopHopper e) :=
  hs.foldl (fun _ _ hs₁ => .ite hs₁.hopClear hs₁)

theorem Keeps.sheafOff {k} (hs : Keeps s₀ s) : KeepsOpt s₀ (s.sheafOff k) := by
  unfold State.sheafOff
  extract_lets
  refine (hs.foldlM (fun _ _ hs₁ => hs₁.drainAll)).map fun _ hs₁ => ?_
  extract_lets s₂ s₃
  have hs₂ : Keeps s₀ s₂ := hs₁.foldl (fun _ _ hs₂ => hs₂.modTiller)
  have hs₃ : Keeps s₀ s₃ := hs₂.dropL2.stopHopper
  exact (hs₃.foldl (fun _ _ hs₄ => hs₄.modTiller)).setOff

theorem Keeps.sheafOn {k} (hs : Keeps s₀ s) : Keeps s₀ (s.sheafOn k) :=
  ((hs.foldl (fun _ _ hs₁ => hs₁.zeroRange)).foldl (fun _ _ hs₁ => hs₁.tillerReset.modTiller)).setOff

theorem Keeps.domainOff {d} (hs : Keeps s₀ s) : KeepsOffEnd s₀ (s.domainOff d) := by
  unfold State.domainOff
  split
  · exact .done hs
  · split
    · split
      · exact .refused
      · split
        · rename_i e
          exact .done (hs.sheafOff.of_some e)
        · exact .wait
    · exact .done hs.perstLow.modPort.setOff

theorem Keeps.domainOn {d} (hs : Keeps s₀ s) : Keeps s₀ (s.domainOn d) :=
  .ite hs (.ite hs.sheafOn hs.setOff.modPort)

theorem Keeps.setLease {d n} (hs : Keeps s₀ s) : Keeps s₀ (s.setLease d n) := hs.frame
theorem Keeps.queueOff {d r} (hs : Keeps s₀ s) : Keeps s₀ (s.queueOff d r) := .ite hs hs.frame

theorem Keeps.unqueueOff {d} (hs : Keeps s₀ s) : Keeps s₀ (s.unqueueOff d) :=
  (Keeps.ite hs.unqueueStop hs).frame

theorem Keeps.offDone {r} (hs : Keeps s₀ s) : Keeps s₀ (s.offDone r) := by
  unfold State.offDone
  split
  · exact hs.raisePrivate
  · exact hs

theorem Keeps.runQueued {e} (hs : Keeps s₀ s) : Keeps s₀ (s.runQueued e) := by
  unfold State.runQueued
  refine .ite hs ?_
  refine .ite (.ite hs hs.unqueueStop.beginStop) ?_
  split
  · rename_i e₁
    exact (hs.domainOff.of_done e₁).unqueueOff.offDone
  · exact hs.unqueueOff.offDone
  · exact hs

theorem Keeps.runOffQueue (hs : Keeps s₀ s) : Keeps s₀ s.runOffQueue := hs.foldl (fun _ _ hs₁ => hs₁.runQueued)

theorem Keeps.requestOff {d r} (hs : Keeps s₀ s) : KeepsOffRes s₀ (s.requestOff d r) := by
  unfold State.requestOff
  split
  · exact .leased hs.queueOff
  · split
    · rename_i e
      exact .done (hs.domainOff.of_done e)
    · exact .refused
    · exact .wait

theorem Keeps.queueStop (hs : Keeps s₀ s) : Keeps s₀ s.queueStop := by
  unfold State.queueStop
  extract_lets s₁
  have hs₁ : Keeps s₀ s₁ := hs.foldl (fun _ _ hs₁ => .ite hs₁ hs₁.queueOff)
  exact .ite hs₁.setFld hs₁

theorem Keeps.requestOn {d} (hs : Keeps s₀ s) : Keeps s₀ (s.requestOn d) := .ite hs.unqueueOff hs.domainOn

/-! ### The Proctor's services -/

theorem Keeps.service {t n f} (hs : Keeps s₀ s) (hf : ∀ s x, Keeps s₀ s → KeepsSvc s₀ (f s x)) :
    Keeps s₀ (s.service t n f) := by
  unfold State.service
  split
  · refine .ite ?_ hs
    refine .ite (((hf _ _ hs).bind (fun _ hs₁ => hs₁.proctorReturn)).getD hs) ?_
    exact hs.freshWord.proctorReturn.getD hs
  · exact hs

theorem Keeps.status {n} (hs : Keeps s₀ s) : Keeps s₀ (s.status n).1 := hs.freshWord

theorem Keeps.readDescriptor {t ring} (hs : Keeps s₀ s) : Keeps s₀ (s.readDescriptor t ring).2 := by
  unfold State.readDescriptor
  split <;> rename_i e <;> exact hs.accessPieces.of_snd e

theorem Keeps.writeCarrel {t c b} (hs : Keeps s₀ s) :
    Keeps s₀ (s.writeCarrel t c b) := hs.change (wf_store _ _ _) id

theorem Keeps.carrelCreate {t ring} (hs : Keeps s₀ s) : Keeps s₀ (s.carrelCreate t ring).1 := by
  unfold State.carrelCreate
  split
  · rename_i e _
    extract_lets
    split
    · split
      · rename_i e₁
        exact ((hs.readDescriptor.of_snd e).pickFree.of_snd e₁).writeCarrel.zeroRange
      · rename_i e₁
        exact ((hs.readDescriptor.of_snd e).pickFree.of_snd e₁).status
    · exact (hs.readDescriptor.of_snd e).status
  · rename_i e _
    exact (hs.readDescriptor.of_snd e).status

theorem Keeps.clearCarrel {t c} (hs : Keeps s₀ s) : Keeps s₀ (s.clearCarrel t c) :=
  hs.zeroRange.zeroRange.change (wf_setByte _ _ _) id

theorem Keeps.clearCarrelsOf {t h} (hs : Keeps s₀ s) : Keeps s₀ (s.clearCarrelsOf t h) :=
  hs.foldl (fun _ _ hs₁ => .ite hs₁.clearCarrel hs₁)

theorem Keeps.carrelDestroy {t} (hs : Keeps s₀ s) : Keeps s₀ (s.carrelDestroy t).1 := by
  unfold State.carrelDestroy
  extract_lets
  split
  · exact hs.clearCarrel.status
  · exact hs.status

theorem Keeps.reopen {t} (hs : Keeps s₀ s) : Keeps s₀ (s.reopen t).1 := by
  unfold State.reopen
  extract_lets
  split
  · exact hs.modTiller.status
  · exact hs.status

theorem Keeps.yieldTo {t} (hs : Keeps s₀ s) : Keeps s₀ (s.yieldTo t) := by
  unfold State.yieldTo
  extract_lets s1₁
  have hs1₁ : Keeps s₀ s1₁ := hs.modTiller
  split
  · rename_i e
    exact .ite (hs1₁.topFrame.of_snd e).restore.modTiller hs
  · exact hs

theorem Keeps.leaseTake {t} (hs : Keeps s₀ s) : Keeps s₀ (s.leaseTake t).1 := by
  unfold State.leaseTake
  extract_lets
  split
  · exact hs.status
  · split
    · exact hs.status
    · exact hs.setLease

theorem Keeps.leaseRelease {t} (hs : Keeps s₀ s) : Keeps s₀ (s.leaseRelease t).1 := by
  unfold State.leaseRelease
  extract_lets d n s₁
  have hs₁ : Keeps s₀ s₁ := hs.setLease
  split
  · exact hs.status
  · split
    · exact hs.status
    · exact .ite hs₁.runOffQueue hs₁

theorem Keeps.serviceOff {t r} (hs : Keeps s₀ s) : KeepsSvc s₀ (s.serviceOff t r) := by
  unfold State.serviceOff
  extract_lets
  split
  · exact .some hs.status
  · split
    · exact .some hs.status
    · split
      · rename_i e
        exact .some (hs.requestOff.of_leased e).status
      · exact .some hs.status
      · exact .none
      · rename_i e
        exact .some (hs.requestOff.of_done e).status

theorem Keeps.serviceOn {t r} (hs : Keeps s₀ s) : Keeps s₀ (s.serviceOn t r).1 := by
  unfold State.serviceOn
  extract_lets
  split
  · exact hs.status
  · split
    · exact hs.status
    · exact hs.requestOn.status

/-! ### Mills -/

theorem Keeps.fillRecord {h v fast} (hs : Keeps s₀ s) : KeepsGot s₀ (s.fillRecord h v fast) := by
  unfold State.fillRecord
  extract_lets
  split
  · exact .wait
  · split
    · exact .absent hs.machineCheck
    · split
      · exact .absent hs
      · split
        · exact .absent hs.satFld.machineCheck
        · split
          · exact .ok hs.cachePut
          · exact .wait

theorem Keeps.getKey {h v} (hs : Keeps s₀ s) : KeepsGot s₀ (s.getKey h v) := by
  unfold State.getKey
  split
  · exact .absent hs
  · refine .ok ?_
    split
    · exact hs.cacheTouch
    · exact hs
  · exact hs.satFld.fillRecord

theorem Keeps.fillDone {id i} (hs : Keeps s₀ s) : Keeps s₀ (s.fillDone id i) := by
  unfold State.fillDone
  extract_lets
  split
  · exact hs
  · rename_i e
    exact .ite (hs.fillRecord.of_absent e).fail.leaveWork (hs.fillRecord.of_absent e).leaveWork
  · rename_i e
    exact .ite (hs.fillRecord.of_ok e).modSlate.resolveFrom (hs.fillRecord.of_ok e).leaveWork

theorem Keeps.setMill {pmill n o} (hs : Keeps s₀ s) : Keeps s₀ (s.setMill pmill n o) := .ite hs.frame hs.frame

theorem Keeps.feedMills (hs : Keeps s₀ s) : Keeps s₀ s.feedMills := by
  unfold State.feedMills
  refine hs.frame.foldl fun _ _ hs₁ => ?_
  split
  · exact hs₁.setMill.frame
  · exact hs₁.frame

theorem Keeps.millDone {t rd w} (hs : Keeps s₀ s) : Keeps s₀ (s.millDone t rd w) := hs.setGr.retire
theorem Keeps.setSlotOf {t k v} (hs : Keeps s₀ s) : Keeps s₀ (s.setSlotOf t k v) := hs.modTiller

theorem Keeps.millResume {t rd ticket} (hs : Keeps s₀ s) : KeepsRes s₀ (s.millResume t rd ticket) := by
  unfold State.millResume
  dsimp only
  split
  · exact .done hs.millDone
  · split
    · exact .done hs.setSlotOf.millDone
    · exact .wait hs.modTiller

theorem Keeps.millBufferGo {t k f parts ps acc} (hs : Keeps s₀ s) (hf : ∀ x s, Keeps s₀ s → KeepsRes s₀ (f x s)) :
    KeepsRes s₀ (State.millBuffer.go t k f parts s ps acc) := by
  induction ps generalizing s acc with
  | nil => exact .ite (hf _ _ hs) (hf _ _ hs)
  | cons p ps ih =>
    rw [State.millBuffer.go]
    split
    · rename_i e
      exact .wait (hs.access.of_snd e).beginWalk
    · rename_i e
      exact .fault (hs.access.of_snd e)
    · rename_i e
      exact .ite (.fault (hs.access.of_snd e)) (ih (hs.access.of_snd e))

theorem Keeps.millBuffer {t k va n f} (hs : Keeps s₀ s) (hf : ∀ x s, Keeps s₀ s → KeepsRes s₀ (f x s)) :
    KeepsRes s₀ (s.millBuffer t k va n f) := .ite (hf _ _ hs) (hs.millBufferGo hf)

theorem Keeps.partWrite {ps bs} (hs : Keeps s₀ s) : Keeps s₀ (s.partWrite ps bs) :=
  hs.foldl_fst (fun _ _ hs₁ => hs₁.hopPut)

theorem Keeps.millSubmit {t rd k id b key inp aux out} (hs : Keeps s₀ s) :
    Keeps s₀ (s.millSubmit t rd k id b key inp aux out) := by
  unfold State.millSubmit
  extract_lets sl mop q s₁ s₂ s₃ s₄ d s₅ op
  have hs₁ : Keeps s₀ s₁ := hs.setSlotOf
  have hs₂ : Keeps s₀ s₂ := hs₁.modTiller
  have hs₃ : Keeps s₀ s₃ := hs₂.modSlate
  have hs₄ : Keeps s₀ s₄ := by
    unfold s₄
    split
    · exact hs₃.countUse
    · exact hs₃
  have hd : Keeps s₀ d.2 := hs₄.draw
  exact hd.frame.feedMills

theorem Keeps.millKey {t rd k id b inp aux out} (hs : Keeps s₀ s) :
    KeepsRes s₀ (s.millKey t rd k id b inp aux out) := by
  unfold State.millKey
  extract_lets sl mop v stop
  have hstop : ∀ s c, Keeps s₀ s → KeepsRes s₀ (stop s c) := fun _ _ hs₁ => .done hs₁.millDone
  refine .ite (.wait hs.millSubmit) ?_
  split
  · rename_i e
    exact hstop _ _ (hs.getKey.of_absent e)
  · exact .wait hs
  · rename_i e
    refine .ite (hstop _ _ (hs.getKey.of_ok e)) ?_
    exact .ite (.wait (hs.getKey.of_ok e)) (.wait (hs.getKey.of_ok e).millSubmit)

theorem Keeps.millRequest {t rd va} (hs : Keeps s₀ s) : KeepsRes s₀ (s.millRequest t rd va) := by
  unfold State.millRequest
  extract_lets stop
  have hstop : ∀ s c, Keeps s₀ s → KeepsRes s₀ (stop s c) := fun _ _ hs₁ => .done hs₁.millDone
  split
  · exact hstop _ _ hs
  · refine hs.data fun _ _ hs₁ => ?_
    refine hs₁.takeBytes fun _ _ hs₂ => ?_
    split
    · exact hstop _ _ hs₂
    · refine .ite (hstop _ _ hs₂) ?_
      refine hs₂.millBuffer fun _ _ hs₃ => ?_
      refine hs₃.millBuffer fun _ _ hs₄ => ?_
      refine hs₄.millBuffer fun _ _ hs₅ => ?_
      split
      · refine .ite (.wait hs₅) ?_
        split
        · exact hstop _ _ hs₅.countUe
        · exact hs₅.millKey
      · exact hstop _ _ hs₅

theorem Keeps.leaveMill {tag} (hs : Keeps s₀ s) : Keeps s₀ (s.leaveMill tag) := by
  unfold State.leaveMill
  split
  · exact .ite hs.modSlate.settle hs
  · exact hs

theorem Keeps.millEnd {t o slot e} (hs : Keeps s₀ s) : Keeps s₀ (s.millEnd t o slot e).2 := by
  unfold State.millEnd
  split
  · extract_lets mop mode k s₁ r s₂
    have hs₁ : Keeps s₀ s₁ := .ite hs.fail.cancelWork hs
    have hs₂ : Keeps s₀ s₂ := hs.partWrite
    split
    · exact hs₁
    · split
      · exact hs
      · split
        · exact hs
        · exact hs₂
  · exact hs

theorem Keeps.millReturn {t k o e} (hs : Keeps s₀ s) : Keeps s₀ (s.millReturn t k o e) := by
  unfold State.millReturn
  extract_lets slot r
  have hr : Keeps s₀ r.2 := hs.millEnd
  clear_value r slot
  split
  · extract_lets s₁
    have hs₁ : Keeps s₀ s₁ := hr.setSlotOf.leaveMill
    split
    · exact .ite (.ite hs₁.setSlotOf.modTiller.millDone hs₁.suspendMill) hs₁
    · exact hs₁
  · exact hs.leaveMill

theorem Keeps.millMarks {pmill n o e} (hs : Keeps s₀ s) : Keeps s₀ (s.millMarks pmill n o e) :=
  .ite hs.markUnit.markUnit.markUnit hs.markUnit.markUnit

theorem Keeps.millComplete {pmill n o e} (hs : Keeps s₀ s) : Keeps s₀ (s.millComplete pmill n o e) := by
  unfold State.millComplete
  extract_lets s₁
  have hs₁ : Keeps s₀ s₁ := hs.millMarks
  split
  · exact .ite hs₁.setMill (.ite hs₁ hs₁.setMill.sealSigned)
  · exact hs₁.setMill.millReturn

/-! ### Key commands -/

theorem Keeps.withKey {id i f} (hs : Keeps s₀ s) (hf : ∀ x x1 s, Keeps s₀ s → Keeps s₀ (f x x1 s)) :
    Keeps s₀ (s.withKey id i f) := by
  unfold State.withKey
  split
  · rename_i e
    exact (hs.getKey.of_absent e).finishFail
  · exact hs
  · rename_i e
    exact hf _ _ _ (hs.getKey.of_ok e)

theorem Keeps.useKey {id i ok f} (hs : Keeps s₀ s) (hf : ∀ x x1 s, Keeps s₀ s → Keeps s₀ (f x x1 s)) :
    Keeps s₀ (s.useKey id i ok f) := hs.withKey (fun _ _ _ hs₁ => .ite hs₁.finishFail (hf _ _ _ hs₁))

theorem Keeps.create {id spec k before withPub} (hs : Keeps s₀ s) :
    Keeps s₀ (s.create id spec k before withPub) := by
  unfold State.create
  split
  · rename_i e
    exact (hs.place.of_snd e).finishOut
  · rename_i e
    exact (hs.place.of_snd e).finishFail

theorem Keeps.withBuf {id off n b f} (hs : Keeps s₀ s) (hf : ∀ x, Keeps s₀ (f x)) :
    Keeps s₀ (s.withBuf id off n b f) := by
  unfold State.withBuf
  split
  · exact hf _
  · exact .ite (hf _) hs.finishFail

theorem Keeps.loadRecord {id asym rec_} (hs : Keeps s₀ s) : Keeps s₀ (s.loadRecord id asym rec_) :=
  .ite hs.finishNeg (.ite hs.finishFail hs.putRecord.finishOk)

theorem Keeps.recordLoad {id inp} (hs : Keeps s₀ s) : Keeps s₀ (s.recordLoad id inp) :=
  .ite (hs.withBuf (fun _ => hs.loadRecord)) hs.loadRecord

theorem Keeps.keyImport {id} (hs : Keeps s₀ s) : Keeps s₀ (s.keyImport id) := by
  unfold State.keyImport
  refine hs.useKey fun _ _ _ hs₁ => ?_
  extract_lets p b ty used
  have hused : ∀ mill, Keeps s₀ (used mill) := fun _ => .ite hs₁.countUse hs₁
  split
  · exact (hused _).finishFail
  · exact (hused _).finishFail
  · exact (hused _).finishNeg
  · split
    · rename_i e
      exact ((hused _).place.of_snd e).finishOut
    · rename_i e
      exact ((hused _).place.of_snd e).finishFail

theorem Keeps.keyExport {id} (hs : Keeps s₀ s) : Keeps s₀ (s.keyExport id) := by
  unfold State.keyExport
  refine hs.useKey fun _ _ _ hs₁ => ?_
  exact hs₁.withKey (fun _ _ _ hs₂ => .ite hs₂.finishFail (.ite hs₂.finishFail hs₂.countUse.finishOut))

theorem Keeps.keyGenerate {id blocks} (hs : Keeps s₀ s) : Keeps s₀ (s.keyGenerate id blocks) :=
  .ite hs hs.draw.create

theorem Keeps.pubkeyLoad {id pk} (hs : Keeps s₀ s) : Keeps s₀ (s.pubkeyLoad id pk) := by
  unfold State.pubkeyLoad
  exact hs.withBuf (fun _ => .ite hs.create hs.finishNeg)

theorem Keeps.markDeleting {h v} (hs : Keeps s₀ s) : Keeps s₀ (s.markDeleting h v) := by
  unfold State.markDeleting
  split
  · exact hs.setSlot
  · exact hs.setSlot
  · exact hs.cacheMark

theorem Keeps.keyDelete {id} (hs : Keeps s₀ s) : Keeps s₀ (s.keyDelete id) :=
  hs.withKey (fun _ _ _ hs₁ => .ite hs₁.finishFail hs₁.markDeleting.modSlate.finishOk)

theorem Keeps.withBufs {id inp aux pk pkLen f} (hs : Keeps s₀ s) (hf : ∀ x x1 x2, Keeps s₀ (f x x1 x2)) :
    Keeps s₀ (s.withBufs id inp aux pk pkLen f) := by
  unfold State.withBufs
  exact hs.withBuf (fun _ => hs.withBuf (fun _ => hs.withBuf (fun _ => hf _ _ _)))

theorem Keeps.sign {id inp aux pk} (hs : Keeps s₀ s) : Keeps s₀ (s.sign id inp aux pk) :=
  .ite hs (hs.useKey (fun _ _ _ hs₁ => hs₁.withBufs (fun _ _ _ => hs₁.countUse.draw.finishOut)))

theorem Keeps.withPublic {id us b inp aux pk f} (hs : Keeps s₀ s)
    (hf : ∀ x x1 x2 s, Keeps s₀ s → Keeps s₀ (f x x1 x2 s)) :
    Keeps s₀ (s.withPublic id us b inp aux pk f) := by
  unfold State.withPublic
  extract_lets
  refine .ite (hs.withBufs (fun _ _ _ => hf _ _ _ _ hs)) ?_
  exact hs.useKey (fun _ _ _ hs₁ => hs₁.withBufs (fun _ _ _ => hf _ _ _ _ hs₁.countUse))

theorem Keeps.verify {id inp aux pk} (hs : Keeps s₀ s) : Keeps s₀ (s.verify id inp aux pk) := by
  unfold State.verify
  exact hs.withPublic (fun _ _ _ _ hs₁ => .ite hs₁.finishNeg (.ite hs₁.finishOk hs₁.finishNeg))

theorem Keeps.encapsulate {id inp aux pk} (hs : Keeps s₀ s) : Keeps s₀ (s.encapsulate id inp aux pk) :=
  .ite hs (hs.withPublic (fun _ _ _ _ hs₁ => .ite hs₁.finishNeg hs₁.draw.create))

theorem Keeps.decapsulate {id inp aux pk} (hs : Keeps s₀ s) : Keeps s₀ (s.decapsulate id inp aux pk) :=
  hs.useKey (fun _ _ _ hs₁ => hs₁.withBufs (fun _ _ _ => hs₁.countUse.create))

theorem Keeps.ecdh {id inp aux pk} (hs : Keeps s₀ s) : Keeps s₀ (s.ecdh id inp aux pk) :=
  hs.useKey (fun _ _ _ hs₁ => hs₁.withBufs (fun _ _ _ => .ite hs₁.countUse.finishNeg hs₁.countUse.create))

/-! ### Cards, owner keys, entropy, tamper -/

theorem Keeps.setSession {h c} (hs : Keeps s₀ s) : Keeps s₀ (s.setSession h c) := hs.modHouse

theorem Keeps.compBegin {id} (hs : Keeps s₀ s) : Keeps s₀ (s.compBegin id) :=
  .ite hs.finishFail hs.finishOk.setSession

theorem Keeps.cardEnds {id sw reason} (hs : Keeps s₀ s) : Keeps s₀ (s.cardEnds id sw reason) := hs.finishNeg
theorem Keeps.cardRefused {id sw} (hs : Keeps s₀ s) : Keeps s₀ (s.cardRefused id sw) := hs.cardEnds
theorem Keeps.beginExchange {k x} (hs : Keeps s₀ s) : Keeps s₀ (s.beginExchange k x) := hs.modCard.post

theorem Keeps.compEnter {id} (hs : Keeps s₀ s) : Keeps s₀ (s.compEnter id) := by
  unfold State.compEnter
  extract_lets h k w d w₁
  have hw : Keeps s₀ w.2 := hs.freshWord
  have hd : Keeps s₀ d.2 := hs.draw
  have hw₁ : Keeps s₀ w₁.2 := hd.freshWord
  split
  · exact hs.finishFail
  · exact .ite hs.finishFail (.ite hs (.ite hw.cardRefused (.ite hs hw₁.beginExchange)))

theorem Keeps.compComplete {id} (hs : Keeps s₀ s) : Keeps s₀ (s.compComplete id) := by
  unfold State.compComplete
  extract_lets
  split
  · exact hs.finishFail
  · refine .ite hs.finishFail ?_
    extract_lets
    split
    · rename_i e
      exact (hs.place.of_snd e).finishOut.setSession
    · rename_i e
      exact (hs.place.of_snd e).finishFail

theorem Keeps.setRoot {v} (hs : Keeps s₀ s) : Keeps s₀ (s.setRoot v) := hs.frame
theorem Keeps.recordRoot {g} (hs : Keeps s₀ s) : Keeps s₀ (s.recordRoot g) := .ite hs.setRoot hs
theorem Keeps.endExchange {k} (hs : Keeps s₀ s) : Keeps s₀ (s.endExchange k) := hs.modCard

theorem Keeps.takeComponent {id g} (hs : Keeps s₀ s) : Keeps s₀ (s.takeComponent id g) := by
  unfold State.takeComponent
  extract_lets
  split
  · exact hs.finishFail
  · exact .ite hs.cardRefused hs.recordRoot.setSession.finishOut

theorem Keeps.cardAnswer {k id x r} (hs : Keeps s₀ s) : Keeps s₀ (s.cardAnswer k id x r) := by
  unfold State.cardAnswer
  split
  · exact hs.beginExchange
  · exact hs.endExchange.cardEnds
  · exact hs.endExchange.takeComponent

theorem Keeps.sealDevice (hs : Keeps s₀ s) : Keeps s₀ s.sealDevice := hs.frame
theorem Keeps.establish {m} (hs : Keeps s₀ s) : Keeps s₀ (s.establish m) := hs.frame.sealDevice.frame

theorem Keeps.runCard {k x l} (hs : Keeps s₀ s) : Keeps s₀ (s.runCard k x l).2 := by
  induction l generalizing s x with
  | nil => exact hs
  | cons r l ih =>
    unfold State.runCard
    split
    · exact ih hs.post
    · exact hs
    · exact hs

theorem Keeps.ownerCard {k l} (hs : Keeps s₀ s) : Keeps s₀ (s.ownerCard k l).2 :=
  hs.entropyBytes.freshWord.post.runCard

theorem Keeps.ownerMaster {a b} (hs : Keeps s₀ s) : Keeps s₀ (s.ownerMaster a b) :=
  .ite hs.recordRoot.establish hs

theorem Keeps.dropRecords {h} (hs : Keeps s₀ s) : Keeps s₀ (s.dropRecords h) := hs.cacheMark.purgeCache

theorem Keeps.hskRoll {h} (hs : Keeps s₀ s) : Keeps s₀ (s.hskRoll h) :=
  hs.modHouse.dropRecords.reseedDue.drbgRefill

theorem Keeps.emptyTables {h} (hs : Keeps s₀ s) : Keeps s₀ (s.emptyTables h) := hs.zeroRange.zeroRange
theorem Keeps.emptyCache {h} (hs : Keeps s₀ s) : Keeps s₀ (s.emptyCache h) := hs.keepCache

theorem Keeps.clearSlots {f} (hs : Keeps s₀ s) : Keeps s₀ (s.clearSlots f) :=
  (hs.foldl (fun _ _ hs₁ => hs₁.clearSlot)).foldl (fun _ _ hs₁ => hs₁.clearSlot)

theorem Keeps.zeroiseHouse {h} (hs : Keeps s₀ s) : Keeps s₀ (s.zeroiseHouse h) :=
  hs.clearSlots.emptyCache.emptyTables.hskRoll

theorem Keeps.loseDram (hs : Keeps s₀ s) : Keeps s₀ s.loseDram := hs.change (wf_setBytes _ _ _) id

theorem Keeps.journalTamper {hit} (hs : Keeps s₀ s) : Keeps s₀ (s.journalTamper hit) :=
  hs.frame.foldl (fun _ _ hs₁ => .ite hs₁.modJ.recordEvent hs₁.modJ)

theorem Keeps.clearKeys (hs : Keeps s₀ s) : Keeps s₀ s.clearKeys :=
  hs.frame.clearSlots.foldl (fun _ _ hs₁ => hs₁.emptyCache.modHouse.drbgClear.reseedDue)

theorem Keeps.dropLanes (hs : Keeps s₀ s) : Keeps s₀ s.dropLanes := hs.foldl (fun _ _ hs₁ => hs₁.modSlate)
theorem Keeps.dropLeases (hs : Keeps s₀ s) : Keeps s₀ s.dropLeases := hs.frame.runOffQueue

theorem Keeps.zeroise {hit} (hs : Keeps s₀ s) : Keeps s₀ (s.zeroise hit) :=
  .ite hs.setFlag.frame hs.setFlag.journalTamper.clearKeys.dropLanes.loseDram.dropLeases.machineCheck

theorem Keeps.tamperHit {mesh sw} (hs : Keeps s₀ s) : Keeps s₀ (s.tamperHit mesh sw) := hs.setFld.setFld.zeroise

theorem Keeps.slotSealed {asym slot ok} (hs : Keeps s₀ s) : Keeps s₀ (s.slotSealed asym slot ok) :=
  .ite (.ite hs.frame.setSlot.frame hs.frame.setFlag.machineCheck) hs

theorem Keeps.entropyFail {e f} (hs : Keeps s₀ s) : Keeps s₀ (s.entropyFail e f) :=
  hs.satFld.markUnit.failUnit.machineCheck

theorem Keeps.entropyBit {e b} (hs : Keeps s₀ s) : Keeps s₀ (s.entropyBit e b) := by
  unfold State.entropyBit
  extract_lets r s₁ s₂ s₃ s₄
  have hs₁ : Keeps s₀ s₁ := .ite hs.markUnit hs
  have hs₂ : Keeps s₀ s₂ := .ite hs₁.frame hs₁
  have hs₃ : Keeps s₀ s₃ := hs₂.modSource
  have hs₄ : Keeps s₀ s₄ := .ite hs₃.entropyFail hs₃
  exact .ite hs₄.entropyFail hs₄

/-! ### Houses, shares and regions -/

theorem Keeps.stage {x} (hs : Keeps s₀ s) : Keeps s₀ (s.stage x) := hs.frame
theorem Keeps.finishStaged {id n x} (hs : Keeps s₀ s) : Keeps s₀ (s.finishStaged id n x) := hs.finish.stage

theorem Keeps.limitSlots {h ty v} (hs : Keeps s₀ s) : Keeps s₀ (s.limitSlots h ty v) := by
  unfold State.limitSlots
  extract_lets
  split
  · exact hs.modHouse
  · exact hs.modHouse
  · exact hs

theorem Keeps.shareSet {id} (hs : Keeps s₀ s) : Keeps s₀ (s.shareSet id) :=
  .ite hs.finishFail hs.finishStaged.limitSlots

theorem Keeps.houseBind {id} (hs : Keeps s₀ s) : Keeps s₀ (s.houseBind id) :=
  .ite hs.finishFail (hs.finish.foldl (fun _ _ hs₁ => hs₁.stage))

theorem Keeps.dramRgnSet {id} (hs : Keeps s₀ s) : Keeps s₀ (s.dramRgnSet id) :=
  .ite hs.finishFail hs.finishStaged

theorem Keeps.zeroChanging {n v w} (hs : Keeps s₀ s) : Keeps s₀ (s.zeroChanging n v w) :=
  hs.change (wf_memFilter _ _) id

theorem Keeps.fnConfig {id} (hs : Keeps s₀ s) : Keeps s₀ (s.fnConfig id) := .ite hs.finishFail hs.finishStaged

theorem Keeps.templateWrite {id} (hs : Keeps s₀ s) : Keeps s₀ (s.templateWrite id) :=
  hs.finishOk.foldl (fun _ _ hs₁ => hs₁.wr)

theorem Keeps.setCmdKey {h v} (hs : Keeps s₀ s) : Keeps s₀ (s.setCmdKey h v) := by
  unfold State.setCmdKey
  exact hs.frame.modHouse

theorem Keeps.houseRekey {id} (hs : Keeps s₀ s) : Keeps s₀ (s.houseRekey id) := by
  unfold State.houseRekey
  extract_lets
  split
  · exact hs.finishFail
  · refine .ite hs.finishFail ?_
    split
    · exact hs.finishFail
    · exact hs.finishFail
    · exact hs.finishNeg
    · exact .ite hs.finishFail hs.finishOk.setCmdKey

theorem Keeps.abandon {id} (hs : Keeps s₀ s) : Keeps s₀ (s.abandon id) := hs.fail.cancelWork

theorem Keeps.abandonAll {f} (hs : Keeps s₀ s) : Keeps s₀ (s.abandonAll f) :=
  hs.foldl (fun _ _ hs₁ => hs₁.abandon)

theorem Keeps.flushChute {c} (hs : Keeps s₀ s) : Keeps s₀ (s.flushChute c) :=
  hs.emptyChute.foldl (fun _ _ hs₁ => hs₁.leaveWork)

theorem Keeps.stopHoppers {h} (hs : Keeps s₀ s) : Keeps s₀ (s.stopHoppers h) :=
  hs.foldl (fun _ _ hs₁ => .ite hs₁.hopClear hs₁)

theorem Keeps.loadSuper {h} (hs : Keeps s₀ s) : Keeps s₀ (s.loadSuper h) := hs.putLines
theorem Keeps.setCarrels {t} (hs : Keeps s₀ s) : Keeps s₀ (s.setCarrels t) := hs.modTiller

theorem Keeps.enterSupervisor {t h} (hs : Keeps s₀ s) : Keeps s₀ (s.enterSupervisor t h) := by
  unfold State.enterSupervisor
  exact hs.modTiller

theorem Keeps.resetHouseTiller {h t} (hs : Keeps s₀ s) : Keeps s₀ (s.resetHouseTiller h t) :=
  hs.reissueWork.clearCarrelsOf.tillerReset.setCarrels.enterSupervisor

theorem Keeps.houseReset {h} (hs : Keeps s₀ s) : Keeps s₀ (s.houseReset h) := by
  unfold State.houseReset
  extract_lets s₁ s₂ s₃ s₄ s₅
  have hs₁ : Keeps s₀ s₁ := hs.setFld
  have hs₂ : Keeps s₀ s₂ := hs₁.abandonAll
  have hs₃ : Keeps s₀ s₃ := hs₂.foldl (fun _ _ hs₃ => hs₃.flushChute)
  have hs₄ : Keeps s₀ s₄ := hs₃.stopHoppers.loadSuper
  have hs₅ : Keeps s₀ s₅ := hs₄.foldl (fun _ _ hs₅ => hs₅.resetHouseTiller)
  exact hs₅.emptyTables.emptyCache.reseedDue.drbgRefill

theorem Keeps.resetIfUp {h} (hs : Keeps s₀ s) : Keeps s₀ (s.resetIfUp h) := .ite hs.houseReset hs

/-! ### The journal's commands -/

theorem Keeps.journalSet {id bad x} (hs : Keeps s₀ s) : Keeps s₀ (s.journalSet id bad x) :=
  .ite hs.finishFail hs.finishStaged

theorem Keeps.jrnlRing {id} (hs : Keeps s₀ s) : Keeps s₀ (s.jrnlRing id) := hs.journalSet
theorem Keeps.jrnlAlt {id} (hs : Keeps s₀ s) : Keeps s₀ (s.jrnlAlt id) := hs.journalSet
theorem Keeps.jrnlSealCfg {id} (hs : Keeps s₀ s) : Keeps s₀ (s.jrnlSealCfg id) := hs.journalSet

theorem Keeps.inRange {id f} (hs : Keeps s₀ s) (hf : ∀ s, Keeps s₀ s → Keeps s₀ (f s)) :
    Keeps s₀ (s.inRange id f) := by
  unfold State.inRange
  extract_lets
  split
  · exact hs.finishFail
  · exact hf _ hs

theorem Keeps.jrnlRead {id} (hs : Keeps s₀ s) : Keeps s₀ (s.jrnlRead id) :=
  .ite hs (.ite hs.finishFail.machineCheck hs.finishOut)

theorem Keeps.jrnlSealRead {id} (hs : Keeps s₀ s) : Keeps s₀ (s.jrnlSealRead id) :=
  .ite hs (.ite hs.finishFail.machineCheck hs.finishOut)

/-! ### The Term boundary -/

theorem Keeps.movePort {h p} (hs : Keeps s₀ s) : Keeps s₀ (s.movePort h p) := by
  unfold State.movePort
  extract_lets s₁ s₂ s₃
  have hs₁ : Keeps s₀ s₁ := hs.foldl (fun _ _ hs₁ => hs₁.setFld)
  have hs₂ : Keeps s₀ s₂ := hs₁.foldl (fun _ _ hs₂ => hs₂.wr.wr.wr)
  have hs₃ : Keeps s₀ s₃ := hs₂.frame
  exact .ite hs₃.setFld.modJ hs₃

theorem Keeps.applyBind {x} (hs : Keeps s₀ s) : Keeps s₀ (s.applyBind x) := by
  unfold State.applyBind
  split
  · exact .ite hs (.ite hs.movePort hs.stage)
  · exact hs

theorem Keeps.assignLane {n h} (hs : Keeps s₀ s) : Keeps s₀ (s.assignLane n h) :=
  .ite hs.modLane.laneServe hs.modLane.laneState

theorem Keeps.poolShift {h} (hs : Keeps s₀ s) : Keeps s₀ (s.poolShift h) := hs.frame

theorem Keeps.setLanes {h v} (hs : Keeps s₀ s) : Keeps s₀ (s.setLanes h v) := by
  unfold State.setLanes
  extract_lets was own s₁ s₂ s₃
  have hs₁ : Keeps s₀ s₁ := hs.foldl (fun _ _ hs₁ => hs₁.assignLane)
  have hs₂ : Keeps s₀ s₂ := hs₁.foldl (fun _ _ hs₂ => hs₂.assignLane)
  have hs₃ : Keeps s₀ s₃ := hs₂.setFld
  exact .ite hs₃.poolShift hs₃

theorem Keeps.ownMill {pmill n h} (hs : Keeps s₀ s) : Keeps s₀ (s.ownMill pmill n h) := hs.frame

theorem Keeps.setMills {h pmill v} (hs : Keeps s₀ s) : Keeps s₀ (s.setMills h pmill v) :=
  ((hs.foldl (fun _ _ hs₁ => hs₁.ownMill)).foldl (fun _ _ hs₁ => hs₁.ownMill)).setFld

theorem Keeps.clearTo {t h} (hs : Keeps s₀ s) : Keeps s₀ (s.clearTo t h) := by
  unfold State.clearTo
  exact (hs.foldl (fun _ _ hs₁ => hs₁.modHouse)).modHouse

theorem Keeps.tillerLeaves {t h} (hs : Keeps s₀ s) : Keeps s₀ (s.tillerLeaves t h) :=
  Keeps.clearTo (.ite (Keeps.setFld (.ite hs hs.frame)) (.ite hs hs.frame))

theorem Keeps.setTillers {h v} (hs : Keeps s₀ s) : Keeps s₀ (s.setTillers h v) :=
  (hs.foldl (fun _ _ hs₁ => .ite hs₁.tillerLeaves hs₁)).foldl (fun _ _ hs₁ => .ite hs₁.tillerLeaves hs₁)

theorem Keeps.wayTo {w h} (hs : Keeps s₀ s) : Keeps s₀ (s.wayTo w h) :=
  (hs.foldl (fun _ _ hs₁ => .ite hs₁.setFld hs₁)).frame

theorem Keeps.setWays {h v} (hs : Keeps s₀ s) : Keeps s₀ (s.setWays h v) :=
  (hs.foldl (fun _ _ hs₁ => .ite hs₁.wayTo (.ite hs₁.wayTo hs₁))).trimGranary

theorem Keeps.trimCaches (hs : Keeps s₀ s) : Keeps s₀ s.trimCaches :=
  hs.foldl (fun _ _ hs₁ => hs₁.trimCache.trimCache)

theorem Keeps.setChutes {h v} (hs : Keeps s₀ s) : Keeps s₀ (s.setChutes h v) := by
  unfold State.setChutes
  extract_lets moves s'₁
  have hs'₁ : Keeps s₀ s'₁ := (hs.foldl (fun _ _ hs₁ => hs₁.setFld)).countChutes
  exact .ite hs'₁.stage hs'₁

theorem Keeps.applyShare {h ty v} (hs : Keeps s₀ s) : Keeps s₀ (s.applyShare h ty v) := by
  unfold State.applyShare
  split
  · exact hs.setLanes
  · exact hs.setMills
  · exact hs.setMills
  · exact hs.setTillers
  · exact hs.setWays
  · exact hs.setFld.modHouse
  · exact hs.setFld.modHouse
  · exact hs.setFld.trimCaches
  · exact hs.setFld.trimCaches
  · exact hs.setChutes
  · exact hs.setFld
  · exact hs.setFld

theorem Keeps.applyMove {x} (hs : Keeps s₀ s) : Keeps s₀ (s.applyMove x) := by
  unfold State.applyMove
  split
  · exact hs.applyShare
  · exact .ite hs.wr.wr hs.stage
  · exact hs

theorem Keeps.sheafLeaves {k h} (hs : Keeps s₀ s) : Keeps s₀ (s.sheafLeaves k h) := .ite hs hs.dropL2.hopReset

theorem Keeps.tillerClears {t h} (hs : Keeps s₀ s) : Keeps s₀ (s.tillerClears t h) := by
  unfold State.tillerClears
  split
  · rename_i e
    exact (hs.clearCarrelsOf.drainAll.of_some e).modTiller.zeroRange.frame.sheafLeaves
  · exact hs

theorem Keeps.clearTillers (hs : Keeps s₀ s) : Keeps s₀ s.clearTillers :=
  hs.foldl (fun _ _ hs₁ => .ite hs₁.tillerClears hs₁)

theorem Keeps.tillerJoins {t h} (hs : Keeps s₀ s) : Keeps s₀ (s.tillerJoins t h) :=
  .ite hs.modHouse.setFld hs.modHouse

theorem Keeps.joinTillers (hs : Keeps s₀ s) : Keeps s₀ s.joinTillers :=
  (hs.foldl (fun _ _ hs₁ => hs₁.foldl (fun _ _ hs₂ => .ite hs₂.tillerJoins hs₂))).clearTillers

theorem Keeps.sealNow {h} (hs : Keeps s₀ s) : Keeps s₀ (s.sealNow h) := .ite hs.modJ.requestSeals hs

theorem Keeps.applyRing {h base log2} (hs : Keeps s₀ s) : Keeps s₀ (s.applyRing h base log2) :=
  .ite hs.relocate (.ite hs.wr hs.stage)

theorem Keeps.applyMirror {h maddr mlog2 gfn en timeout} (hs : Keeps s₀ s) :
    Keeps s₀ (s.applyMirror h maddr mlog2 gfn en timeout) :=
  .ite hs.wr.setFld.setFld.setFld.setFlag.modJ.recordEvent hs.wr.setFld.setFld.setFld.setFlag

theorem Keeps.applyFn {g credit fast allow base count} (hs : Keeps s₀ s) :
    Keeps s₀ (s.applyFn g credit fast allow base count) := hs.setFld.setFlag.setFld.setFld.setFld

theorem Keeps.applySetting {x} (hs : Keeps s₀ s) : Keeps s₀ (s.applySetting x) := by
  unfold State.applySetting
  split
  · exact hs.applyFn
  · exact hs.setFld.setFld.setFld
  · exact hs.setFlag.setFlag
  · exact hs.setFlag
  · exact hs.applyRing
  · exact hs.wr
  · exact hs.setFld.setFld
  · exact hs.setFld.setFld.setFld.sealNow
  · exact hs.applyMirror
  · exact hs.setFld.setFlag
  · exact hs.softWrite.softWrite.setFld.driftCheck
  · exact hs

theorem Keeps.applySeal {x} (hs : Keeps s₀ s) : Keeps s₀ (s.applySeal x) := by
  unfold State.applySeal
  split
  · exact hs.setFlag
  · exact hs.setFlag
  · exact hs

theorem Keeps.applyLen {x} (hs : Keeps s₀ s) : Keeps s₀ (s.applyLen x) := by
  unfold State.applyLen
  split
  · exact hs.setFld
  · exact hs.stage
  · exact hs

theorem Keeps.applyStaged {f g} (hs : Keeps s₀ s) (hg : ∀ s x, Keeps s₀ s → Keeps s₀ (g s x)) :
    Keeps s₀ (s.applyStaged f g) := hs.frame.foldl (fun _ _ hs₁ => hg _ _ hs₁)

theorem Keeps.applyAll (hs : Keeps s₀ s) : Keeps s₀ s.applyAll := by
  unfold State.applyAll
  extract_lets s₁ s₂ s₃ less s₄ s₅ s₆
  have hs₁ : Keeps s₀ s₁ := hs.applyStaged (fun _ _ hs₁ => hs₁.applyBind)
  have hs₂ : Keeps s₀ s₂ := hs₁.applyStaged (fun _ _ hs₂ => hs₂.applyBind)
  have hs₃ : Keeps s₀ s₃ := hs₂.joinTillers
  have hs₄ : Keeps s₀ s₄ := hs₃.applyStaged (fun _ _ hs₄ => hs₄.applyMove)
  have hs₅ : Keeps s₀ s₅ := (hs₄.applyStaged (fun _ _ hs₅ => hs₅.applyMove)).clearTillers
  have hs₆ : Keeps s₀ s₆ := hs₅.applyStaged (fun _ _ hs₆ => hs₆.applySetting)
  exact hs₆.applyStaged (fun _ _ hs₇ => hs₇.applySeal)

theorem Keeps.loanLane {n} (hs : Keeps s₀ s) : Keeps s₀ (s.loanLane n) := by
  unfold State.loanLane
  extract_lets
  split
  · exact hs
  · exact .ite hs (.ite hs.modLane.laneServe hs.modLane.laneState)

theorem Keeps.loanMill {pmill n} (hs : Keeps s₀ s) : Keeps s₀ (s.loanMill pmill n) := by
  unfold State.loanMill
  extract_lets out s'₁
  have hs'₁ : Keeps s₀ s'₁ := hs.frame
  split
  · exact hs'₁
  · refine .ite ?_ hs'₁
    split
    · exact hs'₁.frame
    · exact hs'₁

theorem Keeps.countLoans (hs : Keeps s₀ s) : Keeps s₀ s.countLoans :=
  hs.foldl (fun _ _ hs₁ => .ite (Keeps.satFld (.ite hs₁.satFld hs₁)) (.ite hs₁.satFld hs₁))

theorem Keeps.runLoans (hs : Keeps s₀ s) : Keeps s₀ s.runLoans := by
  unfold State.runLoans
  extract_lets s₁ s₂ s₃ s₄ s₅ s₆
  have hs₁ : Keeps s₀ s₁ := hs.foldl (fun _ _ hs₁ => hs₁.loanLane)
  have hs₂ : Keeps s₀ s₂ := hs₁.foldl (fun _ _ hs₂ => hs₂.loanMill)
  have hs₃ : Keeps s₀ s₃ := hs₂.foldl (fun _ _ hs₃ => hs₃.loanMill)
  have hs₄ : Keeps s₀ s₄ := hs₃.countLoans
  have hs₅ : Keeps s₀ s₅ := hs₄.foldl (fun _ _ hs₅ => hs₅.modLane)
  have hs₆ : Keeps s₀ s₆ := hs₅.foldl (fun _ _ hs₆ => hs₆.modHouse)
  exact hs₆.frame

theorem Keeps.resumeHouses (hs : Keeps s₀ s) : Keeps s₀ s.resumeHouses :=
  hs.foldl (fun _ _ hs₁ => .ite hs₁.setFld hs₁)

theorem Keeps.readyRots (hs : Keeps s₀ s) : Keeps s₀ s.readyRots := hs.frame

theorem Keeps.newTerm (hs : Keeps s₀ s) : Keeps s₀ s.newTerm :=
  (hs.applyStaged (fun _ _ hs₁ => hs₁.applyLen)).countFld.feedMills.raiseShared

/-! ### The DRAM channels' events -/

theorem Keeps.retryAccess {c ecc} (hs : Keeps s₀ s) : Keeps s₀ (s.retryAccess c ecc) := by
  unfold State.retryAccess
  extract_lets
  split
  · exact hs
  · exact .ite hs.corrected hs
  · exact .ite hs.freeze hs.poisonLine

theorem Keeps.releaseChan {c ecc} (hs : Keeps s₀ s) : Keeps s₀ (s.releaseChan c ecc) :=
  .ite hs.wr.setFld.retryAccess (hs.wr.setFld.retryAccess.foldl (fun _ _ hs₁ => hs₁.releaseHeld))

theorem Keeps.rowRead {c line} (hs : Keeps s₀ s) : Keeps s₀ (s.rowRead c line) :=
  .ite hs.choose (.ite hs.choose.satFld hs.choose.poisonLine)

theorem Keeps.endFills (hs : Keeps s₀ s) : Keeps s₀ s.endFills := hs.foldl (fun _ _ hs₁ => hs₁.leaveWork)
theorem Keeps.useStandby {h} (hs : Keeps s₀ s) : Keeps s₀ (s.useStandby h) := .ite hs.wr.relocate hs
theorem Keeps.setMarch {kind n v} (hs : Keeps s₀ s) : Keeps s₀ (s.setMarch kind n v) := hs.frame
theorem Keeps.deskTest {kind n v} (hs : Keeps s₀ s) : Keeps s₀ (s.deskTest kind n v) := .ite hs.setFld hs

theorem Keeps.marchRun {id} (hs : Keeps s₀ s) : Keeps s₀ (s.marchRun id) :=
  .ite hs.finishFail hs.finishOk.setMarch.deskTest.frame

theorem Keeps.endPreserving {n result} (hs : Keeps s₀ s) : Keeps s₀ (s.endPreserving n result) :=
  hs.setMarch.deskTest.frame

theorem Keeps.logColumn {u} (hs : Keeps s₀ s) : Keeps s₀ (s.logColumn u) := hs.freshWord.logRepair

theorem Keeps.logColumns {u n} (hs : Keeps s₀ s) : Keeps s₀ (s.logColumns u n) := by
  induction n generalizing s with
  | zero => exact hs
  | succ n ih => exact ih hs.logColumn

theorem Keeps.spoilDesk {n} (hs : Keeps s₀ s) : Keeps s₀ (s.spoilDesk n) := hs.change (wf_setBytes _ _ _) id

/-! ### Roll call and the Marker -/

theorem Keeps.reportDrift {u r} (hs : Keeps s₀ s) : Keeps s₀ (s.reportDrift u r) :=
  Keeps.setFlag (.ite hs.setFld.setFld hs.setFld)

theorem Keeps.setConfirm {u n} (hs : Keeps s₀ s) : Keeps s₀ (s.setConfirm u n) := hs.frame

theorem Keeps.confirmDrift {u r} (hs : Keeps s₀ s) : Keeps s₀ (s.confirmDrift u r) :=
  .ite hs (.ite hs.setConfirm (.ite hs.setConfirm hs.setConfirm.wearUnit))

theorem Keeps.passMeasured {u} (hs : Keeps s₀ s) : Keeps s₀ (s.passMeasured u) :=
  .ite hs (.ite hs.frame.satFld hs.frame)

theorem Keeps.measured {u r} (hs : Keeps s₀ s) : Keeps s₀ (s.measured u r) :=
  .ite hs.frame hs.reportDrift.confirmDrift.passMeasured

theorem Keeps.startPass (hs : Keeps s₀ s) : Keeps s₀ s.startPass := .ite hs hs.frame
theorem Keeps.setSnap {b v} (hs : Keeps s₀ s) : Keeps s₀ (s.setSnap b v) := hs.frame
theorem Keeps.snapWrite {b i bs} (hs : Keeps s₀ s) : Keeps s₀ (s.snapWrite b i bs) := .ite hs.memWrite hs

theorem Keeps.snapEntries {b i es} (hs : Keeps s₀ s) : Keeps s₀ (s.snapEntries b i es) := by
  induction es generalizing s i with
  | nil => exact hs
  | cons e es ih => exact ih hs.choose.snapWrite

theorem Keeps.snapshot {b cause} (hs : Keeps s₀ s) : Keeps s₀ (s.snapshot b cause) :=
  .ite hs hs.snapWrite.snapEntries.setSnap.frame

theorem Keeps.termSnapshots (hs : Keeps s₀ s) : Keeps s₀ s.termSnapshots :=
  .ite (hs.foldl (fun _ _ hs₁ => hs₁.snapshot)) hs

theorem Keeps.marksConfig {id} (hs : Keeps s₀ s) : Keeps s₀ (s.marksConfig id) :=
  .ite hs.finishFail (hs.finishOk.wr.setSnap.foldl (fun _ _ hs₁ => hs₁.wr))

/-! ### Rotation -/

theorem Keeps.modRot {u f} (hs : Keeps s₀ s) : Keeps s₀ (s.modRot u f) := hs.frame
theorem Keeps.dropRot {u} (hs : Keeps s₀ s) : Keeps s₀ (s.dropRot u) := hs.frame
theorem Keeps.copyReg {a b} (hs : Keeps s₀ s) : Keeps s₀ (s.copyReg a b) := hs.wr

theorem Keeps.copyDesk {n m zero} (hs : Keeps s₀ s) : Keeps s₀ (s.copyDesk n m zero) := by
  unfold State.copyDesk
  extract_lets a b mine cells bad s₁ s₂
  have hs₂ : Keeps s₀ s₂ := hs.zeroRange.foldl fun _ _ hs₁ => hs₁.change (wf_setByte _ _ _) id
  exact .ite hs₂ (hs₂.foldl (fun _ _ hs₃ => hs₃.poisonLine))

theorem Keeps.copyPosRegs {n m} (hs : Keeps s₀ s) : Keeps s₀ (s.copyPosRegs n m) :=
  hs.copyReg.foldl (fun _ _ hs₁ => hs₁.copyReg.copyReg)

theorem Keeps.aliasSlot {n} (hs : Keeps s₀ s) : Keeps s₀ (s.aliasSlot n) := hs.setFld
theorem Keeps.placeTiller {t m} (hs : Keeps s₀ s) : Keeps s₀ (s.placeTiller t m) := hs.modTiller

theorem Keeps.migrate {t n m} (hs : Keeps s₀ s) : Keeps s₀ (s.migrate t n m) :=
  (hs.drainAll.getD hs).modTiller.copyPosRegs.copyDesk.aliasSlot.placeTiller

theorem Keeps.replaceTiller {t n m} (hs : Keeps s₀ s) : Keeps s₀ (s.replaceTiller t n m) := by
  unfold State.replaceTiller
  exact hs.reissueWork.tillerReset.copyPosRegs.copyDesk.aliasSlot.placeTiller.hsEvent

theorem Keeps.bindMill {n k} (hs : Keeps s₀ s) : Keeps s₀ (s.bindMill n k) := hs.setFld.setFld

theorem Keeps.rotateLane {n m} (hs : Keeps s₀ s) : Keeps s₀ (s.rotateLane n m) := by
  unfold State.rotateLane
  extract_lets
  split
  · exact hs.setLane.setLane.bindMill.bindMill.laneServe
  · exact hs.setLane.setLane.laneState

theorem Keeps.reissueLane {n} (hs : Keeps s₀ s) : Keeps s₀ (s.reissueLane n) := by
  unfold State.reissueLane
  refine hs.foldl fun _ _ hs₁ => ?_
  split
  · exact .ite hs₁.emptyPos.requeueHead hs₁.emptyPos.leaveWork
  · exact hs₁

theorem Keeps.replaceLane {n m} (hs : Keeps s₀ s) : Keeps s₀ (s.replaceLane n m) := by
  unfold State.replaceLane
  exact (hs.reissueLane.foldl (fun _ _ hs₁ => hs₁.setFld)).setLane.setLane.laneServe

theorem Keeps.reissueMill {pmill n} (hs : Keeps s₀ s) : Keeps s₀ (s.reissueMill pmill n) := by
  unfold State.reissueMill
  split
  · exact hs.setMill.frame
  · exact hs

theorem Keeps.rebindMill {pmill n m} (hs : Keeps s₀ s) : Keeps s₀ (s.rebindMill pmill n m) :=
  (Keeps.ite hs hs.setFld.setFld).frame

theorem Keeps.emptySlice {u l failed} (hs : Keeps s₀ s) : Keeps s₀ (s.emptySlice u l failed) :=
  hs.frame.foldl (fun _ _ hs₁ => .ite (.ite hs₁.markUnit.choose.poisonLine hs₁.markUnit.choose) hs₁.markUnit)

theorem Keeps.remapSlice {n m failed} (hs : Keeps s₀ s) : Keeps s₀ (s.remapSlice n m failed) :=
  hs.emptySlice.setFld.setFld

theorem Keeps.rotateKind {u m failed} (hs : Keeps s₀ s) : Keeps s₀ (s.rotateKind u m failed) := by
  unfold State.rotateKind
  split
  · split
    · exact .ite hs.replaceTiller hs.migrate
    · exact hs
  · exact .ite hs.replaceLane hs.rotateLane
  · exact Keeps.rebindMill (.ite hs.reissueMill hs)
  · exact Keeps.rebindMill (.ite hs.reissueMill hs)
  · exact hs.remapSlice
  · exact hs

theorem Keeps.markRotated {u m} (hs : Keeps s₀ s) : Keeps s₀ (s.markRotated u m) := hs.frame

theorem Keeps.rotate {u m failed} (hs : Keeps s₀ s) : Keeps s₀ (s.rotate u m failed) := by
  unfold State.rotate
  extract_lets s₁ s₂ s₃ s₄ s₅
  have hs₁ : Keeps s₀ s₁ := hs.bumpTerm
  have hs₂ : Keeps s₀ s₂ := hs₁.rotateKind
  have hs₃ : Keeps s₀ s₃ := hs₂.setUnitState.retireUnit
  have hs₄ : Keeps s₀ s₄ := .ite hs₃ hs₃.setUnitState
  have hs₅ : Keeps s₀ s₅ := hs₄.markRotated.logRepair.satFld
  exact hs₅.dropRot.feedMills

theorem Keeps.loseLane {n} (hs : Keeps s₀ s) : Keeps s₀ (s.loseLane n) := by
  unfold State.loseLane
  extract_lets s₁ s₂
  have hs₁ : Keeps s₀ s₁ := hs.reissueLane
  have hs₂ : Keeps s₀ s₂ := hs₁.foldl (fun _ _ hs₂ => hs₂.setFld.setFld)
  split
  · exact .ite hs₂.setLane.setFld.poolShift hs₂.setLane.setFld
  · exact hs₂.setLane

theorem Keeps.loseMill {pmill n} (hs : Keeps s₀ s) : Keeps s₀ (s.loseMill pmill n) := by
  unfold State.loseMill
  extract_lets s₁ s₂ f
  have hs₁ : Keeps s₀ s₁ := hs.reissueMill
  have hs₂ : Keeps s₀ s₂ := .ite hs₁ hs₁.setFld
  split
  · exact hs₂.ownMill.setFld
  · exact hs₂

theorem Keeps.loseTiller {t} (hs : Keeps s₀ s) : Keeps s₀ (s.loseTiller t) := by
  unfold State.loseTiller
  extract_lets s₁ s₂ s₃
  have hs₁ : Keeps s₀ s₁ := hs.reissueWork.tillerReset
  have hs₂ : Keeps s₀ s₂ := by
    unfold s₂
    split
    · exact hs₁.setFld
    · exact hs₁
  have hs₃ : Keeps s₀ s₃ := hs₂.foldl (fun _ _ hs₃ => hs₃.modHouse)
  exact hs₃.frame.modTiller

theorem Keeps.loseUnit {u} (hs : Keeps s₀ s) : Keeps s₀ (s.loseUnit u) := by
  unfold State.loseUnit
  extract_lets s₁ s₂
  have hs₁ : Keeps s₀ s₁ := hs.bumpTerm
  have hs₂ : Keeps s₀ s₂ := by
    unfold s₂
    split
    · split
      · exact hs₁.loseTiller
      · exact hs₁
    · exact hs₁.loseLane
    · exact hs₁.loseMill
    · exact hs₁.loseMill
    · exact hs₁.emptySlice.setFld
    · exact hs₁
  exact hs₂.retireUnit.feedMills

theorem Keeps.rotShort {r} (hs : Keeps s₀ s) : Keeps s₀ (s.rotShort r) :=
  .ite hs.setFld.dropRot.loseUnit hs.setFld.dropRot

theorem Keeps.rotateCmd {id} (hs : Keeps s₀ s) : Keeps s₀ (s.rotateCmd id) :=
  .ite hs.finishFail hs.finishOk.queueRot

theorem Keeps.unitReset {u} (hs : Keeps s₀ s) : Keeps s₀ (s.unitReset u) := by
  unfold State.unitReset
  split
  · split
    · exact hs.reissueWork.tillerReset
    · exact hs
  · exact hs.bumpTerm.reissueLane
  · exact hs.bumpTerm.reissueMill.feedMills
  · exact hs.bumpTerm.reissueMill.feedMills
  · exact hs.bumpTerm

/-! ### Resets and the start -/

theorem Keeps.lapseForReset (hs : Keeps s₀ s) : Keeps s₀ s.lapseForReset := .ite hs.lapse hs
theorem Keeps.afterReset {cold} (hs : Keeps s₀ s) : Keeps s₀ (s.afterReset cold) := hs.change id (wf_filter _ _ _)
theorem Keeps.reportBoot {k stage} (hs : Keeps s₀ s) : Keeps s₀ (s.reportBoot k stage) := hs.wr

theorem Keeps.serveUnit {u m} (hs : Keeps s₀ s) : Keeps s₀ (s.serveUnit u m) := by
  unfold State.serveUnit
  split
  · exact .ite hs.modTiller.setUnitState hs.modTiller.setUnitState.aliasSlot
  · exact hs.modTiller
  · exact hs.setUnitState
  · exact hs.setFld.setUnitState
  · exact hs.setUnitState
  · exact hs

theorem Keeps.bindPairs {plan} (hs : Keeps s₀ s) : Keeps s₀ (s.bindPairs plan) := by
  unfold State.bindPairs
  refine hs.foldl fun _ _ hs₁ => ?_
  split
  · refine .ite ?_ hs₁
    split
    · exact hs₁.setFld
    · exact hs₁.setUnitState
  · exact hs₁

theorem Keeps.startUnits {failed} (hs : Keeps s₀ s) : Keeps s₀ (s.startUnits failed) := by
  unfold State.startUnits
  extract_lets gone bad s₁ s₂ s₃ plan s₄
  have hs₁ : Keeps s₀ s₁ := hs.foldl (fun _ _ hs₁ => hs₁.setFld)
  have hs₂ : Keeps s₀ s₂ := hs₁.foldl (fun _ _ hs₂ => hs₂.setFld)
  have hs₃ : Keeps s₀ s₃ := by
    unfold s₃
    refine hs₂.foldl fun _ _ hs₃ => ?_
    exact .ite hs₃.setUnitState.retireUnit (.ite hs₃.setUnitState.retireUnit (.ite hs₃.setUnitState hs₃))
  have hs₄ : Keeps s₀ s₄ := (hs₃.foldl (fun _ _ hs₄ => hs₄.serveUnit)).bindPairs
  exact hs₄.setFlag

theorem Keeps.trainChannel {c} (hs : Keeps s₀ s) : Keeps s₀ (s.trainChannel c) :=
  Keeps.wr (.ite hs.choose.modChan.setFld hs.choose.modChan)

theorem Keeps.closeRegions (hs : Keeps s₀ s) : Keeps s₀ s.closeRegions :=
  hs.foldl (fun _ _ hs₁ => .ite hs₁ hs₁.setFld)

theorem Keeps.zeroRegion {n} (hs : Keeps s₀ s) : Keeps s₀ (s.zeroRegion n) := hs.change (wf_memFilter _ _) id

theorem Keeps.startMemory (hs : Keeps s₀ s) : Keeps s₀ s.startMemory :=
  (hs.loseDram.change (wf_memFilter _ _) id).foldl (fun _ _ hs₁ => hs₁.zeroRegion)

theorem Keeps.reloadSatchel {less} (hs : Keeps s₀ s) : Keeps s₀ (s.reloadSatchel less) := hs.frame
theorem Keeps.draw256 (hs : Keeps s₀ s) : Keeps s₀ s.draw256.2 := hs.entropyBytes

theorem Keeps.regenerate (hs : Keeps s₀ s) : Keeps s₀ s.regenerate :=
  hs.draw256.draw256.frame.sealDevice.reloadSatchel

theorem Keeps.noteVaonLost (hs : Keeps s₀ s) : Keeps s₀ s.noteVaonLost := hs.setFlag

theorem Keeps.drawDramKeys (hs : Keeps s₀ s) : Keeps s₀ s.drawDramKeys :=
  hs.foldl (fun _ _ hs₁ => hs₁.entropyBytes.frame)

theorem Keeps.startDrbgs (hs : Keeps s₀ s) : Keeps s₀ s.startDrbgs :=
  hs.foldl (fun _ _ hs₁ => hs₁.drbgClear.reseedDue.drbgRefill)

theorem Keeps.reloadKeys (hs : Keeps s₀ s) : Keeps s₀ s.reloadKeys := hs.frame.reloadSatchel

theorem Keeps.resumeCounters (hs : Keeps s₀ s) : Keeps s₀ s.resumeCounters :=
  (hs.foldl (fun _ _ hs₁ => hs₁.modHouse)).frame

theorem Keeps.loadConfig (hs : Keeps s₀ s) : Keeps s₀ s.loadConfig := hs.frame.foldl (fun _ _ hs₁ => hs₁.wr)
theorem Keeps.startState {h} (hs : Keeps s₀ s) : Keeps s₀ (s.startState h) := hs.setFld

theorem Keeps.startShares {h} (hs : Keeps s₀ s) : Keeps s₀ (s.startShares h) :=
  hs.setLanes.setMills.setMills.setFld

theorem Keeps.startTillers {h} (hs : Keeps s₀ s) : Keeps s₀ (s.startTillers h) :=
  hs.foldl (fun _ _ hs₁ => hs₁.enterSupervisor)

theorem Keeps.startHouses (hs : Keeps s₀ s) : Keeps s₀ s.startHouses := by
  unfold State.startHouses
  extract_lets s₁
  have hs₁ : Keeps s₀ s₁ := hs.foldl (fun _ _ hs₁ => hs₁.startState.startShares)
  exact hs₁.countChutes.foldl (fun _ _ hs₂ => Keeps.startTillers (.ite hs₂.loadSuper hs₂))

theorem Keeps.startRecord {h kind} (hs : Keeps s₀ s) : Keeps s₀ (s.startRecord h kind) := hs.modJ.recordEvent

theorem Keeps.startJournals {kind} (hs : Keeps s₀ s) : Keeps s₀ (s.startJournals kind) :=
  hs.foldl (fun _ _ hs₁ => .ite hs₁.modJ.startRecord hs₁.modJ)

theorem Keeps.startAllTillers (hs : Keeps s₀ s) : Keeps s₀ s.startAllTillers :=
  hs.foldl (fun _ _ hs₁ => hs₁.tillerReset.setTiller)

theorem Keeps.trainPorts (hs : Keeps s₀ s) : Keeps s₀ s.trainPorts := hs.foldl (fun _ _ hs₁ => hs₁.modPort)

theorem Keeps.lockWatermarks (hs : Keeps s₀ s) : Keeps s₀ s.lockWatermarks :=
  hs.foldl (fun _ _ hs₁ => hs₁.setFld)

theorem Keeps.setDramSwm (hs : Keeps s₀ s) : Keeps s₀ s.setDramSwm := hs.setFld

theorem Keeps.dropEdges (hs : Keeps s₀ s) : Keeps s₀ s.dropEdges := by
  unfold State.dropEdges
  exact hs.frame.mapTillers

theorem Keeps.zeroMapped (hs : Keeps s₀ s) : Keeps s₀ s.zeroMapped :=
  hs.foldl (fun _ _ hs₁ => .ite hs₁.choose.zeroRegion hs₁.choose)

theorem Keeps.enterService (hs : Keeps s₀ s) : Keeps s₀ s.enterService := hs.zeroMapped.setFlag.mapTillers.frame

theorem Keeps.start {failed kind} (hs : Keeps s₀ s) : Keeps s₀ (s.start failed kind) := by
  unfold State.start
  extract_lets x s₁ s₂ kind₁
  have hs₁ : Keeps s₀ s₁ := hs.frame
  have hs₂ : Keeps s₀ s₂ := hs₁.startAllTillers.avsBegin.trainPorts
  split
  · exact hs₂.reportBoot.modTiller
  · extract_lets s₃ s₄ s₅ s₆ s₇ s₈ s₉ s₁₀ s₁₁ x₁
    have hs₃ : Keeps s₀ s₃ := hs₂.reportBoot.startUnits
    have hs₄ : Keeps s₀ s₄ := hs₃.loadConfig.wr
    have hs₅ : Keeps s₀ s₅ := (hs₄.foldl (fun _ _ hs₅ => hs₅.trainChannel)).closeRegions
    have hs₆ : Keeps s₀ s₆ := hs₅.noteVaonLost
    have hs₇ : Keeps s₀ s₇ := Keeps.resumeCounters (.ite hs₆.regenerate hs₆.reloadKeys)
    have hs₈ : Keeps s₀ s₈ := hs₇.drawDramKeys.startDrbgs.startMemory.startHouses
    have hs₉ : Keeps s₀ s₉ := hs₈.setDramSwm.lockWatermarks.startJournals.dropEdges
    have hs₁₀ : Keeps s₀ s₁₀ := hs₉.foldl (fun _ _ hs₁₁ => hs₁₁.setCarrels)
    have hs₁₁ : Keeps s₀ s₁₁ := hs₁₀.satFld.enterService
    exact hs₁₁.frame

theorem Keeps.warmStart {causes lost keep} (hs : Keeps s₀ s) : Keeps s₀ (s.warmStart causes lost keep) := by
  unfold State.warmStart
  exact hs.lapseForReset.afterReset.wr.start

theorem Keeps.present {b} (hs : Keeps s₀ s) : Keeps s₀ (s.present b) :=
  ((hs.foldl (fun _ _ hs₁ => hs₁.modPort)).foldl (fun _ _ hs₁ => hs₁.modChan)).frame

theorem Keeps.fuseLog (hs : Keeps s₀ s) : Keeps s₀ s.fuseLog := .ite hs.setFlag.frame hs.setFlag

/-! ### Quiesce, STOP and wake -/

theorem Keeps.claimAll (hs : Keeps s₀ s) : Keeps s₀ s.claimAll := by
  unfold State.claimAll
  refine hs.foldl fun _ _ hs₁ => ?_
  split
  · exact hs₁.standin
  · exact hs₁

theorem Keeps.answerHeld (hs : Keeps s₀ s) : Keeps s₀ s.answerHeld := hs.foldl (fun _ _ hs₁ => hs₁.finishFail)

theorem Keeps.releaseReply {id} (hs : Keeps s₀ s) : Keeps s₀ (s.releaseReply id) :=
  .ite (Keeps.modSlate (.ite hs.choose.deleteKey hs.choose)).commitReply hs.commitReply

theorem Keeps.completeReserve {h} (hs : Keeps s₀ s) : Keeps s₀ (s.completeReserve h) := by
  unfold State.completeReserve
  split
  · exact hs.modJ.buildAll
  · exact hs

theorem Keeps.completeWrites {h} (hs : Keeps s₀ s) : Keeps s₀ (s.completeWrites h) := hs.modJ.settleRecords

theorem Keeps.writeAll (hs : Keeps s₀ s) : Keeps s₀ s.writeAll :=
  (hs.foldl (fun _ _ hs₁ => hs₁.completeReserve.completeWrites)).foldl (fun _ _ hs₁ => hs₁.releaseReply)

theorem Keeps.quiesceSteps (hs : Keeps s₀ s) : Keeps s₀ s.quiesceSteps := hs.claimAll.answerHeld.writeAll

theorem Keeps.completeSeals {h} (hs : Keeps s₀ s) : Keeps s₀ (s.completeSeals h) :=
  hs.foldl (fun _ _ hs₁ => .ite hs₁ (Keeps.sealWritten (.ite hs₁ hs₁.writeSealBlock)))

theorem Keeps.clearSealMills (hs : Keeps s₀ s) : Keeps s₀ s.clearSealMills := hs.frame

theorem Keeps.stopSeals (hs : Keeps s₀ s) : Keeps s₀ s.stopSeals :=
  hs.foldl (fun _ _ hs₁ => hs₁.completeSeals.completeWrites)

theorem Keeps.stopJournals (hs : Keeps s₀ s) : Keeps s₀ s.stopJournals :=
  (hs.foldl (fun _ _ hs₁ => hs₁.checkpoint)).clearSealMills.foldl (fun _ _ hs₁ => hs₁.slotSealed)

theorem Keeps.runChannel {e} (hs : Keeps s₀ s) : Keeps s₀ (s.runChannel e) := by
  unfold State.runChannel
  split
  · exact hs.hopDone.hopStop
  · split
    · exact hs.modHopper.setFlag.hopDone.hopStop
    · exact hs

theorem Keeps.stopStores (hs : Keeps s₀ s) : KeepsOpt s₀ s.stopStores :=
  hs.foldlM (fun _ _ hs₁ => hs₁.drainStop)

theorem Keeps.runHoppers (hs : Keeps s₀ s) : Keeps s₀ s.runHoppers :=
  hs.foldl (fun _ _ hs₁ => hs₁.foldl (fun _ _ hs₂ => hs₂.runChannel))

theorem Keeps.stopCaches (hs : Keeps s₀ s) : Keeps s₀ s.stopCaches := by
  unfold State.stopCaches
  extract_lets s₁ s₂ dirty s₃
  have hs₁ : Keeps s₀ s₁ := hs.foldl (fun _ _ hs₁ => hs₁.modTiller)
  have hs₂ : Keeps s₀ s₂ := hs₁.foldl (fun _ _ hs₂ => hs₂.dropL2)
  have hs₃ : Keeps s₀ s₃ := hs₂.foldl (fun _ _ hs₃ => hs₃.markUnit)
  exact hs₃.frame

theorem Keeps.retainChans {was now} (hs : Keeps s₀ s) : Keeps s₀ (s.retainChans was now) :=
  hs.foldl (fun _ _ hs₁ => .ite hs₁.setFld hs₁)

theorem Keeps.enterStop (hs : Keeps s₀ s) : Keeps s₀ s.enterStop := by
  unfold State.enterStop
  extract_lets s₁ s₂ late x s₃ s₄
  have hs₁ : Keeps s₀ s₁ := hs.stopJournals.runHoppers.stopCaches.retainChans
  have hs₂ : Keeps s₀ s₂ := hs₁.setFld.satFld
  have hs₃ : Keeps s₀ s₃ := hs₂.frame
  have hs₄ : Keeps s₀ s₄ := hs₃.post.post
  exact .ite hs₄.beginExit hs₄

theorem Keeps.zeroRanks (hs : Keeps s₀ s) : Keeps s₀ s.zeroRanks := hs.change (wf_memFilter _ _) id
theorem Keeps.restartJournal {h} (hs : Keeps s₀ s) : Keeps s₀ (s.restartJournal h) := hs.modJ.startRecord

theorem Keeps.restartTillers (hs : Keeps s₀ s) : Keeps s₀ s.restartTillers := by
  unfold State.restartTillers
  extract_lets s₁ s₂
  have hs₁ : Keeps s₀ s₁ := hs.foldl (fun _ _ hs₁ => hs₁.tillerReset.setCarrels)
  have hs₂ : Keeps s₀ s₂ := hs₁.foldl (fun _ _ hs₂ => hs₂.startTillers)
  exact hs₂.change (wf_memFilter _ _) id

theorem Keeps.clearCore (hs : Keeps s₀ s) : Keeps s₀ s.clearCore :=
  (hs.foldl (fun _ _ hs₁ => .ite hs₁ hs₁.setSlate)).frame

theorem Keeps.leaveStop (hs : Keeps s₀ s) : Keeps s₀ s.leaveStop := by
  unfold State.leaveStop
  extract_lets x s₁ s₂ s₃ s₄ s₅ s₆ s₇ s₈ s₉
  have hs₁ : Keeps s₀ s₁ := hs.frame
  have hs₂ : Keeps s₀ s₂ := hs₁.retainChans
  have hs₃ : Keeps s₀ s₃ := hs₂.avsBegin
  have hs₄ : Keeps s₀ s₄ := hs₃.evalSoon
  have hs₅ : Keeps s₀ s₅ := hs₄.zeroRanks.foldl (fun _ _ hs₅ => hs₅.modChan)
  have hs₆ : Keeps s₀ s₆ := hs₅.clearCore.restartTillers.reloadSatchel
  have hs₇ : Keeps s₀ s₇ := hs₆.foldl (fun _ _ hs₇ => hs₇.reseedDue.drbgRefill)
  have hs₈ : Keeps s₀ s₈ := hs₇.foldl (fun _ _ hs₈ => .ite hs₈.resetIfUp hs₈)
  have hs₉ : Keeps s₀ s₉ := hs₈.foldl (fun _ _ hs₉ => .ite hs₉.restartJournal hs₉)
  exact hs₉.setFld

theorem Keeps.thenAfter {id} (hs : Keeps s₀ s) : Keeps s₀ (s.thenAfter id) := hs.modSlate
theorem Keeps.loadPower {p} (hs : Keeps s₀ s) : Keeps s₀ (s.loadPower p) := hs.wr.wr
theorem Keeps.wakePort {d} (hs : Keeps s₀ s) : Keeps s₀ (s.wakePort d) := .ite hs.driveWake hs

/-! ### Hall passes, the TAP and the debug port -/

theorem Keeps.endPass (hs : Keeps s₀ s) : Keeps s₀ s.endPass := hs.wr.wr.foldl (fun _ _ hs₁ => hs₁.modTiller)
theorem Keeps.setPassHwm {v} (hs : Keeps s₀ s) : Keeps s₀ (s.setPassHwm v) := hs.wr.frame

theorem Keeps.zeroiseHouses {mask} (hs : Keeps s₀ s) : Keeps s₀ (s.zeroiseHouses mask) :=
  hs.foldl (fun _ _ hs₁ => .ite hs₁.zeroiseHouse hs₁)

theorem Keeps.takePass {p} (hs : Keeps s₀ s) : Keeps s₀ (s.takePass p) := hs.endPass.wr.wr

theorem Keeps.passInstall {id} (hs : Keeps s₀ s) : Keeps s₀ (s.passInstall id) := by
  unfold State.passInstall
  extract_lets p s₁ s₂
  have hs₁ : Keeps s₀ s₁ := hs.finishOk.setPassHwm
  have hs₂ : Keeps s₀ s₂ := .ite hs₁.zeroise hs₁
  split
  · exact hs.finishFail
  · exact .ite hs.finishNeg (.ite hs.finishFail hs₂.zeroiseHouses.takePass)

theorem Keeps.tapIr {i} (hs : Keeps s₀ s) : Keeps s₀ (s.tapIr i) := hs.frame

theorem Keeps.debugWrite {a v} (hs : Keeps s₀ s) : Keeps s₀ (s.debugWrite a v) := by
  unfold State.debugWrite
  split
  · exact hs.memWrite
  · exact hs.memWrite
  · refine .ite hs.regWrite ?_
    split
    · exact hs.winStore.getD hs
    · exact hs
  · exact hs.regWrite
  · exact hs

theorem Keeps.dapShow {v} (hs : Keeps s₀ s) : Keeps s₀ (s.dapShow v) := hs.frame
theorem Keeps.debugPc {t v} (hs : Keeps s₀ s) : Keeps s₀ (s.debugPc t v) := hs.modTiller

theorem Keeps.debugCsrWrite {t n v} (hs : Keeps s₀ s) : Keeps s₀ (s.debugCsrWrite t n v) :=
  .ite (.ite hs.csrPut hs.csrWrite) hs

theorem Keeps.dapAccess {op} (hs : Keeps s₀ s) : Keeps s₀ (s.dapAccess op) := by
  unfold State.dapAccess
  split
  · exact hs.dapShow
  · exact .ite hs.debugWrite hs
  · exact hs.dapShow
  · exact .ite hs.setGr hs
  · exact hs.dapShow
  · exact .ite hs.debugPc hs
  · exact hs.dapShow
  · exact .ite hs.debugCsrWrite hs
  · exact .ite hs.modTiller hs
  · exact .ite hs.modTiller hs
  · exact .ite hs.modTiller hs
  · exact .ite hs.modTiller hs
  · exact .ite hs.modTiller hs

end Sys2Proof.Laws
end

section
/-! SUPPORT. Every command but a handshake that times out below 0.56 V answers a next state that
keeps the queue and the canonical form (R19). -/

namespace Sys2Proof.Laws

open Sys2Proof.Machine Sys2Proof.Safety

variable {s₀ s t : State}

/-! ### Commands whose effect branches on what they find -/

theorem answers_execPacketCommit {port fetched husk} (hs : Keeps s₀ s) :
    Answers s₀ (execPacketCommit port fetched husk s) := by
  unfold execPacketCommit
  refine .next ?_
  refine .ite ?_ hs
  split
  · exact hs
  · exact .ite hs.modPort.stepOnePush hs.modPort.stepOneSq

theorem answers_execCounterSealComplete {g st} (hs : Keeps s₀ s) : Answers s₀ (execCounterSealComplete g st s) := by
  unfold execCounterSealComplete
  refine .next ?_
  split
  · exact hs
  · exact .ite hs.setSealing.setCtr.stepFour hs.sealFails

theorem answers_execCounterSealTimeout {g st} (hs : Keeps s₀ s) : Answers s₀ (execCounterSealTimeout g st s) := by
  unfold execCounterSealTimeout
  refine .next ?_
  split
  · exact hs
  · exact hs.sealFails

theorem answers_execThresherPositionTake {h} (hs : Keeps s₀ s) : Answers s₀ (execThresherPositionTake h s) := by
  unfold execThresherPositionTake
  refine .next ?_
  split
  · exact .ite hs hs.choose.takePosition
  · exact hs

theorem answers_execLaneResult {lane pos husk} (hs : Keeps s₀ s) : Answers s₀ (execLaneResult lane pos husk s) := by
  unfold execLaneResult
  refine .next ?_
  split
  · exact hs
  · refine .ite ?_ hs.emptyPos.laneClaim.leaveWork.machineCheck
    split
    · exact hs
    · exact hs.markUnit.markUnit.emptyPos.laneClaim.leaveWork

theorem answers_execSlateTagRelease {id} (hs : Keeps s₀ s) : Answers s₀ (execSlateTagRelease id s) := by
  unfold execSlateTagRelease
  refine .next ?_
  refine .ite ?_ hs
  split
  · exact hs.emptyPos.leaveWork
  · exact .ite hs.leaveWork hs
  · exact hs

theorem answers_execMirrorCompletion {h ok} (hs : Keeps s₀ s) : Answers s₀ (execMirrorCompletion h ok s) := by
  unfold execMirrorCompletion
  refine .next ?_
  split
  · exact hs
  · exact .ite hs.modJ.settleRecords hs.mirrorFail

theorem answers_execMirrorTimeout {h} (hs : Keeps s₀ s) : Answers s₀ (execMirrorTimeout h s) := by
  unfold execMirrorTimeout
  refine .next ?_
  split
  · exact hs
  · exact .ite hs.mirrorFail hs

theorem answers_execSealBlockWritten {h} (hs : Keeps s₀ s) : Answers s₀ (execSealBlockWritten h s) := by
  unfold execSealBlockWritten
  refine .next ?_
  split
  · exact hs
  · exact .ite hs.sealWritten hs

theorem answers_execJseqReserveWriteComplete {h ok} (hs : Keeps s₀ s) :
    Answers s₀ (execJseqReserveWriteComplete h ok s) := by
  unfold execJseqReserveWriteComplete
  refine .next ?_
  split
  · exact hs
  · exact .ite hs.modJ.buildAll hs.machineCheck

theorem answers_execWorkPacketCommit {id} (hs : Keeps s₀ s) : Answers s₀ (execWorkPacketCommit id s) := by
  unfold execWorkPacketCommit
  refine .next ?_
  extract_lets
  refine .ite ?_ hs
  split
  · exact .ite hs.sense.modSlate.chutePush hs
  · exact hs

theorem answers_execClaimRequest {c} (hs : Keeps s₀ s) : Answers s₀ (execClaimRequest c s) := by
  unfold execClaimRequest
  refine .next ?_
  split
  · exact .ite hs.claimRequest hs
  · exact hs

theorem answers_execReplyPacket {c} (hs : Keeps s₀ s) : Answers s₀ (execReplyPacket c s) := by
  unfold execReplyPacket
  refine .next ?_
  split
  · exact .ite hs hs.replyPacket
  · exact hs

theorem answers_execHopperChannelStart {e} (hs : Keeps s₀ s) : Answers s₀ (execHopperChannelStart e s) := by
  unfold execHopperChannelStart
  refine .next ?_
  split
  · exact hs.modHopper.setFlag.setFlag
  · exact hs

theorem answers_execPpsInEdge (hs : Keeps s₀ s) : Answers s₀ (execPpsInEdge s) := by
  unfold execPpsInEdge
  refine .next ?_
  refine .ite ?_ hs
  extract_lets s₁ s₂ x
  have hs₁ : Keeps s₀ s₁ := hs.edgeMiss.setExpire.recordPhase
  have hs₂ : Keeps s₀ s₂ := by
    unfold s₂
    split
    · exact .ite hs₁.lapse hs₁.loadPending
    · exact hs₁
  exact hs₂.frame

theorem answers_execTjSensorRead {readings} (hs : Keeps s₀ s) : Answers s₀ (execTjSensorRead readings s) := by
  unfold execTjSensorRead
  refine .next ?_
  split
  · exact hs
  · exact (Keeps.foldl (.ite hs.setFld.setFlag hs.setFld) (fun _ _ hs₁ => hs₁.driftCheck)).refreshTau

theorem answers_execAvsVoltageWrite (hs : Keeps s₀ s) : Answers s₀ (execAvsVoltageWrite s) := by
  unfold execAvsVoltageWrite
  refine .next ?_
  refine .ite hs ?_
  refine .ite ?_ (.ite hs.avsIssue hs)
  split
  · exact .ite hs.avsIssue hs
  · exact hs

theorem answers_execAvsTransitionComplete (hs : Keeps s₀ s) : Answers s₀ (execAvsTransitionComplete s) := by
  unfold execAvsTransitionComplete
  refine .next ?_
  split
  · exact .ite hs.frame.setFld.setFlag.refreshTau hs
  · exact hs

theorem answers_execAvsTimeout (hs : Keeps s₀ s) : Answers s₀ (execAvsTimeout s) := by
  unfold execAvsTimeout
  refine .next ?_
  split
  · exact .ite (.ite hs.setFlag.setFlag.refreshTau (.ite hs.avsIssue hs.frame)) hs
  · exact hs

theorem answers_execVpolicySet {id} (hs : Keeps s₀ s) : Answers s₀ (execVpolicySet id s) := by
  unfold execVpolicySet
  refine .next ?_
  refine hs.onTabqua ?_
  exact fun _ hs₁ => hs₁.finishOk.setFld.setFld.setFld.setFld.setFld.setFld.setFld.refreshTau.evalSoon

theorem answers_execHopperChannelDone {e} (hs : Keeps s₀ s) : Answers s₀ (execHopperChannelDone e s) := by
  unfold execHopperChannelDone
  refine .next ?_
  split
  · exact hs.hopDone
  · exact hs

theorem answers_execHopperChannelError {e why addr done} (hs : Keeps s₀ s) :
    Answers s₀ (execHopperChannelError e why addr done s) := by
  unfold execHopperChannelError
  refine .next ?_
  split
  · exact .ite (Keeps.hopError (.ite hs.countUe hs)) hs
  · exact hs

theorem answers_execJalr {t rd rs1} (hs : Keeps s₀ s) : Answers s₀ (execJalr t rd rs1 s) := by
  unfold execJalr
  refine .next ?_
  refine hs.instr fun _ hs₁ => ?_
  exact .ite (.fault hs₁) (.done (Keeps.modTiller (.ite hs₁.setGr.retire.topDown hs₁.setGr.retire)))

theorem answers_execLoadDataReturn {t ecc} (hs : Keeps s₀ s) : Answers s₀ (execLoadDataReturn t ecc s) := by
  unfold execLoadDataReturn
  refine .next ?_
  split
  · refine .ite ?_ hs
    split
    · rename_i e
      exact hs.readPieces.of_snd e
    · rename_i e
      exact (hs.readPieces.of_snd e).modTiller.takeFault.getD hs
    · rename_i e
      exact (hs.readPieces.of_snd e).modTiller.loaded
  · exact hs

theorem answers_execFetchFill {t} (hs : Keeps s₀ s) : Answers s₀ (execFetchFill t s) := by
  unfold execFetchFill
  refine .next ?_
  extract_lets
  split
  · refine .ite ?_ hs
    split
    · rename_i e
      exact hs.tillerRead.of_snd e
    · rename_i e
      exact (hs.tillerRead.of_snd e).modTiller.takeFault.getD hs
    · rename_i e
      exact Keeps.modTiller (.ite (hs.tillerRead.of_snd e).fill (hs.tillerRead.of_snd e))
  · exact hs

theorem answers_execWalkReadReturn {t ecc} (hs : Keeps s₀ s) : Answers s₀ (execWalkReadReturn t ecc s) := by
  unfold execWalkReadReturn
  refine .next ?_
  extract_lets x free fault
  have hfree : ∀ s, Keeps s₀ s → Keeps s₀ (free s) := fun _ hs₁ => hs₁.modTiller
  have hfault : ∀ s' c v, Keeps s₀ s' → Keeps s₀ (fault s' c v) :=
    fun _ _ _ hs₁ => (hfree _ hs₁).takeFault.getD hs
  split
  · refine .ite ?_ hs
    split
    · exact hfault _ _ _ hs
    · exact hs
    · split
      · rename_i e
        exact hs.tillerRead.of_snd e
      · rename_i e
        exact hfault _ _ _ (hs.tillerRead.of_snd e)
      · rename_i e
        split
        · exact hfault _ _ _ (hs.tillerRead.of_snd e)
        · exact hfree _ (hs.tillerRead.of_snd e).tlbFill
        · exact (hs.tillerRead.of_snd e).modTiller
  · exact hs

theorem answers_execIcinv {t rs1} (hs : Keeps s₀ s) : Answers s₀ (execIcinv t rs1 s) := by
  unfold execIcinv
  refine .next ?_
  refine hs.instr fun _ hs₁ => ?_
  exact hs₁.data (fun _ _ hs₂ => .ite (.wait hs₂) (.done (Keeps.modTiller (.ite hs₂.l2Use hs₂)).retire))

theorem answers_execRetx {t} (hs : Keeps s₀ s) : Answers s₀ (execRetx t s) := by
  unfold execRetx
  refine .next ?_
  refine hs.instr fun _ hs₁ => ?_
  extract_lets s₂ x sp
  have hs₂ : Keeps s₀ s₂ := hs₁.applyPending
  exact .ite hs₂.trap (hs₂.data (fun _ _ hs₃ => hs₃.takeBytes (fun _ _ hs₄ => hs₄.returnThrough)))

theorem answers_execPcall {t imm} (hs : Keeps s₀ s) : Answers s₀ (execPcall t imm s) := by
  unfold execPcall
  refine .next ?_
  refine hs.instr fun _ hs₁ => ?_
  extract_lets
  refine .ite hs₁.trap ?_
  refine .ite (.wait hs₁) ?_
  split
  · exact .wait hs₁
  · rename_i e
    refine .ite (.done (hs₁.retireHere.enter.of_some e)) ?_
    refine .ite ?_ (.done (hs₁.retireHere.enter.of_some e).modTiller)
    split
    · rename_i e₁
      exact .done ((hs₁.retireHere.enter.of_some e).undefinedService.of_some e₁)
    · exact .wait hs₁

theorem answers_execGcall {t imm} (hs : Keeps s₀ s) : Answers s₀ (execGcall t imm s) := by
  unfold execGcall
  refine .next ?_
  refine hs.instr fun _ hs₁ => ?_
  extract_lets
  refine .ite hs₁.trap ?_
  refine .ite (.fault hs₁) ?_
  split
  · rename_i e
    exact .fault (hs₁.accessPieces.of_snd e)
  · rename_i e
    exact .wait (hs₁.accessPieces.of_snd e)
  · rename_i e
    refine (hs₁.accessPieces.of_snd e).takeBytes fun _ _ hs₂ => ?_
    split
    · exact .fault hs₂
    · split
      · rename_i e₁
        exact .done (hs₂.retireHere.enter.of_some e₁)
      · exact .wait hs₂

theorem answers_execInterruptDelivery {t} (hs : Keeps s₀ s) : Answers s₀ (execInterruptDelivery t s) := by
  unfold execInterruptDelivery
  refine .next ?_
  refine .ite ?_ hs
  extract_lets s0₁ s₁
  have hs₁ : Keeps s₀ s₁ := hs.endWait
  split
  · exact hs₁.suspendMill.takeDue.getD hs
  · refine .ite hs₁ ?_
    split
    · exact hs₁.suspendMill.deliverSource.getD hs
    · exact hs₁

theorem answers_execYield {t} (hs : Keeps s₀ s) : Answers s₀ (execYield t s) := by
  unfold execYield
  refine .next ?_
  split
  · exact .ite (.ite hs.yieldTo (hs.freshWord.proctorReturn.getD hs)) hs
  · exact hs

theorem answers_execKeyFillComplete {id ecc} (hs : Keeps s₀ s) : Answers s₀ (execKeyFillComplete id ecc s) := by
  unfold execKeyFillComplete
  refine .next ?_
  extract_lets
  split
  · extract_lets
    split
    · rename_i e
      exact hs.granaryRead.of_snd e
    · rename_i e
      exact (hs.granaryRead.of_snd e).fillDone
  · exact hs

theorem answers_execMillOperationComplete {pmill n e} (hs : Keeps s₀ s) :
    Answers s₀ (execMillOperationComplete pmill n e s) := by
  unfold execMillOperationComplete
  refine .next ?_
  refine .ite ?_ hs
  extract_lets s₁
  have hs₁ : Keeps s₀ s₁ := hs.feedMills
  split
  · exact hs₁.millComplete.feedMills
  · exact hs₁

theorem answers_execCompSessionLapse {h} (hs : Keeps s₀ s) : Answers s₀ (execCompSessionLapse h s) := by
  unfold execCompSessionLapse
  refine .next ?_
  split
  · exact .ite hs.setSession hs
  · exact hs

theorem answers_execCardApduResponse {k r} (hs : Keeps s₀ s) : Answers s₀ (execCardApduResponse k r s) := by
  unfold execCardApduResponse
  refine .next ?_
  split
  · exact hs.cardAnswer
  · exact hs.endExchange

theorem answers_execCardDetect {k present} (hs : Keeps s₀ s) : Answers s₀ (execCardDetect k present s) := by
  unfold execCardDetect
  refine .next ?_
  extract_lets t₁ w
  have ht₁ : Keeps s₀ t₁ := hs.modCard
  have hw : Keeps s₀ w.2 := ht₁.endExchange.freshWord
  refine .ite ht₁ ?_
  split
  · exact hw.cardRefused
  · exact ht₁.endExchange

theorem answers_execOwnerKeysEstablish {a b} (hs : Keeps s₀ s) : Answers s₀ (execOwnerKeysEstablish a b s) := by
  unfold execOwnerKeysEstablish
  refine .next ?_
  refine .ite ?_ hs
  split
  · rename_i e
    split
    · rename_i e₁
      exact ((hs.ownerCard.of_snd e).recordRoot.ownerCard.of_snd e₁).ownerMaster
    · rename_i e₁
      exact (hs.ownerCard.of_snd e).recordRoot.ownerCard.of_snd e₁
  · rename_i e
    exact hs.ownerCard.of_snd e

theorem answers_execOwnerRekeyWindowEnd (hs : Keeps s₀ s) : Answers s₀ (execOwnerRekeyWindowEnd s) := by
  unfold execOwnerRekeyWindowEnd
  refine .next ?_
  split
  · exact .ite hs.frame hs
  · exact hs

theorem answers_execDramRegionZeroComplete {n} (hs : Keeps s₀ s) : Answers s₀ (execDramRegionZeroComplete n s) := by
  unfold execDramRegionZeroComplete
  refine .next ?_
  split
  · exact hs.zeroChanging
  · exact hs

theorem answers_execRetrainPause {c} (hs : Keeps s₀ s) : Answers s₀ (execRetrainPause c s) := by
  unfold execRetrainPause
  refine .next ?_
  split
  · exact .ite hs.modChan.setFlag hs
  · exact hs

theorem answers_execGranaryWayClearComplete {w} (hs : Keeps s₀ s) :
    Answers s₀ (execGranaryWayClearComplete w s) := by
  unfold execGranaryWayClearComplete
  refine .next ?_
  split
  · exact .ite hs.frame.setFld hs.frame
  · exact hs

theorem answers_execPreservingMarchBurst {n good} (hs : Keeps s₀ s) :
    Answers s₀ (execPreservingMarchBurst n good s) := by
  unfold execPreservingMarchBurst
  refine .next ?_
  split
  · exact .ite (.ite hs.frame hs.endPreserving) hs.endPreserving.setFlag.failUnit
  · exact hs

theorem answers_execMarchTestComplete {k n repaired left ok} (hs : Keeps s₀ s) :
    Answers s₀ (execMarchTestComplete k n repaired left ok s) := by
  unfold execMarchTestComplete
  refine .next ?_
  extract_lets kind r s₁ s₂ s₃
  have hs₁ : Keeps s₀ s₁ := hs.setMarch.deskTest.logColumns
  have hs₂ : Keeps s₀ s₂ := .ite hs₁.spoilDesk hs₁
  have hs₃ : Keeps s₀ s₃ := .ite hs₂.setFlag hs₂
  exact .ite (.ite hs₂ hs₃.failUnit) hs

theorem answers_execRollcallWindow {u cycles tempC moved} (hs : Keeps s₀ s) :
    Answers s₀ (execRollcallWindow u cycles tempC moved s) := by
  unfold execRollcallWindow
  refine .next ?_
  split
  · exact .ite hs.measured hs
  · exact hs

theorem answers_execRotationTargetTested {ok} (hs : Keeps s₀ s) : Answers s₀ (execRotationTargetTested ok s) := by
  unfold execRotationTargetTested
  refine .next ?_
  refine .ite hs ?_
  split
  · split
    · exact .ite hs.modRot hs.modRot.failUnit
    · exact hs
  · exact hs

theorem answers_execRotation (hs : Keeps s₀ s) : Answers s₀ (execRotation s) := by
  unfold execRotation
  refine .next ?_
  refine .ite hs ?_
  split
  · split
    · exact .ite hs hs.rotate
    · exact .ite hs.rotShort hs
  · exact hs

theorem answers_execTermBoundary (hs : Keeps s₀ s) : Answers s₀ (execTermBoundary s) := by
  unfold execTermBoundary
  refine .next ?_
  exact .ite (.ite hs.frame.countFld hs.frame.resumeHouses.applyAll.runLoans.newTerm.termSnapshots.readyRots) hs

theorem answers_execVaonLoss (hs : Keeps s₀ s) : Answers s₀ (execVaonLoss s) :=
  .next ((hs.afterReset (cold := true)).change id fun _ => rfl).post

theorem answers_execSrstNAssert (hs : Keeps s₀ s) : Answers s₀ (execSrstNAssert s) := by
  unfold execSrstNAssert
  refine .next ?_
  refine .ite hs ?_
  split
  · exact hs.frame
  · exact hs.beginQuiesce

theorem answers_execQuiesceEnd (hs : Keeps s₀ s) : Answers s₀ (execQuiesceEnd s) := by
  unfold execQuiesceEnd
  refine .next ?_
  split
  · exact .ite hs (.ite hs.quiesceSteps hs.quiesceSteps.warmStart)
  · refine .ite hs ?_
    extract_lets s₁
    have hs₁ : Keeps s₀ s₁ := hs.quiesceSteps.stopSeals
    refine .ite hs₁ ?_
    split
    · rename_i e
      exact (hs₁.stopStores.of_some e).enterStop
    · exact hs₁
  · exact hs

theorem answers_execStopEnter {id} (hs : Keeps s₀ s) : Answers s₀ (execStopEnter id s) := by
  unfold execStopEnter
  refine .next ?_
  refine hs.onTabqua fun _ hs₁ => ?_
  exact .ite hs₁.finishFail (.ite hs₁.loadPower.finishFail.queueStop hs₁.loadPower.thenAfter.finishOk)

theorem answers_execDomainSet {id} (hs : Keeps s₀ s) : Answers s₀ (execDomainSet id s) := by
  unfold execDomainSet
  refine .next ?_
  refine hs.onTabqua fun _ hs₁ => ?_
  extract_lets
  refine .ite ?_ hs₁.requestOn.wakePort.finishOk
  split
  · exact hs₁
  · rename_i e
    exact (hs₁.requestOff.of_leased e).finishFail
  · exact hs₁.finishFail
  · rename_i e
    exact (hs₁.requestOff.of_done e).finishOk

theorem answers_execFwStage {id image ok} (hs : Keeps s₀ s) : Answers s₀ (execFwStage id image ok s) := by
  unfold execFwStage
  refine .next ?_
  exact hs.onTabqua (fun _ hs₁ => hs₁.withBuf (fun _ => .ite hs₁.frame.finishOk hs₁.freshWord.frame.finishFail))

theorem answers_execCarrelInvoke {id} (hs : Keeps s₀ s) : Answers s₀ (execCarrelInvoke id s) := by
  unfold execCarrelInvoke
  split
  · exact answers_execWorkPacketCommit hs
  · exact .next hs

/-! ### Every command, and a step -/

/-- The effect of every command, by its arm of `exec`. -/
theorem answers_exec {c : Instr} (hc : ∀ u, c ≠ .handshakeTimeout u false) (hs : Keeps s₀ s) :
    Answers s₀ (exec c s) := by
  cases c with
  | porstNAssert => exact .next hs.afterReset.post
  | porstNRelease => exact .next (.ite hs.present.fuseLog.start hs)
  | srstNAssert => exact answers_execSrstNAssert hs
  | quiesceEnd => exact answers_execQuiesceEnd hs
  | perstAssert => exact .next (.ite hs.perstLow hs)
  | perstRelease => exact .next (.ite hs.modPort.driveWake hs)
  | portLinkUp => exact .next (.ite hs.modPort hs)
  | portLinkDown => exact .next (.ite hs.linkDown.modPort hs)
  | functionLevelReset => exact .next (.ite hs.flr hs)
  | sqTailWrite => exact .next hs.sqTailWrite
  | cqHeadWrite => exact .next hs.cqHeadWrite
  | fnCtlWrite => exact .next hs.fnCtlWrite
  | pushWindowWrite => exact .next (.ite hs.pushWrite hs)
  | msixUnmask => exact .next (.ite hs.msixUnmask hs)
  | packetCommit => exact answers_execPacketCommit hs
  | ingressAdmit => exact .next (.ite hs.stepTwo hs)
  | counterSealComplete => exact answers_execCounterSealComplete hs
  | counterSealTimeout => exact answers_execCounterSealTimeout hs
  | keyFillComplete => exact answers_execKeyFillComplete hs
  | thresherPositionTake => exact answers_execThresherPositionTake hs
  | laneResult => exact answers_execLaneResult hs
  | laneDrainComplete => exact .next (.ite (.ite hs.laneGone (.ite hs hs.laneServe)) hs)
  | bellFire => exact .next hs.bellFire
  | journalWriteResponse => exact .next hs.modJ.settleRecords
  | mirrorCompletion => exact answers_execMirrorCompletion hs
  | mirrorTimeout => exact answers_execMirrorTimeout hs
  | examRelease => exact .next (.ite hs.commitReply hs)
  | slateTagRelease => exact answers_execSlateTagRelease hs
  | sealBlockWritten => exact answers_execSealBlockWritten hs
  | journalFlashCheckpoint => exact .next (.ite (.ite hs.checkpoint hs.machineCheck) hs)
  | jseqReserveWriteComplete => exact answers_execJseqReserveWriteComplete hs
  | millOperationComplete => exact answers_execMillOperationComplete hs
  | claimRequest => exact answers_execClaimRequest hs
  | replyPacket => exact answers_execReplyPacket hs
  | workPacketCommit => exact answers_execWorkPacketCommit hs
  | chutePacketCommit => exact .next hs.chuteCommit
  | chuteStale => exact .next (.ite hs.sense.modChute hs)
  | chuteRead => exact .next (.ite hs.windowInstr hs)
  | chDrop => exact .next (.ite hs.windowInstr hs)
  | chAns => exact .next hs.windowInstr
  | chCancel => exact .next hs.windowInstr
  | ppsInEdge => exact answers_execPpsInEdge hs
  | ppsEdgeTimeout => exact .next hs.edgeMiss
  | pendingTimeSetTimeout => exact .next hs.setExpire
  | ppsOutStart => exact .next (.ite hs.frame.drivePps hs)
  | ppsOutEnd => exact .next (.ite hs.drivePps hs)
  | trefLoss => exact .next (.ite hs.setFlag.setFlag.machineCheck hs)
  | trefRelock => exact .next (.ite hs.setFlag hs)
  | tjSensorRead => exact answers_execTjSensorRead hs
  | vpolicyEvaluation => exact .next (.ite hs.evaluate hs)
  | avsVoltageWrite => exact answers_execAvsVoltageWrite hs
  | avsTransitionComplete => exact answers_execAvsTransitionComplete hs
  | avsTimeout => exact answers_execAvsTimeout hs
  | avsFaultClear => exact .next (.ite hs.setFlag.avsResume hs)
  | pmbusReadback => exact .next hs.readback
  | pmbAlert => exact .next hs.readback
  | termBoundary => exact answers_execTermBoundary hs
  | tamperMeshSample => exact .next (.ite hs.tamperHit hs)
  | tamperSwitchHit => exact .next (.ite hs.tamperHit hs)
  | slotSealComplete => exact .next hs.slotSealed
  | drbgReseed => exact .next (.ite hs.reseedDue.drbgRefill hs)
  | entropySample => exact .next (.ite (hs.foldl (fun _ _ hs₁ => hs₁.entropyBit)) hs)
  | cardDetect => exact answers_execCardDetect hs
  | cardApduResponse => exact answers_execCardApduResponse hs
  | ownerKeysEstablish => exact answers_execOwnerKeysEstablish hs
  | ownerRekeyWindowEnd => exact answers_execOwnerRekeyWindowEnd hs
  | compSessionLapse => exact answers_execCompSessionLapse hs
  | passExpiry => exact .next (.ite hs.endPass hs)
  | interruptDelivery => exact answers_execInterruptDelivery hs
  | timerCompare => exact .next (.ite hs.endWait hs)
  | holdTimeout => exact .next (.ite hs.modTiller hs)
  | icuClaim => exact .next hs.windowInstr
  | icuEoi => exact .next (.ite hs.windowInstr hs)
  | icuReset => exact .next (.ite hs.emptyStack hs)
  | storeBufferDrain => exact .next (.ite hs.drainEntry.runOffQueue hs)
  | loadDataReturn => exact answers_execLoadDataReturn hs
  | dramAlert => exact .next (.ite hs.freshWord.freeze hs)
  | fetchFill => exact answers_execFetchFill hs
  | walkReadReturn => exact answers_execWalkReadReturn hs
  | freezeAutoRelease => exact .next (.ite hs.releaseChan hs)
  | release => exact .next (.ite hs.releaseChan hs)
  | sppr => exact .next (.ite (hs.foldl (fun _ _ hs₁ => hs₁.rowRead)).queueRow.releaseChan hs)
  | retire => exact .next (.ite (hs.wr.setFld.endFills.foldl (fun _ _ hs₁ => hs₁.useStandby)) hs)
  | refreshWindow => exact .next (.ite hs.modChan hs)
  | rfmWindow => exact .next (.ite hs.markUnit.modChan hs)
  | retrainPause => exact answers_execRetrainPause hs
  | patrolScrub => exact .next (.ite hs.chanRead hs)
  | preservingMarchBurst => exact answers_execPreservingMarchBurst hs
  | hopperGo => exact .next hs.hopGo
  | hopperChannelStart => exact answers_execHopperChannelStart hs
  | hopperChannelDone => exact answers_execHopperChannelDone hs
  | hopperChannelError => exact answers_execHopperChannelError hs
  | hopperEnClear => exact .next (.ite hs.hopClear hs)
  | hopperDropComplete => exact .next (.ite hs.hopDrop.freshWord.wr.setFlag.modHopper hs)
  | rollcallWindow => exact answers_execRollcallWindow hs
  | censusPass => exact .next (.ite hs.startPass hs)
  | handshakeTimeout u valid =>
    cases valid with
    | false => exact absurd rfl (hc u)
    | true => exact .next (.ite hs.failUnit.machineCheck hs)
  | rotationTargetTested => exact answers_execRotationTargetTested hs
  | rotation => exact answers_execRotation hs
  | wakeIn => exact .next (.ite hs.wake hs)
  | wakeTime => exact .next (.ite hs.wake hs)
  | vcorePgRise => exact .next (.ite (.ite hs.warmStart hs.leaveStop) hs)
  | registerWrite => exact .next (.ite hs (.ite hs.post hs.regWrite.sense))
  | timeRead => exact .next (hs.onTabqua (fun _ hs₁ => hs₁.finishOut))
  | timeSet => exact .next (hs.onTabqua (fun _ hs₁ => hs₁.timeSet))
  | timeCancel => exact .next (hs.onTabqua (fun _ hs₁ => .ite hs₁.finish.lapse hs₁.finish))
  | timeMasterSet => exact .next (hs.onTabqua (fun _ hs₁ => hs₁.finishOk.setFld.setFlag))
  | vpolicySet => exact answers_execVpolicySet hs
  | powerStatus => exact .next (hs.onTabqua (fun _ hs₁ => hs₁.finishOut))
  | warmReset => exact .next (hs.onTabqua (fun _ hs₁ => hs₁.thenAfter.finishOk))
  | stopEnter => exact answers_execStopEnter hs
  | domainSet => exact answers_execDomainSet hs
  | fwStage => exact answers_execFwStage hs
  | fwCommit => exact .next (hs.onTabqua (fun _ hs₁ => .ite hs₁.frame.finishOk hs₁.finishNeg))
  | rotate => exact .next (hs.onTabqua (fun _ hs₁ => hs₁.rotateCmd))
  | rotPolicy => exact .next (hs.onTabqua (fun _ hs₁ => hs₁.finishOk.setFld.setFld.setFld))
  | unitReset => exact .next (hs.onTabqua (fun _ hs₁ => hs₁.finishOk.unitReset))
  | fnConfig => exact .next (hs.onTabqua (fun _ hs₁ => hs₁.fnConfig))
  | templateWrite => exact .next (hs.onTabqua (fun _ hs₁ => hs₁.templateWrite))
  | thresherSet => exact .next (hs.onTabqua (fun _ hs₁ => hs₁.finishStaged))
  | regimeSet => exact .next (hs.onTabqua (fun _ hs₁ => hs₁.finishStaged))
  | vfloorSet => exact .next (hs.onTabqua (fun _ hs₁ => hs₁.finishOk.setFld.refreshTau.evalSoon))
  | boundSet => exact .next (hs.onTabqua (fun _ hs₁ => hs₁.finishOk.setFld.evalSoon))
  | loanSet => exact .next (hs.onTabqua (fun _ hs₁ => hs₁.finishStaged))
  | houseReset => exact .next (hs.onTabqua (fun _ hs₁ => hs₁.finishOk.resetIfUp))
  | houseResetOwner => exact .next (hs.onTabqua (fun _ hs₁ => hs₁.finishOk.resetIfUp))
  | jrnlRing => exact .next (hs.onTabqua (fun _ hs₁ => hs₁.jrnlRing))
  | jrnlAlt => exact .next (hs.onTabqua (fun _ hs₁ => hs₁.jrnlAlt))
  | jrnlMarks => exact .next (hs.onTabqua (fun _ hs₁ => hs₁.finishStaged))
  | jrnlSealCfg => exact .next (hs.onTabqua (fun _ hs₁ => hs₁.jrnlSealCfg))
  | jrnlMirror => exact .next (hs.onTabqua (fun _ hs₁ => hs₁.journalSet))
  | jrnlAdmin => exact .next (hs.onTabqua (fun _ hs₁ => hs₁.journalSet))
  | houseBind => exact .next (hs.onTabqua (fun _ hs₁ => hs₁.houseBind))
  | shareSet => exact .next (hs.onTabqua (fun _ hs₁ => hs₁.shareSet))
  | dramRgnSet => exact .next (hs.onTabqua (fun _ hs₁ => hs₁.dramRgnSet))
  | partitionSeal => exact .next (hs.onTabqua (fun _ hs₁ => hs₁.finishStaged))
  | partitionUnseal => exact .next (hs.onTabqua (fun _ hs₁ => hs₁.finishStaged))
  | termSet => exact .next (hs.onTabqua (fun _ hs₁ => hs₁.finishStaged))
  | houseRekey => exact .next (hs.onTabqua (fun _ hs₁ => hs₁.houseRekey))
  | configSave => exact .next (hs.onTabqua (fun _ hs₁ => hs₁.finishOk.frame))
  | keyInfo => exact .next (hs.onTabqua (fun _ hs₁ => hs₁.withKey (fun _ _ _ hs₂ => hs₂.finishOut)))
  | pubkeyRead =>
    exact .next (hs.onTabqua (fun _ hs₁ => hs₁.withKey (fun _ _ _ hs₂ => .ite hs₂.finishOut hs₂.finishFail)))
  | recordLoad => exact .next (hs.onTabqua (fun _ hs₁ => hs₁.recordLoad))
  | keyImport => exact .next (hs.onTabqua (fun _ hs₁ => hs₁.keyImport))
  | keyExport => exact .next (hs.onTabqua (fun _ hs₁ => hs₁.keyExport))
  | keyGenerate => exact .next (hs.onTabqua (fun _ hs₁ => hs₁.keyGenerate))
  | pubkeyLoad => exact .next (hs.onTabqua (fun _ hs₁ => hs₁.pubkeyLoad))
  | keyDelete => exact .next (hs.onTabqua (fun _ hs₁ => hs₁.keyDelete))
  | compBegin => exact .next (hs.onTabqua (fun _ hs₁ => hs₁.compBegin))
  | compEnter => exact .next (hs.onTabqua (fun _ hs₁ => hs₁.compEnter))
  | compComplete => exact .next (hs.onTabqua (fun _ hs₁ => hs₁.compComplete))
  | compAbort => exact .next (hs.onTabqua (fun _ hs₁ => hs₁.finishOk.setSession))
  | hskRoll => exact .next (hs.onTabqua (fun _ hs₁ => hs₁.finishOk.hskRoll))
  | houseZeroise => exact .next (hs.onTabqua (fun _ hs₁ => hs₁.finishOk.zeroiseHouse))
  | ownerRekey => exact .next (hs.onTabqua (fun _ hs₁ => hs₁.finishOk.frame))
  | custRootSet => exact .next (hs.onTabqua (fun _ hs₁ => hs₁.finishOk.setRoot))
  | tamperConfig => exact .next (hs.onTabqua (fun _ hs₁ => hs₁.finishOk.wr))
  | tamperClear => exact .next (hs.onTabqua (fun _ hs₁ => .ite hs₁.finishOk.setFlag hs₁.finishFail))
  | pinXlate => exact .next hs.fastCommand
  | pinVerifyOfs => exact .next hs.fastCommand
  | pinVerifyVal => exact .next hs.fastCommand
  | cryptoVerify => exact .next hs.fastCommand
  | cryptoRespond => exact .next hs.fastCommand
  | cryptoVerifyRespond => exact .next hs.fastCommand
  | macGen => exact .next hs.fastCommand
  | macVerify => exact .next hs.fastCommand
  | dukptDecrypt => exact .next hs.fastCommand
  | dukptPinXlate => exact .next hs.fastCommand
  | dukptMacVerify => exact .next hs.fastCommand
  | ff1Tokenise => exact .next hs.fastCommand
  | ff1Detokenise => exact .next hs.fastCommand
  | sha256Short => exact .next hs.fastCommand
  | sha384 => exact .next (hs.onTabqua (fun _ hs₁ => hs₁.finishOut))
  | sha512 => exact .next (hs.onTabqua (fun _ hs₁ => hs₁.finishOut))
  | sha3256 => exact .next (hs.onTabqua (fun _ hs₁ => hs₁.finishOut))
  | sha3512 => exact .next (hs.onTabqua (fun _ hs₁ => hs₁.finishOut))
  | shake256 => exact .next (hs.onTabqua (fun _ hs₁ => hs₁.finishOut))
  | sign => exact .next (hs.onTabqua (fun _ hs₁ => hs₁.sign))
  | verify => exact .next (hs.onTabqua (fun _ hs₁ => hs₁.verify))
  | encapsulate => exact .next (hs.onTabqua (fun _ hs₁ => hs₁.encapsulate))
  | decapsulate => exact .next (hs.onTabqua (fun _ hs₁ => hs₁.decapsulate))
  | ecdh => exact .next (hs.onTabqua (fun _ hs₁ => hs₁.ecdh))
  | carrelInvoke => exact answers_execCarrelInvoke hs
  | jrnlStatus => exact .next (hs.onTabqua (fun _ hs₁ => hs₁.finishOut))
  | jrnlRead => exact .next (hs.onTabqua (fun _ hs₁ => hs₁.inRange (fun _ hs₂ => hs₂.jrnlRead)))
  | jrnlSealRead => exact .next (hs.onTabqua (fun _ hs₁ => hs₁.inRange (fun _ hs₂ => hs₂.jrnlSealRead)))
  | jrnlRetire => exact .next (hs.onTabqua (fun _ hs₁ => hs₁.inRange (fun _ hs₂ => hs₂.finishOk.modJ.sense)))
  | rollcallStatus => exact .next (hs.onTabqua (fun _ hs₁ => hs₁.finishOut))
  | rollcallRun => exact .next (hs.onTabqua (fun _ hs₁ => hs₁.finishOk.startPass))
  | repairLogRead => exact .next (hs.onTabqua (fun _ hs₁ => hs₁.finishOut))
  | marksSnapshot => exact .next (hs.onTabqua (fun _ hs₁ => hs₁.finishOk.snapshot))
  | marksConfig => exact .next (hs.onTabqua (fun _ hs₁ => hs₁.marksConfig))
  | marchRun => exact .next (hs.onTabqua (fun _ hs₁ => hs₁.marchRun))
  | marchResult => exact .next (hs.onTabqua (fun _ hs₁ => hs₁.finish))
  | dramStatus => exact .next (hs.onTabqua (fun _ hs₁ => hs₁.finishOut))
  | dramSet => exact .next (hs.onTabqua (fun _ hs₁ => hs₁.finishStaged))
  | passInstall => exact .next (hs.onTabqua (fun _ hs₁ => hs₁.passInstall))
  | passRevoke => exact .next (hs.onTabqua (fun _ hs₁ => hs₁.finishOk.endPass))
  | passStatus => exact .next (hs.onTabqua (fun _ hs₁ => hs₁.finishOut))
  | carrelCreate => exact .next (hs.service (fun _ _ hs₁ => .some hs₁.carrelCreate))
  | carrelDestroy => exact .next (hs.service (fun _ _ hs₁ => .some hs₁.carrelDestroy))
  | tillerReopen => exact .next (hs.service (fun _ _ hs₁ => .some hs₁.reopen))
  | yield => exact answers_execYield hs
  | leaseTake => exact .next (hs.service (fun _ _ hs₁ => .some hs₁.leaseTake))
  | leaseRelease => exact .next (hs.service (fun _ _ hs₁ => .some hs₁.leaseRelease))
  | domainOff => exact .next (hs.service (fun _ _ hs₁ => hs₁.serviceOff))
  | domainOn => exact .next (hs.service (fun _ _ hs₁ => .some hs₁.serviceOn))
  | bypass => exact .next (.ite hs.tapIr.frame hs)
  | idcode => exact .next (.ite hs.tapIr.frame hs)
  | samplePreload => exact .next (.ite hs.tapIr.frame hs)
  | extest => exact .next (.ite hs.tapIr.frame hs)
  | bootstat => exact .next (.ite hs.tapIr.frame hs)
  | dap => exact .next (.ite hs.tapIr.dapAccess hs)
  | illegal => exact .next (.ite hs (hs.instr (fun _ hs₁ => hs₁.trap)))
  | add => exact .next hs.aluOv
  | sub => exact .next hs.aluOv
  | and => exact .next hs.alu
  | or => exact .next hs.alu
  | xor => exact .next hs.alu
  | slt => exact .next hs.alu
  | sltu => exact .next hs.alu
  | sll => exact .next hs.alu
  | srl => exact .next hs.alu
  | sra => exact .next hs.alu
  | ror => exact .next hs.alu
  | mul => exact .next hs.aluOv
  | mulh => exact .next hs.alu
  | mulhu => exact .next hs.alu
  | div => exact .next hs.divide
  | divu => exact .next hs.divide
  | rem => exact .next hs.divide
  | remu => exact .next hs.divide
  | divc => exact .next hs.divide
  | divcu => exact .next hs.divide
  | remc => exact .next hs.divide
  | remcu => exact .next hs.divide
  | addi => exact .next (hs.instr (fun _ hs₁ => hs₁.arithDone))
  | slti => exact .next hs.aluImm
  | sltiu => exact .next hs.aluImm
  | andi => exact .next hs.aluImm
  | ori => exact .next hs.aluImm
  | xori => exact .next hs.aluImm
  | lui => exact .next hs.aluImm
  | slli => exact .next hs.aluImm
  | srli => exact .next hs.aluImm
  | srai => exact .next hs.aluImm
  | rori => exact .next hs.aluImm
  | lb => exact .next hs.load
  | lbu => exact .next hs.load
  | lh => exact .next hs.load
  | lhu => exact .next hs.load
  | lw => exact .next hs.load
  | lwu => exact .next hs.load
  | ld => exact .next hs.load
  | ldpc => exact .next (hs.instr (fun _ hs₁ => hs₁.loadAt))
  | sb => exact .next hs.store
  | sh => exact .next hs.store
  | sw => exact .next hs.store
  | sd => exact .next hs.store
  | dadd => exact .next hs.atomic
  | dswp => exact .next hs.atomic
  | beq => exact .next hs.branch
  | bne => exact .next hs.branch
  | blt => exact .next hs.branch
  | bge => exact .next hs.branch
  | bltu => exact .next hs.branch
  | bgeu => exact .next hs.branch
  | j => exact .next (hs.instr (fun _ hs₁ => .done hs₁.jumpTo))
  | jal => exact .next (hs.instr (fun _ hs₁ => .done hs₁.jumpTo))
  | jalr => exact answers_execJalr hs
  | csync => exact .next (hs.instr (fun _ hs₁ => .done hs₁.retire.applyPending.refetch))
  | ifence => exact .next (hs.instr (fun _ hs₁ => .done hs₁.retire.refetch))
  | fenceRw => exact .next (hs.instr (fun _ hs₁ => .ite (.wait hs₁) (.done hs₁.modTiller.retire)))
  | fenceW => exact .next (hs.instr (fun _ hs₁ => .done hs₁.modTiller.retire))
  | fenceIo => exact .next (hs.instr (fun _ hs₁ => .ite (.wait hs₁) (.done hs₁.retire)))
  | icinv => exact answers_execIcinv hs
  | retx => exact answers_execRetx hs
  | waiti => exact .next (hs.instr (fun _ hs₁ => .ite (.done hs₁.retire) (.wait hs₁.modTiller)))
  | maskup => exact .next (hs.instr (fun _ hs₁ => .ite hs₁.trap (.done hs₁.modTiller.retire)))
  | pcall => exact answers_execPcall hs
  | gcall => exact answers_execGcall hs
  | csrr => exact .next (hs.instr (fun _ hs₁ => .ite hs₁.trap (.ite hs₁.trap (.done hs₁.setGr.retire))))
  | csrw => exact .next (hs.instr (fun _ hs₁ => .ite hs₁.trap (.ite hs₁.trap (.done hs₁.retire.csrWrite))))
  | bcopy => exact .next (hs.instr (fun _ hs₁ => .inLong hs₁.copyBlock))
  | bfill => exact .next (hs.instr (fun _ hs₁ => .inLong hs₁.fillBlock))
  | husksum => exact .next (hs.instr (fun _ hs₁ => .inLong hs₁.sumBlock))
  | millcall =>
    exact .next (hs.instr (fun _ hs₁ => .ite hs₁.trap (.ite hs₁.millResume (.inLong hs₁.millRequest))))
  | tlbiva => exact .next (hs.instr (fun _ hs₁ => .ite hs₁.trap (.done hs₁.tlbi)))
  | tlbiasid => exact .next (hs.instr (fun _ hs₁ => .ite hs₁.trap (.done hs₁.tlbi)))
  | tlbiworld => exact .next (hs.instr (fun _ hs₁ => .ite hs₁.trap (.done hs₁.tlbi)))
  | tlbiall => exact .next (hs.instr (fun _ hs₁ => .ite hs₁.trap (.done hs₁.tlbi)))
  | vaonLoss => exact answers_execVaonLoss hs
  | vaonPowerUp => exact .next (.ite hs hs.frame)
  | marchTestComplete => exact answers_execMarchTestComplete hs
  | dramRegionZeroComplete => exact answers_execDramRegionZeroComplete hs
  | granaryWayClearComplete => exact answers_execGranaryWayClearComplete hs

/-- A handshake that times out below 0.56 V (R19). -/
theorem exec_handshakeTimeout_false (u : Nat) (s : State) :
    exec (.handshakeTimeout u false) s = .fault (.notGuaranteed "R19") := rfl

/-- The state that a step answers is canonical where the state before it is. -/
theorem canonical_step (hs : Canonical s) (h : step s = .next t) : Canonical t := by
  unfold step at h
  split at h
  · cases h
    exact (Keeps.refl s).tick.canonical hs
  · next c rest _ =>
    by_cases hc : ∃ u, c = .handshakeTimeout u false
    · obtain ⟨u, rfl⟩ := hc
      rw [exec_handshakeTimeout_false] at h
      cases h
    · have ha := answers_exec (c := c) (fun u e => hc ⟨u, e⟩) (Keeps.refl (s.setPending rest))
      rw [h] at ha
      cases ha with
      | next hk => exact hk.canonical hs

/-- Settles O57: a tick and every command keep the canonical form (`canonical_step`). -/
theorem stepKeepsCanonical : Obligations.StepKeepsCanonical := fun _ _ hs h => canonical_step hs h

/-- Settles O60: by the arms of `exec`. -/
theorem everyCommandAnswersAndLeavesTheQueue : Obligations.EveryCommandAnswersAndLeavesTheQueue := by
  intro c s
  by_cases hc : ∃ u, c = .handshakeTimeout u false
  · obtain ⟨u, rfl⟩ := hc
    exact .inr ⟨u, rfl, exec_handshakeTimeout_false u s⟩
  · have ha := answers_exec (c := c) (fun u e => hc ⟨u, e⟩) (Keeps.refl s)
    generalize exec c s = o at ha
    cases ha with
    | next hk => exact .inl ⟨_, rfl, hk.pending⟩

end Sys2Proof.Laws
end

section
/-! SUPPORT. The host's doorbells, function control and MSI-X vectors (R46, R48, R78, R79). -/

namespace Sys2Proof.Laws

open Sys2Proof.Machine Sys2Proof.Safety

variable {s : State} {g : Nat}

/-- A flag of another register. -/
theorem flag_setFld_ne (a b : Nat) (f k : Fld) (n : Nat) (hb : b ≠ a) : (s.setFld a f n).flag b k = s.flag b k := by
  rw [State.flag, State.flag, fld_setFld_ne s a b f k n hb]

/-- A flag that has been written. -/
theorem flag_setFlag_same (a : Nat) (f : Fld) (hf : f.lo + f.w ≤ 64) (hw : f.w = 1) (b : Bool) :
    (s.setFlag a f b).flag a f = b := by
  rw [State.flag, State.setFlag, fld_setFld_same s a f hf, hw]
  cases b <;> rfl

theorem sqTailWrite_down (h : s.barUp g = false) (v : Nat) : s.sqTailWrite g v = s := by
  simp [State.sqTailWrite, h]

theorem cqHeadWrite_down (h : s.barUp g = false) (v : Nat) : s.cqHeadWrite g v = s := by
  simp [State.cqHeadWrite, h]

theorem sqTailWrite_outOfRange {v : Nat} (h : s.barUp g = true) (hv : s.sqSize g ≤ v) :
    s.sqTailWrite g v = s.doorbellError g := by
  simp [State.sqTailWrite, h, hv]

theorem cqHeadWrite_outOfRange {v : Nat} (h : s.barUp g = true) (hv : s.cqSize g ≤ v) :
    s.cqHeadWrite g v = s.doorbellError g := by
  simp [State.cqHeadWrite, h, hv]

/-- A tail in range is recorded; with WAKE_DB clear no wake follows (R46, R414). -/
theorem sqTailWrite_inRange {v : Nat} (h : s.barUp g = true) (hv : v < s.sqSize g)
    (hw : s.flag Reg.pwrCtl F.PwrCtl.wakeDb = false) :
    s.sqTailWrite g v = s.setFld (Reg.ringPtr g) F.RingPtr.sqTail v := by
  have hne : Reg.pwrCtl ≠ Reg.ringPtr g := by simp only [Reg.pwrCtl, Reg.ringPtr]; omega
  simp [State.sqTailWrite, State.takeTail, h, Nat.not_le.2 hv, flag_setFld_ne _ _ _ _ _ hne, hw]

/-- A head in range is recorded; no packet waits for the entries that it frees (R48, R68). -/
theorem cqHeadWrite_inRange {v : Nat} (h : s.barUp g = true) (hv : v < s.cqSize g) (hw : (s.fn g).waitSq = []) :
    s.cqHeadWrite g v = s.setFld (Reg.ringPtr g) F.RingPtr.cqHead v := by
  have hfn : (s.setFld (Reg.ringPtr g) F.RingPtr.cqHead v).fn g = s.fn g := rfl
  simp [State.cqHeadWrite, h, Nat.not_le.2 hv, hfn, hw, State.answerFull]

theorem doorbellWrites : DoorbellWrites := by
  intro s g v
  refine ⟨fun h hv hw => ?_, fun h hv => ?_, fun h hv hw => ?_, fun h hv => ?_, fun h => ⟨?_, ?_⟩⟩
  · exact congrArg Host.Outcome.next (sqTailWrite_inRange h hv hw)
  · exact congrArg Host.Outcome.next (sqTailWrite_outOfRange h hv)
  · exact congrArg Host.Outcome.next (cqHeadWrite_inRange h hv hw)
  · exact congrArg Host.Outcome.next (cqHeadWrite_outOfRange h hv)
  · exact congrArg Host.Outcome.next (sqTailWrite_down h _)
  · exact congrArg Host.Outcome.next (cqHeadWrite_down h _)

/-! ### FN_CTL -/

/-- The value of a field is below its range. -/
theorem get_mod (f : Fld) (v : Word) : f.get v % 2 ^ f.w = f.get v := Nat.mod_mod _ _

/-- FETCH_LEN after a write of FN_CTL (R79). -/
theorem fetchLen_fnCtlAfter (old v : Word) : F.FnCtl.fetchLen.get (fnCtlAfter old v) =
    if F.FnCtl.en.get old = 1 then F.FnCtl.fetchLen.get old else F.FnCtl.fetchLen.get v := by
  unfold fnCtlAfter
  split
  · simp [get_set_disjoint]
  · exact (get_set _ (by decide) _ _).trans (get_mod _ _)

/-- A field of FN_CTL other than FETCH_LEN, which the last part of the write leaves. -/
theorem get_fnCtlAfter (f : Fld) (hf : f.lo + f.w ≤ 12 ∨ 16 ≤ f.lo) (h64 : f.lo + f.w ≤ 64) (old v : Word) :
    f.get (fnCtlAfter old v) = f.get (F.FnCtl.en.set (F.FnCtl.errNotify.set
      (F.FnCtl.errVec.set old (F.FnCtl.errVec.get v)) (F.FnCtl.errNotify.get v)) (F.FnCtl.en.get v)) := by
  unfold fnCtlAfter
  split
  · rfl
  · exact get_set_disjoint f F.FnCtl.fetchLen hf _ _ h64

theorem en_fnCtlAfter (old v : Word) : F.FnCtl.en.get (fnCtlAfter old v) = F.FnCtl.en.get v := by
  rw [get_fnCtlAfter _ (by decide) (by decide), get_set _ (by decide), get_mod]

theorem errNotify_fnCtlAfter (old v : Word) :
    F.FnCtl.errNotify.get (fnCtlAfter old v) = F.FnCtl.errNotify.get v := by
  rw [get_fnCtlAfter _ (by decide) (by decide), get_set_disjoint _ _ (by decide) _ _ (by decide),
    get_set _ (by decide), get_mod]

theorem errVec_fnCtlAfter (old v : Word) : F.FnCtl.errVec.get (fnCtlAfter old v) = F.FnCtl.errVec.get v := by
  rw [get_fnCtlAfter _ (by decide) (by decide), get_set_disjoint _ _ (by decide) _ _ (by decide),
    get_set_disjoint _ _ (by decide) _ _ (by decide), get_set _ (by decide), get_mod]

theorem functionControlWrite : FunctionControlWrite := by
  intro s g v h
  have hw : s.fnCtlWrite g (v.setWidth 64) =
      s.wr (Reg.fnCtl g) (fnCtlAfter (s.rd (Reg.fnCtl g)) (v.setWidth 64)) := if_pos h
  have hrd : (s.fnCtlWrite g (v.setWidth 64)).rd (Reg.fnCtl g) =
      fnCtlAfter (s.rd (Reg.fnCtl g)) (v.setWidth 64) := by rw [hw, rd_wr, if_pos rfl]
  refine ⟨_, rfl, ?_, ?_, ?_, ?_, fun a ha => ?_, by rw [hw]; rfl, by rw [hw]; rfl, by rw [hw]; rfl⟩
  · rw [State.fld, hrd, en_fnCtlAfter]
  · rw [State.fld, hrd, errNotify_fnCtlAfter]
  · rw [State.fld, hrd, errVec_fnCtlAfter]
  · rw [State.fld, hrd, fetchLen_fnCtlAfter]; rfl
  · rw [hw, rd_wr, if_neg ha]

/-! ### MSI-X -/

/-- A bit that has been masked out. -/
theorem getLsbD_clear (x : Word) {i : Nat} (hi : i < 64) :
    (x &&& ~~~BitVec.ofNat 64 (2 ^ i)).getLsbD i = false := by
  rw [BitVec.getLsbD_and, BitVec.getLsbD_not, BitVec.getLsbD_ofNat, Nat.testBit_two_pow_self]
  simp [hi]

/-- What unmasking a vector leaves when no message is pending, and when one is (R78). -/
theorem msixUnmask_eq {vec : Nat} (hv : vec < 64) : s.msixUnmask g vec =
    let u := s.setFlag (Reg.msixData g vec) F.MsixData.masked false
    if (s.rd (Reg.msixPba g)).getLsbD vec then
      (u.wr (Reg.msixPba g) (s.rd (Reg.msixPba g) &&& ~~~BitVec.ofNat 64 (2 ^ vec))).post
        (.msix g vec (s.rd (Reg.msixAddr g vec)).toNat (s.fld (Reg.msixData g vec) F.MsixData.data))
    else u := by
  have h1 : Reg.msixPba g ≠ Reg.msixData g vec := by simp only [Reg.msixPba, Reg.msixData]; omega
  have h3 : Reg.msixAddr g vec ≠ Reg.msixPba g := by simp only [Reg.msixAddr, Reg.msixPba]; omega
  have h4 : ∀ x, F.MsixData.data.get (F.MsixData.masked.set x 0) = F.MsixData.data.get x :=
    fun x => get_set_disjoint _ _ (by decide) _ _ (by decide)
  simp [State.msixUnmask, State.sendMsix, State.fld, h1, h1.symm, h3, h4]

theorem vectorUnmask : VectorUnmask := by
  intro s g vec h hv
  have he : exec (.msixUnmask g vec) s = .next (s.msixUnmask g vec) := by
    show Host.Outcome.next _ = _
    rw [h, decide_eq_true hv]
    rfl
  have hne : Reg.msixData g vec ≠ Reg.msixPba g := by simp only [Reg.msixPba, Reg.msixData]; omega
  have hmask := flag_setFlag_same (s := s) (Reg.msixData g vec) F.MsixData.masked (by decide) rfl false
  refine ⟨_, he, ?_⟩
  rw [msixUnmask_eq hv]
  by_cases hp : (s.rd (Reg.msixPba g)).getLsbD vec = true
  · simp only [hp, if_true]
    refine ⟨?_, rfl, ?_, rfl, rfl, fun a ha hb => ?_⟩
    · rw [flag_post_ne]
      simpa [State.flag, State.fld, hne] using hmask
    · rw [rd_post_ne, rd_wr, if_pos rfl]
      exact getLsbD_clear _ hv
    · rw [rd_post_ne, rd_wr, if_neg hb, rd_setFlag, if_neg ha]
  · simp only [hp]
    refine ⟨hmask, rfl, ?_, rfl, rfl, fun a ha _ => ?_⟩
    · rw [if_neg Bool.false_ne_true, rd_setFlag, if_neg hne.symm]
      exact Bool.eq_false_iff.2 hp
    · rw [if_neg Bool.false_ne_true, rd_setFlag, if_neg ha]

end Sys2Proof.Laws
end

section
/-! SUPPORT. The push window (R51, R52; log entry 77): what a write leaves in the window, slot by slot. -/

namespace Sys2Proof.Laws

open Sys2Proof.Machine Sys2Proof.Safety

variable {s s' : State} {g off n : Nat} {data : List Byte} {ns : List Nat}

/-- A write of `len` bytes at `off` covers bytes 60 to 63 of slot `n`, which commits the slot (R51). -/
def commitsSlot (off len n : Nat) : Bool := decide (off ≤ 512 * n + 60) && decide (512 * n + 64 ≤ off + len)

/-- The part of a push write that falls in slot `n`, as `pushWrite` takes it. -/
def pushSlot (g off : Nat) (data : List Byte) (s : State) (n : Nat) : State :=
  s.pushPart g n (max off (512 * n) - 512 * n) ((data.drop (max off (512 * n) - off)).take
    (min (off + data.length) (512 * n + 512) - max off (512 * n)))

/-- The bytes of slot `n` lie in the write. -/
def Touches (off len n : Nat) : Prop := 512 * n < off + len ∧ off < 512 * n + 512

/-- The slots that a write of at least one byte touches. -/
theorem touches_of_mem {len : Nat} (h : n ∈ slotsTouched off len) : Touches off len n := by
  simp only [slotsTouched, List.mem_map, List.mem_range] at h
  obtain ⟨i, hi, rfl⟩ := h
  constructor <;> omega

/-- Every byte of the write lies in a slot that the write touches. -/
theorem mem_slotsTouched {len b : Nat} (h1 : off ≤ b) (h2 : b < off + len) : b / 512 ∈ slotsTouched off len := by
  simp only [slotsTouched, List.mem_map, List.mem_range]
  exact ⟨b / 512 - off / 512, by omega, by omega⟩

/-- What a write leaves once its parts in the slots `ns` are taken. -/
structure PushTaken (s s' : State) (g off : Nat) (data : List Byte) (ns : List Nat) : Prop where
  bytes : ∀ b, Memory.byte (s'.fn g).pushMem b =
    if b / 512 ∈ ns ∧ off ≤ b ∧ b < off + data.length then data.getD (b - off) 0
    else Memory.byte (s.fn g).pushMem b
  queue : (s'.fn g).pushQ = (s.fn g).pushQ ++ ns.filter (commitsSlot off data.length)
  busy : (s'.fn g).pushBusy = (s.fn g).pushBusy ++ ns.filter (commitsSlot off data.length)
  others : ∀ f, f ≠ g → s'.fn f = s.fn f
  regs : s'.regs = s.regs
  mem : s'.mem = s.mem

/-- The length of the write's part in a slot. -/
theorem length_pushSlot (h : Touches off data.length n) :
    ((data.drop (max off (512 * n) - off)).take
      (min (off + data.length) (512 * n + 512) - max off (512 * n))).length =
      min (off + data.length) (512 * n + 512) - max off (512 * n) := by
  obtain ⟨h1, h2⟩ := h
  rw [List.length_take, List.length_drop]
  omega

/-- The function after a part is taken: its bytes are stored, and the slot joins the queue if it is committed. -/
theorem fn_pushSlot (h : Touches off data.length n) : (pushSlot g off data s n).fn g =
    { s.fn g with
      pushMem := Memory.store (s.fn g).pushMem (max off (512 * n)) ((data.drop (max off (512 * n) - off)).take
        (min (off + data.length) (512 * n + 512) - max off (512 * n)))
      pushQ := (s.fn g).pushQ ++ [n].filter (commitsSlot off data.length)
      pushBusy := (s.fn g).pushBusy ++ [n].filter (commitsSlot off data.length) } := by
  have hlen := length_pushSlot h
  obtain ⟨h1, h2⟩ := h
  have hat : 512 * n + (max off (512 * n) - 512 * n) = max off (512 * n) := by omega
  unfold pushSlot State.pushPart
  rw [hlen, hat]
  by_cases hc : commitsSlot off data.length n = true
  · have hc' : off ≤ 512 * n + 60 ∧ 512 * n + 64 ≤ off + data.length := by simpa [commitsSlot] using hc
    rw [if_pos (by omega)]
    simp [hc]
  · have hc' : ¬ (off ≤ 512 * n + 60 ∧ 512 * n + 64 ≤ off + data.length) := by simpa [commitsSlot] using hc
    rw [if_neg (by omega)]
    simp [hc]

/-- The byte of a part is that of the whole write. -/
theorem getD_take_drop (l : List Byte) {i j k : Nat} (h : j < k) :
    ((l.drop i).take k).getD j 0 = l.getD (i + j) 0 := by
  simp [List.getD_eq_getElem?_getD, List.getElem?_drop, h]

/-- One byte of the window after a part is taken. -/
theorem byte_pushSlot (h : Touches off data.length n) (b : Nat) :
    Memory.byte ((pushSlot g off data s n).fn g).pushMem b =
      if b / 512 = n ∧ off ≤ b ∧ b < off + data.length then data.getD (b - off) 0
      else Memory.byte (s.fn g).pushMem b := by
  rw [fn_pushSlot h]
  dsimp only
  rw [byte_store, length_pushSlot h]
  obtain ⟨h1, h2⟩ := h
  by_cases hb : b / 512 = n ∧ off ≤ b ∧ b < off + data.length
  · rw [if_pos hb, if_pos (by omega), getD_take_drop _ (by omega)]
    congr 1
    omega
  · rw [if_neg hb, if_neg (by omega)]

theorem fn_pushSlot_ne {f : Nat} (h : f ≠ g) : (pushSlot g off data s n).fn f = s.fn f := by
  unfold pushSlot State.pushPart
  split <;> simp [h]

@[simp] theorem regs_pushSlot : (pushSlot g off data s n).regs = s.regs := by
  unfold pushSlot State.pushPart
  split <;> rfl

@[simp] theorem mem_pushSlot : (pushSlot g off data s n).mem = s.mem := by
  unfold pushSlot State.pushPart
  split <;> rfl

theorem PushTaken.nil : PushTaken s s g off data [] := by constructor <;> simp

/-- The part in slot `n`, and then the parts in the slots `ns`. -/
theorem PushTaken.cons (hn : Touches off data.length n) (h : PushTaken (pushSlot g off data s n) s' g off data ns) :
    PushTaken s s' g off data (n :: ns) where
  bytes b := by
    rw [h.bytes, byte_pushSlot hn]
    by_cases hm : b / 512 ∈ ns ∧ off ≤ b ∧ b < off + data.length
    · rw [if_pos hm, if_pos ⟨List.mem_cons_of_mem n hm.1, hm.2⟩]
    · have hiff : (b / 512 = n ∧ off ≤ b ∧ b < off + data.length) ↔
          b / 512 ∈ n :: ns ∧ off ≤ b ∧ b < off + data.length := by
        rw [List.mem_cons]
        tauto
      rw [if_neg hm]
      exact if_congr hiff rfl rfl
  queue := by
    rw [h.queue, fn_pushSlot hn, List.append_assoc, ← List.filter_append]
    rfl
  busy := by
    rw [h.busy, fn_pushSlot hn, List.append_assoc, ← List.filter_append]
    rfl
  others f hf := (h.others f hf).trans (fn_pushSlot_ne hf)
  regs := h.regs.trans regs_pushSlot
  mem := h.mem.trans mem_pushSlot

theorem pushTaken_foldl (h : ∀ n ∈ ns, Touches off data.length n) :
    PushTaken s (ns.foldl (pushSlot g off data) s) g off data ns := by
  induction ns generalizing s with
  | nil => exact .nil
  | cons n ns ih =>
    exact .cons (h n List.mem_cons_self) (ih fun m hm => h m (List.mem_cons_of_mem n hm))

/-- A write that the part can take is taken in each slot that it touches. -/
theorem pushTaken_pushWrite
    (h : (slotsTouched off data.length).any (fun n => s.pushRefused g n) = false) :
    PushTaken s (s.pushWrite g off data) g off data (slotsTouched off data.length) := by
  have he : s.pushWrite g off data = (slotsTouched off data.length).foldl (pushSlot g off data) s :=
    if_neg (Bool.not_eq_true _ ▸ h)
  rw [he]
  exact pushTaken_foldl fun n hn => touches_of_mem hn

/-- One that it cannot take in some slot is discarded. -/
theorem pushWrite_refused (h : (slotsTouched off data.length).any (fun n => s.pushRefused g n) = true) :
    s.pushWrite g off data = s.pushDiscard g := if_pos h

theorem pushWindowWrites : PushWindowWrites := by
  intro s g off data hup hfit hne
  have he : exec (.pushWindowWrite g off data) s = .next (s.pushWrite g off data) := by
    show Host.Outcome.next _ = _
    rw [hup, decide_eq_true hfit, List.isEmpty_eq_false_iff.2 hne]
    rfl
  refine ⟨fun hfree => ?_, fun hbusy => ?_⟩
  · have hp := pushTaken_pushWrite hfree
    refine ⟨_, he, fun b => ?_, hp.queue, hp.busy, hp.others, hp.regs, hp.mem⟩
    rw [hp.bytes]
    by_cases hb : off ≤ b ∧ b < off + data.length
    · rw [if_pos hb, if_pos ⟨mem_slotsTouched hb.1 hb.2, hb⟩]
    · rw [if_neg hb, if_neg fun hc => hb hc.2]
  · rw [pushWrite_refused hbusy] at he
    refine ⟨_, he, rfl, flag_setFlag_same _ _ (by decide) rfl true, fun a h1 h2 => ?_, rfl⟩
    rw [State.pushDiscard, rd_setFlag, if_neg h2, State.satFld, rd_setFld, if_neg h1]

end Sys2Proof.Laws
end

section
/-! SUPPORT. Register writes (R6 to R8, R347): what sensing the level inputs leaves, and the write of a whole
register. -/

namespace Sys2Proof.Laws

open Sys2Proof.Machine Sys2Proof.Safety

variable {s s' u : State} {a n : Nat} {v : Word} {d : RegDesc}

/-! ### Sensing (R347) -/

theorem sameButEmpty_refl (x : Tiller) : SameButEmpty x x := ⟨rfl, rfl⟩

theorem sameButEmpty_trans {x y z : Tiller} (h : SameButEmpty x y) (k : SameButEmpty y z) : SameButEmpty x z := by
  obtain ⟨h1, h2⟩ := h
  obtain ⟨k1, k2⟩ := k
  refine ⟨?_, k2.trans h2⟩
  rw [k1, h1]

/-- Only claims may have been marked EMPTY (R347). -/
structure OnlySensed (s s' : State) : Prop where
  tillers : TillersButEmpty s s'
  rest : s' = { s with tillers := s'.tillers }

theorem OnlySensed.refl (s : State) : OnlySensed s s := ⟨fun _ => sameButEmpty_refl _, rfl⟩

theorem OnlySensed.trans (h : OnlySensed s s') (k : OnlySensed s' u) : OnlySensed s u where
  tillers t := sameButEmpty_trans (h.tillers t) (k.tillers t)
  rest := by
    rw [k.rest, h.rest]

/-- Marking a claim EMPTY keeps the sources on the stack. -/
theorem map_fst_markEmpty (l : List (Nat × Bool)) (src : Nat) :
    (l.map (fun e => if e.1 = src then (e.1, true) else e)).map Prod.fst = l.map Prod.fst := by
  rw [List.map_map]
  refine List.map_congr_left fun e _ => ?_
  by_cases h : e.1 = src <;> simp [h]

theorem onlySensed_senseOne (s : State) (t : Nat) : OnlySensed s (s.senseOne t) := by
  unfold State.senseOne
  split
  · split
    · exact .refl s
    · refine ⟨fun i => ?_, rfl⟩
      rw [tiller_modTiller]
      by_cases hi : i = t
      · subst hi
        rw [if_pos rfl]
        exact ⟨rfl, map_fst_markEmpty _ _⟩
      · rw [if_neg hi]
        exact sameButEmpty_refl _
  · exact .refl s

theorem onlySensed_sense (s : State) : OnlySensed s s.sense :=
  foldl_keeps (OnlySensed s) _ (fun u t h => h.trans (onlySensed_senseOne u t)) _ s (.refl s)

theorem OnlySensed.rd (h : OnlySensed s s') (a : Nat) : s'.rd a = s.rd a := by rw [h.rest]; rfl
theorem OnlySensed.mem (h : OnlySensed s s') : s'.mem = s.mem := by rw [h.rest]
theorem OnlySensed.slates (h : OnlySensed s s') : s'.slates = s.slates := by rw [h.rest]

/-! ### Writes -/

/-- A write of another size than 4 or 8 bytes, or not aligned, is ignored (R8). -/
theorem regWrite_ignored (h : n ≠ 4 ∧ n ≠ 8 ∨ a % n ≠ 0) (v : Nat) : s.regWrite a n v = s := by
  refine if_neg fun hc => ?_
  rcases h with h | h
  · exact hc.1.elim h.1 h.2
  · exact h hc.2

/-- An aligned write of 8 bytes to a register outside the Hoppers is a write of every byte of it. -/
theorem regWrite_eight (h8 : a % 8 = 0) (hh : hopReg a = none) (hd : regAt a = some d) (v : Word) :
    s.regWrite a 8 v.toNat = s.writeOf d.name a v (partMask 0 8) := by
  have ha : a / 8 * 8 = a := by omega
  have hv : BitVec.ofNat 64 (v.toNat % 2 ^ 64 * 2 ^ 0) = v := by
    rw [Nat.mod_eq_of_lt v.isLt, pow_zero, Nat.mul_one, BitVec.ofNat_toNat, BitVec.setWidth_eq]
  simp only [State.regWrite, h8, ha, hh, hd, or_true, true_and, if_true, Nat.mul_zero, Nat.reduceMul, hv]

/-- A plain write of every byte of a register (R6). -/
theorem plainWrite_whole (hd : regAt a = some d) (v : Word) :
    s.plainWrite a v (partMask 0 8) = s.wr a (d.afterWrite (s.rd a) v) := by
  have hm : partMask 0 8 = BitVec.allOnes 64 := by decide
  simp only [State.plainWrite, hd, hm, BitVec.and_allOnes, BitVec.not_allOnes, BitVec.and_zero, BitVec.or_zero]

/-- Below BAR0 software's write of a register is `regWrite`, and the level inputs are sensed. -/
theorem exec_registerWrite_own (ha : a < bar0 0) (hr : s.running = true) (n : Nat) (v : Word) :
    exec (.registerWrite a n v) s = .next (s.regWrite a n v.toNat).sense := by
  have hans : s.regsAnswer a = true := by rw [State.regsAnswer, if_neg (Nat.not_le.2 ha), hr]
  show Host.Outcome.next _ = _
  rw [hans, if_neg (by simp), if_neg fun h => Nat.not_le.2 ha h.1]

theorem regAt_swmDram : regAt Reg.swmDram = some ⟨"SWM_DRAM", Reg.swmDram, 0x8, 1, 0x8, 1,
    [⟨63, 1, .w1s, 0⟩, ⟨0, 16, .rw, 0⟩]⟩ := rfl

theorem regAt_custS2 : regAt Reg.custS2 = some ⟨"CUST_S2", Reg.custS2, 0x8, 1, 0x8, 1,
    [⟨63, 1, .rw, 0⟩, ⟨21, 23, .rw, 0⟩]⟩ := rfl

theorem regAt_wakeTime : regAt Reg.wakeTime = some ⟨"WAKE_TIME", Reg.wakeTime, 0x8, 1, 0x8, 1,
    [⟨0, 64, .rw, 0⟩]⟩ := rfl

theorem regAt_swmDesk {i : Nat} (hi : i < 72) : regAt (Reg.swmDesk i) =
    some ⟨"SWM_DESK", Reg.swmDesk 0, 0x8, 72, 0x8, 1, [⟨63, 1, .w1s, 0⟩, ⟨0, 6, .rw, 0⟩]⟩ :=
  (by decide +kernel : ∀ i : Fin 72, regAt (Reg.swmDesk i) = some ⟨"SWM_DESK", Reg.swmDesk 0, 0x8, 72, 0x8, 1,
    [⟨63, 1, .w1s, 0⟩, ⟨0, 6, .rw, 0⟩]⟩) ⟨i, hi⟩

/-- A register beyond those of the eight Hopper engines is none of theirs. -/
theorem hopReg_beyond (h : Reg.hcSrc 8 0 ≤ a) : hopReg a = none := by
  simp only [Reg.hcSrc] at h
  have h1 : ¬ a < Reg.hcSrc 0 0 := by simp only [Reg.hcSrc]; omega
  have h2 : ¬ (a - Reg.hcSrc 0 0) / 0x900000 < 8 := by simp only [Reg.hcSrc]; omega
  exact (if_neg h1).trans (if_neg fun h => h2 h.1)

/-- A one-bit field whose flag is set reads 1. -/
theorem get_of_flag (f : Fld) (hw : f.w = 1) (h : s.flag a f = true) : f.get (s.rd a) = 1 := by
  have hlt : f.get (s.rd a) < 2 ^ f.w := Nat.mod_lt _ (Nat.two_pow_pos _)
  have hne : f.get (s.rd a) ≠ 0 := by simpa [State.flag, State.fld] using h
  rw [hw] at hlt
  omega

/-- A locked watermark of the DRAM ignores a write. -/
theorem regWrite_swmDram_locked (h : s.flag Reg.swmDram F.SwmDram.lock = true) (v : Word) :
    s.regWrite Reg.swmDram 8 v.toNat = s := by
  rw [regWrite_eight rfl (hopReg_beyond (by decide)) regAt_swmDram]
  exact if_pos (get_of_flag _ rfl h)

/-- So does that of a Desk. -/
theorem regWrite_swmDesk_locked {i : Nat} (hi : i < 72) (h : s.flag (Reg.swmDesk i) F.SwmDesk.lock = true) (v : Word) :
    s.regWrite (Reg.swmDesk i) 8 v.toNat = s := by
  have h8 : Reg.swmDesk i % 8 = 0 := by
    show (0xC0000060100 + 8 * i) % 8 = 0
    omega
  have hh : Reg.hcSrc 8 0 ≤ Reg.swmDesk i := by simp only [Reg.swmDesk, Reg.hcSrc]; omega
  rw [regWrite_eight h8 (hopReg_beyond hh) (regAt_swmDesk hi)]
  exact if_pos (get_of_flag _ rfl h)

/-- In service CUST_S2 takes its other fields and keeps EN. -/
theorem regWrite_custS2 (hs : s.power.service = true) (v : Word) : s.regWrite Reg.custS2 8 v.toNat =
    s.wr Reg.custS2 (F.CustS2.en.set (F.CustS2.base.set (F.CustS2.en.set (s.rd Reg.custS2) (F.CustS2.en.get v))
      (F.CustS2.base.get v)) (s.fld Reg.custS2 F.CustS2.en)) := by
  rw [regWrite_eight rfl (hopReg_beyond (by decide)) regAt_custS2]
  refine (if_pos hs).trans ?_
  rw [plainWrite_whole regAt_custS2, rd_wr, if_pos rfl]
  rfl

/-- A field as wide as the register takes the value. -/
theorem set_whole (x v : Word) : (⟨0, 64⟩ : Fld).set x ((⟨0, 64⟩ : Fld).get v) = v := by
  have hm : (⟨0, 64⟩ : Fld).mask = BitVec.allOnes 64 := by decide
  rw [Fld.set, Fld.get, hm, BitVec.not_allOnes, BitVec.and_zero, BitVec.zero_or, Nat.mod_mod, pow_zero, Nat.div_one,
    Nat.mul_one, Nat.mod_eq_of_lt v.isLt, BitVec.ofNat_toNat, BitVec.setWidth_eq]

theorem regWrite_wakeTime (v : Word) : s.regWrite Reg.wakeTime 8 v.toNat = s.wr Reg.wakeTime v := by
  rw [regWrite_eight rfl (hopReg_beyond (by decide)) regAt_wakeTime]
  refine (plainWrite_whole regAt_wakeTime v).trans ?_
  exact congrArg (s.wr Reg.wakeTime) (set_whole _ v)

/-- After one register has been written and the inputs are sensed, the rest is as before. -/
theorem sense_wr_frame (s : State) (a : Nat) (v : Word) : (s.wr a v).sense.rd a = v ∧
    (∀ b, b ≠ a → (s.wr a v).sense.rd b = s.rd b) ∧ (s.wr a v).sense.mem = s.mem ∧
    TillersButEmpty s (s.wr a v).sense ∧ (s.wr a v).sense.slates = s.slates := by
  have h := onlySensed_sense (s.wr a v)
  refine ⟨?_, fun b hb => ?_, h.mem, h.tillers, h.slates⟩
  · rw [h.rd, rd_wr, if_pos rfl]
  · rw [h.rd, rd_wr, if_neg hb]

theorem registerWrites : RegisterWrites := by
  intro s a n v
  refine ⟨fun h => ?_, fun h hn ha => ?_, fun h hb ha => ?_, fun hr hl => ?_, fun i hi hr hl => ?_,
    fun hr hs => ?_, fun hr => ?_⟩
  · show Host.Outcome.next _ = _
    rw [h]
    rfl
  · show Host.Outcome.next _ = _
    have hc : ¬ (bar0 0 ≤ a ∧ (!hostAligned a n) = true) := by
      rintro ⟨h1, h2⟩
      rcases ha with ha | ha
      · exact Nat.not_le.2 ha h1
      · simp [ha] at h2
    rw [h, if_neg (by simp), if_neg hc, regWrite_ignored hn]
  · show Host.Outcome.next _ = _
    rw [h, ha, if_neg (by simp), if_pos ⟨hb, rfl⟩]
  · rw [exec_registerWrite_own (by decide) hr, regWrite_swmDram_locked hl]
  · have hlt : Reg.swmDesk i < bar0 0 := by simp only [Reg.swmDesk, bar0]; omega
    rw [exec_registerWrite_own hlt hr, regWrite_swmDesk_locked hi hl]
  · rw [exec_registerWrite_own (by decide) hr, regWrite_custS2 hs]
    obtain ⟨hrd, hrest⟩ := sense_wr_frame s Reg.custS2 (F.CustS2.en.set (F.CustS2.base.set
      (F.CustS2.en.set (s.rd Reg.custS2) (F.CustS2.en.get v)) (F.CustS2.base.get v)) (s.fld Reg.custS2 F.CustS2.en))
    refine ⟨_, rfl, ?_, ?_, hrest⟩
    · rw [State.flag, State.fld, hrd, get_set _ (by decide), State.fld, get_mod]
      rfl
    · rw [State.fld, hrd, get_set_disjoint _ _ (by decide) _ _ (by decide), get_set _ (by decide), get_mod]
  · rw [exec_registerWrite_own (by decide) hr, regWrite_wakeTime]
    exact ⟨_, rfl, sense_wr_frame s Reg.wakeTime v⟩

/-- Settles O31, by its five groups of accesses. -/
theorem hostAccesses : Obligations.HostAccesses :=
  ⟨doorbellWrites, functionControlWrite, pushWindowWrites, vectorUnmask, registerWrites⟩

end Sys2Proof.Laws
end

section
/-! SUPPORT. What the end of a slate's work and the Bell leave alone (R81, R88, R92, R175): device time and the time
base, the voltage, the staged changes and the supervisors, and the claim of a slate that has no reply yet. -/

namespace Sys2Proof.Laws

open Sys2Proof.Machine Sys2Proof.Safety

variable {s₀ s t : State} {o : Option Nat} {i h : Nat}

/-- What no reply, record, deletion or stand-in touches. -/
def standsApart (s : State) : Nat × TimeBase × Avs × List Staged × List (Nat × List Byte) :=
  (s.dtime, s.tb, s.avs, s.staged, s.supers)

/-- `y` has the claim of `x`, and neither a reply nor a deferred effect. -/
structure ClaimStands (x y : Slate) : Prop where
  claim : y.claim = x.claim
  st : y.st = x.st
  replied : y.replied = false
  waiting : y.waiting = false

/-- From `s` to `t` what stands apart is the same, and so is the claim of slate `o`, if one is named. -/
structure Spares (o : Option Nat) (s t : State) : Prop where
  apart : standsApart t = standsApart s
  slate : ∀ i, o = some i → ClaimStands (s.slate i) (t.slate i)

theorem Spares.refl_none (s : State) : Spares none s s := ⟨rfl, nofun⟩

theorem Spares.refl_some (hu : Unreplied s i) : Spares (some i) s s where
  apart := rfl
  slate := by rintro _ ⟨⟩; exact ⟨rfl, rfl, hu.1, hu.2⟩

theorem Spares.dtime (hs : Spares o s t) : t.dtime = s.dtime := congrArg (·.1) hs.apart
theorem Spares.tb (hs : Spares o s t) : t.tb = s.tb := congrArg (·.2.1) hs.apart
theorem Spares.avs (hs : Spares o s t) : t.avs = s.avs := congrArg (·.2.2.1) hs.apart
theorem Spares.staged (hs : Spares o s t) : t.staged = s.staged := congrArg (·.2.2.2.1) hs.apart
theorem Spares.supers (hs : Spares o s t) : t.supers = s.supers := congrArg (·.2.2.2.2) hs.apart

/-! ### Putting states together -/

/-- A change elsewhere. -/
theorem Spares.frame (hs : Spares o s₀ s) (ha : standsApart t = standsApart s) (hl : t.slates = s.slates) :
    Spares o s₀ t where
  apart := ha.trans hs.apart
  slate i hi := by
    have hi' : t.slate i = s.slate i := by rw [State.slate, State.slate, hl]
    exact hi' ▸ hs.slate i hi

theorem Spares.ite {c : Prop} [Decidable c] (hs : Spares o s₀ s) (ht : Spares o s₀ t) :
    Spares o s₀ (if c then s else t) := by
  split
  · exact hs
  · exact ht

theorem Spares.foldl {α : Type} {l : List α} {f : State → α → State} (hs : Spares o s₀ s)
    (hf : ∀ s a, Spares o s₀ s → Spares o s₀ (f s a)) : Spares o s₀ (l.foldl f s) :=
  foldl_keeps _ f hf l s hs

/-- Another slate is replaced. -/
theorem Spares.setSlate {v} (hs : Spares o s₀ s) (hi : o ≠ some i) : Spares o s₀ (s.setSlate i v) where
  apart := hs.apart
  slate j hj := by
    have hne : j ≠ i := fun h => hi (h ▸ hj)
    rw [slate_setSlate, if_neg hne]
    exact hs.slate j hj

/-- A slate changes in what is neither its claim nor its reply. -/
theorem Spares.modSlate {f : Slate → Slate} (hs : Spares o s₀ s)
    (hf : ∀ x, (f x).claim = x.claim ∧ (f x).st = x.st ∧ (f x).replied = x.replied ∧ (f x).waiting = x.waiting) :
    Spares o s₀ (s.modSlate i f) where
  apart := hs.apart
  slate j hj := by
    rw [slate_modSlate]
    split
    · next h =>
      subst h
      obtain ⟨h1, h2, h3, h4⟩ := hf (s.slate j)
      obtain ⟨k1, k2, k3, k4⟩ := hs.slate j hj
      exact ⟨h1.trans k1, h2.trans k2, h3.trans k3, h4.trans k4⟩
    · exact hs.slate j hj

/-- A slate with a reply is not the one that is spared. -/
theorem Spares.ne_of_replied (hs : Spares o s₀ s) (hr : (s.slate i).replied = true) : o ≠ some i :=
  fun he => Bool.false_ne_true ((hs.slate i he).replied.symm.trans hr)

/-- Nor is one with a deferred effect. -/
theorem Spares.ne_of_waiting (hs : Spares o s₀ s) (hw : (s.slate i).waiting = true) : o ≠ some i :=
  fun he => Bool.false_ne_true ((hs.slate i he).waiting.symm.trans hw)

/-! ### Keys and the key cache -/

theorem Spares.setCache {asym l} (hs : Spares o s₀ s) : Spares o s₀ (s.setCache asym l) :=
  .ite (hs.frame rfl rfl) (hs.frame rfl rfl)

theorem Spares.keepCache {f} (hs : Spares o s₀ s) : Spares o s₀ (s.keepCache f) := hs.frame rfl rfl
theorem Spares.trimCache {asym} (hs : Spares o s₀ s) : Spares o s₀ (s.trimCache h asym) := hs.setCache
theorem Spares.purgeCache (hs : Spares o s₀ s) : Spares o s₀ (s.purgeCache h) := hs.keepCache.trimCache.trimCache

theorem Spares.setSlot {asym n v} (hs : Spares o s₀ s) : Spares o s₀ (s.setSlot asym n v) :=
  .ite (hs.frame rfl rfl) (hs.frame rfl rfl)

theorem Spares.clearSlot {asym n} (hs : Spares o s₀ s) : Spares o s₀ (s.clearSlot asym n) :=
  hs.setSlot.frame rfl rfl

theorem Spares.deleteKey {v} (hs : Spares o s₀ s) : Spares o s₀ (s.deleteKey h v) := by
  unfold State.deleteKey
  split
  · exact hs.clearSlot
  · exact hs.clearSlot
  · exact hs.frame rfl rfl

/-! ### Replies to the host -/

theorem Spares.msix {g vec} (hs : Spares o s₀ s) : Spares o s₀ (s.msix g vec) :=
  .ite (hs.frame rfl rfl) (hs.frame rfl rfl)

theorem Spares.writeCq {g pkt r} (hs : Spares o s₀ s) : Spares o s₀ (s.writeCq g pkt r) :=
  .ite (hs.frame rfl rfl) (hs.frame rfl rfl)

theorem Spares.deliver {g push pkt r} (hs : Spares o s₀ s) : Spares o s₀ (s.deliver g push pkt r) := by
  unfold State.deliver
  extract_lets s₁ s₂
  have hs₁ : Spares o s₀ s₁ := by
    unfold s₁
    split
    · exact hs.frame rfl rfl
    · exact hs
  have hs₂ : Spares o s₀ s₂ := by
    unfold s₂
    split
    · exact hs₁.frame rfl rfl
    · exact hs₁.writeCq
  exact .ite hs₂.msix hs₂

theorem Spares.reply {g epoch push pkt r} (hs : Spares o s₀ s) : Spares o s₀ (s.reply g epoch push pkt r) :=
  .ite (Spares.deliver (hs.frame rfl rfl)) (hs.frame rfl rfl)

/-! ### The Register -/

theorem Spares.modJ {f} (hs : Spares o s₀ s) : Spares o s₀ (s.modJ h f) := hs.frame rfl rfl

theorem Spares.mirrorSuspend {cause n} (hs : Spares o s₀ s) : Spares o s₀ (s.mirrorSuspend h cause n) :=
  hs.frame rfl rfl

theorem Spares.mirrorCopy {n b} (hs : Spares o s₀ s) : Spares o s₀ (s.mirrorCopy h n b) := hs.frame rfl rfl

theorem Spares.putRec {b p copy} (hs : Spares o s₀ s) : Spares o s₀ (s.putRec h b p copy) := by
  unfold State.putRec
  extract_lets s₁ pend
  have hs₁ : Spares o s₀ s₁ := hs.frame rfl rfl
  have hpend : ∀ p, Spares o s₀ (pend s₁ p) := fun _ => hs₁.modJ
  refine .ite ?_ (hpend _)
  split
  · exact (hpend _).mirrorSuspend
  · exact (hpend _).mirrorCopy

theorem Spares.writeRec {b p copy} (hs : Spares o s₀ s) : Spares o s₀ (s.writeRec h b p copy) :=
  .ite hs.modJ hs.putRec

theorem Spares.requestSeals (hs : Spares o s₀ s) : Spares o s₀ (s.requestSeals h) := hs.frame rfl rfl

theorem Spares.append {ty mk slate rej} (hs : Spares o s₀ s) : Spares o s₀ (s.append h ty mk slate rej) :=
  hs.modJ.writeRec.requestSeals

theorem Spares.appendEvent {time ty b16 b22} (hs : Spares o s₀ s) :
    Spares o s₀ (s.appendEvent h time ty b16 b22) := hs.append

theorem Spares.buildEvent {time a} (hs : Spares o s₀ s) : Spares o s₀ (s.buildEvent h time a) := by
  cases a with
  | sealed => exact hs.modJ.appendEvent
  | start => exact hs.appendEvent
  | tamper => exact hs.appendEvent
  | mirrorSuspend => exact hs.appendEvent
  | relocate => exact hs.appendEvent
  | mirrorResume => exact hs.appendEvent

theorem Spares.build {u} (hs : Spares o s₀ s) : Spares o s₀ (s.build h u) := by
  unfold State.build
  split
  · split
    · exact hs.append.modSlate fun _ => ⟨rfl, rfl, rfl, rfl⟩
    · exact hs
  · exact hs.append

theorem Spares.buildWaiting {n} (hs : Spares o s₀ s) : Spares o s₀ (s.buildWaiting h n) := by
  induction n generalizing s with
  | zero => exact hs
  | succ n ih =>
    unfold State.buildWaiting
    split
    · exact hs
    · split
      · exact ih hs.modJ.buildEvent
      · exact ih hs.modJ.build
      · exact hs

theorem Spares.record {u} (hs : Spares o s₀ s) : Spares o s₀ (s.record h u) := hs.modJ.buildWaiting

/-! ### The end of a slate's work -/

theorem Spares.claim {c} (hs : Spares o s₀ s) (hi : o ≠ some i) : Spares o s₀ (s.claim i c) :=
  (hs.setSlate hi).record

theorem Spares.freeSlate (hs : Spares o s₀ s) (hi : o ≠ some i) : Spares o s₀ (s.freeSlate i) :=
  Spares.setSlate (hs.foldl fun _ _ hs₁ => hs₁.frame rfl rfl) hi

theorem Spares.settle (hs : Spares o s₀ s) : Spares o s₀ (s.settle i) := by
  unfold State.settle
  extract_lets sl
  split
  · next hr => exact .ite (hs.freeSlate (hs.ne_of_replied hr)) (hs.setSlate (hs.ne_of_replied hr))
  · exact hs

theorem Spares.beginQuiesce {window cause} (hs : Spares o s₀ s) : Spares o s₀ (s.beginQuiesce window cause) := by
  unfold State.beginQuiesce
  split
  · exact hs
  · exact hs.frame rfl rfl

theorem Spares.afterReply {pkt} (hs : Spares o s₀ s) : Spares o s₀ (s.afterReply pkt) :=
  .ite (.ite hs (Spares.beginQuiesce (hs.frame rfl rfl))) (.ite (.ite hs (hs.frame rfl rfl)) hs)

theorem Spares.commitReply {padded} (hs : Spares o s₀ s) (hi : o ≠ some i) : Spares o s₀ (s.commitReply i padded) := by
  unfold State.commitReply
  extract_lets
  split
  · exact hs
  · exact Spares.settle (.ite (hs.reply.setSlate hi).afterReply (hs.reply.setSlate hi))

theorem Spares.completeReply (hs : Spares o s₀ s) (hi : o ≠ some i) : Spares o s₀ (s.completeReply i) := by
  unfold State.completeReply
  extract_lets
  split
  · exact hs
  · exact .ite (hs.setSlate hi) (.ite (.ite (hs.setSlate hi) (Spares.commitReply (hs.frame rfl rfl) hi))
      (hs.commitReply hi))

theorem Spares.finishDelete (hs : Spares o s₀ s) : Spares o s₀ (s.finishDelete i) := by
  unfold State.finishDelete
  split
  · next hd =>
    have hw : (s.slate i).waiting = true := by
      unfold State.deleteDue at hd
      simp only [Bool.and_eq_true] at hd
      exact hd.1.1
    have hi := hs.ne_of_waiting hw
    exact .ite (Spares.completeReply (hs.deleteKey.setSlate hi) hi) (hs.deleteKey.setSlate hi)
  · exact hs

theorem Spares.leaveWork (hs : Spares o s₀ s) : Spares o s₀ (s.leaveWork i) :=
  Spares.purgeCache (Spares.foldl (Spares.settle (hs.modSlate fun _ => ⟨rfl, rfl, rfl, rfl⟩))
    fun _ _ hs₁ => hs₁.finishDelete)

/-! ### The Bell -/

theorem Spares.cancelAt {u c tag} (hs : Spares o s₀ s) : Spares o s₀ (s.cancelAt u c tag) := by
  unfold State.cancelAt
  refine .ite (hs.frame rfl rfl) ?_
  split
  · exact hs.frame rfl rfl
  · exact hs

theorem Spares.cancelWork (hs : Spares o s₀ s) : Spares o s₀ (s.cancelWork i) := by
  unfold State.cancelWork
  extract_lets sl s₁ mine
  have hs₁ : Spares o s₀ s₁ := hs.frame rfl rfl
  split
  · exact hs₁
  · exact hs₁
  · exact hs₁
  · exact Spares.leaveWork (hs₁.frame rfl rfl)
  · exact hs₁.leaveWork
  · extract_lets
    split
    · exact .ite hs₁.cancelAt (Spares.leaveWork (hs₁.frame rfl rfl))
    · exact hs₁.leaveWork
  · exact hs₁.cancelAt

theorem Spares.standin (hs : Spares o s₀ s) (hi : o ≠ some i) : Spares o s₀ (s.standin i) := by
  unfold State.standin
  exact Spares.cancelWork (Spares.claim (.ite (hs.frame rfl rfl) (hs.frame rfl rfl)) hi)

theorem Spares.bellFire (hs : Spares none s₀ s) : Spares none s₀ (s.bellFire h) := by
  unfold State.bellFire
  split
  · exact .ite (Spares.standin (hs.frame rfl rfl) nofun) hs
  · exact hs

theorem Spares.bellMust {d n} (hs : Spares none s₀ s) : Spares none s₀ (s.bellMust h d n) := by
  induction n generalizing s with
  | zero => exact hs
  | succ n ih => exact .ite (ih hs.bellFire) hs

theorem Spares.noteWaiting (hs : Spares o s₀ s) : Spares o s₀ s.noteWaiting := by
  unfold State.noteWaiting
  extract_lets s₁
  have hs₁ : Spares o s₀ s₁ := hs.foldl fun _ _ hs₂ => .ite hs₂ (hs₂.frame rfl rfl)
  exact hs₁.frame rfl rfl

theorem Spares.bells {d} (hs : Spares none s₀ s) : Spares none s₀ (s.bells d) :=
  Spares.foldl hs.noteWaiting fun _ _ hs₁ => hs₁.bellMust

/-! ### A command that Tabqua holds ends (R91) -/

variable {op st r : Nat} {neg : Bool} {out : Option (List Byte)}

theorem atTabqua_held (h : Held s i op) : s.atTabqua i op = true := by
  obtain ⟨⟨t, hw, ht⟩, hp, ho, hl, _⟩ := h
  simp [State.atTabqua, hw, ht, hp, ho, hl]

theorem onTabqua_held (h : Held s i op) (f : State → State) : s.onTabqua i op f = f s :=
  if_pos (atTabqua_held h)

/-- The claim of slate `i` is taken. -/
def claimTaken (s : State) (i : Nat) (c : Claim) : State :=
  s.modSlate i (fun x => { x with st := .claimed, armed := false, claim := some c })

theorem slate_claimTaken (c : Claim) : (claimTaken s i c).slate i =
    { s.slate i with st := .claimed, armed := false, claim := some c } := by
  rw [claimTaken, slate_modSlate, if_pos rfl]

theorem conclude_held (h : Held s i op) (c : Claim) : s.conclude i c = s.claim i c := by
  unfold State.conclude
  dsimp only
  rw [h.own]
  exact if_pos (by simp [Slate.unclaimed, h.live])

/-- Once its claim is taken, the end of a command spares it. -/
theorem spares_finish (h : Held s i op) (hu : Unreplied s i) :
    Spares (some i) (claimTaken s i (s.mkClaim st r neg out)) (s.finish i st r neg out) := by
  obtain ⟨hrep, hwait⟩ := hu
  have hu' : Unreplied (claimTaken s i (s.mkClaim st r neg out)) i := by
    rw [Unreplied, slate_claimTaken]
    exact ⟨hrep, hwait⟩
  rw [State.finish, conclude_held h]
  exact (Spares.refl_some hu').record.leaveWork

theorem claim_finish (h : Held s i op) (hu : Unreplied s i) :
    ((s.finish i st r neg out).slate i).claim = some (s.mkClaim st r neg out) := by
  rw [((spares_finish h hu).slate i rfl).claim, slate_claimTaken]

theorem st_finish (h : Held s i op) (hu : Unreplied s i) : ((s.finish i st r neg out).slate i).st = .claimed := by
  rw [((spares_finish h hu).slate i rfl).st, slate_claimTaken]

theorem dtime_finish (h : Held s i op) (hu : Unreplied s i) : (s.finish i st r neg out).dtime = s.dtime :=
  (spares_finish h hu).dtime

end Sys2Proof.Laws
end

section
/-! SUPPORT. One cycle of the time base (R24 to R26, R92; log entries 1 and 3). -/

namespace Sys2Proof.Laws

open Sys2Proof.Machine Sys2Proof.Safety

variable {s : State} {d h : Nat}

/-! ### The Bell before the cycle -/

/-- What waits is noted with the Houses and the mills, and nowhere else. -/
theorem noteWaiting_eq (s : State) :
    s.noteWaiting = { s with houses := s.noteWaiting.houses, millWaited := s.noteWaiting.millWaited } := by
  unfold State.noteWaiting
  extract_lets s₁
  have h₁ : s₁ = { s with houses := s₁.houses } := by
    refine foldl_keeps (fun u => u = { s with houses := u.houses }) _ (fun u h hu => ?_) _ s rfl
    split
    · exact hu
    · rw [hu]
      rfl
  generalize s₁.houses = l at h₁
  rw [h₁]

/-- A slate that may wait while time advances may wait for a shorter advance. -/
theorem bellLate_mono {e : Nat} (hd : d ≤ e) (hl : s.bellLate h e = false) : s.bellLate h d = false := by
  unfold State.bellLate at hl ⊢
  split at hl
  · simp only [decide_eq_false_iff_not] at hl ⊢
    omega
  · rfl

theorem bellLate_noteWaiting : s.noteWaiting.bellLate h d = s.bellLate h d := by
  rw [noteWaiting_eq]
  rfl

theorem bellMust_of_notLate (hl : s.bellLate h d = false) (n : Nat) : s.bellMust h d n = s := by
  cases n with
  | zero => rfl
  | succ n => exact if_neg (Bool.eq_false_iff.1 hl)

theorem foldl_bellMust_of_notLate {l : List Nat} {n : Nat} (hl : ∀ h ∈ l, s.bellLate h d = false) :
    l.foldl (fun (s : State) h => s.bellMust h d n) s = s := by
  induction l with
  | nil => rfl
  | cons a l ih =>
    rw [List.foldl_cons, bellMust_of_notLate (hl a List.mem_cons_self)]
    exact ih fun h hh => hl h (List.mem_cons_of_mem a hh)

/-- Where every first slate may wait, no issue engine fires. -/
theorem bells_of_notLate (hl : ∀ h, h < 4 → s.bellLate h d = false) : s.bells d = s.noteWaiting :=
  foldl_bellMust_of_notLate fun h hh => bellLate_noteWaiting.trans (hl h (List.mem_range.1 hh))

/-! ### The cycle -/

/-- The time base has counted a cycle. -/
def cycleCounted (s : State) : State := { s with tb := { s.tb with cycles := s.tb.cycles + 1 } }

/-- Device time has advanced by `n` ns. -/
def timeAdvanced (s : State) (n : Nat) (slew : Int) (since : Nat) : State :=
  { s with dtime := s.dtime + n, tb := { s.tb with slew := slew, sinceSlew := since } }

@[simp] theorem dtime_timeAdvanced (n : Nat) (slew : Int) (since : Nat) :
    (timeAdvanced s n slew since).dtime = s.dtime + n := rfl

@[simp] theorem tb_timeAdvanced (n : Nat) (slew : Int) (since : Nat) :
    (timeAdvanced s n slew since).tb = { s.tb with slew := slew, sinceSlew := since } := rfl

/-- A stopped time base stands (R24). -/
theorem tick_stopped (hr : s.timeRuns = false) : s.tick = s := if_pos (by rw [hr]; rfl)

/-- A running one counts the cycle, and slews where a slew is due (R24, R26). -/
theorem tick_running (hr : s.timeRuns = true) : s.tick =
    if 65536 ≤ (cycleCounted s).tb.sinceSlew ∧ (cycleCounted s).tb.slew > 0 then
      timeAdvanced (cycleCounted s) 0 ((cycleCounted s).tb.slew - 4) 1
    else if 65536 ≤ (cycleCounted s).tb.sinceSlew ∧ (cycleCounted s).tb.slew < 0 then
      timeAdvanced ((cycleCounted s).bells 8) 8 (((cycleCounted s).bells 8).tb.slew + 4) 1
    else timeAdvanced ((cycleCounted s).bells 4) 4 ((cycleCounted s).bells 4).tb.slew
      (min (((cycleCounted s).bells 4).tb.sinceSlew + 1) 65536) := by
  unfold State.tick
  rw [if_neg (by simp [hr])]
  extract_lets b s₁ b₁ s₈ b₈ s₄ b₄
  have h₁ : s₁ = cycleCounted s := rfl
  have h₄ : s₄ = s₁.bells 4 := rfl
  have h₈ : s₈ = s₁.bells 8 := rfl
  rw [← h₁, ← h₄, ← h₈]
  clear_value s₄ s₈
  rfl

/-- A cycle that slews back leaves device time. -/
theorem tick_back (hr : s.timeRuns = true) (hw : 65536 ≤ s.tb.sinceSlew) (hs : 0 < s.tb.slew) :
    s.tick = timeAdvanced (cycleCounted s) 0 ((cycleCounted s).tb.slew - 4) 1 := by
  rw [tick_running hr]
  exact if_pos ⟨hw, hs⟩

/-- A cycle that slews forward counts twice. -/
theorem tick_forward (hr : s.timeRuns = true) (hw : 65536 ≤ s.tb.sinceSlew) (hs : s.tb.slew < 0) :
    s.tick = timeAdvanced ((cycleCounted s).bells 8) 8 (((cycleCounted s).bells 8).tb.slew + 4) 1 := by
  have hn : ¬ (65536 ≤ (cycleCounted s).tb.sinceSlew ∧ (cycleCounted s).tb.slew > 0) := fun h => Int.lt_asymm hs h.2
  rw [tick_running hr, if_neg hn]
  exact if_pos ⟨hw, hs⟩

/-- Any other cycle is one of 4 ns. -/
theorem tick_plain (hr : s.timeRuns = true) (hw : s.tb.slew = 0 ∨ s.tb.sinceSlew < 65536) :
    s.tick = timeAdvanced ((cycleCounted s).bells 4) 4 ((cycleCounted s).bells 4).tb.slew
      (min (((cycleCounted s).bells 4).tb.sinceSlew + 1) 65536) := by
  have hn : ¬ (65536 ≤ (cycleCounted s).tb.sinceSlew ∧ (cycleCounted s).tb.slew > 0) := by
    simp only [cycleCounted]
    omega
  have hm : ¬ (65536 ≤ (cycleCounted s).tb.sinceSlew ∧ (cycleCounted s).tb.slew < 0) := by
    simp only [cycleCounted]
    omega
  rw [tick_running hr, if_neg hn, if_neg hm]

theorem spares_bells_cycleCounted : Spares none (cycleCounted s) ((cycleCounted s).bells d) :=
  (Spares.refl_none _).bells

/-- Device time and the time base after each kind of cycle. -/
theorem time_tick_plain (hr : s.timeRuns = true) (hw : s.tb.slew = 0 ∨ s.tb.sinceSlew < 65536) :
    s.tick.dtime = s.dtime + 4 ∧ s.tick.tb.cycles = s.tb.cycles + 1 := by
  rw [tick_plain hr hw, dtime_timeAdvanced, tb_timeAdvanced, spares_bells_cycleCounted.dtime,
    spares_bells_cycleCounted.tb]
  exact ⟨rfl, rfl⟩

theorem time_tick_forward (hr : s.timeRuns = true) (hw : 65536 ≤ s.tb.sinceSlew) (hs : s.tb.slew < 0) :
    s.tick.dtime = s.dtime + 8 ∧
      s.tick.tb = { s.tb with cycles := s.tb.cycles + 1, slew := s.tb.slew + 4, sinceSlew := 1 } := by
  rw [tick_forward hr hw hs, dtime_timeAdvanced, tb_timeAdvanced, spares_bells_cycleCounted.dtime,
    spares_bells_cycleCounted.tb]
  exact ⟨rfl, rfl⟩

theorem time_tick_back (hr : s.timeRuns = true) (hw : 65536 ≤ s.tb.sinceSlew) (hs : 0 < s.tb.slew) :
    s.tick.dtime = s.dtime ∧
      s.tick.tb = { s.tb with cycles := s.tb.cycles + 1, slew := s.tb.slew - 4, sinceSlew := 1 } := by
  rw [tick_back hr hw hs]
  exact ⟨rfl, rfl⟩

/-- What a running time base does in one cycle: it counts, and device time does not go back (R25). -/
theorem tick_advances (hr : s.timeRuns = true) :
    s.dtime ≤ s.tick.dtime ∧ s.tick.tb.cycles = s.tb.cycles + 1 := by
  by_cases hp : s.tb.slew = 0 ∨ s.tb.sinceSlew < 65536
  · obtain ⟨h1, h2⟩ := time_tick_plain hr hp
    exact ⟨by omega, h2⟩
  · rcases Int.lt_or_gt_of_ne (fun h => hp (.inl h)) with hs | hs
    · obtain ⟨h1, h2⟩ := time_tick_forward hr (by omega) hs
      exact ⟨by omega, by rw [h2]⟩
    · obtain ⟨h1, h2⟩ := time_tick_back hr (by omega) hs
      exact ⟨by omega, by rw [h2]⟩

/-! ### What the cycle leaves -/

/-- Nothing of the part has moved but time and what the Bell notes. -/
structure Undisturbed (s t : State) : Prop where
  mem : t.mem = s.mem
  regs : t.regs = s.regs
  slates : t.slates = s.slates
  tillers : t.tillers = s.tillers
  out : t.out = s.out
  picks : t.picks = s.picks

theorem Undisturbed.timeAdvanced {t : State} {n : Nat} {slew : Int} {since : Nat} (h : Undisturbed s t) :
    Undisturbed s (timeAdvanced t n slew since) := ⟨h.mem, h.regs, h.slates, h.tillers, h.out, h.picks⟩

theorem undisturbed_cycleCounted (s : State) : Undisturbed s (cycleCounted s) := ⟨rfl, rfl, rfl, rfl, rfl, rfl⟩

theorem undisturbed_bells_cycleCounted (hd : d ≤ 8) (hl : ∀ h, h < 4 → s.bellLate h 8 = false) :
    Undisturbed s ((cycleCounted s).bells d) := by
  have hq : ∀ h, h < 4 → (cycleCounted s).bellLate h d = false := fun h hh => bellLate_mono hd (hl h hh)
  rw [bells_of_notLate hq, noteWaiting_eq]
  exact ⟨rfl, rfl, rfl, rfl, rfl, rfl⟩

theorem undisturbed_tick (hr : s.timeRuns = true) (hl : ∀ h, h < 4 → s.bellLate h 8 = false) :
    Undisturbed s s.tick := by
  by_cases hp : s.tb.slew = 0 ∨ s.tb.sinceSlew < 65536
  · rw [tick_plain hr hp]
    exact (undisturbed_bells_cycleCounted (by decide) hl).timeAdvanced
  · rcases Int.lt_or_gt_of_ne (fun h => hp (.inl h)) with hs | hs
    · rw [tick_forward hr (by omega) hs]
      exact (undisturbed_bells_cycleCounted (by decide) hl).timeAdvanced
    · rw [tick_back hr (by omega) hs]
      exact (undisturbed_cycleCounted s).timeAdvanced

/-- Settles O59, by the three kinds of cycle and the time base that stands. -/
theorem idleStepIsATick : Obligations.IdleStepIsATick := by
  intro s hq
  have hstep : step s = .next s.tick := by
    unfold step
    rw [hq]
  by_cases hr : s.timeRuns = true
  · refine ⟨s.tick, hstep, (tick_advances hr).1, (Keeps.refl s).tick.pending.trans hq, fun hl => ?_, tick_stopped,
      fun _ => (tick_advances hr).2, fun _ hw => (time_tick_plain hr hw).1, fun _ hw hs => ?_, fun _ hw hs => ?_⟩
    · obtain ⟨hmem, hregs, hslates, htillers, hout, hpicks⟩ := undisturbed_tick hr hl
      exact ⟨hmem, hregs, hslates, htillers, hout, hpicks⟩
    · obtain ⟨hd, ht⟩ := time_tick_back hr hw hs
      exact ⟨hd, by rw [ht], by rw [ht]⟩
    · obtain ⟨hd, ht⟩ := time_tick_forward hr hw hs
      exact ⟨hd, by rw [ht], by rw [ht]⟩
  · rw [tick_stopped (Bool.eq_false_iff.2 hr)] at hstep
    exact ⟨s, hstep, Nat.le_refl _, hq, fun _ => ⟨rfl, rfl, rfl, rfl, rfl, rfl⟩, fun _ => rfl, fun h => absurd h hr,
      fun h => absurd h hr, fun h => absurd h hr, fun h => absurd h hr⟩

end Sys2Proof.Laws
end

section
/-! SUPPORT. Fields of registers after a write of another field, the time base put beside the state, and what the
events of the time base leave alone. -/

namespace Sys2Proof.Laws

open Sys2Proof.Machine Sys2Proof.Safety

variable {s t u : State} {a b n : Nat} {f g : Fld} {v w : Bool} {e : Int}

/-! ### Fields (R4) -/

/-- A field of the same register that lies beside the written one. -/
theorem fld_setFld_disjoint (hf : f.lo + f.w ≤ 64) (h : f.lo + f.w ≤ g.lo ∨ g.lo + g.w ≤ f.lo) :
    (s.setFld a g n).fld a f = s.fld a f := by
  rw [State.fld, rd_setFld, if_pos rfl]
  exact get_set_disjoint f g h _ _ hf

theorem flag_setFld_disjoint (hf : f.lo + f.w ≤ 64) (h : f.lo + f.w ≤ g.lo ∨ g.lo + g.w ≤ f.lo) :
    (s.setFld a g n).flag a f = s.flag a f := by
  rw [State.flag, fld_setFld_disjoint hf h]
  rfl

theorem fld_setFlag_disjoint (hf : f.lo + f.w ≤ 64) (h : f.lo + f.w ≤ g.lo ∨ g.lo + g.w ≤ f.lo) :
    (s.setFlag a g v).fld a f = s.fld a f := fld_setFld_disjoint hf h

theorem flag_setFlag_disjoint (hf : f.lo + f.w ≤ 64) (h : f.lo + f.w ≤ g.lo ∨ g.lo + g.w ≤ f.lo) :
    (s.setFlag a g v).flag a f = s.flag a f := flag_setFld_disjoint hf h

theorem fld_setFlag_ne (hb : b ≠ a) : (s.setFlag a g v).fld b f = s.fld b f := fld_setFld_ne s a b g f _ hb
theorem flag_setFlag_ne (hb : b ≠ a) : (s.setFlag a g v).flag b f = s.flag b f := flag_setFld_ne a b g f _ hb

/-- A value that fits its field is read back whole. -/
theorem fld_setFld_fits (hf : f.lo + f.w ≤ 64) (hn : n < 2 ^ f.w) : (s.setFld a f n).fld a f = n := by
  rw [fld_setFld_same s a f hf, Nat.mod_eq_of_lt hn]

/-! ### The time base -/

/-- The state with another time base. -/
def withTb (s : State) (x : TimeBase) : State := { s with tb := x }

@[simp] theorem tb_withTb (x : TimeBase) : (withTb s x).tb = x := rfl
@[simp] theorem dtime_withTb (x : TimeBase) : (withTb s x).dtime = s.dtime := rfl
@[simp] theorem rd_withTb (x : TimeBase) : (withTb s x).rd a = s.rd a := rfl
@[simp] theorem fld_withTb (x : TimeBase) : (withTb s x).fld a f = s.fld a f := rfl
@[simp] theorem flag_withTb (x : TimeBase) : (withTb s x).flag a f = s.flag a f := rfl

/-- The cycles, TIME_STAT and what the time base keeps of PPS and TIME_SET may have changed, and nothing else. -/
structure TimeOnly (s t : State) : Prop where
  rest : t = { s with regs := t.regs, tb := t.tb }
  rd : ∀ a, a ≠ Reg.timeStat → t.rd a = s.rd a
  cycles : t.tb.cycles = s.tb.cycles

theorem TimeOnly.refl (s : State) : TimeOnly s s := ⟨rfl, fun _ _ => rfl, rfl⟩

theorem TimeOnly.trans (h : TimeOnly s t) (k : TimeOnly t u) : TimeOnly s u where
  rest := by rw [k.rest, h.rest]
  rd a ha := (k.rd a ha).trans (h.rd a ha)
  cycles := k.cycles.trans h.cycles

theorem TimeOnly.dtime (h : TimeOnly s t) : t.dtime = s.dtime := by rw [h.rest]
theorem TimeOnly.mem (h : TimeOnly s t) : t.mem = s.mem := by rw [h.rest]
theorem TimeOnly.slates (h : TimeOnly s t) : t.slates = s.slates := by rw [h.rest]
theorem TimeOnly.tillers (h : TimeOnly s t) : t.tillers = s.tillers := by rw [h.rest]
theorem TimeOnly.uptime (h : TimeOnly s t) : t.uptime = s.uptime := by rw [State.uptime, h.cycles, State.uptime]

theorem TimeOnly.setFld (h : TimeOnly s t) : TimeOnly s (t.setFld Reg.timeStat f n) :=
  h.trans ⟨rfl, fun a ha => by rw [rd_setFld, if_neg ha], rfl⟩

theorem TimeOnly.setFlag (h : TimeOnly s t) : TimeOnly s (t.setFlag Reg.timeStat f v) := h.setFld

theorem TimeOnly.withTb {x : TimeBase} (h : TimeOnly s t) (hx : x.cycles = t.tb.cycles) :
    TimeOnly s (withTb t x) := h.trans ⟨rfl, fun _ _ => rfl, hx⟩

/-! ### TIME_SET that waits (R30) -/

theorem lapse_eq (s : State) : s.lapse = ((withTb s { s.tb with pendSet := none }).setFlag Reg.timeStat
    F.TimeStat.setPending false).setFlag Reg.timeStat F.TimeStat.setLapsed true := rfl

theorem timeOnly_lapse (s : State) : TimeOnly s s.lapse := by
  rw [lapse_eq]
  exact (TimeOnly.withTb (.refl s) (by rfl)).setFlag.setFlag

theorem setPending_lapse (s : State) : s.lapse.flag Reg.timeStat F.TimeStat.setPending = false := by
  rw [lapse_eq, flag_setFlag_disjoint (by decide) (by decide), flag_setFlag_same _ _ (by decide) rfl]

theorem setLapsed_lapse (s : State) : s.lapse.flag Reg.timeStat F.TimeStat.setLapsed = true :=
  flag_setFlag_same _ _ (by decide) rfl _

theorem setExpire_none (h : s.tb.pendSet = none) : s.setExpire = s := by
  unfold State.setExpire
  rw [h]

theorem setExpire_due {v c : Nat} (h : s.tb.pendSet = some (v, c)) (hc : c + 1500000000 ≤ s.uptime) :
    s.setExpire = s.lapse := by
  unfold State.setExpire
  rw [h]
  exact if_pos hc

theorem setExpire_early {v c : Nat} (h : s.tb.pendSet = some (v, c)) (hc : s.uptime < c + 1500000000) :
    s.setExpire = s := by
  unfold State.setExpire
  rw [h]
  exact if_neg (Nat.not_le.2 hc)

theorem timeOnly_setExpire (s : State) : TimeOnly s s.setExpire := by
  unfold State.setExpire
  split
  · split
    · exact timeOnly_lapse s
    · exact .refl s
  · exact .refl s

/-! ### An edge that is missed (R27) -/

theorem edgeMiss_due {l : Nat} (hr : s.timeRuns = true) (he : s.tb.lastEdge = some l)
    (hl : l + 1500000000 ≤ s.uptime) :
    s.edgeMiss = withTb ((s.setFlag Reg.timeStat F.TimeStat.ppsLock false).setFlag Reg.timeStat F.TimeStat.ppsMiss true)
      { s.tb with good := 0, lastEdge := none } := by
  unfold State.edgeMiss
  rw [he]
  exact if_pos (by simp [hr, hl])

theorem edgeMiss_early (hl : ∀ l, s.tb.lastEdge = some l → s.uptime < l + 1500000000) : s.edgeMiss = s := by
  unfold State.edgeMiss
  split
  · next l he =>
    refine if_neg fun hc => ?_
    simp only [Bool.and_eq_true, decide_eq_true_eq] at hc
    exact Nat.not_le.2 (hl l he) hc.2
  · rfl

theorem timeOnly_edgeMiss (s : State) : TimeOnly s s.edgeMiss := by
  unfold State.edgeMiss
  split
  · split
    · exact TimeOnly.withTb (TimeOnly.refl s).setFlag.setFlag rfl
    · exact .refl s
  · exact .refl s

theorem pendSet_edgeMiss (s : State) : s.edgeMiss.tb.pendSet = s.tb.pendSet := by
  unfold State.edgeMiss
  split
  · split
    · rfl
    · rfl
  · rfl

/-! ### The phase error (R26, R27) -/

/-- The register after a phase error of at most 50 ns, of at most 1,000 ns, and beyond. -/
theorem recordPhase_near (he : e.natAbs ≤ 50) : s.recordPhase e =
    withTb (if min (s.tb.good + 1) 4 = 4 then
        (s.setFld Reg.timeStat F.TimeStat.phaseErr (satSigned 32 e)).setFlag Reg.timeStat F.TimeStat.ppsLock true
      else s.setFld Reg.timeStat F.TimeStat.phaseErr (satSigned 32 e))
      { s.tb with good := min (s.tb.good + 1) 4, slew := e } := by
  have hfar : ¬ 1000 < e.natAbs := by omega
  simp only [State.recordPhase, he, hfar, decide_true, decide_false, if_true, Bool.not_true, Bool.false_eq_true, if_false]
  split <;> rfl

theorem recordPhase_off (he : 50 < e.natAbs) (hf : e.natAbs ≤ 1000) : s.recordPhase e =
    withTb ((s.setFld Reg.timeStat F.TimeStat.phaseErr (satSigned 32 e)).setFlag Reg.timeStat F.TimeStat.ppsLock false)
      { s.tb with good := 0, slew := e } := by
  have hnear : ¬ e.natAbs ≤ 50 := by omega
  have hfar : ¬ 1000 < e.natAbs := by omega
  simp only [State.recordPhase, hnear, hfar, decide_false, Bool.false_eq_true, if_false, Bool.not_false, if_true]
  rfl

theorem recordPhase_far (hf : 1000 < e.natAbs) : s.recordPhase e =
    withTb (((s.setFld Reg.timeStat F.TimeStat.phaseErr (satSigned 32 e)).setFlag Reg.timeStat F.TimeStat.ppsFar
      true).setFlag Reg.timeStat F.TimeStat.ppsLock false) { s.tb with good := 0, slew := 0 } := by
  have hnear : ¬ e.natAbs ≤ 50 := by omega
  simp only [State.recordPhase, hnear, hf, decide_false, Bool.false_eq_true, if_false, Bool.not_false, if_true, decide_true]
  rfl

theorem phase_range (e : Int) : e.natAbs ≤ 50 ∨ (50 < e.natAbs ∧ e.natAbs ≤ 1000) ∨ 1000 < e.natAbs := by omega

theorem satSigned_lt (n : Nat) (z : Int) : satSigned n z < 2 ^ n := by
  have hp : (0 : Int) < 2 ^ n := by positivity
  unfold satSigned
  extract_lets m c
  have h1 := Int.emod_lt_of_pos c hp
  have h2 := Int.emod_nonneg c hp.ne'
  zify
  rwa [Int.toNat_of_nonneg h2]

theorem timeOnly_recordPhase (s : State) (e : Int) : TimeOnly s (s.recordPhase e) := by
  rcases phase_range e with h | ⟨h, h'⟩ | h
  · rw [recordPhase_near h]
    split
    · exact TimeOnly.withTb (TimeOnly.refl s).setFld.setFlag rfl
    · exact TimeOnly.withTb (TimeOnly.refl s).setFld rfl
  · rw [recordPhase_off h h']
    exact TimeOnly.withTb (TimeOnly.refl s).setFld.setFlag rfl
  · rw [recordPhase_far h]
    exact TimeOnly.withTb (TimeOnly.refl s).setFld.setFlag.setFlag rfl

theorem pendSet_recordPhase (s : State) (e : Int) : (s.recordPhase e).tb.pendSet = s.tb.pendSet := by
  rcases phase_range e with h | ⟨h, h'⟩ | h
  · rw [recordPhase_near h]
    rfl
  · rw [recordPhase_off h h']
    rfl
  · rw [recordPhase_far h]
    rfl

theorem slew_recordPhase (s : State) (e : Int) :
    (s.recordPhase e).tb.slew = if 1000 < e.natAbs then 0 else e := by
  rcases phase_range e with h | ⟨h, h'⟩ | h
  · rw [recordPhase_near h, tb_withTb, if_neg (by omega)]
  · rw [recordPhase_off h h', tb_withTb, if_neg (by omega)]
  · rw [recordPhase_far h, tb_withTb, if_pos h]

theorem phaseErr_recordPhase (s : State) (e : Int) :
    (s.recordPhase e).fld Reg.timeStat F.TimeStat.phaseErr = satSigned 32 e := by
  have hs : (s.setFld Reg.timeStat F.TimeStat.phaseErr (satSigned 32 e)).fld Reg.timeStat F.TimeStat.phaseErr =
      satSigned 32 e := fld_setFld_fits (by decide) (satSigned_lt 32 e)
  rcases phase_range e with h | ⟨h, h'⟩ | h
  · rw [recordPhase_near h, fld_withTb]
    split
    · rwa [fld_setFlag_disjoint (by decide) (by decide)]
    · exact hs
  · rwa [recordPhase_off h h', fld_withTb, fld_setFlag_disjoint (by decide) (by decide)]
  · rwa [recordPhase_far h, fld_withTb, fld_setFlag_disjoint (by decide) (by decide),
      fld_setFlag_disjoint (by decide) (by decide)]

theorem ppsFar_recordPhase (h : 1000 < e.natAbs) :
    (s.recordPhase e).flag Reg.timeStat F.TimeStat.ppsFar = true := by
  rw [recordPhase_far h, flag_withTb, flag_setFlag_disjoint (by decide) (by decide),
    flag_setFlag_same _ _ (by decide) rfl]

theorem ppsLock_recordPhase_off (h : 50 < e.natAbs) :
    (s.recordPhase e).flag Reg.timeStat F.TimeStat.ppsLock = false := by
  by_cases hf : e.natAbs ≤ 1000
  · rw [recordPhase_off h hf, flag_withTb, flag_setFlag_same _ _ (by decide) rfl]
  · rw [recordPhase_far (by omega), flag_withTb, flag_setFlag_same _ _ (by decide) rfl]

/-- The fourth edge in a row within 50 ns locks (R27). -/
theorem ppsLock_recordPhase_fourth (h : e.natAbs ≤ 50) (hg : 3 ≤ s.tb.good) :
    (s.recordPhase e).flag Reg.timeStat F.TimeStat.ppsLock = true := by
  rw [recordPhase_near h, if_pos (by omega), flag_withTb, flag_setFlag_same _ _ (by decide) rfl]

/-- Before it, a lost lock stays lost. -/
theorem ppsLock_recordPhase_lost (hg : s.tb.good < 3) (hl : s.flag Reg.timeStat F.TimeStat.ppsLock = false) :
    (s.recordPhase e).flag Reg.timeStat F.TimeStat.ppsLock = false := by
  by_cases h : e.natAbs ≤ 50
  · rw [recordPhase_near h, if_neg (by omega), flag_withTb, flag_setFld_disjoint (by decide) (by decide), hl]
  · exact ppsLock_recordPhase_off (by omega)

/-- The flags below PHASE_ERR that are neither PPS_LOCK nor PPS_FAR stay as they are. -/
theorem flag_recordPhase (s : State) (e : Int) (f : Fld) (hf : f.lo + f.w ≤ 32)
    (hl : f.lo + f.w ≤ F.TimeStat.ppsLock.lo ∨ F.TimeStat.ppsLock.lo + F.TimeStat.ppsLock.w ≤ f.lo)
    (hp : f.lo + f.w ≤ F.TimeStat.ppsFar.lo ∨ F.TimeStat.ppsFar.lo + F.TimeStat.ppsFar.w ≤ f.lo) :
    (s.recordPhase e).flag Reg.timeStat f = s.flag Reg.timeStat f := by
  have h64 : f.lo + f.w ≤ 64 := by omega
  have hs : (s.setFld Reg.timeStat F.TimeStat.phaseErr (satSigned 32 e)).flag Reg.timeStat f =
      s.flag Reg.timeStat f := flag_setFld_disjoint h64 (.inl hf)
  rcases phase_range e with h | ⟨h, h'⟩ | h
  · rw [recordPhase_near h, flag_withTb]
    split
    · rwa [flag_setFlag_disjoint h64 hl]
    · exact hs
  · rwa [recordPhase_off h h', flag_withTb, flag_setFlag_disjoint h64 hl]
  · rwa [recordPhase_far h, flag_withTb, flag_setFlag_disjoint h64 hl, flag_setFlag_disjoint h64 hp]

/-! ### An edge of PPS_IN -/

/-- What an edge does to a pending TIME_SET (R30). -/
def atEdge (s : State) : State :=
  match s.tb.pendSet with
  | some (v, _) => if v < s.dtime then s.lapse else s.loadPending v
  | none => s

theorem atEdge_none (h : s.tb.pendSet = none) : atEdge s = s := by
  unfold atEdge
  rw [h]

theorem atEdge_past {v c : Nat} (h : s.tb.pendSet = some (v, c)) (hv : v < s.dtime) : atEdge s = s.lapse := by
  unfold atEdge
  rw [h]
  exact if_pos hv

theorem atEdge_load {v c : Nat} (h : s.tb.pendSet = some (v, c)) (hv : s.dtime ≤ v) :
    atEdge s = s.loadPending v := by
  unfold atEdge
  rw [h]
  exact if_neg (Nat.not_lt.2 hv)

/-- The time of an edge is noted (R27). -/
def edgeNoted (s : State) : State := withTb s { s.tb with lastEdge := some s.uptime }

theorem pendSet_edgeNoted (s : State) : (edgeNoted s).tb.pendSet = s.tb.pendSet := rfl
theorem slew_edgeNoted (s : State) : (edgeNoted s).tb.slew = s.tb.slew := rfl
theorem lastEdge_edgeNoted (s : State) : (edgeNoted s).tb.lastEdge = some s.uptime := rfl
theorem dtime_edgeNoted (s : State) : (edgeNoted s).dtime = s.dtime := rfl
theorem mem_edgeNoted (s : State) : (edgeNoted s).mem = s.mem := rfl
theorem tiller_edgeNoted (s : State) (i : Nat) : (edgeNoted s).tiller i = s.tiller i := rfl
theorem flag_edgeNoted (s : State) (a : Nat) (f : Fld) : (edgeNoted s).flag a f = s.flag a f := rfl
theorem fld_edgeNoted (s : State) (a : Nat) (f : Fld) : (edgeNoted s).fld a f = s.fld a f := rfl

theorem TimeOnly.edgeNoted (h : TimeOnly s t) : TimeOnly s (edgeNoted t) := h.withTb rfl

theorem exec_ppsInEdge (hr : s.timeRuns = true) (hen : s.flag Reg.timeCtl F.TimeCtl.ppsInEn = true) :
    exec .ppsInEdge s = .next (edgeNoted (atEdge (s.edgeMiss.setExpire.recordPhase (phaseError s.dtime)))) := by
  show execPpsInEdge s = _
  unfold execPpsInEdge
  rw [if_pos (by rw [hr, hen]; rfl)]
  generalize s.edgeMiss.setExpire.recordPhase (phaseError s.dtime) = u
  rcases hp : u.tb.pendSet with _ | ⟨v, c⟩
  · simp only [hp, atEdge_none hp, edgeNoted, withTb]
  · by_cases hv : v < u.dtime
    · simp only [hp, if_pos hv, atEdge_past hp hv, edgeNoted, withTb]
    · simp only [hp, if_neg hv, atEdge_load hp (Nat.not_lt.1 hv), edgeNoted, withTb]

/-- Without a pending TIME_SET an edge records its phase error, after the miss. -/
theorem exec_ppsInEdge_alone (hr : s.timeRuns = true) (hen : s.flag Reg.timeCtl F.TimeCtl.ppsInEn = true)
    (hp : s.tb.pendSet = none) :
    exec .ppsInEdge s = .next (edgeNoted (s.edgeMiss.recordPhase (phaseError s.dtime))) := by
  have hm : s.edgeMiss.tb.pendSet = none := (pendSet_edgeMiss s).trans hp
  rw [exec_ppsInEdge hr hen, setExpire_none hm, atEdge_none ((pendSet_recordPhase _ _).trans hm)]

/-- What comes before a pending TIME_SET is looked at. -/
theorem timeOnly_beforeEdge (s : State) (e : Int) : TimeOnly s (s.edgeMiss.setExpire.recordPhase e) :=
  ((timeOnly_edgeMiss s).trans (timeOnly_setExpire _)).trans (timeOnly_recordPhase _ _)

/-- A pending value that is still in time is there when the edge comes. -/
theorem pendSet_beforeEdge {v c : Nat} (hp : s.tb.pendSet = some (v, c)) (hc : s.uptime < c + 1500000000) (e : Int) :
    (s.edgeMiss.setExpire.recordPhase e).tb.pendSet = some (v, c) := by
  have hm : s.edgeMiss.tb.pendSet = some (v, c) := (pendSet_edgeMiss s).trans hp
  rw [setExpire_early hm ((timeOnly_edgeMiss s).uptime ▸ hc), pendSet_recordPhase, hm]

/-! ### Loading a pending TIME_SET (R30) -/

/-- Device time after a step is sensed. -/
theorem dtime_sense (s : State) : s.sense.dtime = s.dtime := by rw [(onlySensed_sense s).rest]

theorem loadPending_eq (s : State) (v : Nat) : s.loadPending v =
    withTb ((s.timeStep v).sense.setFlag Reg.timeStat F.TimeStat.setPending false)
      { (s.timeStep v).sense.tb with pendSet := none, slew := 0 } := rfl

theorem dtime_loadPending (s : State) (v : Nat) : (s.loadPending v).dtime = v := by
  rw [loadPending_eq, dtime_withTb, dtime_setFlag, dtime_sense]
  rfl

theorem pendSet_loadPending (s : State) (v : Nat) : (s.loadPending v).tb.pendSet = none := rfl
theorem slew_loadPending (s : State) (v : Nat) : (s.loadPending v).tb.slew = 0 := rfl

theorem mem_loadPending (s : State) (v : Nat) : (s.loadPending v).mem = s.mem := (onlySensed_sense (s.timeStep v)).mem

theorem setPending_loadPending (s : State) (v : Nat) :
    (s.loadPending v).flag Reg.timeStat F.TimeStat.setPending = false := by
  rw [loadPending_eq, flag_withTb, flag_setFlag_same _ _ (by decide) rfl]

theorem tillers_loadPending (s : State) (v : Nat) : TillersButEmpty s (s.loadPending v) :=
  (onlySensed_sense (s.timeStep v)).tillers

theorem tillers_beforeEdge (s : State) (e : Int) :
    TillersButEmpty s (s.edgeMiss.setExpire.recordPhase e) := fun i => by
  have hi : (s.edgeMiss.setExpire.recordPhase e).tiller i = s.tiller i := by
    rw [State.tiller, (timeOnly_beforeEdge s e).tillers]
    rfl
  rw [hi]
  exact sameButEmpty_refl _

/-- A pending value in time, and not before the present, is loaded. -/
theorem exec_ppsInEdge_loads {v c : Nat} (hr : s.timeRuns = true)
    (hen : s.flag Reg.timeCtl F.TimeCtl.ppsInEn = true) (hp : s.tb.pendSet = some (v, c))
    (hc : s.uptime < c + 1500000000) (hv : s.dtime ≤ v) : exec .ppsInEdge s =
      .next (edgeNoted ((s.edgeMiss.setExpire.recordPhase (phaseError s.dtime)).loadPending v)) := by
  have hd : (s.edgeMiss.setExpire.recordPhase (phaseError s.dtime)).dtime ≤ v := by
    rwa [(timeOnly_beforeEdge s _).dtime]
  rw [exec_ppsInEdge hr hen, atEdge_load (pendSet_beforeEdge hp hc _) hd]

/-- One that is before the present, or whose 1.5 s have passed, lapses. -/
theorem exec_ppsInEdge_lapses {v c : Nat} (hr : s.timeRuns = true)
    (hen : s.flag Reg.timeCtl F.TimeCtl.ppsInEn = true) (hp : s.tb.pendSet = some (v, c))
    (hpast : v < s.dtime ∨ c + 1500000000 ≤ s.uptime) : ∃ u, exec .ppsInEdge s = .next (edgeNoted u) ∧
      TimeOnly s u ∧ u.tb.pendSet = none ∧ u.flag Reg.timeStat F.TimeStat.setPending = false ∧
      u.flag Reg.timeStat F.TimeStat.setLapsed = true := by
  have hall := timeOnly_beforeEdge s (phaseError s.dtime)
  have hm : s.edgeMiss.tb.pendSet = some (v, c) := (pendSet_edgeMiss s).trans hp
  by_cases hc : s.uptime < c + 1500000000
  · have hv : (s.edgeMiss.setExpire.recordPhase (phaseError s.dtime)).dtime > v := by
      rw [hall.dtime]
      omega
    refine ⟨_, ?_, hall.trans (timeOnly_lapse _), rfl, setPending_lapse _, setLapsed_lapse _⟩
    rw [exec_ppsInEdge hr hen, atEdge_past (pendSet_beforeEdge hp hc _) hv]
  · have hset : s.edgeMiss.setExpire = s.edgeMiss.lapse := setExpire_due hm (by
      rw [(timeOnly_edgeMiss s).uptime]
      omega)
    have hnone : (s.edgeMiss.setExpire.recordPhase (phaseError s.dtime)).tb.pendSet = none := by
      rw [pendSet_recordPhase, hset]
      rfl
    refine ⟨_, ?_, hall, hnone, ?_, ?_⟩
    · rw [exec_ppsInEdge hr hen, atEdge_none hnone]
    · rw [flag_recordPhase _ _ _ (by decide) (by decide) (by decide), hset]
      exact setPending_lapse _
    · rw [flag_recordPhase _ _ _ (by decide) (by decide) (by decide), hset]
      exact setLapsed_lapse _

/-- After a miss the lock is lost, and its count of good edges starts again. -/
theorem edgeMiss_due_flags {l : Nat} (hr : s.timeRuns = true) (he : s.tb.lastEdge = some l)
    (hl : l + 1500000000 ≤ s.uptime) : s.edgeMiss.flag Reg.timeStat F.TimeStat.ppsMiss = true ∧
      s.edgeMiss.flag Reg.timeStat F.TimeStat.ppsLock = false ∧ s.edgeMiss.tb.good = 0 ∧
      s.edgeMiss.tb.lastEdge = none := by
  rw [edgeMiss_due hr he hl]
  refine ⟨?_, ?_, rfl, rfl⟩
  · rw [flag_withTb, flag_setFlag_same _ _ (by decide) rfl]
  · rw [flag_withTb, flag_setFlag_disjoint (by decide) (by decide), flag_setFlag_same _ _ (by decide) rfl]

/-- Without a pending TIME_SET, and without a miss. -/
theorem ppsInEdge_alone (hr : s.timeRuns = true) (hen : s.flag Reg.timeCtl F.TimeCtl.ppsInEn = true)
    (hp : s.tb.pendSet = none) (hl : ∀ l, s.tb.lastEdge = some l → s.uptime < l + 1500000000) :
    exec .ppsInEdge s = .next (edgeNoted (s.recordPhase (phaseError s.dtime))) := by
  rw [exec_ppsInEdge_alone hr hen hp, edgeMiss_early hl]

theorem ppsEdges : PpsEdges := by
  intro s hr hen e
  refine ⟨fun hp hl => ?_, fun l hp hl hdue => ?_, fun v c hp hc hv => ?_, fun v c hp hpast => ?_⟩
  · have ho := (timeOnly_recordPhase s e).edgeNoted
    refine ⟨_, ppsInEdge_alone hr hen hp hl, ?_, ho.dtime, ?_, ?_, fun h => ?_, fun h => ?_, fun h hg => ?_, ?_, ho.rd,
      ho.slates, ho.mem⟩
    · rw [fld_edgeNoted, phaseErr_recordPhase]
    · rw [slew_edgeNoted, slew_recordPhase]
    · rw [lastEdge_edgeNoted, (timeOnly_recordPhase s _).uptime]
    · rw [flag_edgeNoted, ppsFar_recordPhase h]
    · rw [flag_edgeNoted, ppsLock_recordPhase_off h]
    · rw [flag_edgeNoted, ppsLock_recordPhase_fourth h hg]
    · rw [flag_edgeNoted, flag_recordPhase _ _ _ (by decide) (by decide) (by decide)]
  · have ho := (timeOnly_edgeMiss s).trans (timeOnly_recordPhase s.edgeMiss e)
    obtain ⟨hmiss, hlock, hgood, -⟩ := edgeMiss_due_flags hr hl hdue
    refine ⟨_, exec_ppsInEdge_alone hr hen hp, ?_, ?_, ?_, ho.edgeNoted.dtime, ?_⟩
    · rw [flag_edgeNoted, flag_recordPhase _ _ _ (by decide) (by decide) (by decide), hmiss]
    · rw [flag_edgeNoted, ppsLock_recordPhase_lost (by omega) hlock]
    · rw [lastEdge_edgeNoted, ho.uptime]
    · rw [fld_edgeNoted, phaseErr_recordPhase]
  · refine ⟨_, exec_ppsInEdge_loads hr hen hp hc hv, ?_, ?_, ?_, ?_, ?_, fun i => ?_⟩
    · rw [dtime_edgeNoted, dtime_loadPending]
    · rw [pendSet_edgeNoted, pendSet_loadPending]
    · rw [slew_edgeNoted, slew_loadPending]
    · rw [flag_edgeNoted, setPending_loadPending]
    · rw [mem_edgeNoted, mem_loadPending, (timeOnly_beforeEdge s _).mem]
    · rw [tiller_edgeNoted]
      exact sameButEmpty_trans (tillers_beforeEdge s _ i) (tillers_loadPending _ v i)
  · obtain ⟨u, hx, ho, hnone, hpend, hlapsed⟩ := exec_ppsInEdge_lapses hr hen hp hpast
    have hn := ho.edgeNoted
    exact ⟨_, hx, hn.dtime, hnone, hpend, hlapsed, hn.slates, hn.mem⟩

end Sys2Proof.Laws
end

section
/-! SUPPORT. The time limits of PPS and TIME_SET, PPS_OUT, TREF and the junction temperature (R23, R27 to R30). -/

namespace Sys2Proof.Laws

open Sys2Proof.Machine Sys2Proof.Safety

variable {s t : State} {a : Nat} {f : Fld}

theorem ppsTimeouts : PpsTimeouts := by
  intro s
  refine ⟨fun l hr he => ⟨fun hl => ?_, fun hl => ?_⟩, fun v c hp => ⟨fun hc => ?_, fun hc => ?_⟩⟩
  · have ho := timeOnly_edgeMiss s
    obtain ⟨hmiss, hlock, -, hedge⟩ := edgeMiss_due_flags hr he hl
    exact ⟨_, rfl, hlock, hmiss, hedge, ho.dtime, ho.rd⟩
  · have hm : s.edgeMiss = s := edgeMiss_early fun k hk => by
      rw [he] at hk
      cases hk
      exact hl
    exact congrArg Host.Outcome.next hm
  · have ho := timeOnly_lapse s
    exact ⟨_, congrArg Host.Outcome.next (setExpire_due hp hc), rfl, setPending_lapse s, setLapsed_lapse s, ho.dtime,
      ho.rd⟩
  · exact congrArg Host.Outcome.next (setExpire_early hp hc)

/-! ### PPS_OUT (R29) -/

theorem ppsOut : PpsOut := by
  intro s pol
  refine ⟨fun hr hen ho hnear hstop hlast => ?_, fun ho hw => ?_, fun hw => ?_⟩
  · have hc : (s.dtime % second ≤ 8 ∨ second ≤ s.dtime % second + 8) ∧
        s.tb.ppsOutStart + second / 2 < s.dtime + 8 := by
      simp only [second]
      omega
    have hx : exec .ppsOutStart s = .next ((withTb s { s.tb with
        ppsOutStart := s.dtime
        ppsOutSince := s.uptime
        ppsOutWidth := max 1 (s.fld Reg.timeCtl F.TimeCtl.ppsOutW) }).drivePps true) := by
      show Host.Outcome.next (if _ then _ else _) = _
      rw [if_pos (by simpa [hr, hen, ho, hstop] using hc)]
      rfl
    exact ⟨_, hx, rfl, rfl, rfl, rfl, by rw [← Bool.true_bne]; rfl, rfl, rfl⟩
  · have hx : exec .ppsOutEnd s = .next (s.drivePps false) :=
      congrArg Host.Outcome.next (if_pos (by simp [ho, hw]))
    exact ⟨_, hx, rfl, by rw [← Bool.false_bne pol]; rfl, rfl, rfl⟩
  · exact congrArg Host.Outcome.next (if_neg (by simp [hw]))

/-! ### TREF (R28) -/

theorem machineCheck_some {i : Nat} (h : s.mcheckTarget = some i) :
    s.machineCheck = s.modTiller i (fun v => { v with mcheck := true }) := by
  unfold State.machineCheck
  rw [h]

theorem exec_trefLoss {i : Nat} (hr : s.timeRuns = true) (h : s.mcheckTarget = some i) :
    exec .trefLoss s = .next (((s.setFlag Reg.timeStat F.TimeStat.trefLost true).setFlag Reg.timeStat
      F.TimeStat.holdover true).modTiller i (fun v => { v with mcheck := true })) := by
  have hx : exec .trefLoss s = .next ((s.setFlag Reg.timeStat F.TimeStat.trefLost true).setFlag Reg.timeStat
      F.TimeStat.holdover true).machineCheck := congrArg Host.Outcome.next (if_pos hr)
  rw [hx, machineCheck_some]
  exact h

/-! ### The junction temperature (R23) -/

theorem driftCheck_tj {c : Nat} : (s.driftCheck c).rd Reg.tj = s.rd Reg.tj := by
  have hne : Reg.tj ≠ Reg.dcStat c := by simp only [Reg.tj, Reg.dcStat]; omega
  unfold State.driftCheck
  extract_lets d
  split
  · rw [rd_setFlag, if_neg hne]
  · rfl

theorem regsOnly_driftCheck {c : Nat} : RegsOnly s (s.driftCheck c) := by
  unfold State.driftCheck
  extract_lets d
  split
  · exact setFld_regsOnly _ _ _ _
  · exact .refl s

/-- `t` differs from `s` in registers only, and not in TJ. -/
structure TjStands (s t : State) : Prop where
  regsOnly : RegsOnly s t
  rd : t.rd Reg.tj = s.rd Reg.tj

theorem TjStands.refl (s : State) : TjStands s s := ⟨.refl s, rfl⟩

theorem TjStands.driftCheck {c : Nat} (h : TjStands s t) : TjStands s (t.driftCheck c) :=
  ⟨h.regsOnly.trans regsOnly_driftCheck, driftCheck_tj.trans h.rd⟩

theorem TjStands.refreshTau (h : TjStands s t) : TjStands s t.refreshTau where
  regsOnly := h.regsOnly.trans rfl
  rd := by
    have hne : Reg.tj ≠ Reg.vpolStat := by decide
    rw [State.refreshTau, rd_setFlag, if_neg hne, rd_setFld, if_neg hne, h.rd]

/-- TJ after a reading. -/
def tjWritten (s : State) (r : Int) : State := s.setFld Reg.tj F.Tj.tj (tempCode ((r + 9) / 10))

/-- TJ and TJ_HI after a reading. -/
def tjReported (s : State) (r : Int) : State :=
  if signed 8 ((tjWritten s r).fld Reg.tj F.Tj.tjAlert) ≤ (r + 9) / 10 then
    (tjWritten s r).setFlag Reg.tj F.Tj.tjHi true
  else tjWritten s r

theorem exec_tjSensorRead {l : List Int} {r : Int} (h : l.max? = some r) : exec (.tjSensorRead l) s =
    .next ((List.range 4).foldl (fun (s : State) c => s.driftCheck c) (tjReported s r)).refreshTau := by
  show execTjSensorRead l s = _
  unfold execTjSensorRead
  rw [h]
  rfl

theorem tempCode_lt (z : Int) : tempCode z < 2 ^ 8 := by
  unfold tempCode
  omega

theorem tj_tjReported (s : State) (r : Int) : (tjReported s r).fld Reg.tj F.Tj.tj = ((r + 9) / 10 % 256).toNat := by
  have hs : (tjWritten s r).fld Reg.tj F.Tj.tj = ((r + 9) / 10 % 256).toNat := fld_setFld_fits (by decide) (tempCode_lt _)
  unfold tjReported
  split
  · rw [fld_setFlag_disjoint (by decide) (by decide), hs]
  · exact hs

theorem tjHi_tjReported {r : Int} (h : signed 8 (s.fld Reg.tj F.Tj.tjAlert) ≤ (r + 9) / 10) :
    (tjReported s r).flag Reg.tj F.Tj.tjHi = true := by
  have hs : (tjWritten s r).fld Reg.tj F.Tj.tjAlert = s.fld Reg.tj F.Tj.tjAlert :=
    fld_setFld_disjoint (by decide) (by decide)
  rw [tjReported, hs, if_pos h, flag_setFlag_same _ _ (by decide) rfl]

theorem regsOnly_tjReported (s : State) (r : Int) : RegsOnly s (tjReported s r) := by
  unfold tjReported
  split
  · exact rfl
  · exact rfl

theorem trefAndTj : TrefAndTj := by
  intro s
  refine ⟨fun i hr hm => ⟨_, exec_trefLoss hr hm, ?_, ?_, ?_, rfl, fun a ha => ?_⟩,
    fun hr => ⟨_, congrArg Host.Outcome.next (if_pos hr), ?_, ?_, rfl, fun a ha => ?_⟩, fun l r hl => ?_⟩
  · rw [flag_modTiller_ne, flag_setFlag_disjoint (by decide) (by decide), flag_setFlag_same _ _ (by decide) rfl]
  · rw [flag_modTiller_ne, flag_setFlag_same _ _ (by decide) rfl]
  · rw [tiller_modTiller, if_pos rfl]
  · rw [rd_modTiller_ne, rd_setFlag, if_neg ha, rd_setFlag, if_neg ha]
  · rw [flag_setFlag_same _ _ (by decide) rfl]
  · rw [flag_setFlag_disjoint (by decide) (by decide)]
  · rw [rd_setFlag, if_neg ha]
  · have hst : TjStands (tjReported s r)
        ((List.range 4).foldl (fun (s : State) c => s.driftCheck c) (tjReported s r)).refreshTau :=
      (foldl_keeps (TjStands (tjReported s r)) _ (fun _ _ h => h.driftCheck) _ _ (.refl _)).refreshTau
    have hro := (regsOnly_tjReported s r).trans hst.regsOnly
    refine ⟨_, exec_tjSensorRead hl, ?_, fun hal => ?_, hro.dtime, hro.mem, hro.slates, hro.tillers⟩
    · rw [State.fld, hst.rd]
      exact tj_tjReported s r
    · rw [State.flag, State.fld, hst.rd]
      exact tjHi_tjReported hal

/-- Settles O41, by its four groups of events. -/
theorem timeEvents : Obligations.TimeEvents := ⟨ppsEdges, ppsTimeouts, ppsOut, trefAndTj⟩

end Sys2Proof.Laws
end

section
/-! OBLIGATION O42. The voltage policy, AVSBus and PMBus (R34 to R39). -/

namespace Sys2Proof.Laws

open Sys2Proof.Machine Sys2Proof.Safety

variable {s : State} {a c : Nat} {f : Fld} {v : Bool}

/-- The state with another record of the AVSBus. -/
def withAvs (s : State) (x : Avs) : State := { s with avs := x }

@[simp] theorem avs_withAvs (x : Avs) : (withAvs s x).avs = x := rfl
@[simp] theorem out_withAvs (x : Avs) : (withAvs s x).out = s.out := rfl
@[simp] theorem dtime_withAvs (x : Avs) : (withAvs s x).dtime = s.dtime := rfl
@[simp] theorem rd_withAvs (x : Avs) : (withAvs s x).rd a = s.rd a := rfl
@[simp] theorem fld_withAvs (x : Avs) : (withAvs s x).fld a f = s.fld a f := rfl
@[simp] theorem flag_withAvs (x : Avs) : (withAvs s x).flag a f = s.flag a f := rfl

@[simp] theorem out_post (s : State) (p : Post) : (s.post p).out = p :: s.out := rfl

/-! ### TAU_EST and GUARD_CLAMP as reported (R36) -/

@[simp] theorem avs_refreshTau (s : State) : s.refreshTau.avs = s.avs := rfl
@[simp] theorem out_refreshTau (s : State) : s.refreshTau.out = s.out := rfl

theorem rd_refreshTau_ne (ha : a ≠ Reg.vpolStat) : s.refreshTau.rd a = s.rd a := by
  rw [State.refreshTau, rd_setFlag, if_neg ha, rd_setFld, if_neg ha]

/-- A field of VPOL_STAT between GUARD_CLAMP and TAU_EST stays. -/
theorem fld_refreshTau (hlo : 1 ≤ f.lo) (hhi : f.lo + f.w ≤ 32) :
    s.refreshTau.fld Reg.vpolStat f = s.fld Reg.vpolStat f := by
  have h64 : f.lo + f.w ≤ 64 := by omega
  rw [State.refreshTau, fld_setFlag_disjoint h64 (.inr (by simpa using hlo)),
    fld_setFld_disjoint h64 (.inl hhi)]

theorem flag_refreshTau (hlo : 1 ≤ f.lo) (hhi : f.lo + f.w ≤ 32) :
    s.refreshTau.flag Reg.vpolStat f = s.flag Reg.vpolStat f := by
  rw [State.flag, fld_refreshTau hlo hhi]
  rfl

/-! ### The policy's evaluation (R33 to R35) -/

theorem effTarget_eq (s : State) : s.effTarget =
    max (max (max (max s.policyTarget.1 (s.vfloorOf 0)) (s.vfloorOf 1)) (s.vfloorOf 2)) (s.vfloorOf 3) := rfl

theorem policyTarget_le (s : State) : s.policyTarget.1 ≤ 12 := by
  unfold State.policyTarget
  split
  · exact Nat.le_refl 12
  · dsimp only
    split
    · next c hc => exact Nat.le_of_lt_succ (List.mem_range.1 (List.mem_of_find?_eq_some hc))
    · exact Nat.le_refl 12

/-- No code above 12 is the effective target (R31). -/
theorem effTarget_le (s : State) : s.effTarget ≤ 12 := by
  have hp := policyTarget_le s
  have hf : ∀ h, s.vfloorOf h ≤ 12 := fun _ => Nat.min_le_left _ _
  simp only [effTarget_eq, Nat.max_le]
  exact ⟨⟨⟨⟨hp, hf 0⟩, hf 1⟩, hf 2⟩, hf 3⟩

theorem evaluate_eq (s : State) : s.evaluate =
    withAvs ((s.setFld Reg.vpolStat F.VpolStat.target s.effTarget).setFlag Reg.vpolStat F.VpolStat.boundUnmet
      !s.policyTarget.2)
      { s.avs with request := s.avsStep s.effTarget, evalNow := false, lastEval := s.uptime } := rfl

theorem target_evaluate (s : State) : s.evaluate.fld Reg.vpolStat F.VpolStat.target = s.effTarget := by
  rw [evaluate_eq, fld_withAvs, fld_setFlag_disjoint (by decide) (by decide)]
  exact fld_setFld_fits (by decide) (Nat.lt_of_le_of_lt (effTarget_le s) (by decide))

theorem boundUnmet_evaluate (s : State) :
    s.evaluate.flag Reg.vpolStat F.VpolStat.boundUnmet = !s.policyTarget.2 := by
  rw [evaluate_eq, flag_withAvs, flag_setFlag_same _ _ (by decide) rfl]

theorem rd_evaluate_ne (ha : a ≠ Reg.vpolStat) : s.evaluate.rd a = s.rd a := by
  rw [evaluate_eq, rd_withAvs, rd_setFlag, if_neg ha, rd_setFld, if_neg ha]

/-- An evaluation is due at once after a change, and every period (R35). -/
theorem exec_vpolicyEvaluation (hr : s.running = true) : exec .vpolicyEvaluation s = .next
    (if s.avs.evalNow = true ∨ s.avs.lastEval + 50000 * max 1 (s.fld Reg.vpolCtl F.VpolCtl.period) ≤ s.uptime
      then s.evaluate else s) := by
  rw [show exec .vpolicyEvaluation s = execVpolicyEvaluation s from rfl, execVpolicyEvaluation]
  simp only [hr, Bool.true_and, Bool.or_eq_true, decide_eq_true_eq]

theorem policyEvaluation : PolicyEvaluation := by
  intro s hr
  rw [exec_vpolicyEvaluation hr]
  refine ⟨fun hdue => ⟨s.evaluate, by rw [if_pos hdue], ?_, boundUnmet_evaluate s, rfl, rfl, rfl,
    fun a ha => rd_evaluate_ne ha, rfl, rfl⟩, fun hnow hlast => ?_⟩
  · rw [target_evaluate, effTarget_eq]
  · rw [if_neg]
    simp [hnow, hlast]

/-! ### A voltage write (R37, R38) -/

theorem avsIssue_eq (s : State) (c : Nat) (v : Bool) : s.avsIssue c v =
    (((withAvs s { s.avs with
        writing := some c, retried := v, lastWrite := some s.uptime, again := false, failed := false }).setFlag
      Reg.vpolStat F.VpolStat.busy true).post (.avs
        ((s.setFlag Reg.vpolStat F.VpolStat.busy true).fld Reg.avsCtl F.AvsCtl.avsRail) (setpointMv c))).refreshTau :=
  rfl

/-- A voltage write of code `c` was issued now. -/
structure Issued (s : State) (c : Nat) (again : Bool) (t : State) : Prop where
  writing : t.avs.writing = some c
  lastWrite : t.avs.lastWrite = some s.uptime
  retried : t.avs.retried = again
  failed : t.avs.failed = false
  busy : t.flag Reg.vpolStat F.VpolStat.busy = true
  out : t.out = .avs (s.fld Reg.avsCtl F.AvsCtl.avsRail) (600 + 25 * min c 12) :: s.out
  rd : ∀ a, a ≠ Reg.vpolStat → t.rd a = s.rd a

theorem issued_avsIssue (s : State) (c : Nat) (v : Bool) : Issued s c v (s.avsIssue c v) where
  writing := rfl
  lastWrite := rfl
  retried := rfl
  failed := rfl
  busy := by
    rw [avsIssue_eq, flag_refreshTau (by decide) (by decide), flag_post_ne, flag_setFlag_same _ _ (by decide) rfl]
  out := by
    rw [avsIssue_eq, fld_setFlag_ne (by decide), out_refreshTau, out_post]
    rfl
  rd a ha := by
    rw [avsIssue_eq, rd_refreshTau_ne ha, rd_post_ne, rd_setFlag, if_neg ha, rd_withAvs]

theorem Issued.of_eq {t : State} {o : Out} (h : Issued s c v t) (ho : o = .next t) :
    ∃ s', o = .next s' ∧ s'.avs.writing = some c ∧ s'.avs.lastWrite = some s.uptime ∧ s'.avs.retried = v ∧
      s'.avs.failed = false ∧ s'.flag Reg.vpolStat F.VpolStat.busy = true ∧
      s'.out = .avs (s.fld Reg.avsCtl F.AvsCtl.avsRail) (600 + 25 * min c 12) :: s.out ∧
      (∀ a, a ≠ Reg.vpolStat → s'.rd a = s.rd a) :=
  ⟨t, ho, h.writing, h.lastWrite, h.retried, h.failed, h.busy, h.out, h.rd⟩

theorem exec_avsVoltageWrite_free (hr : s.running = true) (hf : s.flag Reg.vpolStat F.VpolStat.avsFault = false)
    (hs : s.avsSpaced = true) (hb : s.flag Reg.vpolStat F.VpolStat.busy = false)
    (hq : s.avs.again = true ∨ s.avs.current ≠ some s.avs.request) :
    exec .avsVoltageWrite s = .next (s.avsIssue s.avs.request false) := by
  rw [show exec .avsVoltageWrite s = execAvsVoltageWrite s from rfl, execAvsVoltageWrite, if_neg (by simp [hr, hf, hs]),
    if_neg (by simp [hb]), if_pos (by simpa using hq)]

theorem exec_avsVoltageWrite_retry (hr : s.running = true) (hf : s.flag Reg.vpolStat F.VpolStat.avsFault = false)
    (hs : s.avsSpaced = true) (hb : s.flag Reg.vpolStat F.VpolStat.busy = true) (hw : s.avs.writing = some c)
    (hx : s.avs.failed = true) : exec .avsVoltageWrite s = .next (s.avsIssue c true) := by
  rw [show exec .avsVoltageWrite s = execAvsVoltageWrite s from rfl, execAvsVoltageWrite, if_neg (by simp [hr, hf, hs]),
    if_pos hb, hw]
  exact congrArg _ (if_pos hx)

/-- No write while AVS_FAULT is set or the 50 µs have not passed (R37, R38). -/
theorem exec_avsVoltageWrite_held (h : s.flag Reg.vpolStat F.VpolStat.avsFault = true ∨ s.avsSpaced = false) :
    exec .avsVoltageWrite s = .next s := by
  rw [show exec .avsVoltageWrite s = execAvsVoltageWrite s from rfl, execAvsVoltageWrite, if_pos]
  obtain h | h := h <;> simp [h]

/-! ### Its acknowledgement (R37 step 3) -/

/-- The state once the write of code `c` is acknowledged. -/
def acknowledged (s : State) (c : Nat) : State :=
  (((withAvs s { s.avs with current := some c, writing := none }).setFld Reg.vpolStat F.VpolStat.ack c).setFlag
    Reg.vpolStat F.VpolStat.busy false).refreshTau

theorem ack_acknowledged (hc : c ≤ 12) : (acknowledged s c).fld Reg.vpolStat F.VpolStat.ack = c := by
  rw [acknowledged, fld_refreshTau (by decide) (by decide), fld_setFlag_disjoint (by decide) (by decide)]
  exact fld_setFld_fits (by decide) (Nat.lt_of_le_of_lt hc (by decide))

theorem busy_acknowledged : (acknowledged s c).flag Reg.vpolStat F.VpolStat.busy = false := by
  rw [acknowledged, flag_refreshTau (by decide) (by decide), flag_setFlag_same _ _ (by decide) rfl]

theorem rd_acknowledged_ne (ha : a ≠ Reg.vpolStat) : (acknowledged s c).rd a = s.rd a := by
  rw [acknowledged, rd_refreshTau_ne ha, rd_setFlag, if_neg ha, rd_setFld, if_neg ha, rd_withAvs]

/-- The write in progress that has not failed can still complete up to its time limit. -/
theorem avsInTime_eq {t : Nat} (hx : s.avs.failed = false) (hl : s.avs.lastWrite = some t) :
    s.avsInTime = decide (s.uptime ≤ t + s.avsLimit) := by
  rw [State.avsInTime, hx, hl]
  exact Bool.true_and _

theorem exec_avsTransitionComplete (hb : s.flag Reg.vpolStat F.VpolStat.busy = true)
    (hw : s.avs.writing = some c) :
    exec .avsTransitionComplete s = .next (if s.avsInTime = true then acknowledged s c else s) := by
  rw [show exec .avsTransitionComplete s = execAvsTransitionComplete s from rfl, execAvsTransitionComplete, hw]
  dsimp only
  rw [hb, Bool.true_and]
  rfl

/-! ### A write that fails (R37) -/

/-- The state once the retry has failed too. -/
def avsFaulted (s : State) : State :=
  ((s.setFlag Reg.vpolStat F.VpolStat.avsFault true).setFlag Reg.vpolStat F.VpolStat.busy false).refreshTau

theorem avsFault_avsFaulted : (avsFaulted s).flag Reg.vpolStat F.VpolStat.avsFault = true := by
  rw [avsFaulted, flag_refreshTau (by decide) (by decide), flag_setFlag_disjoint (by decide) (by decide),
    flag_setFlag_same _ _ (by decide) rfl]

theorem busy_avsFaulted : (avsFaulted s).flag Reg.vpolStat F.VpolStat.busy = false := by
  rw [avsFaulted, flag_refreshTau (by decide) (by decide), flag_setFlag_same _ _ (by decide) rfl]

/-- What follows when the write in progress has not been acknowledged in time. -/
theorem exec_avsTimeout (hb : s.flag Reg.vpolStat F.VpolStat.busy = true) (hw : s.avs.writing = some c)
    (hx : s.avs.failed = false) : exec .avsTimeout s = .next
      (if s.avs.retried = true then avsFaulted s
        else if s.avsSpaced = true then s.avsIssue c true
        else withAvs s { s.avs with failed := true }) := by
  rw [show exec .avsTimeout s = execAvsTimeout s from rfl, execAvsTimeout, hw]
  exact congrArg _ (if_pos (by simp [hb, hx]))

/-! ### AVS_FAULT cleared (R37) -/

theorem avsResume_eq (s : State) : s.avsResume = (withAvs s { s.avs with
    request := if s.fld Reg.vpolStat F.VpolStat.target < s.avs.current.getD 12 then s.avs.current.getD 12 - 1
      else s.fld Reg.vpolStat F.VpolStat.target
    again := true }).refreshTau := rfl

theorem exec_avsFaultClear : exec .avsFaultClear s = .next
    (if s.flag Reg.vpolStat F.VpolStat.avsFault = true then
      (s.setFlag Reg.vpolStat F.VpolStat.avsFault false).avsResume else s) := rfl

theorem avsFault_cleared :
    (s.setFlag Reg.vpolStat F.VpolStat.avsFault false).avsResume.flag Reg.vpolStat F.VpolStat.avsFault = false := by
  rw [avsResume_eq, flag_refreshTau (by decide) (by decide), flag_withAvs, flag_setFlag_same _ _ (by decide) rfl]

theorem request_cleared : (s.setFlag Reg.vpolStat F.VpolStat.avsFault false).avsResume.avs.request =
    if s.fld Reg.vpolStat F.VpolStat.target < s.avs.current.getD 12 then s.avs.current.getD 12 - 1
      else s.fld Reg.vpolStat F.VpolStat.target := by
  rw [avsResume_eq, avs_refreshTau, avs_withAvs, fld_setFlag_disjoint (by decide) (by decide)]
  rfl

theorem avsTransitions : AvsTransitions := by
  intro s c
  dsimp only
  refine ⟨fun hr hf hs => ⟨fun hb hq => ?_, fun hb hw hx => ?_⟩, exec_avsVoltageWrite_held, fun hb hw hx => ?_,
    fun hf => ?_, fun hf => ?_⟩
  · exact (issued_avsIssue s _ _).of_eq (exec_avsVoltageWrite_free hr hf hs hb hq)
  · exact (issued_avsIssue s _ _).of_eq (exec_avsVoltageWrite_retry hr hf hs hb hw hx)
  · refine ⟨fun t hl => ?_, fun hre => ?_, fun hre hs => ?_, fun hre hs => ?_⟩
    · rw [exec_avsTransitionComplete hb hw, avsInTime_eq hx hl]
      refine ⟨fun hc hin => ⟨acknowledged s c, by rw [if_pos (decide_eq_true hin)], rfl, rfl, ack_acknowledged hc,
        busy_acknowledged, fun a ha => rd_acknowledged_ne ha⟩, fun hlate => ?_⟩
      rw [if_neg (by simpa using hlate)]
    · exact ⟨avsFaulted s, by rw [exec_avsTimeout hb hw hx, if_pos hre], avsFault_avsFaulted, busy_avsFaulted, rfl⟩
    · refine (issued_avsIssue s _ _).of_eq ?_
      rw [exec_avsTimeout hb hw hx, if_neg (by simp [hre]), if_pos hs]
    · refine ⟨withAvs s { s.avs with failed := true }, ?_, rfl, hw, rfl, rfl⟩
      rw [exec_avsTimeout hb hw hx, if_neg (by simp [hre]), if_neg (by simp [hs])]
  · exact ⟨_, by rw [exec_avsFaultClear, if_pos hf], avsFault_cleared, rfl, request_cleared, rfl⟩
  · rw [exec_avsFaultClear, if_neg (by simp [hf])]

/-! ### PMBus (R39) -/

theorem readback_on {v i : BitVec 16} (hr : s.running = true) (hp : s.flag Reg.avsCtl F.AvsCtl.pmbEn = true) :
    s.readback v i = (s.setFld Reg.vread F.Vread.vout v.toNat).setFld Reg.vread F.Vread.iout i.toNat :=
  if_pos (by simp [hr, hp])

theorem readback_off {v i : BitVec 16} (hp : s.flag Reg.avsCtl F.AvsCtl.pmbEn = false) : s.readback v i = s :=
  if_neg (by simp [hp])

theorem readbacks : Readbacks := by
  intro s v i hr
  have hboth : exec (.pmbusReadback v i) s = .next (s.readback v i) ∧
      exec (.pmbAlert v i) s = .next (s.readback v i) := ⟨rfl, rfl⟩
  rw [hboth.1, hboth.2]
  dsimp only
  refine ⟨fun hp => and_self_iff.2 ⟨_, rfl, ?_⟩, fun hp => ?_⟩
  · rw [readback_on hr hp]
    refine ⟨?_, fld_setFld_fits (by decide) i.isLt, fun a ha => ?_, rfl⟩
    · rw [fld_setFld_disjoint (by decide) (by decide), fld_setFld_fits (by decide) v.isLt]
    · rw [rd_setFld, if_neg ha, rd_setFld, if_neg ha]
  · rw [readback_off hp]
    exact ⟨rfl, rfl⟩

/-- Settles O42, by the policy's evaluation, the AVSBus and the readbacks. -/
theorem voltageEvents : Obligations.VoltageEvents := ⟨policyEvaluation, avsTransitions, readbacks⟩

end Sys2Proof.Laws
end

section
/-! OBLIGATION O52. A command ends with what else falls due at its end: the deletions that waited for its keys, and
their replies (R81, R175). Those may write registers. -/

namespace Sys2Proof.Laws

open Sys2Proof.Machine Sys2Proof.Safety

variable {s : State} {id b cause : Nat}

/-! ### A snapshot (R439) -/

theorem exec_marksSnapshot (h : Held s id 0x0E10) : exec (.marksSnapshot id) s = .next
    ((s.finishOk id).snapshot (if (s.slate id).signer = some ownerSigner then 4 else (s.slate id).house) 1) :=
  congrArg _ (onTabqua_held h _)

/-- A snapshot of a Marker that runs, into a buffer, counts one more. -/
theorem snapAt_snapshot (he : s.flag Reg.mkCtl F.MkCtl.en = true) (hb : 4 ≤ s.fld (Reg.mkBuf b) F.MkBuf.log2) :
    ((s.snapshot b cause).snapAt b).1 = (s.snapAt b).1 + 1 := by
  rw [State.snapshot, if_neg (by simp [he, hb])]
  dsimp only [State.snapAt, State.setSnap]
  rw [get_put, if_pos rfl]

theorem snapshot_ne (he : s.flag Reg.mkCtl F.MkCtl.en = true) (hb : 4 ≤ s.fld (Reg.mkBuf b) F.MkBuf.log2) :
    s.snapshot b cause ≠ s := fun h => by
  have hn := snapAt_snapshot (cause := cause) he hb
  rw [h] at hn
  exact Nat.succ_ne_self _ hn.symm

/-! ### The counterexample -/

/-- A House number whose THR_CNT would lie at the address of MK_CTL. No statement confines the House of a slate. -/
def strayHouse : Nat := (Reg.mkCtl - Reg.thrCnt 0) / 8

/-- The Marker is off and slate 0 holds MARKS_SNAPSHOT. A KEY_DELETE of the stray House in EXAM waits in slate 1, and
its release time has passed. -/
def strayExam : State :=
  { State.reset with
    dtime := 1
    regs := [(Reg.mkCtl, 1), (Reg.mkBuf 0, 4)]
    slates := [
      (0, { st := .live, work := .tiller 0, pkt := toBytes 0x0E10 2 }),
      (1, { st := .claimed, house := strayHouse, epoch := 1, pkt := toBytes opKeyDelete 2 ++ zeros 21 ++ [0x20],
            exam := true, dispatched := true, release := some 0, waiting := true, heldRelease := true,
            claim := some { status := St.ok, result := 0, neg := false, out := none, standin := false, time := 0 } })] }

theorem held_strayExam : Held strayExam 0 0x0E10 :=
  ⟨⟨0, rfl, by decide +kernel⟩, rfl, by decide +kernel, rfl, rfl⟩

theorem markerOff_strayExam : strayExam.flag Reg.mkCtl F.MkCtl.en = false := by decide +kernel

/-- The end of slate 0 completes the deletion of slate 1, whose late reply counts EXAM_LATE (R133): the count carries
into the bit that is MK_CTL.EN. -/
theorem markerOn_finishOk_strayExam : (strayExam.finishOk 0).flag Reg.mkCtl F.MkCtl.en = true ∧
    4 ≤ (strayExam.finishOk 0).fld (Reg.mkBuf 0) F.MkBuf.log2 := by decide +kernel

/-- Refutes O52, in its clause that MARKS_SNAPSHOT writes nothing while the Marker is off: the clause reads MK_CTL.EN
before the command ends, the model after it, and the statement is about every state, also one in which a slate has a
House number that no House has. -/
theorem not_settingCommands : ¬ Obligations.SettingCommands := by
  unfold Obligations.SettingCommands
  rintro ⟨_, _, hmarks⟩
  obtain ⟨_, _, _, hoff, _⟩ := hmarks strayExam 0 ⟨rfl, rfl⟩
  have hnext := (exec_marksSnapshot held_strayExam).symm.trans (hoff held_strayExam markerOff_strayExam)
  obtain ⟨hon, hbuf⟩ := markerOn_finishOk_strayExam
  exact snapshot_ne hon hbuf (Host.Outcome.next.inj hnext)

end Sys2Proof.Laws
end

section
/-! SUPPORT. Step 1 of ingress: the reads of an SQ entry, the host check, and what a packet that fails it leaves (R47,
R66, R463). -/

namespace Sys2Proof.Laws

open Sys2Proof.Machine Sys2Proof.Safety

variable {s : State} {a g i n p u ev vec : Nat} {push : Option Nat} {pkt fetched : List Byte} {husk : Bool}
  {rest : List Nat}

/-- The Marks counters of a unit lie below the windows of the functions. -/
theorem rd_markUnit_bar0 (ha : bar0 0 ≤ a) (hu : u < 2 ^ 16) : (s.markUnit u ev n).rd a = s.rd a := by
  refine List.foldlRecOn (motive := fun t => State.rd t a = s.rd a) _ _ rfl fun t ht i hi => ?_
  have hi' : i < 4 := List.mem_range.1 hi
  have hne : a ≠ Reg.mkUcnt u i := by simp only [Reg.mkUcnt, bar0] at *; omega
  dsimp only
  split
  · rw [rd_countMark _ _ _ _ hne, ht]
  · exact ht

/-! ### MSI-X (R78) -/

theorem msix_eq (s : State) (g vec : Nat) : ∃ r o, s.msix g vec = { s with regs := r, out := o } := by
  unfold State.msix
  split
  · exact ⟨_, _, rfl⟩
  · exact ⟨_, _, rfl⟩

theorem rd_msix_ne (h : a ≠ Reg.msixPba g) : (s.msix g vec).rd a = s.rd a := by
  unfold State.msix
  split
  · rw [rd_wr, if_neg h]
  · rfl

/-! ### A packet that vanishes (R66) -/

/-- A packet has failed step 1: it counts, HC_FAIL is set and its push slot is free. -/
def vanished (s : State) (g : Nat) (push : Option Nat) : State :=
  (((s.satFld (Reg.errcnt g) F.Errcnt.hcFail 1).setFlag (Reg.fnStat g) F.FnStat.hcFail true).markUnit
    (184 + portOf g) 0x0502 1).modFn g (fun f => { f with pushBusy := f.pushBusy.filter (fun n => push != some n) })

/-- With ERR_NOTIFY a message follows. -/
theorem vanish_eq (s : State) (g : Nat) (push : Option Nat) :
    s.vanish g push = vanished s g push ∨ ∃ vec, s.vanish g push = (vanished s g push).msix g vec := by
  unfold State.vanish
  extract_lets s₁ s₂ s₃
  split
  · exact .inr ⟨_, rfl⟩
  · exact .inl rfl

theorem fn_vanish (s : State) (g : Nat) (push : Option Nat) : (s.vanish g push).fn g =
    { s.fn g with pushBusy := (s.fn g).pushBusy.filter (fun n => push != some n) } := by
  have hv : (vanished s g push).fn g =
      { s.fn g with pushBusy := (s.fn g).pushBusy.filter (fun n => push != some n) } := by
    rw [vanished, fn_modFn, if_pos rfl, fn_markUnit]
    rfl
  obtain h | ⟨vec, h⟩ := vanish_eq s g push
  · rw [h, hv]
  · obtain ⟨r, o, hm⟩ := msix_eq (vanished s g push) g vec
    rw [h, ← hv, hm]
    rfl

/-- Beside HC_FAIL, the counters and a pending message, no register of the function changes. -/
theorem rd_vanish (hg : g < 64) (ha : bar0 0 ≤ a) (h1 : a ≠ Reg.errcnt g) (h2 : a ≠ Reg.fnStat g)
    (h3 : a ≠ Reg.msixPba g) : (s.vanish g push).rd a = s.rd a := by
  have hu : 184 + portOf g < 2 ^ 16 := by simp only [portOf]; omega
  have hv : (vanished s g push).rd a = s.rd a := by
    rw [vanished, rd_modFn_ne, rd_markUnit_bar0 ha hu, rd_setFlag, if_neg h2, State.satFld, rd_setFld, if_neg h1]
  obtain h | ⟨vec, h⟩ := vanish_eq s g push
  · rw [h, hv]
  · rw [h, rd_msix_ne h3, hv]

theorem hcFail_vanish (hg : g < 64) : (s.vanish g push).flag (Reg.fnStat g) F.FnStat.hcFail = true := by
  have hu : 184 + portOf g < 2 ^ 16 := by simp only [portOf]; omega
  have hne : Reg.fnStat g ≠ Reg.msixPba g := by simp only [Reg.fnStat, Reg.msixPba]; omega
  have hb : bar0 0 ≤ Reg.fnStat g := by simp only [Reg.fnStat, bar0]; omega
  have hv : (vanished s g push).flag (Reg.fnStat g) F.FnStat.hcFail = true := by
    rw [vanished, flag_modFn_ne, State.flag, State.fld, rd_markUnit_bar0 hb hu]
    exact flag_setFlag_same _ _ (by decide) rfl true
  obtain h | ⟨vec, h⟩ := vanish_eq s g push
  · rw [h, hv]
  · rw [h, ← hv, State.flag, State.fld, rd_msix_ne hne]
    rfl

/-! ### The host check (R66, R139) -/

/-- A packet that passes is committed at the present device time. -/
def committed (s : State) (g : Nat) (push : Option Nat) (pkt : List Byte) : Committed :=
  { pkt := pkt, push := push, tc := s.dtime, epoch := (s.fn g).epoch }

theorem hostCheck_pass (h : husk = true ∧ hcheckOk pkt = true) : s.hostCheck g push pkt husk =
    (s.markUnit (184 + portOf g) 0x0501 1).modFn g (fun f =>
      if push.isSome then { f with waitPush := f.waitPush ++ [committed s g push pkt] }
      else { f with waitSq := f.waitSq ++ [committed s g push pkt] }) := if_pos h

theorem hostCheck_fail (h : ¬ (husk = true ∧ hcheckOk pkt = true)) :
    s.hostCheck g push pkt husk = s.vanish g push := if_neg h

/-- The function after the host check of an SQ packet. -/
theorem fn_hostCheck_sq (s : State) (g : Nat) (pkt : List Byte) (husk : Bool) :
    (s.hostCheck g none pkt husk).fn g = { s.fn g with
      waitSq := (s.fn g).waitSq ++ if husk = true ∧ hcheckOk pkt = true then [committed s g none pkt] else [] } := by
  by_cases h : husk = true ∧ hcheckOk pkt = true
  · rw [hostCheck_pass h, fn_modFn, if_pos rfl, fn_markUnit, if_pos h]
    rfl
  · rw [hostCheck_fail h, fn_vanish, if_neg h]
    simp

/-- The function after the host check of a push packet: one that fails frees its slot. -/
theorem fn_hostCheck_push (s : State) (g n : Nat) (pkt : List Byte) (husk : Bool) :
    (s.hostCheck g (some n) pkt husk).fn g = { s.fn g with
      waitPush := (s.fn g).waitPush ++
        if husk = true ∧ hcheckOk pkt = true then [committed s g (some n) pkt] else []
      pushBusy := if husk = true ∧ hcheckOk pkt = true then (s.fn g).pushBusy
        else (s.fn g).pushBusy.filter (· != n) } := by
  by_cases h : husk = true ∧ hcheckOk pkt = true
  · rw [hostCheck_pass h, fn_modFn, if_pos rfl, fn_markUnit, if_pos h, if_pos h]
    rfl
  · have hn : (fun k => some n != some k) = (· != n) := by
      funext k
      simp [bne, BEq.comm]
    rw [hostCheck_fail h, fn_vanish, if_neg h, if_neg h, hn]
    simp

/-- Either way the host check touches no port, no slate and no memory. -/
theorem hostCheck_frame (s : State) (g : Nat) (push : Option Nat) (pkt : List Byte) (husk : Bool) :
    (s.hostCheck g push pkt husk).ports = s.ports ∧ (s.hostCheck g push pkt husk).slates = s.slates ∧
      (s.hostCheck g push pkt husk).mem = s.mem := by
  by_cases h : husk = true ∧ hcheckOk pkt = true
  · rw [hostCheck_pass h]
    simp
  · rw [hostCheck_fail h]
    have hv : (vanished s g push).ports = s.ports ∧ (vanished s g push).slates = s.slates ∧
        (vanished s g push).mem = s.mem := by simp [vanished]
    obtain h | ⟨vec, h⟩ := vanish_eq s g push
    · rw [h]
      exact hv
    · obtain ⟨r, o, hm⟩ := msix_eq (vanished s g push) g vec
      rw [h, hm]
      exact hv

/-- The host check leaves the ring positions of the function. -/
theorem ringPtr_hostCheck (hg : g < 64) :
    (s.hostCheck g push pkt husk).rd (Reg.ringPtr g) = s.rd (Reg.ringPtr g) := by
  have hb : bar0 0 ≤ Reg.ringPtr g := by simp only [Reg.ringPtr, bar0]; omega
  by_cases h : husk = true ∧ hcheckOk pkt = true
  · rw [hostCheck_pass h, rd_modFn_ne]
    exact rd_markUnit_bar0 hb (by simp only [portOf]; omega)
  · rw [hostCheck_fail h]
    exact rd_vanish hg hb (by simp only [Reg.ringPtr, Reg.errcnt]; omega)
      (by simp only [Reg.ringPtr, Reg.fnStat]; omega) (by simp only [Reg.ringPtr, Reg.msixPba]; omega)

theorem out_hostCheck_pass (h : husk = true ∧ hcheckOk pkt = true) :
    (s.hostCheck g push pkt husk).out = s.out := by
  rw [hostCheck_pass h]
  exact (markUnit_regsOnly s _ _ _).out

theorem hcFail_hostCheck_fail (hg : g < 64) (h : ¬ (husk = true ∧ hcheckOk pkt = true)) :
    (s.hostCheck g push pkt husk).flag (Reg.fnStat g) F.FnStat.hcFail = true := by
  rw [hostCheck_fail h]
  exact hcFail_vanish hg

/-! ### Taking the packet (R46, R47, R52) -/

/-- The read requests for an SQ entry, newest first (R47). -/
theorem fetchEntry_eq (s : State) (g i n : Nat) : s.fetchEntry g i n = { s with
    out := (if s.fetchBytes g < n then [.fetch g (s.sqAddr g i + s.fetchBytes g) (n - s.fetchBytes g)] else []) ++
      .fetch g (s.sqAddr g i) (s.fetchBytes g) :: s.out } := by
  unfold State.fetchEntry
  extract_lets k t
  split
  · rfl
  · rfl

/-- An SQ packet of `n` bytes has been taken: its entry is read and consumed, and the next turn is the push stream's. -/
def sqTaken (s : State) (g n : Nat) : State :=
  ((s.fetchEntry g (s.fld (Reg.ringPtr g) F.RingPtr.sqHead) n).setFld (Reg.ringPtr g) F.RingPtr.sqHead
    ((s.fld (Reg.ringPtr g) F.RingPtr.sqHead + 1) % s.sqSize g)).modFn g (fun f => { f with pushTurn := true })

theorem stepOneSq_eq (s : State) (g : Nat) (fetched : List Byte) (husk : Bool) : s.stepOneSq g fetched husk =
    (sqTaken s g (pkLength fetched)).hostCheck g none (slice fetched 0 (pkLength fetched)) husk := by
  have hsize : ∀ i n, (s.fetchEntry g i n).sqSize g = s.sqSize g := fun i n => by rw [fetchEntry_eq]; rfl
  unfold State.stepOneSq sqTaken
  simp only [hsize]

theorem fn_sqTaken (s : State) (g n : Nat) : (sqTaken s g n).fn g = { s.fn g with pushTurn := true } := by
  rw [sqTaken, fn_modFn, if_pos rfl, fetchEntry_eq]
  rfl

theorem out_sqTaken (s : State) (g n : Nat) : (sqTaken s g n).out =
    (if s.fetchBytes g < n then [.fetch g (s.sqAddr g (s.fld (Reg.ringPtr g) F.RingPtr.sqHead) + s.fetchBytes g)
      (n - s.fetchBytes g)] else []) ++
      .fetch g (s.sqAddr g (s.fld (Reg.ringPtr g) F.RingPtr.sqHead)) (s.fetchBytes g) :: s.out := by
  rw [sqTaken, fetchEntry_eq]
  rfl

/-- Beside the ring position, the turn and the read requests nothing changes. -/
theorem sqTaken_frame (s : State) (g n : Nat) : (sqTaken s g n).ports = s.ports ∧ (sqTaken s g n).slates = s.slates ∧
    (sqTaken s g n).mem = s.mem ∧ (sqTaken s g n).dtime = s.dtime := by
  rw [sqTaken, fetchEntry_eq]
  exact ⟨rfl, rfl, rfl, rfl⟩

theorem sqSize_le (s : State) (g : Nat) : s.sqSize g ≤ 2 ^ 16 :=
  Nat.pow_le_pow_right (by decide) (max_le (by decide) (min_le_right _ _))

theorem sqHead_sqTaken (s : State) (g n : Nat) : (sqTaken s g n).fld (Reg.ringPtr g) F.RingPtr.sqHead =
    (s.fld (Reg.ringPtr g) F.RingPtr.sqHead + 1) % s.sqSize g := by
  have hpos : 0 < s.sqSize g := Nat.pow_pos (by decide)
  rw [sqTaken, fld_modFn_ne]
  exact fld_setFld_fits (by decide) ((Nat.mod_lt _ hpos).trans_le (sqSize_le s g))

/-- A push packet has been taken: its slot leaves the queue, and the next turn is the SQ stream's. -/
def pushTaken (s : State) (g : Nat) (rest : List Nat) : State :=
  s.modFn g (fun f => { f with pushQ := rest, pushTurn := false })

theorem stepOnePush_eq (h : (s.fn g).pushQ = n :: rest) : s.stepOnePush g husk =
    (pushTaken s g rest).hostCheck g (some n) ((s.fn g).slotBytes n) husk := by
  rw [State.stepOnePush, h]
  rfl

theorem fn_pushTaken (s : State) (g : Nat) (rest : List Nat) :
    (pushTaken s g rest).fn g = { s.fn g with pushQ := rest, pushTurn := false } := by
  rw [pushTaken, fn_modFn, if_pos rfl]

/-! ### What step 1 leaves of each stream -/

theorem stepOneSq_frame (s : State) (g : Nat) (fetched : List Byte) (husk : Bool) :
    (s.stepOneSq g fetched husk).ports = s.ports ∧ (s.stepOneSq g fetched husk).slates = s.slates ∧
      (s.stepOneSq g fetched husk).mem = s.mem := by
  obtain ⟨hports, hslates, hmem⟩ := hostCheck_frame (sqTaken s g (pkLength fetched)) g none
    (slice fetched 0 (pkLength fetched)) husk
  obtain ⟨kports, kslates, kmem, -⟩ := sqTaken_frame s g (pkLength fetched)
  rw [stepOneSq_eq]
  exact ⟨hports.trans kports, hslates.trans kslates, hmem.trans kmem⟩

theorem fn_stepOneSq (s : State) (g : Nat) (fetched : List Byte) (husk : Bool) :
    (s.stepOneSq g fetched husk).fn g = { s.fn g with
      pushTurn := true
      waitSq := (s.fn g).waitSq ++
        if husk = true ∧ hcheckOk (slice fetched 0 (pkLength fetched)) = true then
          [committed s g none (slice fetched 0 (pkLength fetched))] else [] } := by
  obtain ⟨-, -, -, hdtime⟩ := sqTaken_frame s g (pkLength fetched)
  rw [stepOneSq_eq, fn_hostCheck_sq, committed, fn_sqTaken, hdtime]
  rfl

theorem sqHead_stepOneSq (hg : g < 64) : (s.stepOneSq g fetched husk).fld (Reg.ringPtr g) F.RingPtr.sqHead =
    (s.fld (Reg.ringPtr g) F.RingPtr.sqHead + 1) % s.sqSize g := by
  rw [stepOneSq_eq, State.fld, ringPtr_hostCheck hg]
  exact sqHead_sqTaken _ _ _

theorem stepOnePush_frame (h : (s.fn g).pushQ = n :: rest) : (s.stepOnePush g husk).ports = s.ports ∧
    (s.stepOnePush g husk).slates = s.slates ∧ (s.stepOnePush g husk).mem = s.mem := by
  rw [stepOnePush_eq h]
  exact hostCheck_frame (pushTaken s g rest) g (some n) ((s.fn g).slotBytes n) husk

theorem fn_stepOnePush (h : (s.fn g).pushQ = n :: rest) : (s.stepOnePush g husk).fn g = { s.fn g with
    pushQ := rest
    pushTurn := false
    waitPush := (s.fn g).waitPush ++
      if husk = true ∧ hcheckOk ((s.fn g).slotBytes n) = true then
        [committed s g (some n) ((s.fn g).slotBytes n)] else []
    pushBusy := if husk = true ∧ hcheckOk ((s.fn g).slotBytes n) = true then (s.fn g).pushBusy
      else (s.fn g).pushBusy.filter (· != n) } := by
  rw [stepOnePush_eq h, fn_hostCheck_push, committed, fn_pushTaken]
  rfl

/-! ### The function served (R463) -/

/-- The function that a port serves is one of the port's sixteen. -/
theorem stepOneFn_range (h : s.stepOneFn p = some g) (hp : p < 4) : g < 64 := by
  obtain ⟨i, -, hi⟩ := List.mem_map.1 (List.mem_of_find?_eq_some h)
  omega

/-- The port's round-robin goes on behind function `g`. -/
def served (s : State) (p g : Nat) : State := s.modPort p (fun x => { x with rr := (g + 1) % 16 })

theorem rr_served (s : State) (p g : Nat) : ((served s p g).port p).rr = (g + 1) % 16 := by
  rw [served, port_modPort, if_pos rfl]

theorem exec_packetCommit (hs : s.serving = true) (hr : s.power.rollOn = true) (hp : p < 4)
    (hl : (s.port p).linkUp = true) (hg : s.stepOneFn p = some g) : exec (.packetCommit p fetched husk) s =
      .next (if s.pushTurnNow g then (served s p g).stepOnePush g husk
        else (served s p g).stepOneSq g fetched husk) := by
  show execPacketCommit p fetched husk s = _
  rw [execPacketCommit, hs, hr, hl, decide_eq_true hp, hg]
  rfl

end Sys2Proof.Laws
end

section
/-! OBLIGATION O32. Step 1 of ingress (R47, R48, Table 2.5). -/

namespace Sys2Proof.Laws

open Sys2Proof.Machine Sys2Proof.Safety

/-- Settles O32: for each stream, the packet is taken and then passes the host check or vanishes. -/
theorem packetCommit : Obligations.PacketCommit := by
  intro s p g fetched husk hs hr hp hl hserve
  have hg := stepOneFn_range hserve hp
  have he := exec_packetCommit (fetched := fetched) (husk := husk) hs hr hp hl hserve
  refine ⟨fun hturn => ?_, fun hturn n rest hq => ?_⟩
  · intro pkt i at_ k ok
    rw [hturn, if_neg Bool.false_ne_true] at he
    obtain ⟨hports, hslates, hmem⟩ := stepOneSq_frame (served s p g) g fetched husk
    have hfn := fn_stepOneSq (served s p g) g fetched husk
    refine ⟨_, he, ?_, ?_, hslates, hmem, sqHead_stepOneSq hg, ?_, ?_, ?_, fun hok => ?_, fun hbad => ?_⟩
    · rw [State.port, hports]
      exact rr_served s p g
    · rw [hfn]
    · rw [hfn]
      rfl
    · rw [hfn]
      rfl
    · rw [hfn]
      rfl
    · rw [stepOneSq_eq, out_hostCheck_pass hok]
      exact out_sqTaken _ _ _
    · rw [stepOneSq_eq]
      exact hcFail_hostCheck_fail hg hbad
  · intro pkt ok
    rw [hturn, if_pos rfl] at he
    have hq' : ((served s p g).fn g).pushQ = n :: rest := hq
    obtain ⟨hports, hslates, hmem⟩ := stepOnePush_frame (husk := husk) hq'
    have hfn := fn_stepOnePush (husk := husk) hq'
    refine ⟨_, he, ?_, ?_, ?_, hslates, hmem, ?_, ?_, ?_, fun hok => ?_, fun hbad => ⟨?_, ?_⟩⟩
    · rw [State.port, hports]
      exact rr_served s p g
    · rw [hfn]
    · rw [hfn]
    · rw [hfn]
      rfl
    · rw [hfn]
      rfl
    · rw [hfn]
      rfl
    · rw [hfn]
      exact if_pos hok
    · rw [hfn]
      exact if_neg hbad
    · rw [stepOnePush_eq hq']
      exact hcFail_hostCheck_fail hg hbad

end Sys2Proof.Laws
end

section
/-! SUPPORT. Steps 2 and 3 of ingress, one lemma for each way in which a stream's first packet goes on or waits (R65 to
R68, R74, R77), and what a JOURNAL_FULL answer leaves of its function. -/

namespace Sys2Proof.Laws

open Sys2Proof.Machine Sys2Proof.Safety

variable {s : State} {g : Nat} {st : Stream} {c : Committed} {l : List Committed} {pre post : List Arrival}
  {e : Arrival}

theorem exec_ingressAdmit (hs : s.serving = true) (hg : g < 64) :
    exec (.ingressAdmit g st) s = .next (s.stepTwo g st) := by
  show Host.Outcome.next _ = _
  rw [hs, decide_eq_true hg]
  rfl

theorem exec_ingressAdmit_out (hs : s.serving = false) : exec (.ingressAdmit g st) s = .next s := by
  show Host.Outcome.next _ = _
  rw [hs]
  rfl

/-! ### Step 2 (R67, R68) -/

theorem tryTwo_empty (hw : (s.fn g).waiting st = []) : s.tryTwo g st = s := by
  rw [State.tryTwo, hw]

theorem tryTwo_wait (hw : (s.fn g).waiting st = c :: l) (hf : s.atFullMark (s.houseOf g) g = false)
    (hp : s.mayPass g c = false) : s.tryTwo g st = s := by
  simp [State.tryTwo, hw, hf, hp]

theorem tryTwo_pass (hw : (s.fn g).waiting st = c :: l) (hf : s.atFullMark (s.houseOf g) g = false)
    (hp : s.mayPass g c = true) : s.tryTwo g st = ((s.popWaiting g st).takeCredit g c).arriveThree g st c := by
  simp [State.tryTwo, hw, hf, hp]

theorem tryTwo_full_wait (hw : (s.fn g).waiting st = c :: l) (hf : s.atFullMark (s.houseOf g) g = true)
    (hn : s.needsCq g c = true) (hq : s.cqFree g = false) : s.tryTwo g st = s := by
  simp [State.tryTwo, hw, hf, hn, hq]

theorem tryTwo_full_answer (hw : (s.fn g).waiting st = c :: l) (hf : s.atFullMark (s.houseOf g) g = true)
    (hn : s.needsCq g c = false ∨ s.cqFree g = true) : s.tryTwo g st = (s.popWaiting g st).journalFull g c := by
  have hn' : (!s.needsCq g c || s.cqFree g) = true := by simpa using hn
  simp [State.tryTwo, hw, hf, hn']

theorem waiting_popWaiting (hw : (s.fn g).waiting st = c :: l) : ((s.popWaiting g st).fn g).waiting st = l := by
  rw [State.popWaiting, fn_modFn, if_pos rfl]
  cases st <;> exact congrArg (List.drop 1) hw

theorem inflight_popWaiting (s : State) (g : Nat) (st : Stream) :
    ((s.popWaiting g st).fn g).inflight = (s.fn g).inflight := by
  rw [State.popWaiting, fn_modFn, if_pos rfl]
  cases st <;> rfl

theorem sealing_popWaiting (s : State) (g : Nat) (st : Stream) :
    ((s.popWaiting g st).fn g).sealing st = (s.fn g).sealing st := by
  rw [State.popWaiting, fn_modFn, if_pos rfl]
  cases st <;> rfl

theorem fn_takeCredit (s : State) (g : Nat) (c : Committed) : (s.takeCredit g c).fn g =
    { s.fn g with
      inflight := (s.fn g).inflight + 1
      cqReserved := (s.fn g).cqReserved + if s.needsCq g c then 1 else 0 } := by
  rw [State.takeCredit, fn_modFn, if_pos rfl]

/-! ### Step 3 (R74, R77) -/

/-- No packet of the stream is found where none waits at step 3. -/
theorem splitArrival_alone {q : List Arrival} (h : q.any (fun e => e.gfn == g && e.st == st) = false) :
    splitArrival g st q = none := by
  induction q with
  | nil => rfl
  | cons a q ih =>
    simp only [List.any_cons, Bool.or_eq_false_iff, Bool.and_eq_false_iff, beq_eq_false_iff_ne] at h
    obtain ⟨ha, hq⟩ := h
    rw [splitArrival, if_neg (not_and_or.2 ha), ih (by simpa using hq), Option.map_none]

theorem goThree_alone (h : s.atStepThree g st = false) : s.goThree g st = s := by
  rw [State.goThree, splitArrival_alone h]
  split
  · contradiction
  · rfl

/-- The stream's packet at step 3 goes on when its counter is free and no earlier packet waits for it. -/
theorem goThree_goes (hx : (s.fn g).sealing st = none) (hq : splitArrival g st s.stepQ = some (pre, e, post))
    (hb : ∀ n, s.ctrName g e.pk.pkt = some n → s.ctrBusy n = false)
    (he : s.ctrName g e.pk.pkt ≠ none → ∀ x ∈ pre, s.ctrName x.gfn x.pk.pkt ≠ s.ctrName g e.pk.pkt) :
    s.goThree g st = { s with stepQ := pre ++ post }.stepThree g st e.pk := by
  rw [State.goThree, hx, hq]
  cases hc : s.ctrName g e.pk.pkt with
  | none => simp only [hc]; rfl
  | some n =>
    have hnot : pre.any (fun x => s.ctrName x.gfn x.pk.pkt == some n) = false := by
      rw [hc] at he
      simpa using he (Option.some_ne_none n)
    simp only [hc, hb n hc, hnot]
    rfl

theorem goThree_busy {n : Option Nat} (hx : (s.fn g).sealing st = none)
    (hq : splitArrival g st s.stepQ = some (pre, e, post)) (hn : s.ctrName g e.pk.pkt = some n)
    (hb : s.ctrBusy n = true) : s.goThree g st = s := by
  rw [State.goThree, hx, hq]
  simp only [hn, hb]
  rfl

/-- A packet that arrives where none waits goes on at once when its counter is free. -/
theorem goThree_arriveThree (hq : s.stepQ = []) (hx : (s.fn g).sealing st = none)
    (hb : ∀ n, s.ctrName g c.pkt = some n → s.ctrBusy n = false) :
    (s.arriveThree g st c).goThree g st = s.stepThree g st c := by
  have ha : s.arriveThree g st c = { s with stepQ := [⟨g, st, c, s.dtime⟩] } := by
    rw [State.arriveThree, State.atStepThree, hq]
    rfl
  have hsplit : splitArrival g st [⟨g, st, c, s.dtime⟩] = some ([], ⟨g, st, c, s.dtime⟩, []) := if_pos ⟨rfl, rfl⟩
  have hs : { s with stepQ := [] } = s := by rw [← hq]
  rw [ha, goThree_goes (s := { s with stepQ := [⟨g, st, c, s.dtime⟩] }) hx hsplit hb
    (fun _ x hm => absurd hm List.not_mem_nil)]
  exact congrArg (·.stepThree g st c) hs

theorem stepThree_decides (u : State) (g : Nat) (st : Stream) (c : Committed) : StepThreeDecides u g st c := by
  refine ⟨fun h => ?_, fun h => ?_, fun h => ?_, fun n h => ?_, fun n h => ?_⟩ <;> rw [State.stepThree, h]

/-! ### The JOURNAL_FULL answer (R68) -/

/-- `t` has the waiting packets of function `g` of `s`, its packets in flight, the packets at step 3 and the slates. -/
structure AnswersOnly (g : Nat) (s t : State) : Prop where
  waiting : ∀ st, (t.fn g).waiting st = (s.fn g).waiting st
  inflight : (t.fn g).inflight = (s.fn g).inflight
  stepQ : t.stepQ = s.stepQ
  slates : t.slates = s.slates

theorem AnswersOnly.refl (g : Nat) (s : State) : AnswersOnly g s s := ⟨fun _ => rfl, rfl, rfl, rfl⟩

theorem AnswersOnly.frame {t u : State} (h : AnswersOnly g s t) (hf : u.fns = t.fns) (hq : u.stepQ = t.stepQ)
    (hl : u.slates = t.slates) : AnswersOnly g s u := by
  have hfn : u.fn g = t.fn g := by rw [State.fn, hf]; rfl
  exact ⟨fun st => hfn ▸ h.waiting st, hfn ▸ h.inflight, hq.trans h.stepQ, hl.trans h.slates⟩

/-- The function changes in what is neither its waiting packets nor its packets in flight. -/
theorem AnswersOnly.modFn {t : State} {f : Fn → Fn} (h : AnswersOnly g s t)
    (hf : ∀ x, (f x).waitSq = x.waitSq ∧ (f x).waitPush = x.waitPush ∧ (f x).inflight = x.inflight) :
    AnswersOnly g s (t.modFn g f) := by
  obtain ⟨hsq, hpush, hin⟩ := hf (t.fn g)
  have hfn : (t.modFn g f).fn g = f (t.fn g) := by rw [fn_modFn, if_pos rfl]
  refine ⟨fun st => ?_, ?_, h.stepQ, h.slates⟩
  · rw [hfn, ← h.waiting st]
    cases st with
    | sq => exact hsq
    | push => exact hpush
  · rw [hfn, hin, h.inflight]

theorem AnswersOnly.msix {t : State} {vec : Nat} (h : AnswersOnly g s t) : AnswersOnly g s (t.msix g vec) := by
  unfold State.msix
  split
  · exact h.frame rfl rfl rfl
  · exact h.frame rfl rfl rfl

theorem AnswersOnly.writeCq {t : State} {pkt : List Byte} {r : ReplyInfo} (h : AnswersOnly g s t) :
    AnswersOnly g s (t.writeCq g pkt r) := by
  unfold State.writeCq
  extract_lets idx nxt t₁ t₂
  have h₂ : AnswersOnly g s t₂ := h.frame rfl rfl rfl
  split
  · exact h₂.modFn fun _ => ⟨rfl, rfl, rfl⟩
  · exact h₂

theorem AnswersOnly.writeSlot {t : State} {n : Nat} {pkt : List Byte} {r : ReplyInfo} (h : AnswersOnly g s t) :
    AnswersOnly g s (t.writeSlot g n pkt r) := by
  unfold State.writeSlot
  extract_lets t₁
  have h₁ : AnswersOnly g s t₁ := h.frame rfl rfl rfl
  exact h₁.modFn fun _ => ⟨rfl, rfl, rfl⟩

theorem AnswersOnly.deliver {t : State} {push : Option Nat} {pkt : List Byte} {r : ReplyInfo} (h : AnswersOnly g s t) :
    AnswersOnly g s (t.deliver g push pkt r) := by
  unfold State.deliver
  extract_lets t₁ t₂
  have h₁ : AnswersOnly g s t₁ := by
    unfold t₁
    split
    · exact h.frame rfl rfl rfl
    · exact h
  have h₂ : AnswersOnly g s t₂ := by
    unfold t₂
    split
    · exact h₁.writeSlot
    · exact h₁.writeCq
  split
  · exact h₂.msix
  · exact h₂

/-- An answer JOURNAL_FULL takes no credit and no slate. -/
theorem answersOnly_journalFull (s : State) (g : Nat) (c : Committed) : AnswersOnly g s (s.journalFull g c) := by
  have h : AnswersOnly g s (s.satFld (Reg.errcnt g) F.Errcnt.jfull 1) := (AnswersOnly.refl g s).frame rfl rfl rfl
  unfold State.journalFull
  extract_lets t
  split
  · exact h.deliver
  · exact h.modFn fun _ => ⟨rfl, rfl, rfl⟩

end Sys2Proof.Laws
end

section
/-! OBLIGATION O33. Steps 2 to 6 of ingress (R66 to R68, Table 2.5). -/

namespace Sys2Proof.Laws

open Sys2Proof.Machine Sys2Proof.Safety

variable {s : State} {g : Nat} {st : Stream} {c : Committed} {l : List Committed}

/-- With a credit and a CQ entry the first packet of an idle stream takes both and goes on to step 3. -/
theorem stepTwo_pass (hx : (s.fn g).sealing st = none) (hw : (s.fn g).waiting st = c :: l) (hq : s.stepQ = [])
    (hf : s.atFullMark (s.houseOf g) g = false) (hp : s.mayPass g c = true)
    (hb : ∀ n, ((s.popWaiting g st).takeCredit g c).ctrName g c.pkt = some n →
      ((s.popWaiting g st).takeCredit g c).ctrBusy n = false) :
    s.stepTwo g st = ((s.popWaiting g st).takeCredit g c).stepThree g st c := by
  have hx' : (((s.popWaiting g st).takeCredit g c).fn g).sealing st = none := by
    rw [← hx, ← sealing_popWaiting s g st, fn_takeCredit]
    cases st <;> rfl
  rw [State.stepTwo, tryTwo_pass hw hf hp]
  exact goThree_arriveThree hq hx' hb

/-- At the full mark the first packet of a stream with none at step 3 is answered, once it needs no CQ entry that is not
free. -/
theorem stepTwo_full_answer (hw : (s.fn g).waiting st = c :: l) (hf : s.atFullMark (s.houseOf g) g = true)
    (ha : s.atStepThree g st = false) (hn : s.needsCq g c = false ∨ s.cqFree g = true) :
    s.stepTwo g st = (s.popWaiting g st).journalFull g c := by
  have ha' : ((s.popWaiting g st).journalFull g c).atStepThree g st = false := by
    rw [State.atStepThree, (answersOnly_journalFull _ g c).stepQ]
    exact ha
  rw [State.stepTwo, tryTwo_full_answer hw hf hn, goThree_alone ha']

/-- Settles O33, clause by clause: each names the way that steps 2 and 3 take. -/
theorem ingressAdmission : Obligations.IngressAdmission := by
  intro s g st c l hg
  refine ⟨exec_ingressAdmit_out, fun hs hw hf hp ha => ?_, fun hs hx hw hq hf hp hb => ⟨?_, ?_, ?_, ?_⟩,
    fun hs hw hf ha => ⟨fun hn hq => ?_, fun hn => ?_⟩,
    fun hs hw hx pre e post hq => ⟨fun hfree => ⟨?_, ?_⟩, fun n hn hb => ?_⟩⟩
  · rw [exec_ingressAdmit hs hg, State.stepTwo, tryTwo_wait hw hf hp, goThree_alone ha]
  · rw [exec_ingressAdmit hs hg, stepTwo_pass hx hw hq hf hp hb]
  · rw [fn_takeCredit, inflight_popWaiting]
  · rw [fn_takeCredit, ← waiting_popWaiting hw]
    cases st <;> rfl
  · exact stepThree_decides _ g st c
  · rw [exec_ingressAdmit hs hg, State.stepTwo, tryTwo_full_wait hw hf hn hq, goThree_alone ha]
  · have hj := answersOnly_journalFull (s.popWaiting g st) g c
    refine ⟨_, exec_ingressAdmit hs hg, stepTwo_full_answer hw hf ha hn, ?_, ?_, ?_⟩ <;>
      rw [stepTwo_full_answer hw hf ha hn]
    · rw [hj.waiting, waiting_popWaiting hw]
    · rw [hj.inflight, inflight_popWaiting]
    · exact hj.slates
  · obtain ⟨hb, he⟩ := hfree
    rw [exec_ingressAdmit hs hg, State.stepTwo, tryTwo_empty hw, goThree_goes hx hq hb he]
  · exact stepThree_decides _ g st e.pk
  · rw [exec_ingressAdmit hs hg, State.stepTwo, tryTwo_empty hw, goThree_busy hx hq hn hb]

end Sys2Proof.Laws
end

section
/-! OBLIGATION O34. Step 3 of ingress: what authentication decides, and how a counter's seal ends (R71 to R74). -/

namespace Sys2Proof.Laws

open Sys2Proof.Machine Sys2Proof.Safety

variable {s : State} {g : Nat} {st : Stream} {p key : List Byte} {x : Sealing}

/-! ### Authentication (R73) -/

/-- What is left to decide of a packet that carries the authentication of a signer whose key is loaded: its tag, and
its CTR against the signer's counter and sealed value. -/
theorem authenticate_signed (hm : mustAuth p = true) (ha : pkAuthExt p = true) (hx : pkExtCount p ≠ 0)
    (hk : s.signKey (s.houseOf g) (authSigner p) = some key) :
    s.authenticate g p =
      let c := s.ctrOf g (authSigner p == ownerSigner)
      if (cmacKey 3 key (authMessage g p)).take 8 ≠ authTag p then .fail
      else if authCtr p ≤ c.1 then .stale
      else if authCtr p < c.2 + 4096 then .accept (authSigner p)
      else .sealFirst (authSigner p) := by
  rw [State.authenticate, if_neg (by simp [hm]), if_neg (by simp [ha, hx]), hk]

theorem authenticationDecides : AuthenticationDecides := by
  intro s g p key hm ha hx hk
  rw [authenticate_signed hm ha hx hk]
  refine ⟨fun hbad => if_pos hbad, fun hgood => ?_⟩
  rw [if_neg (not_not_intro hgood)]
  refine ⟨fun hle => if_pos hle, fun hlt hin => ?_, fun hlt hout => ?_⟩
  · rw [if_neg (Nat.not_le.2 hlt), if_pos hin]
  · rw [if_neg (Nat.not_le.2 hlt), if_neg (Nat.not_lt.2 hout)]

/-! ### Counter seals (R73 step 6, R74) -/

/-- A signer's counter once it has been set. -/
theorem ctrOf_setCtr (s : State) (g : Nat) (owner : Bool) (v : Nat × Nat) :
    (s.setCtr g owner v).ctrOf g owner = v := by
  cases owner with
  | true => rfl
  | false =>
    have hh : (s.setCtr g false v).houseOf g = s.houseOf g := rfl
    have hs : s.setCtr g false v = s.modHouse (s.houseOf g) (fun h => { h with ctr := Map.put (0, 0) h.ctr g v }) := rfl
    rw [State.ctrOf, if_neg Bool.false_ne_true, State.houseCtr, hh, hs, house_modHouse, if_pos rfl]
    exact (get_put _ _ _ _ _).trans (if_pos rfl)

theorem exec_counterSealComplete (hx : (s.fn g).sealing st = some x) :
    exec (.counterSealComplete g st) s = .next (if s.uptime ≤ x.since + sealLimit then
      ((s.setSealing g st none).setCtr g x.owner (x.ctr, x.ctr)).stepFour g x.pk (some (authSigner x.pk.pkt))
      else s.sealFails g st x) := by
  show execCounterSealComplete g st s = _
  rw [execCounterSealComplete, hx]

theorem exec_counterSealTimeout (hx : (s.fn g).sealing st = some x) :
    exec (.counterSealTimeout g st) s = .next (s.sealFails g st x) := by
  show execCounterSealTimeout g st s = _
  rw [execCounterSealTimeout, hx]

theorem counterSeals : CounterSeals := by
  intro s g st x hx
  refine ⟨fun hin => ?_, fun hlate => ?_, ctrOf_setCtr _ _ _ _, exec_counterSealTimeout hx, rfl, rfl⟩
  · rw [exec_counterSealComplete hx, if_pos hin]
  · rw [exec_counterSealComplete hx, if_neg (Nat.not_le.2 hlate)]
    rfl

/-- Settles O34, by the decision of step 3 and the two ends of a seal. -/
theorem authenticationAndCounters : Obligations.AuthenticationAndCounters := ⟨authenticationDecides, counterSeals⟩

end Sys2Proof.Laws
end

section
/-! OBLIGATION O39. A failed mirror sets MIR_FAIL_S first, and then releases the replies of the records that waited for
it (R240). Those replies may write registers. -/

namespace Sys2Proof.Laws

open Sys2Proof.Machine Sys2Proof.Safety

/-- A House number whose THR_CNT would lie at the address of JR_STAT of House 0. No statement confines the House of a
slate. -/
def strayJournalHouse : Nat := (Reg.jrStat 0 - Reg.thrCnt 0) / 8

/-- The record of slate 0, whose mirror completion is outstanding. -/
def strayMirrored : PendRec := ⟨0, some 0, none, true, some 0⟩

/-- House 0 waits for the mirror of the record of slate 0, a slate of the stray House in EXAM whose release time has
passed. The low bits of JR_STAT of House 0 stand at 15. -/
def strayMirror : State :=
  { State.reset with
    dtime := 1
    regs := [(Reg.jrStat 0, 15)]
    houses := [(0, { j := { pend := [strayMirrored] } })]
    slates := [
      (0, { st := .claimed, house := strayJournalHouse, epoch := 1, exam := true, dispatched := true, release := some 0,
            claim := some { status := St.ok, result := 0, neg := false, out := none, standin := false, time := 0 } })] }

/-- With bit 4 set, the late reply of slate 0 counts EXAM_LATE (R133) from 31 to 32, and the bit is clear again. -/
theorem mirFailS_mirrorFail_strayMirror :
    (strayMirror.mirrorFail 0 1 0).flag (Reg.jrStat 0) F.JrStat.mirFailS = false := by decide +kernel

/-- Refutes O39, in its clause that MIR_FAIL_S stands after an error completion of a mirror: the model sets the flag
before it writes the replies that waited, and the statement is about every state, also one in which a slate has a House
number that no House has. -/
theorem not_journalEvents : ¬ Obligations.JournalEvents := by
  unfold Obligations.JournalEvents
  rintro ⟨hrecords, _⟩
  obtain ⟨_, _, _, _, hfailed, _, _⟩ := hrecords strayMirror 0 strayMirrored [] rfl nofun
  obtain ⟨s', _, hs', _, hflag, _⟩ := hfailed rfl
  rw [hs'] at hflag
  exact Bool.false_ne_true (mirFailS_mirrorFail_strayMirror.symm.trans hflag)

end Sys2Proof.Laws
end

section
/-! SUPPORT. What settling a slate leaves alone (R60, R81, R89, R175): a reply, a deletion and a slate's return to FREE
touch no lane, House or Chute, and of a Tiller only its completion slots; a record touches no Tiller, and of a slate
only its JSEQ. -/

namespace Sys2Proof.Laws

open Sys2Proof.Machine Sys2Proof.Safety

variable {s₀ s t u : State} {i j h : Nat}

/-! ### Replies, deletions, what follows a reply -/

/-- The units that a slate's work touches. -/
def workUnits (s : State) : List (Nat × Slate) × List (Nat × Lane) × List (Nat × House) × List (Nat × Chute) ×
    List (Nat × Tiller) := (s.slates, s.lanes, s.houses, s.chutes, s.tillers)

theorem workUnits_msix (s : State) (g vec : Nat) : workUnits (s.msix g vec) = workUnits s := by
  unfold State.msix
  split <;> rfl

theorem workUnits_writeCq (s : State) (g : Nat) (pkt : List Byte) (r : ReplyInfo) :
    workUnits (s.writeCq g pkt r) = workUnits s := by
  unfold State.writeCq
  dsimp only
  split <;> rfl

theorem workUnits_deliver (s : State) (g : Nat) (push : Option Nat) (pkt : List Byte) (r : ReplyInfo) :
    workUnits (s.deliver g push pkt r) = workUnits s := by
  unfold State.deliver
  extract_lets s₁ s₂
  have h₁ : workUnits s₁ = workUnits s := by
    unfold s₁
    split <;> rfl
  have h₂ : workUnits s₂ = workUnits s := by
    unfold s₂
    split
    · exact h₁
    · exact (workUnits_writeCq _ _ _ _).trans h₁
  split
  · exact (workUnits_msix _ _ _).trans h₂
  · exact h₂

theorem workUnits_reply (s : State) (g epoch : Nat) (push : Option Nat) (pkt : List Byte) (r : ReplyInfo) :
    workUnits (s.reply g epoch push pkt r) = workUnits s := by
  unfold State.reply
  split
  · exact workUnits_deliver _ _ _ _ _
  · rfl

theorem workUnits_beginQuiesce (s : State) (window cause : Nat) :
    workUnits (s.beginQuiesce window cause) = workUnits s := by
  unfold State.beginQuiesce
  split <;> rfl

theorem workUnits_afterReply (s : State) (pkt : List Byte) : workUnits (s.afterReply pkt) = workUnits s := by
  unfold State.afterReply
  split
  · split
    · rfl
    · exact workUnits_beginQuiesce _ _ _
  · split
    · split <;> rfl
    · rfl

theorem workUnits_clearSlot (s : State) (asym : Bool) (n : Nat) : workUnits (s.clearSlot asym n) = workUnits s := by
  cases asym <;> rfl

theorem workUnits_deleteKey (s : State) (h : Nat) (v : Word) : workUnits (s.deleteKey h v) = workUnits s := by
  unfold State.deleteKey
  split
  · exact workUnits_clearSlot _ _ _
  · exact workUnits_clearSlot _ _ _
  · rfl

theorem workUnits_purgeCache (s : State) (h : Nat) : workUnits (s.purgeCache h) = workUnits s := rfl

/-! ### A tag returns (R81) -/

/-- From `s` to `t` slates settle, and of the Tillers only completion slots change. -/
structure FreesTags (s t : State) : Prop where
  rest : t = { s with slates := t.slates, tillers := t.tillers }
  tiller : ∀ n, ∃ m, t.tiller n = { s.tiller n with slots := m }

theorem FreesTags.refl (s : State) : FreesTags s s := ⟨rfl, fun n => ⟨(s.tiller n).slots, rfl⟩⟩

theorem FreesTags.trans (h : FreesTags s t) (k : FreesTags t u) : FreesTags s u where
  rest := k.rest.trans (by rw [h.rest])
  tiller n := by
    obtain ⟨m, hm⟩ := h.tiller n
    obtain ⟨m', hm'⟩ := k.tiller n
    exact ⟨m', by rw [hm', hm]⟩

theorem FreesTags.setSlate (h : FreesTags s t) (i : Nat) (v : Slate) : FreesTags s (t.setSlate i v) :=
  h.trans ⟨rfl, fun n => ⟨(t.tiller n).slots, rfl⟩⟩

theorem FreesTags.modSlots (h : FreesTags s t) (i : Nat) (f : MillSlot → MillSlot) :
    FreesTags s (t.modTiller i (fun x => { x with slots := x.slots.map f })) := by
  refine h.trans ⟨rfl, fun n => ?_⟩
  rw [tiller_modTiller]
  split
  · next hn => exact ⟨(t.tiller i).slots.map f, by rw [hn]⟩
  · exact ⟨(t.tiller n).slots, rfl⟩

theorem FreesTags.dtime (h : FreesTags s t) : t.dtime = s.dtime := by rw [h.rest]
theorem FreesTags.regs (h : FreesTags s t) : t.regs = s.regs := by rw [h.rest]
theorem FreesTags.mem (h : FreesTags s t) : t.mem = s.mem := by rw [h.rest]
theorem FreesTags.lanes (h : FreesTags s t) : t.lanes = s.lanes := by rw [h.rest]
theorem FreesTags.houses (h : FreesTags s t) : t.houses = s.houses := by rw [h.rest]
theorem FreesTags.chutes (h : FreesTags s t) : t.chutes = s.chutes := by rw [h.rest]

theorem FreesTags.ans (h : FreesTags s t) (n : Nat) : (t.tiller n).ans = (s.tiller n).ans := by
  obtain ⟨m, hm⟩ := h.tiller n
  rw [hm]

/-- The completion slots empty before the slate returns. -/
theorem freeSlate_eq (s : State) (i : Nat) : ∃ t, s.freeSlate i = t.setSlate i { gen := ((s.slate i).gen + 1) % 256 } ∧
    FreesTags s t ∧ t.slates = s.slates := by
  refine ⟨_, rfl, ?_⟩
  exact foldl_keeps (fun t => FreesTags s t ∧ t.slates = s.slates) _ (fun t e h => ⟨h.1.modSlots _ _, h.2⟩) _ _
    ⟨.refl s, rfl⟩

theorem freesTags_freeSlate (s : State) (i : Nat) : FreesTags s (s.freeSlate i) := by
  obtain ⟨t, ht, hf, _⟩ := freeSlate_eq s i
  exact ht ▸ hf.setSlate _ _

theorem slate_freeSlate (s : State) (i j : Nat) :
    (s.freeSlate i).slate j = if j = i then { gen := ((s.slate i).gen + 1) % 256 } else s.slate j := by
  obtain ⟨t, ht, _, hl⟩ := freeSlate_eq s i
  rw [ht, slate_setSlate]
  refine ite_congr rfl (fun _ => rfl) (fun _ => ?_)
  rw [State.slate, State.slate, hl]

theorem settle_unreplied (hr : (s.slate i).replied = false) : s.settle i = s := by
  unfold State.settle
  simp [hr]

theorem settle_released (hr : (s.slate i).replied = true) (hw : (s.slate i).work = .idle) (hm : (s.slate i).mills = 0)
    (ht : s.tagInChute (slateTag i (s.slate i)) = false) : s.settle i = s.freeSlate i := by
  unfold State.settle
  simp [hr, hw, hm, ht]

theorem freesTags_settle (s : State) (i : Nat) : FreesTags s (s.settle i) := by
  unfold State.settle
  dsimp only
  split
  · split
    · exact freesTags_freeSlate s i
    · exact (FreesTags.refl s).setSlate _ _
  · exact .refl s

theorem slate_settle_ne (hn : j ≠ i) : (s.settle i).slate j = s.slate j := by
  unfold State.settle
  dsimp only
  split
  · split
    · rw [slate_freeSlate, if_neg hn]
    · rw [slate_setSlate, if_neg hn]
  · rfl

theorem freesTags_settleAll (s : State) : FreesTags s s.settleAll := by
  refine foldl_keeps (FreesTags s) _ (fun t i h => ?_) _ _ (.refl s)
  split
  · exact h.trans (freesTags_settle t i)
  · exact h

/-! ### Other slates settle around a slate that has no reply -/

/-- From `s` to `t` slate `i` is the same, without a reply and without a deferred effect, and so are the lanes, the
Houses, the Chutes, and the Tillers but for their completion slots. -/
structure SettlesAround (i : Nat) (s t : State) : Prop where
  slate : t.slate i = s.slate i
  unreplied : Unreplied s i
  lanes : t.lanes = s.lanes
  houses : t.houses = s.houses
  chutes : t.chutes = s.chutes
  tiller : ∀ n, ∃ m, t.tiller n = { s.tiller n with slots := m }

theorem SettlesAround.refl (hu : Unreplied s i) : SettlesAround i s s :=
  ⟨rfl, hu, rfl, rfl, rfl, fun n => ⟨(s.tiller n).slots, rfl⟩⟩

theorem SettlesAround.ne_of_replied (hs : SettlesAround i s₀ s) (hr : (s.slate j).replied = true) : i ≠ j := by
  rintro rfl
  rw [hs.slate, hs.unreplied.1] at hr
  exact Bool.false_ne_true hr

theorem SettlesAround.ne_of_waiting (hs : SettlesAround i s₀ s) (hw : (s.slate j).waiting = true) : i ≠ j := by
  rintro rfl
  rw [hs.slate, hs.unreplied.2] at hw
  exact Bool.false_ne_true hw

/-- A change that touches none of these units. -/
theorem SettlesAround.frame (hs : SettlesAround i s₀ s) (hw : workUnits t = workUnits s) : SettlesAround i s₀ t := by
  obtain ⟨hl, hn, hh, hc, ht⟩ : t.slates = s.slates ∧ t.lanes = s.lanes ∧ t.houses = s.houses ∧ t.chutes = s.chutes ∧
      t.tillers = s.tillers := by simpa [workUnits] using hw
  refine ⟨?_, hs.unreplied, hn.trans hs.lanes, hh.trans hs.houses, hc.trans hs.chutes, fun n => ?_⟩
  · rw [State.slate, hl]
    exact hs.slate
  · rw [State.tiller, ht]
    exact hs.tiller n

theorem SettlesAround.setSlate {v : Slate} (hs : SettlesAround i s₀ s) (hn : i ≠ j) :
    SettlesAround i s₀ (s.setSlate j v) :=
  { hs with slate := by rw [slate_setSlate, if_neg hn, hs.slate] }

theorem SettlesAround.settle (hs : SettlesAround i s₀ s) : SettlesAround i s₀ (s.settle j) := by
  by_cases hn : i = j
  · subst hn
    rw [settle_unreplied (by rw [hs.slate, hs.unreplied.1])]
    exact hs
  · have hf := freesTags_settle s j
    refine ⟨?_, hs.unreplied, hf.lanes.trans hs.lanes, hf.houses.trans hs.houses, hf.chutes.trans hs.chutes, fun n => ?_⟩
    · rw [slate_settle_ne hn, hs.slate]
    · obtain ⟨m, hm⟩ := hs.tiller n
      obtain ⟨m', hm'⟩ := hf.tiller n
      exact ⟨m', by rw [hm', hm]⟩

theorem SettlesAround.commitReply {padded : Bool} (hs : SettlesAround i s₀ s) (hn : i ≠ j) :
    SettlesAround i s₀ (s.commitReply j padded) := by
  unfold State.commitReply
  extract_lets
  split
  · exact hs
  · refine SettlesAround.settle ?_
    split
    · exact ((hs.frame (workUnits_reply _ _ _ _ _ _)).setSlate hn).frame (workUnits_afterReply _ _)
    · exact (hs.frame (workUnits_reply _ _ _ _ _ _)).setSlate hn

theorem SettlesAround.completeReply (hs : SettlesAround i s₀ s) (hn : i ≠ j) :
    SettlesAround i s₀ (s.completeReply j) := by
  unfold State.completeReply
  extract_lets
  split
  · exact hs
  · split
    · exact hs.setSlate hn
    · split
      · split
        · exact hs.setSlate hn
        · exact SettlesAround.commitReply (hs.frame rfl) hn
      · exact hs.commitReply hn

theorem SettlesAround.finishDelete (hs : SettlesAround i s₀ s) : SettlesAround i s₀ (s.finishDelete j) := by
  unfold State.finishDelete
  split
  · next hd =>
    have hw : (s.slate j).waiting = true := by
      simp only [State.deleteDue, Bool.and_eq_true] at hd
      exact hd.1.1
    have hn := hs.ne_of_waiting hw
    have hk := (hs.frame (workUnits_deleteKey s (s.slate j).house (pkKey (s.slate j).pkt 0))).setSlate
      (v := { s.slate j with waiting := false, heldRelease := false }) hn
    dsimp only
    split
    · exact hk.completeReply hn
    · exact hk
  · exact hs

theorem SettlesAround.finishDeletes (hs : SettlesAround i s₀ s) : SettlesAround i s₀ s.finishDeletes :=
  foldl_keeps (SettlesAround i s₀) _ (fun _ _ h => h.finishDelete) _ _ hs

theorem SettlesAround.gr (hs : SettlesAround i s t) (n : Nat) (r : Fin 32) : t.gr n r = s.gr n r := by
  obtain ⟨m, hm⟩ := hs.tiller n
  rw [State.gr, hm]
  rfl

theorem SettlesAround.house (hs : SettlesAround i s t) (n : Nat) : t.house n = s.house n := by
  rw [State.house, hs.houses]
  rfl

/-! ### A slate's work ends (R81, R108) -/

/-- No unit holds the work of slate `i`, and its keys are released. -/
def workLeft (s : State) (i : Nat) : State := s.modSlate i (fun x => { x with work := .idle, keys := [] })

theorem leaveWork_eq (s : State) (i : Nat) :
    s.leaveWork i = ((workLeft s i).settle i).finishDeletes.purgeCache (s.slate i).house := rfl

theorem slate_workLeft (s : State) (i : Nat) : (workLeft s i).slate i = { s.slate i with work := .idle, keys := [] } := by
  rw [workLeft, slate_modSlate, if_pos rfl]

/-- Without a reply the slate stays where it is while others settle. -/
theorem settlesAround_leaveWork (hu : Unreplied s i) : SettlesAround i (workLeft s i) (s.leaveWork i) := by
  have hu' : Unreplied (workLeft s i) i := by
    rw [Unreplied, slate_workLeft]
    exact hu
  rw [leaveWork_eq]
  exact (SettlesAround.refl hu').settle.finishDeletes.frame (workUnits_purgeCache _ _)

theorem slate_leaveWork (hu : Unreplied s i) :
    (s.leaveWork i).slate i = { s.slate i with work := .idle, keys := [] } := by
  rw [(settlesAround_leaveWork hu).slate, slate_workLeft]

theorem lanes_leaveWork (hu : Unreplied s i) : (s.leaveWork i).lanes = s.lanes := by
  rw [(settlesAround_leaveWork hu).lanes, workLeft, lanes_modSlate]

theorem lane_leaveWork (hu : Unreplied s i) (n : Nat) : (s.leaveWork i).lane n = s.lane n := by
  rw [State.lane, lanes_leaveWork hu, State.lane]

theorem house_leaveWork (hu : Unreplied s i) (n : Nat) : (s.leaveWork i).house n = s.house n := by
  rw [(settlesAround_leaveWork hu).house, workLeft, house_modSlate_ne]

theorem gr_leaveWork (hu : Unreplied s i) (n : Nat) (r : Fin 32) : (s.leaveWork i).gr n r = s.gr n r := by
  rw [(settlesAround_leaveWork hu).gr, workLeft, State.gr, tiller_modSlate_ne, State.gr]

/-- With its reply written, a slate whose tag no mill and no Chute holds returns to FREE. -/
theorem settlesAround_leaveWork_replied (hr : (s.slate i).replied = true) (hm : (s.slate i).mills = 0)
    (ht : s.tagInChute (slateTag i (s.slate i)) = false) :
    SettlesAround i ((workLeft s i).freeSlate i) (s.leaveWork i) := by
  have hu : Unreplied ((workLeft s i).freeSlate i) i := by
    rw [Unreplied, slate_freeSlate, if_pos rfl]
    exact ⟨rfl, rfl⟩
  have hset : (workLeft s i).settle i = (workLeft s i).freeSlate i := by
    refine settle_released ?_ ?_ ?_ ?_
    · rw [slate_workLeft]; exact hr
    · rw [slate_workLeft]
    · rw [slate_workLeft]; exact hm
    · rw [slate_workLeft]; exact ht
  rw [leaveWork_eq, hset]
  exact (SettlesAround.refl hu).finishDeletes.frame (workUnits_purgeCache _ _)

/-! ### Records (R60, R226) -/

/-- From `s` to `t` records are built: of the Houses only the journals change, of the slates only the JSEQ. -/
structure Records (s t : State) : Prop where
  lanes : t.lanes = s.lanes
  chutes : t.chutes = s.chutes
  tillers : t.tillers = s.tillers
  house : ∀ h, ∃ j, t.house h = { s.house h with j := j }
  slate : ∀ i, ∃ n, t.slate i = { s.slate i with jseq := n }

theorem Records.refl (s : State) : Records s s :=
  ⟨rfl, rfl, rfl, fun h => ⟨(s.house h).j, rfl⟩, fun i => ⟨(s.slate i).jseq, rfl⟩⟩

theorem Records.frame (hs : Records s₀ s) (hw : workUnits t = workUnits s) : Records s₀ t := by
  obtain ⟨hl, hn, hh, hc, ht⟩ : t.slates = s.slates ∧ t.lanes = s.lanes ∧ t.houses = s.houses ∧ t.chutes = s.chutes ∧
      t.tillers = s.tillers := by simpa [workUnits] using hw
  refine ⟨hn.trans hs.lanes, hc.trans hs.chutes, ht.trans hs.tillers, fun h => ?_, fun i => ?_⟩
  · rw [State.house, hh]
    exact hs.house h
  · rw [State.slate, hl]
    exact hs.slate i

theorem Records.modJ {f : Journal → Journal} (hs : Records s₀ s) : Records s₀ (s.modJ h f) := by
  refine { hs with house := fun k => ?_ }
  obtain ⟨j, hj⟩ := hs.house k
  rw [State.modJ, house_modHouse]
  split
  · next hk =>
    subst hk
    exact ⟨f (s.house k).j, by rw [hj]⟩
  · exact ⟨j, hj⟩

theorem Records.modJseq {n : Option Nat} (hs : Records s₀ s) :
    Records s₀ (s.modSlate i (fun x => { x with jseq := n })) := by
  refine { hs with slate := fun k => ?_ }
  obtain ⟨m, hm⟩ := hs.slate k
  rw [slate_modSlate]
  split
  · next hk =>
    subst hk
    exact ⟨n, by rw [hm]⟩
  · exact ⟨m, hm⟩

theorem Records.setFlag {a : Nat} {f : Fld} {b : Bool} (hs : Records s₀ s) : Records s₀ (s.setFlag a f b) :=
  hs.frame rfl

theorem Records.event {e : Event} (hs : Records s₀ s) : Records s₀ (s.event h e) := hs.modJ

theorem Records.mirrorSuspend {cause n : Nat} (hs : Records s₀ s) : Records s₀ (s.mirrorSuspend h cause n) :=
  hs.modJ.setFlag.event

theorem Records.putRec {b : List Byte} {p : PendRec} {copy : Bool} (hs : Records s₀ s) :
    Records s₀ (s.putRec h b p copy) := by
  unfold State.putRec
  extract_lets s₁ pend
  have hpend : ∀ p, Records s₀ (pend s₁ p) := fun _ => Records.modJ (hs.frame rfl)
  split
  · split
    · exact (hpend _).mirrorSuspend
    · exact (hpend _).frame rfl
  · exact hpend _

theorem Records.writeRec {b : List Byte} {p : PendRec} {copy : Bool} (hs : Records s₀ s) :
    Records s₀ (s.writeRec h b p copy) := by
  unfold State.writeRec
  split
  · exact hs.modJ
  · exact hs.putRec

theorem Records.requestSeals (hs : Records s₀ s) : Records s₀ (s.requestSeals h) := by
  unfold State.requestSeals
  extract_lets due s₁
  have h₁ : Records s₀ s₁ := hs.modJ
  exact h₁.frame rfl

theorem Records.append {ty : Nat} {mk : Nat → List Byte} {slate : Option Nat} {rej : Option Reject}
    (hs : Records s₀ s) : Records s₀ (s.append h ty mk slate rej) :=
  hs.modJ.writeRec.requestSeals

theorem Records.appendEvent {time ty : Nat} {b16 : List Byte} {b22 : Nat → List Byte} (hs : Records s₀ s) :
    Records s₀ (s.appendEvent h time ty b16 b22) := hs.append

theorem Records.buildEvent {time : Nat} {e : Event} (hs : Records s₀ s) : Records s₀ (s.buildEvent h time e) := by
  cases e with
  | sealed => exact hs.modJ.appendEvent
  | start => exact hs.appendEvent
  | tamper => exact hs.appendEvent
  | mirrorSuspend => exact hs.appendEvent
  | relocate => exact hs.appendEvent
  | mirrorResume => exact hs.appendEvent

theorem Records.build {b : Unbuilt} (hs : Records s₀ s) : Records s₀ (s.build h b) := by
  unfold State.build
  split
  · split
    · exact hs.append.modJseq
    · exact hs
  · exact hs.append

theorem Records.buildWaiting {n : Nat} (hs : Records s₀ s) : Records s₀ (s.buildWaiting h n) := by
  induction n generalizing s with
  | zero => exact hs
  | succ n ih =>
    unfold State.buildWaiting
    split
    · exact hs
    · split
      · exact ih hs.modJ.buildEvent
      · exact ih hs.modJ.build
      · exact hs

theorem Records.record {b : Unbuilt} (hs : Records s₀ s) : Records s₀ (s.record h b) := hs.modJ.buildWaiting

/-- The claim of a slate is taken, and its record asked for. -/
theorem records_claim (s : State) (i : Nat) (c : Claim) : Records (claimTaken s i c) (s.claim i c) :=
  (Records.refl _).record

/-- What a claim makes of its slate. -/
theorem slate_claim (s : State) (i : Nat) (c : Claim) : ∃ n, (s.claim i c).slate i =
    { s.slate i with st := .claimed, armed := false, claim := some c, jseq := n } := by
  obtain ⟨n, hn⟩ := (records_claim s i c).slate i
  exact ⟨n, by rw [hn, slate_claimTaken]⟩

theorem unreplied_claim {c : Claim} (hu : Unreplied s i) : Unreplied (s.claim i c) i := by
  obtain ⟨n, hn⟩ := slate_claim s i c
  rw [Unreplied, hn]
  exact hu

end Sys2Proof.Laws
end

section
/-! OBLIGATION O49. The end of a Tabqua command (R88, R89, R91, R98). -/

namespace Sys2Proof.Laws

open Sys2Proof.Machine Sys2Proof.Safety

variable {s : State} {i op st r : Nat} {neg : Bool} {out : Option (List Byte)} {c : Claim}

theorem finish_held (h : Held s i op) :
    s.finish i st r neg out = (s.claim i (s.mkClaim st r neg out)).leaveWork i := by
  rw [State.finish, conclude_held h]

/-- The slate of a claim whose work ends: the content is taken, no unit holds it, and no key is in its use. -/
theorem slate_claim_leaveWork (hu : Unreplied s i) : ∃ n, ((s.claim i c).leaveWork i).slate i =
    { s.slate i with st := .claimed, armed := false, claim := some c, jseq := n, work := .idle, keys := [] } := by
  obtain ⟨n, hn⟩ := slate_claim s i c
  exact ⟨n, by rw [slate_leaveWork (unreplied_claim hu), hn]⟩

theorem lanes_claim_leaveWork (hu : Unreplied s i) : ((s.claim i c).leaveWork i).lanes = s.lanes := by
  rw [lanes_leaveWork (unreplied_claim hu), (records_claim s i c).lanes, claimTaken, lanes_modSlate]

theorem gr_claim (s : State) (i : Nat) (c : Claim) (t : Nat) (q : Fin 32) : (s.claim i c).gr t q = s.gr t q := by
  rw [State.gr, State.tiller, (records_claim s i c).tillers, claimTaken, tillers_modSlate, State.gr, State.tiller]

/-- Settles O49: the claim is taken as it stands, and what settles then passes the slate by. -/
theorem finishTakesTheClaim : Obligations.FinishTakesTheClaim := by
  unfold Obligations.FinishTakesTheClaim
  intro s i op st r neg out h hu
  have hsp := spares_finish (st := st) (r := r) (neg := neg) (out := out) h hu
  dsimp only
  rw [finish_held h] at hsp ⊢
  obtain ⟨n, hn⟩ := slate_claim_leaveWork (c := s.mkClaim st r neg out) hu
  rw [hn]
  refine ⟨rfl, rfl, rfl, rfl, rfl, rfl, hsp.dtime, lanes_claim_leaveWork hu, hsp.staged, fun t q => ?_⟩
  rw [gr_leaveWork (unreplied_claim hu), gr_claim]

end Sys2Proof.Laws
end

section
/-! OBLIGATION O35. The lanes and the return of a tag (R80, R81, R105, R109, R110, R112). -/

namespace Sys2Proof.Laws

open Sys2Proof.Machine Sys2Proof.Safety

variable {s : State} {h i n p k : Nat} {c : Claim}

/-! ### A position is taken (R109) -/

/-- Some free position is taken: which one is a free choice. -/
theorem execThresherPositionTake_eq (hq : s.queueHead h = some i) (hne : s.freePositions h ≠ [])
    (hf : needsFill (s.slate i).pkt = true → s.drbgReady h 16 = true) : ∃ k ∈ s.freePositions h,
    execThresherPositionTake h s = .next ({ s with picks := s.picks + 1 }.takePosition i k) := by
  obtain ⟨k, ks, hk⟩ := List.exists_cons_of_ne_nil hne
  have hnf : (needsFill (s.slate i).pkt && !s.drbgReady h 16) = false := by
    cases hn : needsFill (s.slate i).pkt with
    | false => rfl
    | true => simp [hf hn]
  have hlt : (s.choose (ks.length + 1)).1 < (k :: ks).length := Nat.mod_lt _ ks.length.succ_pos
  refine ⟨(k :: ks).getD (s.choose (ks.length + 1)).1 k, ?_, ?_⟩
  · rw [hk, List.getD_eq_getElem _ _ hlt]
    exact List.getElem_mem _
  · simp only [execThresherPositionTake, hq, hk, hnf]
    rfl

/-- The slate leaves both queues. -/
theorem unqueue_eq (s : State) (i : Nat) : s.unqueue i = { s with
    houses := (s.modHouse (s.slate i).house (fun h => { h with queue := h.queue.filter (· != i) })).houses
    poolQ := s.poolQ.filter (· != i) } := rfl

/-- What the slate becomes in position `k`. -/
def placed (s : State) (i k : Nat) : Slate := { s.slate i with
  work := .lane (k / 4) (k % 4)
  bop := laneCount (s.slate i).pkt ((s.slate i).keys.map (s.keyAt (s.slate i).house)) }

theorem takePosition_eq (s : State) (i k : Nat) : s.takePosition i k =
    ((s.unqueue i).setSlate i (placed (s.unqueue i) i k)).modLane (k / 4)
      (fun l => { l with pos := l.pos.set (k % 4) (some i), used := true }) := rfl

theorem slate_takePosition (s : State) (i k j : Nat) : (s.takePosition i k).slate j =
    if j = i then placed (s.unqueue i) i k else s.slate j := by
  rw [takePosition_eq, slate_modLane_ne, slate_setSlate]
  rfl

theorem lane_takePosition (s : State) (i k : Nat) : (s.takePosition i k).lane (k / 4) =
    { s.lane (k / 4) with pos := (s.lane (k / 4)).pos.set (k % 4) (some i), used := true } := by
  rw [takePosition_eq, lane_modLane, if_pos rfl, lane_setSlate_ne, unqueue_eq]
  rfl

theorem house_takePosition (s : State) (i k : Nat) : (s.takePosition i k).house (s.slate i).house =
    { s.house (s.slate i).house with queue := (s.house (s.slate i).house).queue.filter (· != i) } := by
  rw [takePosition_eq, house_modLane_ne, house_setSlate_ne, unqueue_eq]
  exact (house_modHouse s (s.slate i).house (s.slate i).house
    (fun h => { h with queue := h.queue.filter (· != i) })).trans (if_pos rfl)

theorem poolQ_takePosition (s : State) (i k : Nat) : (s.takePosition i k).poolQ = s.poolQ.filter (· != i) := by
  rw [takePosition_eq, poolQ_modLane, poolQ_setSlate, unqueue_eq]

theorem mem_takePosition (s : State) (i k : Nat) : (s.takePosition i k).mem = s.mem := by
  rw [takePosition_eq, mem_modLane, mem_setSlate, unqueue_eq]

theorem tillers_takePosition (s : State) (i k : Nat) : (s.takePosition i k).tillers = s.tillers := by
  rw [takePosition_eq, tillers_modLane, tillers_setSlate, unqueue_eq]

theorem not_mem_filter_ne (l : List Nat) (i : Nat) : i ∉ l.filter (· != i) := by simp

theorem thresherPosition : ThresherPosition := by
  intro s h i hq hne hf
  obtain ⟨k, hk, hx⟩ := execThresherPositionTake_eq hq hne hf
  refine ⟨_, k, hx, hk, ?_, ?_, ?_, ?_, ?_, fun j hj => ?_, mem_takePosition _ i k, tillers_takePosition _ i k⟩
  · rw [slate_takePosition, if_pos rfl, placed]
  · exact congrArg Lane.pos (lane_takePosition { s with picks := s.picks + 1 } i k)
  · rw [lane_takePosition]
  · have hh : i ∉ (({ s with picks := s.picks + 1 }.takePosition i k).house (s.slate i).house).queue :=
      (house_takePosition { s with picks := s.picks + 1 } i k) ▸ not_mem_filter_ne _ _
    exact hh
  · rw [poolQ_takePosition]
    exact not_mem_filter_ne _ _
  · rw [slate_takePosition, if_neg hj]
    rfl

/-! ### A lane's result (R88, R89, R110) -/

theorem emptied_emptyPos (s : State) (n p : Nat) : ((s.emptyPos n p).lane n).pos.getD p none = none := by
  rw [State.emptyPos, lane_modLane, if_pos rfl]
  simp only [List.getD_eq_getElem?_getD, List.getElem?_set, if_true]
  split <;> rfl

/-- The state in which a lane's result reaches the arbiter: two Marks are counted, and the position is free. -/
def laneCounted (s : State) (n p i : Nat) : State :=
  ((s.markUnit (72 + n) 0x0101 1).markUnit (72 + n) 0x0102 (s.slate i).bop).emptyPos n p

theorem slate_laneCounted (s : State) (n p i j : Nat) : (laneCounted s n p i).slate j = s.slate j := by
  rw [laneCounted, State.emptyPos, slate_modLane_ne, slate_markUnit, slate_markUnit]

theorem dtime_laneCounted (s : State) (n p i : Nat) : (laneCounted s n p i).dtime = s.dtime := by
  rw [laneCounted, State.emptyPos, dtime_modLane, (markUnit_regsOnly _ _ _ _).dtime, (markUnit_regsOnly _ _ _ _).dtime]

theorem emptied_laneCounted (s : State) (n p i : Nat) : ((laneCounted s n p i).lane n).pos.getD p none = none := by
  rw [laneCounted, emptied_emptyPos]

theorem execLaneResult_good (hp : (s.lane n).pos.getD p none = some i) (hr : (s.slate i).res = some c) :
    execLaneResult n p true s = .next (((laneCounted s n p i).laneClaim i c).leaveWork i) := by
  unfold execLaneResult laneCounted
  simp only [hp, hr, if_true, slate_markUnit]

theorem execLaneResult_husk (hp : (s.lane n).pos.getD p none = some i) :
    execLaneResult n p false s = .next
      ((((s.emptyPos n p).laneClaim i ((s.emptyPos n p).mkClaim St.integrity 0 false none)).leaveWork
        i).machineCheck) := by
  unfold execLaneResult
  simp only [hp, Bool.false_eq_true, if_false]

theorem laneClaim_open (hu : (s.slate i).unclaimed = true) : s.laneClaim i c = s.claim i { c with time := s.dtime } :=
  if_pos hu

theorem laneClaim_taken (hu : (s.slate i).unclaimed = false) : s.laneClaim i c = s.dropResult :=
  if_neg (by simp [hu])

theorem machineCheck_eq (s : State) : s.machineCheck = { s with tillers := s.machineCheck.tillers } := by
  unfold State.machineCheck
  split <;> rfl

theorem slate_machineCheck (s : State) (i : Nat) : s.machineCheck.slate i = s.slate i := by
  rw [machineCheck_eq]
  rfl

theorem lane_machineCheck (s : State) (n : Nat) : s.machineCheck.lane n = s.lane n := by
  rw [machineCheck_eq]
  rfl

theorem lane_claim_leaveWork (hu : Unreplied s i) : ((s.claim i c).leaveWork i).lane n = s.lane n := by
  rw [State.lane, lanes_claim_leaveWork hu]
  rfl

theorem laneResults : LaneResults := by
  intro s n p i c hp hu
  have hu' : Unreplied (laneCounted s n p i) i := by
    rw [Unreplied, slate_laneCounted]
    exact hu
  refine ⟨fun ho hr => ?_, fun ho hr => ?_, fun ho => ?_⟩
  · refine ⟨_, execLaneResult_good hp hr, ?_⟩
    rw [laneClaim_open (by rw [slate_laneCounted]; exact ho), dtime_laneCounted]
    obtain ⟨m, hm⟩ := slate_claim_leaveWork (c := { c with time := s.dtime }) hu'
    rw [hm, lane_claim_leaveWork hu']
    exact ⟨rfl, rfl, rfl, rfl, emptied_laneCounted s n p i⟩
  · refine ⟨_, execLaneResult_good hp hr, ?_⟩
    rw [laneClaim_taken (by rw [slate_laneCounted]; exact ho)]
    have hd : Unreplied (laneCounted s n p i).dropResult i := hu'
    rw [slate_leaveWork hd, lane_leaveWork hd]
    have hc : (laneCounted s n p i).dropResult.slate i = s.slate i := slate_laneCounted s n p i i
    rw [hc]
    exact ⟨rfl, emptied_laneCounted s n p i⟩
  · refine ⟨_, execLaneResult_husk hp, ?_⟩
    have he : Unreplied (s.emptyPos n p) i := hu
    rw [laneClaim_open (show ((s.emptyPos n p).slate i).unclaimed = true from ho), slate_machineCheck,
      lane_machineCheck]
    obtain ⟨m, hm⟩ := slate_claim_leaveWork (c := (s.emptyPos n p).mkClaim St.integrity 0 false none) he
    rw [lane_claim_leaveWork he]
    exact ⟨congrArg Slate.claim hm, emptied_emptyPos s n p⟩

/-! ### A lane drains (R112) -/

theorem laneState_regsOnly (s : State) (n st : Nat) : RegsOnly s (s.laneState n st) := by
  unfold State.laneState
  dsimp only
  split
  · exact .refl s
  · exact setFld_regsOnly s _ _ _

/-- The lane with its new House; the registers that report it follow. -/
theorem laneServe_eq (s : State) (n : Nat) : RegsOnly (s.setLane n { s.lane n with
    draining := false, serves := (s.lane n).nextHouse, nextHouse := none }) (s.laneServe n) := by
  unfold State.laneServe
  dsimp only
  split
  · exact (laneState_regsOnly _ _ _).trans (setFld_regsOnly _ _ _ _)
  · exact (laneState_regsOnly _ _ _).trans (setFld_regsOnly _ _ _ _)

theorem lane_laneServe (s : State) (n m : Nat) : (s.laneServe n).lane m = if m = n then { s.lane n with
    draining := false, serves := (s.lane n).nextHouse, nextHouse := none } else s.lane m := by
  rw [State.lane, (laneServe_eq s n).lanes]
  exact lane_setLane s n m _

theorem laneDrain : LaneDrain := by
  intro s n hd he hr hh
  have hx : execLaneDrainComplete n s = .next (s.laneServe n) := by
    simp only [execLaneDrainComplete, hd, he, hr, hh]
    rfl
  refine ⟨_, hx, ?_⟩
  rw [lane_laneServe, if_pos rfl]
  exact ⟨rfl, rfl, rfl, rfl, fun m hm => by rw [lane_laneServe, if_neg hm], (laneServe_eq s n).slates,
    (laneServe_eq s n).mem⟩

/-! ### A tag is released (R81, R98) -/

/-- The slate returns to FREE with the next generation, and the lanes stay. -/
theorem leaveWork_frees (hr : (s.slate i).replied = true) (hm : (s.slate i).mills = 0)
    (ht : s.tagInChute (slateTag i (s.slate i)) = false) :
    (s.leaveWork i).slate i = { gen := ((s.slate i).gen + 1) % 256 } ∧ (s.leaveWork i).lanes = s.lanes := by
  have ha := settlesAround_leaveWork_replied hr hm ht
  refine ⟨?_, ha.lanes.trans (freesTags_freeSlate _ _).lanes⟩
  rw [ha.slate, slate_freeSlate, if_pos rfl, slate_workLeft]

theorem tagRelease : TagRelease := by
  intro s i n p hc hr hm _ ht
  refine ⟨fun hw => ?_, fun hw => ?_⟩
  · have hx : execSlateTagRelease i s = .next ((s.emptyPos n p).leaveWork i) := by
      simp [execSlateTagRelease, hc, hw]
    obtain ⟨hs, hl⟩ := leaveWork_frees (s := s.emptyPos n p) hr hm ht
    refine ⟨_, hx, hs, ?_⟩
    rw [State.lane, hl]
    exact congrArg Lane.pos ((lane_modLane s n n _).trans (if_pos rfl))
  · have hx : execSlateTagRelease i s = .next (s.leaveWork i) := by
      simp [execSlateTagRelease, hc, hw, hr]
    exact ⟨_, hx, (leaveWork_frees hr hm ht).1⟩

/-- Settles O35, by the position that is taken, the lane's result, its drain, and the tag's release. -/
theorem lanesAndTags : Obligations.LanesAndTags := ⟨thresherPosition, laneResults, laneDrain, tagRelease⟩

end Sys2Proof.Laws
end

section
/-! OBLIGATION O36. The Bell and EXAM's release (R88, R92, R132, R133, R465). -/

namespace Sys2Proof.Laws

open Sys2Proof.Machine Sys2Proof.Safety

variable {s₀ s t : State} {i h : Nat} {c : Claim}

/-! ### What the cancellation of a slate's work leaves (R98, R360) -/

/-- From `s` to `t` slate `i`, which has no reply, changes only in where its work is and in the keys that it holds; the
general registers and the Bell's counts are the same. -/
structure Cancels (i : Nat) (s t : State) : Prop where
  slate : ∃ w ks, t.slate i = { s.slate i with work := w, keys := ks }
  unreplied : Unreplied s i
  gr : ∀ n r, t.gr n r = s.gr n r
  bell : ∀ n, (t.house n).bellAt = (s.house n).bellAt ∧ (t.house n).bellFired = (s.house n).bellFired

theorem Cancels.refl (hu : Unreplied s i) : Cancels i s s :=
  ⟨⟨(s.slate i).work, (s.slate i).keys, rfl⟩, hu, fun _ _ => rfl, fun _ => ⟨rfl, rfl⟩⟩

theorem Cancels.unreplied_end (hs : Cancels i s t) : Unreplied t i := by
  obtain ⟨w, ks, hw⟩ := hs.slate
  rw [Unreplied, hw]
  exact hs.unreplied

/-- A change elsewhere. -/
theorem Cancels.frame (hs : Cancels i s₀ s) (hl : t.slates = s.slates) (hg : ∀ n r, t.gr n r = s.gr n r)
    (hh : ∀ n, (t.house n).bellAt = (s.house n).bellAt ∧ (t.house n).bellFired = (s.house n).bellFired) :
    Cancels i s₀ t where
  slate := by
    rw [State.slate, hl]
    exact hs.slate
  unreplied := hs.unreplied
  gr n r := (hg n r).trans (hs.gr n r)
  bell n := ⟨(hh n).1.trans (hs.bell n).1, (hh n).2.trans (hs.bell n).2⟩

theorem Cancels.leaveWork (hs : Cancels i s₀ s) : Cancels i s₀ (s.leaveWork i) := by
  have hu := hs.unreplied_end
  refine ⟨?_, hs.unreplied, fun n r => (gr_leaveWork hu n r).trans (hs.gr n r), fun n => ?_⟩
  · obtain ⟨w, ks, hw⟩ := hs.slate
    exact ⟨.idle, [], by rw [slate_leaveWork hu, hw]⟩
  · rw [house_leaveWork hu]
    exact hs.bell n

theorem Cancels.cancelMills {gen : Nat} (hs : Cancels i s₀ s) : Cancels i s₀ (s.cancelMills i gen) :=
  hs.frame rfl (fun _ _ => rfl) (fun _ => ⟨rfl, rfl⟩)

theorem Cancels.modChute {n : Nat} {f : Chute → Chute} (hs : Cancels i s₀ s) : Cancels i s₀ (s.modChute n f) :=
  hs.frame rfl (fun _ _ => rfl) (fun _ => ⟨rfl, rfl⟩)

theorem Cancels.unqueue (hs : Cancels i s₀ s) : Cancels i s₀ (s.unqueue i) := by
  refine hs.frame rfl (fun _ _ => rfl) (fun n => ?_)
  have hh : (s.unqueue i).house n =
      (s.modHouse (s.slate i).house (fun h => { h with queue := h.queue.filter (· != i) })).house n := rfl
  rw [hh, house_modHouse]
  split
  · next hn => exact hn ▸ ⟨rfl, rfl⟩
  · exact ⟨rfl, rfl⟩

theorem Cancels.cancelAt {n tag : Nat} {o : Option Nat} (hs : Cancels i s₀ s) : Cancels i s₀ (s.cancelAt n o tag) := by
  unfold State.cancelAt
  split
  · refine hs.frame rfl (fun m r => ?_) (fun _ => ⟨rfl, rfl⟩)
    rw [State.gr, tiller_modTiller]
    split
    · next hm => exact hm ▸ rfl
    · rfl
  · split
    · exact hs.modChute
    · exact hs

theorem Cancels.cancelWork (hs : Cancels i s₀ s) : Cancels i s₀ (s.cancelWork i) := by
  have hm := hs.cancelMills (gen := (s.slate i).gen)
  unfold State.cancelWork
  extract_lets sl s₁ mine
  split
  · exact hm
  · exact hm
  · exact hm
  · exact hm.unqueue.leaveWork
  · exact hm.leaveWork
  · extract_lets
    split
    · split
      · exact hm.cancelAt
      · exact hm.modChute.leaveWork
    · exact hm.leaveWork
  · exact hm.cancelAt

/-! ### The stand-in (R92, R94) -/

/-- The stand-in's content. -/
def standinClaim (s : State) (i : Nat) : Claim :=
  { status := St.standin, result := (s.slate i).tplResult, neg := false, out := none, standin := true, time := s.dtime }

/-- The counts of the Bell come before the claim. -/
theorem standin_eq (s : State) (i : Nat) : ∃ u, RegsOnly s u ∧
    s.standin i = (u.claim i (standinClaim s i)).cancelWork i := by
  unfold State.standin
  extract_lets sl lag s₁ s₂ s₃ c
  have h₃ : RegsOnly s s₃ := by
    unfold s₃
    split <;> rfl
  have hc : c = standinClaim s i := by rw [standinClaim, ← h₃.dtime]
  exact ⟨s₃, h₃, by rw [hc]⟩

theorem unreplied_regsOnly (hr : RegsOnly s t) (hu : Unreplied s i) : Unreplied t i := by
  rw [Unreplied, State.slate, hr.slates]
  exact hu

/-- A stand-in takes the claim; the general registers stay, and the Bell's counts too. -/
theorem standin_takes (hu : Unreplied s i) :
    ((s.standin i).slate i).st = .claimed ∧ ((s.standin i).slate i).armed = false ∧
      ((s.standin i).slate i).claim = some (standinClaim s i) ∧ (∀ n r, (s.standin i).gr n r = s.gr n r) ∧
      ∀ n, ((s.standin i).house n).bellAt = (s.house n).bellAt ∧
        ((s.standin i).house n).bellFired = (s.house n).bellFired := by
  obtain ⟨u, hr, he⟩ := standin_eq s i
  have hc := (Cancels.refl (unreplied_claim (c := standinClaim s i) (unreplied_regsOnly hr hu))).cancelWork
  rw [← he] at hc
  obtain ⟨w, ks, hw⟩ := hc.slate
  obtain ⟨n, hn⟩ := slate_claim u i (standinClaim s i)
  rw [hw, hn]
  refine ⟨rfl, rfl, rfl, fun n r => ?_, fun n => ?_⟩
  · rw [hc.gr, gr_claim, State.gr, State.tiller, hr.tillers, State.gr, State.tiller]
  · obtain ⟨j, hj⟩ := (records_claim u i (standinClaim s i)).house n
    have hh : (claimTaken u i (standinClaim s i)).house n = s.house n := by
      rw [claimTaken, house_modSlate_ne, State.house, hr.houses, State.house]
    rw [hh] at hj
    obtain ⟨ha, hf⟩ := hc.bell n
    rw [ha, hf, hj]
    exact ⟨rfl, rfl⟩

/-- The issue engine of House `h` counts the slate that it fires. -/
def bellCounted (s : State) (h : Nat) : State :=
  s.modHouse h (fun v => { v with bellAt := s.dtime, bellFired := s.bellCount h + 1 })

theorem bellFire_fires (hd : s.firstDue (fun _ sl => s.isDue h sl) = some i) (hc : s.bellCount h < 8) :
    s.bellFire h = (bellCounted s h).standin i := by
  unfold State.bellFire
  rw [hd]
  exact if_pos hc

theorem bellFire_holds (hd : s.firstDue (fun _ sl => s.isDue h sl) = some i) (hc : s.bellCount h = 8) :
    s.bellFire h = s := by
  unfold State.bellFire
  rw [hd]
  exact if_neg (by omega)

theorem house_bellCounted (s : State) (h : Nat) : (bellCounted s h).house h =
    { s.house h with bellAt := s.dtime, bellFired := s.bellCount h + 1 } := by
  rw [bellCounted, house_modHouse, if_pos rfl]

theorem bellFire : BellFire := by
  intro s h i hd
  refine ⟨fun hc => congrArg _ (bellFire_holds hd hc), fun hc hu => ⟨s.bellFire h, rfl, ?_⟩⟩
  have hdt : (s.bellFire h).dtime = s.dtime := (Spares.refl_none s).bellFire.dtime
  rw [State.bellCount, hdt, bellFire_fires hd hc]
  have hu' : Unreplied (bellCounted s h) i := hu
  obtain ⟨hst, harm, hcl, hgr, hbell⟩ := standin_takes hu'
  obtain ⟨ha, hf⟩ := hbell h
  rw [house_bellCounted] at ha hf
  refine ⟨hst, harm, hcl, by rw [ha, hf, if_pos rfl], rfl, hgr⟩

/-! ### No slate is due -/

theorem firstDue_none {f : Nat → Slate → Bool} (hf : ∀ e ∈ s.slates, f e.1 e.2 = false) : s.firstDue f = none := by
  have hl : s.slates.filter (fun e => f e.1 e.2) = [] := by
    rw [List.filter_eq_nil_iff]
    intro e he
    simp [hf e he]
  rw [State.firstDue, hl]
  rfl

theorem bellWaits : BellWaits := by
  intro s h hw
  have hd : s.firstDue (fun _ sl => s.isDue h sl) = none := by
    refine firstDue_none fun e he => ?_
    by_contra hdue
    simp only [State.isDue, Bool.not_eq_false, Bool.and_eq_true, beq_iff_eq, decide_eq_true_eq] at hdue
    obtain ⟨⟨⟨hlive, harm⟩, hh⟩, hpt⟩ := hdue
    exact absurd (hw e he hh hlive harm) (Nat.not_lt.mpr hpt)
  have hb : s.bellFire h = s := by
    unfold State.bellFire
    rw [hd]
  exact congrArg _ hb

/-! ### EXAM (R132, R133, R465) -/

theorem examRelease : ExamRelease := by
  intro s i
  refine ⟨fun hd he => ?_, fun hr => ?_, fun he => ?_⟩
  · exact congrArg _ (if_pos (by rw [hd, he]; rfl))
  · have hd : s.examDue (s.slate i).house (s.slate i) = false := by
      rw [State.examDue, decide_eq_false (Nat.not_le.mpr hr), Bool.and_false]
    exact congrArg _ (if_neg (by simp [hd]))
  · exact congrArg _ (if_neg (by simp [he]))

/-- Settles O36, by what a stand-in does, what is due, and the order of EXAM's releases. -/
theorem bellAndExam : Obligations.BellAndExam := ⟨bellFire, bellWaits, examRelease⟩

end Sys2Proof.Laws
end

section
/-! OBLIGATION O40. What commits into Chutes, their stale timer, claim requests and reply packets (R353, R354, R356 to
R359). -/

namespace Sys2Proof.Laws

open Sys2Proof.Machine Sys2Proof.Safety

variable {s u v : State} {t c i : Nat} {p : Packet} {l : List Packet}

/-! ### A packet joins a Chute -/

theorem chute_chutePush (s : State) (c k : Nat) (p : Packet) : (s.chutePush c p).chute k = if k = c then
    { s.chute c with
      staleAt := if (s.chute c).pkts.isEmpty then s.uptime else (s.chute c).staleAt
      pkts := (s.chute c).pkts ++ [p] } else s.chute k := chute_modChute s c k _

theorem chutePush_eq (s : State) (c : Nat) (p : Packet) :
    s.chutePush c p = { s with chutes := (s.chutePush c p).chutes } := rfl

theorem tiller_chutePush (s : State) (c : Nat) (p : Packet) (n : Nat) : (s.chutePush c p).tiller n = s.tiller n := by
  rw [chutePush_eq]
  rfl

theorem slate_chutePush (s : State) (c : Nat) (p : Packet) (n : Nat) : (s.chutePush c p).slate n = s.slate n := by
  rw [chutePush_eq]
  rfl

/-! ### The Roll's commits (R354, R357) -/

/-- The slate's packet is in Chute `c`. -/
def workCommitted (s : State) (i c : Nat) : State :=
  (s.sense.modSlate i (fun x => { x with work := .chute c })).chutePush c (s.workPacket i)

theorem execWorkPacketCommit_room (hw : (s.slate i).work = .credit) (hl : (s.slate i).st = .live)
    (hc : s.workChute (s.slate i) = some c) (hr : (s.chute c).pkts.length < 64) :
    execWorkPacketCommit i s = .next (workCommitted s i c) := by
  unfold execWorkPacketCommit
  simp only [hw, hl, hc, and_self, if_true]
  exact congrArg _ (if_pos hr)

theorem execWorkPacketCommit_full (hw : (s.slate i).work = .credit) (hl : (s.slate i).st = .live)
    (hc : s.workChute (s.slate i) = some c) (hr : 64 ≤ (s.chute c).pkts.length) :
    execWorkPacketCommit i s = .next s := by
  unfold execWorkPacketCommit
  simp only [hw, hl, hc, and_self, if_true]
  exact congrArg _ (if_neg (Nat.not_lt.mpr hr))

theorem OnlySensed.chute (h : OnlySensed s u) (k : Nat) : u.chute k = s.chute k := by
  rw [h.rest]
  rfl

theorem OnlySensed.regs (h : OnlySensed s u) : u.regs = s.regs := by rw [h.rest]

theorem workCommits : WorkCommits := by
  intro s i c hw hl hc good
  have hs := onlySensed_sense s
  have hgood : good (.next (workCommitted s i c)) := by
    refine ⟨_, rfl, ?_, ?_, fun j hj => ?_, fun k hk => ?_, ?_, ?_, fun n => ?_⟩
    · rw [workCommitted, slate_chutePush, slate_modSlate, if_pos rfl]
    · rw [workCommitted, chute_chutePush, if_pos rfl, chute_modSlate_ne, hs.chute]
    · rw [workCommitted, slate_chutePush, slate_modSlate, if_neg hj, State.slate, hs.slates, State.slate]
    · rw [workCommitted, chute_chutePush, if_neg hk, chute_modSlate_ne, hs.chute]
    · rw [workCommitted, chutePush_eq, mem_modSlate, hs.mem]
    · rw [workCommitted, chutePush_eq, regs_modSlate, hs.regs]
    · rw [workCommitted, tiller_chutePush, tiller_modSlate_ne]
      exact hs.tillers n
  refine ⟨fun hr => ?_, fun hr => execWorkPacketCommit_full hw hl hc hr, fun ho hr => ?_, fun ho => if_neg ho⟩
  · change good (execWorkPacketCommit i s)
    rw [execWorkPacketCommit_room hw hl hc hr]
    exact hgood
  · change good (execCarrelInvoke i s)
    rw [execCarrelInvoke, if_pos ho, execWorkPacketCommit_room hw hl hc hr]
    exact hgood

/-! ### A Tiller's packet commits (R353, R354, R358) -/

theorem OnlySensed.chuteRole (h : OnlySensed s u) (k : Nat) : u.chuteRole k = s.chuteRole k := by
  rw [h.rest]
  rfl

theorem OnlySensed.ans (h : OnlySensed s u) (n : Nat) : (u.tiller n).ans = (s.tiller n).ans := by
  rw [(h.tillers n).1]

theorem OnlySensed.term (h : OnlySensed s u) (n : Nat) : (u.tiller n).term = (s.tiller n).term := by
  rw [(h.tillers n).1]

theorem OnlySensed.bufBad (h : OnlySensed s u) (c : Nat) (b : List Host.Cell) : u.bufBad c b = s.bufBad c b := by
  simp only [State.bufBad, h.chuteRole]

theorem OnlySensed.bufClaims (h : OnlySensed s u) (c : Nat) (b : List Host.Cell) : u.bufClaims c b = s.bufClaims c b := by
  simp only [State.bufClaims, h.chuteRole]

theorem buf_setBuf (x : Chute) (t : Nat) (b : List Host.Cell) : (x.setBuf t b).buf t = b :=
  (get_put [] b x.bufs t t).trans (if_pos rfl)

/-- The write buffer of Tiller `t` at Chute `c` is empty. -/
def bufTaken (s : State) (t c : Nat) : State := s.modChute c (fun x => x.setBuf t [])

theorem chute_bufTaken (s : State) (t c k : Nat) :
    (bufTaken s t c).chute k = if k = c then (s.chute c).setBuf t [] else s.chute k := chute_modChute s c k _

/-- Tiller `t` has one more answer outstanding, of Chute `c`. -/
def asking (s : State) (t c : Nat) : State := s.modTiller t (fun x => { x with ans := x.ans ++ [(c, none)] })

theorem ans_asking (s : State) (t c : Nat) : ((asking s t c).tiller t).ans = (s.tiller t).ans ++ [(c, none)] := by
  rw [asking, tiller_modTiller, if_pos rfl]

/-- The packet is the last of its Chute, and its buffer is empty; nothing else of the Chutes changes. -/
theorem chutes_joined (hv : v.chutes = (bufTaken s t c).chutes) :
    ((v.chutePush c p).chute c).pkts = (s.chute c).pkts ++ [p] ∧ ((v.chutePush c p).chute c).buf t = [] ∧
      ∀ k, k ≠ c → (v.chutePush c p).chute k = s.chute k := by
  have hch : ∀ k, v.chute k = (bufTaken s t c).chute k := fun k => by rw [State.chute, hv, State.chute]
  refine ⟨?_, ?_, fun k hk => ?_⟩
  · rw [chute_chutePush, if_pos rfl, hch, chute_bufTaken, if_pos rfl]
    rfl
  · rw [chute_chutePush, if_pos rfl, hch, chute_bufTaken, if_pos rfl]
    exact buf_setBuf (s.chute c) t []
  · rw [chute_chutePush, if_neg hk, hch, chute_bufTaken, if_neg hk]

section Commit

variable {b : List Host.Cell} {n : Nat} {husk : Bool}

theorem bufBad_whole (hn : bufLen b = some n) (h1 : 1 ≤ n) (h8 : n ≤ 8) (hb : bufHas b 0 (64 * n) = true)
    (hr : s.chuteRole c = roleReply ∨ s.chuteRole c = roleTiller) : s.bufBad c b = false := by
  rcases hr with hr | hr <;> simp [State.bufBad, hn, h1, h8, hb, hr, roleReply, roleTiller, roleWork]

theorem chuteCommit_rewinds (hb : bufDone ((s.chute c).buf t) = true)
    (hx : (s.bufBad c ((s.chute c).buf t) || !husk) = true) : s.chuteCommit t c husk = s.sense.rewind t c := by
  have hs := onlySensed_sense s
  unfold State.chuteCommit
  dsimp only
  rw [hs.chute, hs.bufBad, hb, hx]
  rfl

theorem chuteCommit_waits (hb : bufDone ((s.chute c).buf t) = true) (hx : s.bufBad c ((s.chute c).buf t) = false)
    (hw : 64 ≤ (s.chute c).pkts.length ∨
      (s.bufClaims c ((s.chute c).buf t) = true ∧ 4 ≤ (s.tiller t).ans.length)) :
    s.chuteCommit t c true = s.sense := by
  have hs := onlySensed_sense s
  unfold State.chuteCommit
  dsimp only
  rw [hs.chute, hs.bufBad, hs.bufClaims, hs.ans, hb, hx, if_neg (by simp), if_neg (by simp)]
  by_cases hfull : chuteCap ≤ (s.chute c).pkts.length
  · exact if_pos hfull
  · rw [if_neg hfull]
    exact if_pos (hw.resolve_left hfull)

theorem chuteCommit_joins (hb : bufDone ((s.chute c).buf t) = true) (hn : bufLen ((s.chute c).buf t) = some n)
    (hx : s.bufBad c ((s.chute c).buf t) = false) (hr : (s.chute c).pkts.length < 64)
    (hw : ¬ (s.bufClaims c ((s.chute c).buf t) = true ∧ 4 ≤ (s.tiller t).ans.length)) :
    s.chuteCommit t c true =
      (if s.bufClaims c ((s.chute c).buf t) then asking (bufTaken s.sense t c) t c else bufTaken s.sense t c).chutePush c
        ⟨bufBytes ((s.chute c).buf t) (64 * n), some t, (s.tiller t).term⟩ := by
  have hs := onlySensed_sense s
  have hroom : ¬ chuteCap ≤ (s.chute c).pkts.length := Nat.not_le.mpr hr
  unfold State.chuteCommit
  dsimp only
  rw [hs.chute, hs.bufBad, hs.bufClaims, hs.ans, hs.term, hb, hx, hn, if_neg (by simp), if_neg (by simp),
    if_neg hroom, if_neg hw]
  rfl

end Commit

theorem exec_chutePacketCommit (s : State) (t c : Nat) (husk : Bool) :
    exec (.chutePacketCommit t c husk) s = .next (s.chuteCommit t c husk) := rfl

theorem packetCommits : PacketCommits := by
  intro s t c n b joins rewound hb hn
  have hs := onlySensed_sense s
  have hrewound : ∀ o, o = .next (s.sense.rewind t c) → rewound o := by
    rintro _ rfl
    have hc : (s.sense.rewind t c).chute c = { (s.chute c).setBuf t [] with
        rewind := min ((s.chute c).rewind + 1) (2 ^ 32 - 1) } := by
      rw [State.rewind, chute_modChute, if_pos rfl, hs.chute]
      rfl
    refine ⟨_, rfl, by rw [hc]; rfl, by rw [hc]; exact buf_setBuf (s.chute c) t [], by rw [hc], fun k hk => ?_, hs.tillers,
      hs.slates⟩
    rw [State.rewind, chute_modChute, if_neg hk, hs.chute]
  have hjoins : ∀ v : State, v.chutes = (bufTaken s.sense t c).chutes → v.mem = s.sense.mem → v.regs = s.sense.regs →
      v.slates = s.sense.slates → joins (v.chutePush c ⟨bufBytes b (64 * n), some t, (s.tiller t).term⟩) := by
    intro v hch hmem hregs hsl
    obtain ⟨hp, hbuf, hne⟩ := chutes_joined (p := ⟨bufBytes b (64 * n), some t, (s.tiller t).term⟩) hch
    rw [hs.chute] at hp
    exact ⟨hp, hbuf, fun k hk => (hne k hk).trans (hs.chute k), hmem.trans hs.mem, hregs.trans hs.regs,
      hsl.trans hs.slates⟩
  simp only [exec_chutePacketCommit]
  refine ⟨fun h1 h8 hhas hrole => ?_, fun hrole => hrewound _ ?_, hrewound _ ?_⟩
  · have hx := bufBad_whole hn h1 h8 hhas hrole
    refine ⟨fun hr hcl => ?_, fun hr hcl ha => ?_, fun hw => congrArg _ (chuteCommit_waits hb hx hw)⟩
    · rw [chuteCommit_joins hb hn hx hr (by rw [hcl]; simp), hcl, if_neg (by simp)]
      refine ⟨_, rfl, hjoins _ rfl (mem_modChute _ _ _) (regs_modChute _ _ _) (slates_modChute _ _ _), fun m => ?_⟩
      rw [tiller_chutePush, bufTaken, tiller_modChute_ne]
      exact hs.tillers m
    · rw [chuteCommit_joins hb hn hx hr (by omega), hcl, if_pos rfl]
      refine ⟨_, rfl, hjoins _ (chutes_modTiller _ _ _) ?_ ?_ ?_, ?_⟩
      · rw [asking, mem_modTiller, bufTaken, mem_modChute]
      · rw [asking, regs_modTiller, bufTaken, regs_modChute]
      · rw [asking, slates_modTiller, bufTaken, slates_modChute]
      · rw [tiller_chutePush, ans_asking, bufTaken, tiller_modChute_ne, hs.ans]
  · exact congrArg _ (chuteCommit_rewinds hb (by simp [State.bufBad, hrole]))
  · exact congrArg _ (chuteCommit_rewinds hb (by simp))

/-! ### The stale timer (R356) -/

theorem staleTimer : StaleTimer := by
  intro s c ns
  have hs := onlySensed_sense s
  refine ⟨fun hn hp ht => ?_, fun h => ?_⟩
  · have hx : execChuteStale c s = .next (s.sense.modChute c (fun x => { x with stale := true })) :=
      congrArg _ (if_pos ⟨hn, by simpa using hp, ht⟩)
    refine ⟨_, hx, ?_, ?_, fun k hk => ?_, by rw [regs_modChute, hs.regs]⟩
    · rw [chute_modChute, if_pos rfl]
    · rw [chute_modChute, if_pos rfl, hs.chute]
    · rw [chute_modChute, if_neg hk, hs.chute]
  · refine congrArg _ (if_neg ?_)
    rintro ⟨hn, _, ht⟩
    exact h.elim hn (Nat.not_lt.mpr ht)

/-! ### The head of a reply Chute (R358, R359) -/

theorem replyHead_of (hr : s.chuteRole c = roleReply) (hp : (s.chute c).pkts = p :: l) : s.replyHead c = some p := by
  rw [State.replyHead, if_pos hr, hp]
  rfl

/-- The head packet is gone from Chute `c`. -/
def headTaken (s : State) (c : Nat) (l : List Packet) : State := s.modChute c (fun x => { x with pkts := l, taken := [] })

theorem chutePop_reply (hr : s.chuteRole c = roleReply) (hp : (s.chute c).pkts = p :: l) :
    s.chutePop c = headTaken s c l := by
  have hw : ¬ (headTaken s c l).chuteRole c = roleWork := fun h => by
    have hr' : (headTaken s c l).chuteRole c = roleReply := hr
    exact absurd (hr'.symm.trans h) (by decide)
  unfold State.chutePop
  rw [hp]
  exact if_neg hw

/-- The head packet leaves, and the slates that this lets go return to FREE. -/
theorem freesTags_headTaken (hr : s.chuteRole c = roleReply) (hp : (s.chute c).pkts = p :: l) :
    FreesTags (headTaken s c l) (s.chutePop c).settleAll :=
  chutePop_reply hr hp ▸ freesTags_settleAll _

theorem pkts_headTaken (h : FreesTags (headTaken s c l) u) : (u.chute c).pkts = l := by
  rw [State.chute, h.chutes]
  exact congrArg Chute.pkts ((chute_modChute s c c _).trans (if_pos rfl))

/-! ### Claim requests (R91, R358) -/

/-- The answer `w` has arrived at Tiller `t` for the oldest open request in Chute `c`. -/
def answered (s : State) (c t : Nat) (w : Word) : State :=
  s.modTiller t (fun x => { x with ans := answerFirst c w x.ans })

theorem ans_answered (s : State) (c t : Nat) (w : Word) :
    ((answered s c t w).tiller t).ans = answerFirst c w (s.tiller t).ans := by
  rw [answered, tiller_modTiller, if_pos rfl]

/-- The claim of slate `i` is taken for the command, whose work Tiller `t` holds. -/
def claimHeld (s : State) (i t : Nat) : State := s.modSlate i (fun x =>
  { x with st := .claimed, armed := false, heldBy := some t, claim := some (s.mkClaim St.ok 0 false none) })

theorem claimRequest_wins (hw : p.writer = some t) (hu : (s.chutePop c).settleAll = u)
    (ht : u.tagSlate (tagOf p.bytes) = some i) (ho : (u.slate i).unclaimed = true) (hh : u.holds p i = true) :
    s.claimRequest c p = answered (claimHeld u i t) c t (BitVec.ofNat 64 (tagOf p.bytes + 2 ^ 24 + 2 ^ 25)) := by
  subst hu
  unfold State.claimRequest
  simp only [hw, ht, ho, hh, Bool.and_self, if_true, Option.getD_some]
  rfl

theorem claimRequest_loses (hw : p.writer = some t) (hu : (s.chutePop c).settleAll = u)
    (hl : ∀ i, u.tagSlate (tagOf p.bytes) = some i → (u.slate i).unclaimed = false ∨ u.holds p i = false) :
    s.claimRequest c p = (answered u c t (BitVec.ofNat 64 (tagOf p.bytes + 2 ^ 25))).dropResult := by
  subst hu
  unfold State.claimRequest
  dsimp only
  rw [hw]
  split
  · rfl
  · next i ht =>
    have hno : (((s.chutePop c).settleAll.slate i).unclaimed && (s.chutePop c).settleAll.holds p i) = false := by
      rcases hl i ht with h | h <;> simp [h]
    rw [hno]
    rfl

theorem rd_dropResult {a : Nat} (ha : a ≠ Reg.bellDrop) : s.dropResult.rd a = s.rd a :=
  (rd_setFld s _ a _ _).trans (if_neg ha)

theorem claimRequests : ClaimRequests := by
  intro s c t p l hr hp hk hw u tag
  have hf : FreesTags (headTaken s c l) u := freesTags_headTaken hr hp
  have hx : exec (.claimRequest c) s = .next (s.claimRequest c p) := by
    have h : execClaimRequest c s = .next (s.claimRequest c p) := by
      simp only [execClaimRequest, replyHead_of hr hp, hk, if_true]
    exact h
  have hans : (u.tiller t).ans = (s.tiller t).ans := hf.ans t
  refine ⟨fun i ht ho hh => ?_, fun hl => ?_⟩
  · rw [hx, claimRequest_wins hw rfl ht ho hh]
    refine ⟨_, rfl, ?_, ?_, ?_, ?_, ?_, ?_, fun j hj => ?_, ?_, ?_⟩
    · rw [answered, slate_modTiller_ne, claimHeld, slate_modSlate, if_pos rfl]
    · rw [answered, slate_modTiller_ne, claimHeld, slate_modSlate, if_pos rfl]
    · rw [answered, slate_modTiller_ne, claimHeld, slate_modSlate, if_pos rfl]
    · rw [answered, slate_modTiller_ne, claimHeld, slate_modSlate, if_pos rfl]
      simp only [State.mkClaim]
      rw [hf.dtime, headTaken, dtime_modChute]
    · rw [ans_answered, claimHeld, tiller_modSlate_ne, hans]
    · rw [answered, chute_modTiller_ne, claimHeld, chute_modSlate_ne, pkts_headTaken hf]
    · rw [answered, slate_modTiller_ne, claimHeld, slate_modSlate, if_neg hj]
    · rw [answered, regs_modTiller, claimHeld, regs_modSlate, hf.regs, headTaken, regs_modChute]
    · rw [answered, mem_modTiller, claimHeld, mem_modSlate, hf.mem, headTaken, mem_modChute]
  · rw [hx, claimRequest_loses hw rfl hl]
    refine ⟨_, rfl, ?_, ?_, ?_, fun a ha => ?_, ?_⟩
    · rw [State.dropResult, slates_satFld, answered, slates_modTiller]
    · rw [State.dropResult, tiller_satFld_ne, ans_answered, hans]
    · rw [State.dropResult, chute_satFld_ne, answered, chute_modTiller_ne, pkts_headTaken hf]
    · rw [rd_dropResult ha, answered, rd_modTiller_ne, State.rd, hf.regs, headTaken, regs_modChute, State.rd]
    · rw [State.dropResult, mem_satFld, answered, mem_modTiller, hf.mem, headTaken, mem_modChute]

/-! ### Reply packets (R359) -/

theorem replyPackets : ReplyPackets := by
  intro s c p l hr hp hk u good
  have hf : FreesTags (headTaken s c l) u := freesTags_headTaken hr hp
  have hx : exec (.replyPacket c) s = .next (s.replyPacket c p) := by
    have h : execReplyPacket c s = .next (s.replyPacket c p) := by
      simp only [execReplyPacket, replyHead_of hr hp, if_neg hk]
    exact h
  refine ⟨fun i ht hg => ⟨?_, pkts_headTaken hf, hf.regs, hf.mem⟩, fun hl => ?_⟩
  · have he : s.replyPacket c p = (u.conclude i (u.replyClaim i p.bytes)).leaveWork i := by
      unfold State.replyPacket
      simp only [show (s.chutePop c).settleAll = u from rfl, ht]
      exact if_pos hg
    rw [hx, he]
  · have he : s.replyPacket c p = u.dropResult := by
      unfold State.replyPacket
      dsimp only
      split
      · rfl
      · next i ht => exact if_neg (hl i ht)
    rw [hx, he]
    refine ⟨_, rfl, ?_, ?_, fun a ha => ?_, ?_⟩
    · rw [State.dropResult, chute_satFld_ne, pkts_headTaken hf]
    · rw [State.dropResult, slates_satFld]
    · rw [rd_dropResult ha, State.rd, hf.regs, headTaken, regs_modChute, State.rd]
    · rw [State.dropResult, mem_satFld, hf.mem, headTaken, mem_modChute]

/-- Settles O40, by the commits of the Roll and of a Tiller, the stale timer, and the two ends of a request and of a
reply. -/
theorem chuteCommitsAndReplies : Obligations.ChuteCommitsAndReplies :=
  ⟨workCommits, packetCommits, staleTimer, claimRequests, replyPackets⟩

end Sys2Proof.Laws
end

section
/-! OBLIGATION O46. The read of a patrol scrub counts its activate before it asks whether the bank of its line waits
(R389, R392). A counter that shares its address with the words of a staged region moves the line to another bank. -/

namespace Sys2Proof.Laws

open Sys2Proof.Machine Sys2Proof.Safety

variable {s t : State} {a b c n cls line : Nat} {ecc : Ecc}

/-! ### The bank of a line (R213, R389) -/

/-- Where a line lies follows from the registers, the staged changes and the DIMMs. -/
theorem bankOf_congr (hr : t.regs = s.regs) (hs : t.staged = s.staged) (hd : ∀ k, (t.chan k).dimm = (s.chan k).dimm) :
    t.bankOf line = s.bankOf line := by
  have hrd : ∀ a, t.rd a = s.rd a := fun a => by rw [State.rd, hr, State.rd]
  simp only [State.bankOf, State.groupsAt, State.regionAt, State.lineChanging, State.rangeAt, State.fitted,
    State.rgnWords, State.fld, hrd, hs, hd]
  rfl

theorem mem_insertNat_of_mem {l : List Nat} (h : b ∈ l) (n : Nat) : b ∈ insertNat n l := by
  induction l with
  | nil => simp at h
  | cons a l ih =>
    unfold insertNat
    split
    · exact List.mem_cons_of_mem n h
    · split
      · exact h
      · rcases List.mem_cons.mp h with rfl | h
        · exact List.mem_cons_self
        · exact List.mem_cons_of_mem a (ih h)

/-- A third mark of a bank makes it wait. -/
def bankMarked (b : Nat) (x : Chan) : Chan :=
  if (x.marks.filter (· == b)).length < 2 then { x with marks := b :: x.marks } else { x with full := insertNat b x.full }

theorem dimm_bankMarked (b : Nat) (x : Chan) : (bankMarked b x).dimm = x.dimm := by
  unfold bankMarked
  split <;> rfl

theorem mem_full_bankMarked {x : Chan} (h : n ∈ x.full) (b : Nat) : n ∈ (bankMarked b x).full := by
  unfold bankMarked
  split
  · exact h
  · exact mem_insertNat_of_mem h b

theorem activate_eq (s : State) (c line : Nat) : s.activate c line = { s with picks := s.picks + 1 } ∨
    s.activate c line = { s with picks := s.picks + 1 }.modChan c (bankMarked (s.bankOf line)) := by
  unfold State.activate
  dsimp only
  split
  · exact .inl rfl
  · exact .inr rfl

theorem regs_activate (s : State) (c line : Nat) : (s.activate c line).regs = s.regs := by
  rcases activate_eq s c line with h | h
  · rw [h]
  · rw [h, regs_modChan]

/-- An activate takes no bank from those that wait. -/
theorem bankWaits_activate (h : s.bankWaits c line = true) : (s.activate c line).bankWaits c line = true := by
  have hf : s.bankOf line ∈ (s.chan c).full := by simpa [State.bankWaits] using h
  rcases activate_eq s c line with he | he
  · rw [he]
    exact h
  · have hb : (s.activate c line).bankOf line = s.bankOf line := by
      rw [he]
      refine bankOf_congr (regs_modChan _ _ _) (staged_modChan _ _ _) fun k => ?_
      rw [chan_modChan]
      split
      · next hk => exact hk ▸ dimm_bankMarked _ _
      · rfl
    rw [State.bankWaits, hb, he, chan_modChan, if_pos rfl]
    exact List.contains_iff_mem.mpr (mem_full_bankMarked hf (s.bankOf line))

/-! ### A read whose bank waits only once its activate has been counted -/

/-- The state in which the bank of a line is asked for again. -/
def activated (s : State) (c cls line : Nat) : State := (s.markUnit (180 + c) (0x0401 + cls) 1).activate c line

theorem chanRead_waits (hc : s.chanAt a = some c) (hf : s.chanState c ≠ chanFrozen) (he : s.readError a n = false)
    (hw : s.bankWaits c (lineOf a) = false)
    (hm : (s.markUnit (180 + c) (0x0401 + cls) 1).bankWaits c (lineOf a) = true) :
    s.chanRead a n cls ecc = (.held, activated s c cls (lineOf a)) := by
  unfold State.chanRead
  rw [hc]
  simp only [hf, he, hw, if_false, Bool.false_eq_true]
  exact if_pos (bankWaits_activate hm)

/-! ### The counterexample -/

/-- A region number whose first word would lie at the address of counter 0 of channel 0. A region has a number below
16, but the statement takes any state. -/
def strayRegion : Nat := (Reg.mkUcnt 180 0 - Reg.dramRgnA 0) / 16

/-- Region 0 holds the first 256 MB, on channel 0, in bank group `g`; the banks of every other group wait. Counter 0 of
channel 0 counts its patrol reads. It stands at 2 ^ 32, which as the first word of a region spans the same 256 MB,
and the staged change gives the stray region this word again. -/
def strayScrub (g : Nat) : State :=
  { State.reset with
    power := { porst := false }
    regs := [
      (Reg.dramRgnA 0, 2 ^ 32), (Reg.dramRgnB 0, BitVec.ofNat 64 (2 ^ 12 + 2 ^ 16 + 2 ^ g * 2 ^ 24)),
      (Reg.dcStat 0, 2),
      (Reg.mkUsel 180 0, 2 ^ 63 + 0x0403), (Reg.mkUcnt 180 0, 2 ^ 32)]
    staged := [.region strayRegion (2 ^ 32) 0 false]
    chans := [(0, { dimm := ⟨16, 1, false, 64, true⟩
                    full := (List.range 32).filter (fun b => b / 4 != g) })] }

/-- The state once the scrub's activate has been counted. -/
def strayCounted (g : Nat) : State := (strayScrub g).markUnit 180 0x0403 1

theorem reads_strayScrub : ∀ g < 2, (strayScrub g).running = true ∧ (strayScrub g).chanAt 0 = some 0 ∧
    (strayScrub g).chanState 0 ≠ chanFrozen ∧ (strayScrub g).readError 0 64 = false ∧
    (strayScrub g).fld (Reg.dcCtl 0) F.DcCtl.scrubH ≠ 0 := by decide +kernel

theorem groupsAt_strayScrub : ∀ g < 2, (strayScrub g).groupsAt 0 = [g] ∧ (strayCounted g).groupsAt 0 = List.range 8 := by
  decide +kernel

theorem ceCnt_strayScrub : ∀ g < 2, (strayScrub g).fld (Reg.dcStat 0) F.DcStat.ceCnt = 0 ∧
    (strayCounted g).fld (Reg.dcStat 0) F.DcStat.ceCnt = 0 := by decide +kernel

/-- Bits 20 to 18 of the line's place: its bank group where no region restricts it. -/
def lineGroup (line : Nat) : Nat := Config.lineRow line / 2 ^ 18 / 4 % 8

theorem bankWaits_strayScrub {g : Nat} (hg : g < 2) : (strayScrub g).bankWaits 0 0 = false := by
  have hb : (strayScrub g).bankOf 0 / 4 = g := by
    rw [State.bankOf, (groupsAt_strayScrub g hg).1]
    simp only [List.length_singleton, Nat.mod_one, List.getD_cons_zero]
    omega
  have hc : ((strayScrub g).chan 0).full = (List.range 32).filter (fun b => b / 4 != g) := rfl
  rw [State.bankWaits, hc]
  simp [hb]

theorem bankWaits_strayCounted {g : Nat} (hg : g < 2) (hne : lineGroup 0 ≠ g) :
    (strayCounted g).bankWaits 0 0 = true := by
  have hlt : Config.lineRow 0 / 2 ^ 18 / 4 % 8 < 8 := Nat.mod_lt _ (by decide)
  have hb : (strayCounted g).bankOf 0 = 4 * lineGroup 0 + Config.lineRow 0 / 2 ^ 18 % 4 := by
    rw [State.bankOf, (groupsAt_strayScrub g hg).2, lineGroup]
    rw [List.length_range, List.getD_eq_getElem _ _ (by rwa [List.length_range]), List.getElem_range]
  have hc : ((strayCounted g).chan 0).full = (List.range 32).filter (fun b => b / 4 != g) := by
    rw [strayCounted, chan_markUnit]
    rfl
  have hdiv : (4 * lineGroup 0 + Config.lineRow 0 / 2 ^ 18 % 4) / 4 = lineGroup 0 := by omega
  rw [State.bankWaits, hc, hb]
  simp only [List.contains_iff_mem, List.mem_filter, List.mem_range, hdiv, bne_iff_ne]
  exact ⟨by unfold lineGroup; omega, hne⟩

/-- Refutes O46, in its clause that a corrected scrub read counts: the read of `strayScrub` counts its activate in the
register that is also the word of the staged region, the change that this makes takes the line from its region, and the
line's bank is then one that waits. -/
theorem not_dramChannelEvents : ¬ Obligations.DramChannelEvents := by
  unfold Obligations.DramChannelEvents
  rintro ⟨_, _, hwindows, _⟩
  obtain ⟨g, hg, hne⟩ : ∃ g < 2, lineGroup 0 ≠ g := by
    by_cases h : lineGroup 0 = 0
    · exact ⟨1, by decide, by omega⟩
    · exact ⟨0, by decide, h⟩
  obtain ⟨hrun, hat, hfrozen, herr, hscrub⟩ := reads_strayScrub g hg
  have hwaits := bankWaits_strayScrub hg
  obtain ⟨_, _, hscrubs, _⟩ := hwindows (strayScrub g) 0 0
  obtain ⟨_, s', hs', _, hce, _⟩ := hscrubs 0 hrun rfl hat hfrozen herr hscrub hwaits Nat.two_pos
  have hread : (strayScrub g).chanRead 0 64 2 .corrected = (.held, activated (strayScrub g) 0 2 0) :=
    chanRead_waits hat hfrozen herr hwaits (bankWaits_strayCounted hg hne)
  have hx : exec (.patrolScrub 0 0 .corrected) (strayScrub g) = .next (activated (strayScrub g) 0 2 0) := by
    have h : execPatrolScrub 0 0 .corrected (strayScrub g) = .next ((strayScrub g).chanRead 0 64 2 .corrected).2 :=
      congrArg _ (if_pos (by simp [hrun, hat, hscrub]))
    rw [hread] at h
    exact h
  obtain rfl : activated (strayScrub g) 0 2 0 = s' := by simpa using hx.symm.trans hs'
  rw [State.fld, State.rd, activated, regs_activate] at hce
  obtain ⟨hzero, hcounted⟩ := ceCnt_strayScrub g hg
  rw [hzero] at hce
  exact absurd (hcounted.symm.trans hce) (by decide)

end Sys2Proof.Laws
end

section
/-! OBLIGATION O56. A fast-path command runs in its lane or, forwarded, on Tabqua (R110, R113, R114, R166, R194), and the
draw of its random fill changes the House's DRBG alone (R193). -/

namespace Sys2Proof.Laws

open Sys2Proof.Machine Sys2Proof.Safety

variable {s t u : State} {id op i h n : Nat}

/-! ### What a draw from a DRBG changes (R193) -/

/-- Only registers, Houses and what has been taken of the free values and of the entropy differ. -/
def DrbgOnly (s t : State) : Prop :=
  t = { s with regs := t.regs, houses := t.houses, entPool := t.entPool, picks := t.picks }

theorem DrbgOnly.refl (s : State) : DrbgOnly s s := rfl

theorem DrbgOnly.trans (hst : DrbgOnly s t) (htu : DrbgOnly t u) : DrbgOnly s u := by
  unfold DrbgOnly at *
  rw [htu, hst]

theorem DrbgOnly.slates (hst : DrbgOnly s t) : t.slates = s.slates := by rw [hst]
theorem DrbgOnly.mem (hst : DrbgOnly s t) : t.mem = s.mem := by rw [hst]
theorem DrbgOnly.tillers (hst : DrbgOnly s t) : t.tillers = s.tillers := by rw [hst]
theorem DrbgOnly.dtime (hst : DrbgOnly s t) : t.dtime = s.dtime := by rw [hst]

theorem drbgOnly_modDrbg (s : State) (h : Nat) (f : Drbg → Drbg) : DrbgOnly s (s.modDrbg h f) := rfl

theorem drbgOnly_setFld (s : State) (a : Nat) (f : Fld) (n : Nat) : DrbgOnly s (s.setFld a f n) := rfl

theorem drbgOnly_reseeded (s : State) (h : Nat) (live : Bool) : DrbgOnly s (s.reseeded h live) := by
  have hwait := (drbgOnly_setFld s (Reg.drbgStat h) F.DrbgStat.reqs 0).trans
    (drbgOnly_setFld _ (Reg.drbgStat h) F.DrbgStat.drbgWait 0)
  unfold State.reseeded
  dsimp only
  split
  · exact hwait.trans (drbgOnly_setFld _ _ _ _)
  · exact hwait

theorem drbgOnly_reseed (s : State) (h : Nat) : DrbgOnly s (s.reseed h) :=
  DrbgOnly.trans (t := (s.entropyBytes 48).2.modDrbg h (fun x => x.seed h (s.entropyBytes 48).1)) rfl
    (drbgOnly_reseeded _ _ _)

theorem drbgOnly_reseedDue (s : State) (h : Nat) : DrbgOnly s (s.reseedDue h) := by
  unfold State.reseedDue
  split
  · exact drbgOnly_reseed s h
  · exact drbgOnly_setFld s _ _ _

theorem drbgOnly_drbgRequest (s : State) (h : Nat) : DrbgOnly s (s.drbgRequest h) := by
  unfold State.drbgRequest
  dsimp only
  split
  · exact (drbgOnly_modDrbg s h _).trans (drbgOnly_reseedDue _ h)
  · exact (drbgOnly_modDrbg s h _).trans (drbgOnly_setFld _ _ _ _)

theorem drbgOnly_drbgRefill (s : State) (h : Nat) : DrbgOnly s (s.drbgRefill h) := by
  refine foldl_keeps (DrbgOnly s) _ (fun t _ ht => ?_) _ s (.refl s)
  split
  · exact ht
  · exact ht.trans (drbgOnly_drbgRequest t h)

theorem drbgOnly_drawFrom (s : State) (h f n : Nat) : DrbgOnly s (s.drawFrom h f n).2 := by
  induction f generalizing s n with
  | zero => exact .refl s
  | succ f ih =>
    unfold State.drawFrom
    split
    · exact .refl s
    · split
      · exact (drbgOnly_drbgRequest s h).trans (ih _ _)
      · exact (drbgOnly_modDrbg s h _).trans (ih _ _)

theorem drbgOnly_draw (s : State) (h n : Nat) : DrbgOnly s (s.draw h n).2 :=
  (drbgOnly_drawFrom s h _ n).trans (drbgOnly_drbgRefill _ h)

theorem drbgOnly_fastDraw (s : State) (h : Nat) (p : List Byte) : DrbgOnly s (s.fastDraw h p).2 := by
  unfold State.fastDraw
  split
  · exact drbgOnly_draw s h 16
  · exact .refl s

/-! ### In a lane (R110) -/

theorem fastCommand_inLane (hl : s.inLane id op = true) : s.fastCommand id op = s.runInLane id := if_pos hl

theorem computesInLane (s : State) (id op : Nat) : ComputesInLane (.next (s.fastCommand id op)) s id op := by
  intro hl sl ks d
  have hd : DrbgOnly s d.2 := drbgOnly_fastDraw s _ _
  have hslate (j : Nat) : d.2.slate j = s.slate j := by rw [State.slate, hd.slates, State.slate]
  rw [fastCommand_inLane hl]
  refine ⟨_, rfl, ?_, fun j hj => ?_, hd.mem, hd.tillers, hd.dtime⟩
  · rw [State.runInLane, slate_modSlate, if_pos rfl, hslate]
    rfl
  · rw [State.runInLane, slate_modSlate, if_neg hj]
    exact hslate j

/-! ### Forwarded to Tabqua (R113, R114, R166, R194) -/

/-- Work that a Tiller holds is in no lane. -/
theorem inLane_held (h : Held s id op) : s.inLane id op = false := by
  obtain ⟨⟨t, hw, _⟩, _⟩ := h
  simp [State.inLane, hw]

theorem fastCommand_held (h : Held s id op) : s.fastCommand id op = s.runForwarded id := by
  rw [State.fastCommand, inLane_held h, if_neg Bool.false_ne_true, if_pos (atTabqua_held h)]

/-- The keys of slate `id`, as they are now. -/
def slateKeys (s : State) (id : Nat) : List KeyEnt := (s.slate id).keys.map (s.keyAt (s.slate id).house)

theorem runForwarded_gone (hg : goneKey 0 (slateKeys s id) = some i) :
    s.runForwarded id = s.finishFail id St.keyAbsent i := by
  unfold slateKeys at hg
  simp only [State.runForwarded, hg]

theorem runForwarded_badUse (hg : goneKey 0 (slateKeys s id) = none) (hb : s.badUse 0 (slateKeys s id) = some i) :
    s.runForwarded id = s.finishFail id St.keyUsage i := by
  unfold slateKeys at hg hb
  simp only [State.runForwarded, hg, hb]

theorem runForwarded_usable (hg : goneKey 0 (slateKeys s id) = none) (hb : s.badUse 0 (slateKeys s id) = none) :
    s.runForwarded id =
      if needsFill (s.slate id).pkt && !s.drbgReady (s.slate id).house 16 then s
      else
        let d := s.fastDraw (s.slate id).house (s.slate id).pkt
        let r := fastRun (s.slate id).pkt (slateKeys s id) d.1
        ((s.slate id).keys.foldl (fun (s : State) r => s.countUse r) d.2).finish id r.status r.result r.neg r.out := by
  unfold slateKeys at hg hb
  simp only [State.runForwarded, hg, hb, slateKeys]

theorem endsForwarded (s : State) (id op : Nat) : EndsForwarded (.next (s.fastCommand id op)) s id op := by
  intro hh sl ks d r dry
  rw [fastCommand_held hh]
  refine ⟨fun i hg => congrArg _ (runForwarded_gone hg), fun i hg hb => congrArg _ (runForwarded_badUse hg hb),
    fun hg hb => ?_⟩
  rw [runForwarded_usable hg hb]
  have hdry : (needsFill sl.pkt && !s.drbgReady sl.house 16) = true ↔ dry := by simp [dry]
  exact ⟨fun hd => congrArg _ (if_pos (hdry.mpr hd)), fun hd => congrArg _ (if_neg (mt hdry.mp hd))⟩

theorem fastRun_sha256Short {p : List Byte} {ks : List KeyEnt} {rnd : List Byte} (hp : pkOpcode p = 0x0901) :
    fastRun p ks rnd = { out := some (toBytesBE (Config.sha256 (slice p 64 (le p 52 2))).toNat 32) } := by
  simp only [fastRun, hp]
  rfl

/-- Settles O56: each of the fourteen commands is `State.fastCommand` with its opcode, which runs in the lane or, where a
Tiller holds the work, on Tabqua. -/
theorem fastPathCommands : Obligations.FastPathCommands := by
  intro s id both
  have hboth (op : Nat) : ComputesInLane (.next (s.fastCommand id op)) s id op ∧
      EndsForwarded (.next (s.fastCommand id op)) s id op := ⟨computesInLane s id op, endsForwarded s id op⟩
  exact ⟨hboth _, hboth _, hboth _, hboth _, hboth _, hboth _, hboth _, hboth _, hboth _, hboth _, hboth _, hboth _,
    hboth _, hboth _, fun _ _ _ => fastRun_sha256Short⟩

end Sys2Proof.Laws
end

section
/-! SUPPORT. Three of the four parts of the cards, owner keys and fills: the exchanges for the owner keys (R183), what
lapses in time (R183, R184, R310), and the fill of a key handle (R107, R108, R173). -/

namespace Sys2Proof.Laws

open Sys2Proof.Machine Sys2Proof.Safety

variable {s t u v : State} {id i n : Nat} {a b : List CardReply} {x y : CardGot} {ecc : Ecc}

/-! ### An exchange of the device's own leaves the keys (R182, R183) -/

/-- The keys, the registers, the symmetric slots and the slates are the same. -/
structure KeysStand (s t : State) : Prop where
  vshare : t.dev.vshare = s.dev.vshare
  ownerMaster : t.dev.ownerMaster = s.dev.ownerMaster
  ock : t.dev.ock = s.dev.ock
  ownerCtr : t.ownerCtr = s.ownerCtr
  rekeyAt : t.rekeyAt = s.rekeyAt
  regs : t.regs = s.regs
  symSlots : t.symSlots = s.symSlots
  slates : t.slates = s.slates

theorem KeysStand.refl (s : State) : KeysStand s s := ⟨rfl, rfl, rfl, rfl, rfl, rfl, rfl, rfl⟩

theorem KeysStand.trans (hst : KeysStand s t) (htu : KeysStand t u) : KeysStand s u where
  vshare := htu.vshare.trans hst.vshare
  ownerMaster := htu.ownerMaster.trans hst.ownerMaster
  ock := htu.ock.trans hst.ock
  ownerCtr := htu.ownerCtr.trans hst.ownerCtr
  rekeyAt := htu.rekeyAt.trans hst.rekeyAt
  regs := htu.regs.trans hst.regs
  symSlots := htu.symSlots.trans hst.symSlots
  slates := htu.slates.trans hst.slates

theorem keysStand_post (s : State) (p : Post) : KeysStand s (s.post p) := ⟨rfl, rfl, rfl, rfl, rfl, rfl, rfl, rfl⟩

theorem keysStand_runCard (s : State) (k : Nat) (x : Exchange) (l : List CardReply) :
    KeysStand s (s.runCard k x l).2 := by
  induction l generalizing s x with
  | nil => exact .refl s
  | cons r l ih =>
    unfold State.runCard
    split
    · exact (keysStand_post s _).trans (ih _ _)
    · exact .refl s
    · exact .refl s

theorem keysStand_ownerCard (s : State) (k : Nat) (l : List CardReply) : KeysStand s (s.ownerCard k l).2 := by
  have hdrawn : KeysStand s (s.entropyBytes exchangeRnd).2.freshWord.2 := ⟨rfl, rfl, rfl, rfl, rfl, rfl, rfl, rfl⟩
  exact (hdrawn.trans (keysStand_post _ _)).trans (keysStand_runCard _ _ _ _)

theorem keysStand_recordRoot (s : State) (g : CardGot) : KeysStand s (s.recordRoot g) := by
  unfold State.recordRoot
  split
  · exact ⟨rfl, rfl, rfl, rfl, rfl, rfl, rfl, rfl⟩
  · exact .refl s

/-! ### The owner keys (R183) -/

theorem exec_ownerKeysEstablish_notReady (hr : s.cardsReady = false) : exec (.ownerKeysEstablish a b) s = .next s :=
  congrArg _ (if_neg (by simp [hr]))

theorem exec_ownerKeysEstablish_noFirst (hr : s.cardsReady = true) (ha : s.ownerCard 0 a = (none, v)) :
    exec (.ownerKeysEstablish a b) s = .next v := by
  refine congrArg _ ((if_pos hr).trans ?_)
  rw [ha]

theorem exec_ownerKeysEstablish_noSecond (hr : s.cardsReady = true) (ha : s.ownerCard 0 a = (some x, v))
    (hb : (v.recordRoot x).ownerCard 1 b = (none, u)) : exec (.ownerKeysEstablish a b) s = .next u := by
  refine congrArg _ ((if_pos hr).trans ?_)
  rw [ha]
  dsimp only
  rw [hb]

theorem exec_ownerKeysEstablish_both (hr : s.cardsReady = true) (ha : s.ownerCard 0 a = (some x, v))
    (hb : (v.recordRoot x).ownerCard 1 b = (some y, u)) :
    exec (.ownerKeysEstablish a b) s = .next (u.ownerMaster x y) := by
  refine congrArg _ ((if_pos hr).trans ?_)
  rw [ha]
  dsimp only
  rw [hb]

/-- The same card or custodian twice sets no key. -/
theorem ownerMaster_alike (h : x.serial = y.serial ∨ x.custodian = y.custodian) : s.ownerMaster x y = s :=
  if_neg (by simpa [Classical.or_iff_not_imp_left] using h)

theorem ownerMaster_distinct (h : ¬ (x.serial = y.serial ∨ x.custodian = y.custodian)) :
    s.ownerMaster x y = (s.recordRoot x).establish (x.component ^^^ y.component) :=
  if_pos (by simpa using h)

theorem ownerKeys : OwnerKeys := by
  intro s a b o none'
  refine ⟨exec_ownerKeysEstablish_notReady, fun hr => ?_⟩
  have hfirst := keysStand_ownerCard s 0 a
  rcases ha : s.ownerCard 0 a with ⟨_ | x, v⟩ <;> rw [ha] at hfirst
  · exact ⟨v, exec_ownerKeysEstablish_noFirst hr ha, hfirst.vshare, hfirst.regs, hfirst.symSlots, hfirst.slates,
      hfirst.ownerMaster, hfirst.ock, hfirst.ownerCtr, hfirst.rekeyAt⟩
  have hboth := (hfirst.trans (keysStand_recordRoot v x)).trans (keysStand_ownerCard _ 1 b)
  rcases hb : (v.recordRoot x).ownerCard 1 b with ⟨_ | y, u⟩ <;> rw [hb] at hboth
  · refine ⟨u, exec_ownerKeysEstablish_noSecond hr ha hb, hboth.vshare, hboth.regs, hboth.symSlots, hboth.slates,
      ?_⟩
    simp only [hb]
    exact ⟨hboth.ownerMaster, hboth.ock, hboth.ownerCtr, hboth.rekeyAt⟩
  have hexec := exec_ownerKeysEstablish_both hr ha hb
  by_cases hxy : x.serial = y.serial ∨ x.custodian = y.custodian
  · rw [ownerMaster_alike hxy] at hexec
    refine ⟨u, hexec, hboth.vshare, hboth.regs, hboth.symSlots, hboth.slates, ?_⟩
    simp only [hb, if_pos hxy]
    exact ⟨hboth.ownerMaster, hboth.ock, hboth.ownerCtr, hboth.rekeyAt⟩
  · rw [ownerMaster_distinct hxy] at hexec
    have hrec := hboth.trans (keysStand_recordRoot u x)
    refine ⟨_, hexec, hrec.vshare, hrec.regs, hrec.symSlots, hrec.slates, ?_⟩
    simp only [hb, if_neg hxy]
    exact ⟨rfl, rfl, rfl, rfl, rfl⟩

/-! ### What ends with a pass (R310) -/

/-- The debug port's hold on a Tiller ends. -/
def undebugged (x : Tiller) : Tiller := { x with dbgHalt := false, dbgStep := false, breaks := [] }

theorem tiller_undebugged (l : List Nat) (s : State) (n : Nat) :
    (l.foldl (fun (s : State) t => s.modTiller t undebugged) s).tiller n =
      if n ∈ l then undebugged (s.tiller n) else s.tiller n := by
  induction l generalizing s with
  | nil => rfl
  | cons t l ih =>
    rw [List.foldl_cons, ih, tiller_modTiller]
    by_cases hn : n = t
    · subst hn
      simp [undebugged]
    · simp [hn]

theorem find_unlisted {α : Type} {m : List (Nat × α)} (h : n ∉ m.map (·.1)) : Map.find n m = none := by
  induction m with
  | nil => rfl
  | cons e m ih =>
    simp only [List.map_cons, List.mem_cons, not_or] at h
    rw [Map.find, if_neg (Ne.symm h.1), ih h.2]

/-- A Tiller that the state does not list is as after reset. -/
theorem tiller_unlisted (h : n ∉ s.tillers.map (·.1)) : s.tiller n = { pos := homePos n } := by
  rw [State.tiller, Map.get, find_unlisted h]
  rfl

theorem endPass_eq (s : State) : s.endPass =
    (s.tillers.map (·.1)).foldl (fun (s : State) t => s.modTiller t undebugged)
      ((s.wr Reg.passStat 0).wr Reg.passExp 0) := rfl

theorem tiller_endPass (s : State) (n : Nat) : s.endPass.tiller n = undebugged (s.tiller n) := by
  rw [endPass_eq, tiller_undebugged]
  split
  · rfl
  · next h => exact (tiller_unlisted h).trans (congrArg undebugged (tiller_unlisted h).symm)

/-- The end of a pass changes two registers and the Tillers. -/
theorem endPass_frame (s : State) : s.endPass.regs = ((s.wr Reg.passStat 0).wr Reg.passExp 0).regs ∧
    s.endPass.mem = s.mem ∧ s.endPass.flash = s.flash := by
  rw [endPass_eq]
  refine foldl_keeps (fun t => t.regs = ((s.wr Reg.passStat 0).wr Reg.passExp 0).regs ∧ t.mem = s.mem ∧
    t.flash = s.flash) _ ?_ _ _ ⟨rfl, rfl, rfl⟩
  exact fun _ _ ht => ht

theorem passStat_endPass (s : State) : s.endPass.rd Reg.passStat = 0 := by
  rw [State.rd, (endPass_frame s).1, ← State.rd, rd_wr, if_neg (by decide), rd_wr, if_pos rfl]

theorem exec_passExpiry_past (hp : s.flag Reg.passStat F.PassStat.active = true)
    (ht : (s.rd Reg.passExp).toNat < s.dtime) : exec .passExpiry s = .next s.endPass :=
  congrArg _ (if_pos ⟨hp, ht⟩)

/-! ### What lapses (R183, R184, R310) -/

theorem exec_ownerRekeyWindowEnd {c : Nat} (h : s.rekeyAt = some c) : exec .ownerRekeyWindowEnd s =
    .next (if c + sixHundred ≤ s.uptime then { s with rekeyAt := none } else s) := by
  show execOwnerRekeyWindowEnd s = _
  rw [execOwnerRekeyWindowEnd, h]

theorem exec_compSessionLapse {h : Nat} {c : CompSession} (hc : s.session h = some c) : exec (.compSessionLapse h) s =
    .next (if c.since + sixHundred ≤ s.uptime then s.setSession h none else s) := by
  show execCompSessionLapse h s = _
  rw [execCompSessionLapse, hc]

theorem lapses : Lapses := by
  refine fun s h => ⟨fun c hc => ?_, fun c hc => ?_, fun hp => ?_⟩
  · rw [exec_ownerRekeyWindowEnd hc]
    exact ⟨fun hle => ⟨_, congrArg _ (if_pos hle), rfl, rfl, rfl⟩, fun hlt => congrArg _ (if_neg hlt.not_ge)⟩
  · rw [exec_compSessionLapse hc]
    refine ⟨fun hle => ⟨_, congrArg _ (if_pos hle), ?_, fun k hk => ?_, rfl, rfl⟩,
      fun hlt => congrArg _ (if_neg hlt.not_ge)⟩
    · rw [State.session, State.setSession, house_modHouse, if_pos rfl]
    · rw [State.setSession, house_modHouse, if_neg hk]
  · refine ⟨fun ht => ?_, fun ht => congrArg _ (if_neg fun hc => hc.2.not_ge ht)⟩
    obtain ⟨_, hmem, hflash⟩ := endPass_frame s
    exact ⟨_, exec_passExpiry_past hp ht, passStat_endPass s, fun t => by simp [tiller_endPass, undebugged], hmem,
      hflash⟩

/-! ### A read of the Granary leaves the slates (R371, R379, R392, R393) -/

theorem slates_machineCheck (s : State) : s.machineCheck.slates = s.slates := by rw [machineCheck_eq]

theorem slates_freshWord (s : State) : s.freshWord.2.slates = s.slates := rfl

theorem slates_queueRow (s : State) (c row : Nat) : (s.queueRow c row).slates = s.slates := rfl

theorem slates_corrected (s : State) (c line : Nat) : (s.corrected c line).slates = s.slates := by
  unfold State.corrected
  dsimp only
  split
  · rw [slates_queueRow, slates_modChan, slates_satFld]
  · rw [slates_modChan, slates_satFld]

theorem slates_freeze (s : State) (c kind cls line : Nat) : (s.freeze c kind cls line).slates = s.slates := by
  unfold State.freeze
  split
  · rfl
  · dsimp only
    rw [slates_machineCheck, slates_modChan]
    split
    · rw [slates_queueRow, slates_wr, slates_wr, slates_freshWord, slates_setFld]
    · rw [slates_wr, slates_wr, slates_freshWord, slates_setFld]

theorem slates_deskError (s : State) (a n : Nat) : (s.deskError a n).slates = s.slates := by
  unfold State.deskError
  split
  · refine foldl_keeps (fun t => t.slates = s.slates) _ ?_ _ _ rfl
    exact fun _ _ ht => ht
  · rfl

theorem slates_activate (s : State) (c line : Nat) : (s.activate c line).slates = s.slates := by
  rcases activate_eq s c line with h | h <;> rw [h]
  rfl

theorem slates_chanRead (s : State) (a n cls : Nat) (ecc : Ecc) : (s.chanRead a n cls ecc).2.slates = s.slates := by
  have hact (c : Nat) : ((s.markUnit (180 + c) (0x0401 + cls) 1).activate c (lineOf a)).slates = s.slates := by
    rw [slates_activate, slates_markUnit]
  unfold State.chanRead
  split
  · split
    · exact slates_deskError s a n
    · split <;> rfl
  · dsimp only
    split_ifs
    · rfl
    · rfl
    · rfl
    · exact hact _
    · cases ecc with
      | ok => exact hact _
      | corrected => exact (slates_corrected _ _ _).trans (hact _)
      | failed => exact (slates_freeze _ _ _ _ _).trans (hact _)

theorem slates_granaryRead (s : State) (a n cls : Nat) (ecc : Ecc) :
    (s.granaryRead a n cls ecc).2.slates = s.slates := by
  unfold State.granaryRead
  split_ifs
  · exact slates_chanRead s a n cls ecc
  · rfl
  · cases ecc <;> rfl

/-! ### The fill of a key handle (R107, R108, R173, R174) -/

/-- The read for the fill of handle `i` of slate `id`. -/
def fillRead (s : State) (id i : Nat) (ecc : Ecc) : ReadRes × State :=
  let v := pkKey (s.slate id).pkt i
  s.granaryRead (s.tableEntry (s.slate id).house (hKind v == 4) (hIndex v)) (if hKind v == 4 then 4096 else 128) 0 ecc

theorem slate_fillRead (s : State) (id i : Nat) (ecc : Ecc) (j : Nat) :
    (fillRead s id i ecc).2.slate j = s.slate j := by
  rw [State.slate, fillRead, slates_granaryRead, State.slate]

theorem exec_keyFillComplete_held (hw : (s.slate id).work = .filling i) (hr : (fillRead s id i ecc).1 = .held) :
    exec (.keyFillComplete id ecc) s = .next (fillRead s id i ecc).2 := by
  show execKeyFillComplete id ecc s = _
  unfold execKeyFillComplete
  dsimp only
  rw [hw]
  dsimp only
  split
  · next h => exact congrArg (fun p => Host.Outcome.next p.2) h.symm
  · next hne h => exact absurd ((congrArg Prod.fst h).symm.trans hr) hne

theorem exec_keyFillComplete_read (hw : (s.slate id).work = .filling i) (hr : (fillRead s id i ecc).1 ≠ .held) :
    exec (.keyFillComplete id ecc) s = .next ((fillRead s id i ecc).2.fillDone id i) := by
  show execKeyFillComplete id ecc s = _
  unfold execKeyFillComplete
  dsimp only
  rw [hw]
  dsimp only
  split
  · next h => exact absurd (congrArg Prod.fst h) hr
  · next h => exact congrArg (fun p => Host.Outcome.next (p.2.fillDone id i)) h.symm

theorem keyFills : KeyFills := by
  intro s id i ecc hw v r
  have hslate : r.2.slate id = s.slate id := slate_fillRead s id i ecc id
  have hread (hr : r.1 ≠ .held) : exec (.keyFillComplete id ecc) s = .next (r.2.fillDone id i) :=
    exec_keyFillComplete_read hw hr
  refine ⟨exec_keyFillComplete_held hw, fun hr hf => ?_, fun u hr hf => ?_, fun k ref u hr hf => ?_⟩
  · rw [hread hr, State.fillDone, hslate, hf]
  · rw [hread hr, State.fillDone, hslate, hf]
    exact ⟨fun hu => congrArg _ (if_pos hu), fun hu => congrArg _ (if_neg (by simp [hu]))⟩
  · rw [hread hr, State.fillDone, hslate, hf]
    exact ⟨fun hu => congrArg _ (if_pos hu), fun hu => congrArg _ (if_neg (by simp [hu]))⟩

end Sys2Proof.Laws
end

section
/-! SUPPORT. Cards that come and go, and the responses that advance an exchange (R182, R184, R450; Table 6.10). The
statement about them asks for the key check value of the session's key with the component added; the model answers that
of the component (Table 6.8). Its truth is therefore that of `ComponentKcvAgrees`, which speaks of the functions of
`Config` alone. -/

namespace Sys2Proof.Laws

open Sys2Proof.Machine Sys2Proof.Safety

variable {s t : State} {id op n k : Nat} {x y : Exchange} {c : CardCert} {g : CardGot} {m : CompSession} {r : CardReply}
  {root : Option (BitVec 384)} {d : List Byte}

/-! ### The interfaces (R450) -/

theorem card_modCard (s : State) (k j : Nat) (f : Card → Card) :
    (s.modCard k f).card j = if j = k then f (s.card k) else s.card j := get_put _ _ s.cards k j

theorem exec_cardDetect_inserted (s : State) (k : Fin 2) :
    exec (.cardDetect k true) s = .next (s.modCard k (fun x => { x with present := true })) := rfl

theorem exec_cardDetect_removed_idle {k : Fin 2} (h : s.exchangeSlate k = none) : exec (.cardDetect k false) s =
    .next ((s.modCard k (fun x => { x with present := false })).endExchange k) := by
  show execCardDetect k false s = _
  simp only [execCardDetect, h, Bool.false_eq_true, if_false]

theorem exec_cardDetect_removed_busy {k : Fin 2} (h : s.exchangeSlate k = some id) : exec (.cardDetect k false) s =
    (let w := ((s.modCard k (fun x => { x with present := false })).endExchange k).freshWord
     .next (w.2.cardRefused id w.1.toNat)) := by
  show execCardDetect k false s = _
  simp only [execCardDetect, h, Bool.false_eq_true, if_false]

theorem exec_cardApduResponse_idle {k : Fin 2} (h : s.exchangeSlate k = none) :
    exec (.cardApduResponse k r) s = .next (s.endExchange k) := by
  show execCardApduResponse k r s = _
  rw [execCardApduResponse, h]
  cases (s.card k).exchange <;> rfl

theorem exec_cardApduResponse_busy {k : Fin 2} (hx : (s.card k).exchange = some x) (h : s.exchangeSlate k = some id) :
    exec (.cardApduResponse k r) s = .next (s.cardAnswer k id x r) := by
  show execCardApduResponse k r s = _
  rw [execCardApduResponse, hx, h]

theorem cardAnswer_next (h : x.advance s.dev.custRoot r = .next y) : s.cardAnswer k id x r = s.beginExchange k y := by
  rw [State.cardAnswer, h]

theorem cardAnswer_refused (h : x.advance s.dev.custRoot r = .refused n) :
    s.cardAnswer k id x r = (s.endExchange k).cardEnds id r.sw.toNat n := by
  rw [State.cardAnswer, h]

theorem cardAnswer_got (h : x.advance s.dev.custRoot r = .got g) :
    s.cardAnswer k id x r = (s.endExchange k).takeComponent id g := by
  rw [State.cardAnswer, h]

theorem card_beginExchange (s : State) (k : Nat) (x : Exchange) :
    (s.beginExchange k x).card k = { s.card k with exchange := some x } := by
  show (s.modCard k (fun c => { c with exchange := some x })).card k = _
  rw [card_modCard, if_pos rfl]

/-! ### The steps of an exchange (R182, Table 6.10) -/

theorem advance_badStatus (h : r.sw ≠ 0x9000) : x.advance root r = .refused 9 := if_pos h

theorem advance_select (h : r.sw = 0x9000) (hx : x.at_ = .select) :
    x.advance root r = .next { x with at_ := .cert 0 } := by
  simp [Exchange.advance, h, hx]

theorem advance_cert_missing (h : r.sw = 0x9000) (hx : x.at_ = .cert n) (hn : n < 255)
    (hc : Config.cardCert (x.cert ++ r.data) = none) :
    x.advance root r = .next { x with cert := x.cert ++ r.data, at_ := .cert (n + 1) } := by
  simp [Exchange.advance, h, hx, hn, hc]

theorem advance_cert_whole (h : r.sw = 0x9000) (hx : x.at_ = .cert n)
    (hc : Config.cardCert (x.cert ++ r.data) = some c) : x.advance root r =
      if certOk root c = true then .next { x with cert := x.cert ++ r.data, at_ := .agree } else .refused 9 := by
  simp [Exchange.advance, h, hx, hc]

theorem advance_noCert (h : r.sw = 0x9000) (hx : x.at_ = .agree ∨ x.at_ = .component)
    (hc : Config.cardCert x.cert = none) : x.advance root r = .refused 9 := by
  rcases hx with hx | hx <;> simp [Exchange.advance, h, hx, hc]

theorem advance_agree (h : r.sw = 0x9000) (hx : x.at_ = .agree) (hc : Config.cardCert x.cert = some c) :
    x.advance root r =
      if Config.pkVerify 0x11 c.key (x.agreed (slice r.data 0 97)) (r.data.drop 97) [] = true then
        .next { x with peer := slice r.data 0 97, at_ := .component }
      else .refused 9 := by
  simp [Exchange.advance, h, hx, hc]

theorem advance_component (h : r.sw = 0x9000) (hx : x.at_ = .component) (hc : Config.cardCert x.cert = some c) :
    x.advance root r = x.opened c r.data := by
  simp [Exchange.advance, h, hx, hc]

/-- What the card's component holds, as GET COMPONENT decrypts it. -/
def openedCard (x : Exchange) (c : CardCert) (d : List Byte) : CardGot :=
  ⟨c.serial, c.custodian, rootHash c.root, BitVec.ofNat 256 (ofBytesBE ((List.range 32).map
    (Config.gcmOpen (x.key c) (slice d 0 12) [] (slice d 12 48)).2))⟩

theorem opened_got (h : x.opened c d = .got g) :
    (Config.gcmOpen (x.key c) (slice d 0 12) [] (slice d 12 48)).1 = true ∧ g = openedCard x c d := by
  unfold Exchange.opened at h
  dsimp only at h
  split at h
  · next ht => exact ⟨ht, (CardNext.got.inj h).symm⟩
  · cases h

/-! ### A component arrives (R184) -/

theorem takeComponent_used (hm : s.session (s.houseOfSlate id) = some m) (hg : ¬ m.fresh g = true) :
    s.takeComponent id g = s.cardRefused id 0x9000 := by
  rw [State.takeComponent]
  simp [hm, hg]

/-- The session with the component added, in the state that has recorded the root. -/
def componentTaken (s : State) (id : Nat) (m : CompSession) (g : CardGot) : State :=
  (s.recordRoot g).setSession (s.houseOfSlate id)
    (some { m with acc := m.acc ^^^ g.component, cards := (g.serial, g.custodian) :: m.cards })

theorem takeComponent_fresh (hm : s.session (s.houseOfSlate id) = some m) (hg : m.fresh g = true) :
    s.takeComponent id g = (componentTaken s id m g).finishOut id (kcv (m.key g.component)) := by
  rw [State.takeComponent]
  simp [hm, hg, componentTaken]

/-- Under the ciphers of `Config`, a component that a card can give has the same key check value alone as added to the
session that takes it. -/
def ComponentKcvAgrees : Prop :=
  ∀ (x : Exchange) (c : CardCert) (d : List Byte) (g : CardGot) (m : CompSession), Config.cardCert x.cert = some c →
    x.opened c d = .got g → m.fresh g = true → kcv (m.key g.component) = kcv (m.key (m.acc ^^^ g.component))

/-- Where the model answers the key check value of the component, the statement's holds as well. -/
theorem takeComponent_agrees (hk : ComponentKcvAgrees) (hc : Config.cardCert x.cert = some c)
    (hg : x.opened c d = .got g) (hm : s.session (s.houseOfSlate id) = some m) (hf : m.fresh g = true) :
    s.takeComponent id g = (componentTaken s id m g).finishOut id (kcv (m.key (m.acc ^^^ g.component))) := by
  rw [takeComponent_fresh hm hf, hk x c d g m hc hg hf]

/-- Every clause but the output of a component holds whatever the ciphers are. -/
theorem cardEvents_of_componentKcvAgrees (hk : ComponentKcvAgrees) : CardEvents := by
  intro s k r u o
  refine ⟨⟨_, exec_cardDetect_inserted s k, ?_, ?_, fun j hj => ?_, rfl⟩,
    fun h => ⟨_, exec_cardDetect_removed_idle h, ?_, ?_, fun j hj => ?_, rfl⟩,
    fun id h => exec_cardDetect_removed_busy h, fun h => ⟨_, exec_cardApduResponse_idle h, ?_, rfl, rfl⟩, ?_⟩
  · rw [card_modCard, if_pos rfl]
  · rw [card_modCard, if_pos rfl]
  · rw [card_modCard, if_neg hj]
  · simp [State.endExchange, card_modCard]
  · simp [State.endExchange, card_modCard]
  · simp [State.endExchange, card_modCard, hj]
  · rw [State.endExchange, card_modCard, if_pos rfl]
  intro x id hx hid ends goes cert
  have hexec : o = .next (s.cardAnswer k id x r) := exec_cardApduResponse_busy hx hid
  have hends {n : Nat} (h : x.advance s.dev.custRoot r = .refused n) : ends n :=
    hexec.trans (congrArg _ (cardAnswer_refused h))
  have hgoes {y : Exchange} (h : x.advance s.dev.custRoot r = .next y) : goes y := by
    refine ⟨_, hexec.trans (congrArg _ (cardAnswer_next h)), ?_, ?_, rfl, rfl, rfl, rfl⟩
    · rw [card_beginExchange]
    · rw [card_beginExchange]
  refine ⟨fun h => hends (advance_badStatus h), fun h => ⟨fun hat => hgoes (advance_select h hat),
    fun n hn hat => ?_, fun hat => ?_, fun hat => ?_⟩⟩
  · rcases hc : Config.cardCert cert with _ | c
    · exact hgoes (advance_cert_missing h hat hn hc)
    have hadv := advance_cert_whole (root := s.dev.custRoot) h hat hc
    dsimp only
    split_ifs with hok
    · exact hgoes (hadv.trans (if_pos hok))
    · exact hends (hadv.trans (if_neg hok))
  · rcases hc : Config.cardCert x.cert with _ | c
    · exact hends (advance_noCert h (.inl hat) hc)
    have hadv := advance_agree (root := s.dev.custRoot) h hat hc
    dsimp only
    split_ifs with hok
    · exact hgoes (hadv.trans (if_pos hok))
    · exact hends (hadv.trans (if_neg hok))
  · rcases hc : Config.cardCert x.cert with _ | c
    · exact hends (advance_noCert h (.inr hat) hc)
    have hadv := advance_component (root := s.dev.custRoot) h hat hc
    dsimp only
    split_ifs with hok
    · intro m hm
      have hanswer := hexec.trans (congrArg _ (cardAnswer_got (hadv.trans (if_pos hok))))
      split_ifs with hf
      · exact hanswer.trans (congrArg _ (takeComponent_agrees hk hc (if_pos hok) hm hf))
      · show o = .next (u.finishNeg id (r.sw.toNat % 65536 * 65536 + 9) (some (zeros 8)))
        rw [h]
        exact hanswer.trans (congrArg _ (takeComponent_used hm hf))
    · exact hends (hadv.trans (if_neg hok))

/-! ### The output of a component decides the statement -/

/-- Slate 0 runs COMP_ENTER. -/
def enteringSlate : State :=
  { State.reset with slates := [(0, { st := .live, work := .tiller 0, pkt := toBytes 0x0287 2 })] }

/-- Its exchange `x` on interface 0 awaits the component, for the session `m` of House 0. -/
def entering (x : Exchange) (m : CompSession) : State :=
  { enteringSlate with
    cards := [(0, { present := true, exchange := some { x with slate := some (0, 0), at_ := .component } })]
    houses := [(0, { comp := some m })] }

theorem held_of_same (h : Held s id op) (hl : t.slates = s.slates) (hr : t.regs = s.regs) (hv : t.leaving = s.leaving) :
    Held t id op := by
  have hslate : t.slate id = s.slate id := by rw [State.slate, hl, State.slate]
  have hserves (n h : Nat) : t.tillerServes n h = s.tillerServes n h := by
    simp only [State.tillerServes, State.tillerFor, State.tillerHouse, State.fld, State.rd, hr, hv]
  obtain ⟨⟨n, hw, hn⟩, hp, ho, hs, hb⟩ := h
  refine ⟨⟨n, ?_, ?_⟩, ?_, ?_, ?_, ?_⟩
  · rw [hslate, hw]
  · rw [hslate, hserves, hn]
  · rw [hslate, hp]
  · rw [hslate, ho]
  · rw [hslate, hs]
  · rw [hslate, hb]

/-- A command that ends shows its output in the claim. -/
theorem finishOut_injective {a b : List Byte} (h : Held s id op) (hu : Unreplied s id)
    (he : s.finishOut id a = s.finishOut id b) : a = b := by
  have hc : ((s.finishOut id a).slate id).claim = ((s.finishOut id b).slate id).claim := by rw [he]
  rw [State.finishOut, State.finishOut, claim_finish h hu, claim_finish h hu] at hc
  simpa [State.mkClaim] using hc

theorem held_enteringSlate : Held enteringSlate 0 0x0287 :=
  ⟨⟨0, rfl, by decide +kernel⟩, rfl, by decide +kernel, rfl, rfl⟩

theorem exchangeSlate_entering (x : Exchange) (m : CompSession) : (entering x m).exchangeSlate 0 = some 0 :=
  if_pos ⟨rfl, atTabqua_held (held_of_same held_enteringSlate rfl rfl rfl)⟩

theorem componentTaken_frame (s : State) (id : Nat) (m : CompSession) (g : CardGot) :
    (componentTaken s id m g).slates = s.slates ∧ (componentTaken s id m g).regs = s.regs ∧
      (componentTaken s id m g).leaving = s.leaving := by
  unfold componentTaken State.recordRoot
  split <;> exact ⟨rfl, rfl, rfl⟩

/-- What the statement says of a component, in terms of the model's own operations. -/
theorem exec_component_of_cardEvents {k : Fin 2} (h : CardEvents) (hx : (s.card k).exchange = some x)
    (hid : s.exchangeSlate k = some id) (hat : x.at_ = .component) (hsw : r.sw = 0x9000)
    (hc : Config.cardCert x.cert = some c) (hg : x.opened c r.data = .got g)
    (hm : s.session (s.houseOfSlate id) = some m) (hf : m.fresh g = true) : exec (.cardApduResponse k r) s =
      .next ((componentTaken (s.endExchange k) id m g).finishOut id (kcv (m.key (m.acc ^^^ g.component)))) := by
  obtain ⟨htag, rfl⟩ := opened_got hg
  obtain ⟨_, _, _, _, hresponse⟩ := h s k r
  obtain ⟨_, _, _, hcomponent⟩ := (hresponse x id hx hid).2 hsw
  have hstated := hcomponent hat
  rw [hc] at hstated
  exact (if_pos hf).mp ((if_pos htag).mp hstated m hm)

theorem componentKcvAgrees_of_cardEvents (h : CardEvents) : ComponentKcvAgrees := by
  intro x c d g m hc hg hf
  let s := entering x m
  let u := componentTaken (s.endExchange 0) 0 m g
  let y : Exchange := { x with slate := some (0, 0), at_ := .component }
  let r : CardReply := ⟨d, 0x9000⟩
  have hslate : s.exchangeSlate (0 : Fin 2) = some 0 := exchangeSlate_entering x m
  have hadvance : y.advance s.dev.custRoot r = .got g := (advance_component (x := y) (r := r) rfl rfl hc).trans hg
  have hmodel : exec (.cardApduResponse 0 r) s = .next (u.finishOut 0 (kcv (m.key g.component))) :=
    (exec_cardApduResponse_busy (x := y) rfl hslate).trans
      (congrArg _ ((cardAnswer_got hadvance).trans (takeComponent_fresh rfl hf)))
  have hstated : exec (.cardApduResponse 0 r) s = .next (u.finishOut 0 (kcv (m.key (m.acc ^^^ g.component)))) :=
    exec_component_of_cardEvents (x := y) h rfl hslate rfl rfl hc hg rfl hf
  obtain ⟨hslates, hregs, hleaving⟩ := componentTaken_frame (s.endExchange 0) 0 m g
  have hheld : Held u 0 0x0287 := held_of_same held_enteringSlate hslates hregs hleaving
  have hopen : Unreplied u 0 := by
    rw [Unreplied, State.slate, hslates]
    exact ⟨rfl, rfl⟩
  exact finishOut_injective hheld hopen (Host.Outcome.next.inj (hmodel.symm.trans hstated))

/-- Whether the statement holds is a question about the functions of `Config`, which have no body: no certificate and no
tag that verifies can be shown, nor that there is none. -/
theorem cardsOwnerAndFills_iff : Obligations.CardsOwnerAndFills ↔ ComponentKcvAgrees :=
  ⟨fun ⟨h, _⟩ => componentKcvAgrees_of_cardEvents h,
    fun h => ⟨cardEvents_of_componentKcvAgrees h, ownerKeys, lapses, keyFills⟩⟩

end Sys2Proof.Laws
end

section
/-! SUPPORT. How a command at Tabqua obtains its keys and reads its buffers (R161, R165, R166, R173, R190). Obtaining a
key leaves every slate; each way in which a key or a buffer comes back has one lemma. -/

namespace Sys2Proof.Laws

open Sys2Proof.Machine Sys2Proof.Safety

variable {s t u : State} {id i h n op : Nat} {r : KeyRef} {k : KeyEnt} {v : Word} {usable : KeyEnt → Bool}
  {go : KeyRef → KeyEnt → State → State}

/-! ### Slates stay -/

theorem slates_setCache (s : State) (asym : Bool) (l : List CacheEnt) : (s.setCache asym l).slates = s.slates := by
  cases asym <;> rfl

theorem slates_cacheTouch (s : State) (v : Word) : (s.cacheTouch v).slates = s.slates := by
  unfold State.cacheTouch
  dsimp only
  split
  · exact slates_setCache _ _ _
  · rfl

theorem slates_cachePut (s : State) (h : Nat) (asym : Bool) (e : CacheEnt) :
    (s.cachePut h asym e).slates = s.slates :=
  (slates_setCache _ _ _).trans (slates_setCache _ _ _)

theorem slates_setSlot (s : State) (asym : Bool) (n : Nat) (k : KeyEnt) : (s.setSlot asym n k).slates = s.slates := by
  cases asym <;> rfl

/-- Whatever becomes of the search for a key, the slates are those of `s`. -/
inductive GotBeside (s : State) : Got → Prop
  | absent {t : State} (h : t.slates = s.slates) : GotBeside s (.absent t)
  | wait : GotBeside s .wait
  | ok {r : KeyRef} {k : KeyEnt} {t : State} (h : t.slates = s.slates) : GotBeside s (.ok r k t)

theorem gotBeside_fillRecord (hs : t.slates = s.slates) (h : Nat) (v : Word) (fast : Bool) :
    GotBeside s (t.fillRecord h v fast) := by
  unfold State.fillRecord
  extract_lets asym a n b
  split
  · exact .wait
  split
  · exact .absent ((slates_machineCheck _).trans hs)
  split
  · exact .absent hs
  split
  · exact .absent ((slates_machineCheck _).trans hs)
  split
  · exact .ok ((slates_cachePut _ _ _ _).trans hs)
  · exact .wait

theorem gotBeside_getKey (s : State) (h : Nat) (v : Word) : GotBeside s (s.getKey h v) := by
  unfold State.getKey
  split
  · exact .absent rfl
  · refine .ok ?_
    split
    · exact slates_cacheTouch _ _
    · rfl
  · exact gotBeside_fillRecord (by rfl) _ _ _

theorem slates_getKey_ok (hg : s.getKey h v = .ok r k u) : u.slates = s.slates := by
  have hb := gotBeside_getKey s h v
  rw [hg] at hb
  cases hb
  assumption

theorem pktOf_congr (hs : t.slates = s.slates) (id : Nat) : t.pktOf id = (s.slate id).pkt := by
  rw [State.pktOf, State.slate, hs, State.slate]

theorem houseOfSlate_congr (hs : t.slates = s.slates) (id : Nat) : t.houseOfSlate id = (s.slate id).house := by
  rw [State.houseOfSlate, State.slate, hs, State.slate]

/-! ### Keys (R161, R165, R166) -/

theorem withKey_ok (hg : s.getKey (s.slate id).house (pkKey (s.slate id).pkt i) = .ok r k u) :
    s.withKey id i go = go r k u := by
  rw [State.withKey, State.houseOfSlate, State.pktOf, hg]

theorem withKey_absent (hg : s.getKey (s.slate id).house (pkKey (s.slate id).pkt i) = .absent u) :
    s.withKey id i go = u.finishFail id St.keyAbsent i := by
  rw [State.withKey, State.houseOfSlate, State.pktOf, hg]

theorem useKey_ok (hg : s.getKey (s.slate id).house (pkKey (s.slate id).pkt i) = .ok r k u)
    (hd : hKind (pkKey (s.slate id).pkt i) ≠ 5) (hk : usable k = true) (hu : u.useOk k = true) :
    s.useKey id i usable go = go r k u := by
  rw [State.useKey, withKey_ok hg, pktOf_congr (slates_getKey_ok hg), if_neg (by simp [hd, hk, hu])]

theorem useKey_refused (hg : s.getKey (s.slate id).house (pkKey (s.slate id).pkt i) = .ok r k u)
    (hr : hKind (pkKey (s.slate id).pkt i) = 5 ∨ usable k = false ∨ u.useOk k = false) :
    s.useKey id i usable go = u.finishFail id St.keyUsage i := by
  rw [State.useKey, withKey_ok hg, pktOf_congr (slates_getKey_ok hg), if_pos (by simpa using hr)]

/-! ### Buffers (R190) -/

theorem withBuf_error {off : Nat} {f : List Byte → State} (hn : n ≠ 0) :
    s.withBuf id off n .error f = s.finishFail id St.format off := if_neg hn

theorem withBufs_bytes {f : List Byte → List Byte → List Byte → State} (m a q : List Byte) :
    s.withBufs id (.bytes m) (.bytes a) (.bytes q) n f =
      f (slice m 0 (le (s.pktOf id) 72 4)) (slice a 0 (le (s.pktOf id) 76 4)) (slice q 0 n) := rfl

theorem withBufs_inputError {f : List Byte → List Byte → List Byte → State} {aux pk : HostBuf}
    (hn : le (s.pktOf id) 72 4 ≠ 0) : s.withBufs id .error aux pk n f = s.finishFail id St.format 64 := if_neg hn

end Sys2Proof.Laws
end

section
/-! OBLIGATION O55. Signatures, key agreement and the long hashes on Tabqua (R189 to R191, Tables 6.13 and 6.14). -/

namespace Sys2Proof.Laws

open Sys2Proof.Machine Sys2Proof.Safety

variable {s u : State} {id b : Nat} {r : KeyRef} {k : KeyEnt} {us : List Nat} {m a q : List Byte}
  {go : List Byte → List Byte → List Byte → State → State}

/-! ### The public key of an operation (R189) -/

/-- KEY0 = 0: the key comes from the PK buffer. -/
theorem withPublic_buffer (h0 : pkKey (s.slate id).pkt 0 = 0) :
    s.withPublic id us b (.bytes m) (.bytes a) (.bytes q) go =
      go (slice m 0 (le (s.slate id).pkt 72 4)) (slice a 0 (le (s.slate id).pkt 76 4))
        (slice q 0 (le (s.slate id).pkt 96 4)) s := if_pos h0

theorem withPublic_key (h0 : pkKey (s.slate id).pkt 0 ≠ 0)
    (hg : s.getKey (s.slate id).house (pkKey (s.slate id).pkt 0) = .ok r k u)
    (hd : hKind (pkKey (s.slate id).pkt 0) ≠ 5)
    (hk : opKey (s.slate id).pkt us b k = true) (hu : u.useOk k = true) :
    s.withPublic id us b (.bytes m) (.bytes a) (.bytes q) go =
      go (slice m 0 (le (s.slate id).pkt 72 4)) (slice a 0 (le (s.slate id).pkt 76 4)) k.pub (u.countUse r) := by
  refine (if_neg h0).trans ((useKey_ok hg hd hk hu).trans ?_)
  rw [withBufs_bytes, pktOf_congr (slates_getKey_ok hg)]

/-! ### SIGN and VERIFY -/

theorem sign_ready {inp aux pk : HostBuf}
    (hd : s.drbgReady (s.slate id).house (nonceLen (s.slate id).pkt) = true) : s.sign id inp aux pk =
    s.useKey id 0 (opKey (s.slate id).pkt [0x10] bGenerate) (fun r k u =>
      u.withBufs id inp aux pk 0 (fun m _ _ =>
        let d := (u.countUse r).draw (s.slate id).house (nonceLen (s.slate id).pkt)
        d.2.finishOut id ((List.range (sigLen (opAlg (s.slate id).pkt))).map
          (Config.pkOut (opAlg (s.slate id).pkt) k.val (opForm (s.slate id).pkt ++ m) d.1 1)))) :=
  if_neg (by simpa [State.pktOf, State.houseOfSlate] using hd)

theorem sign_dry {inp aux pk : HostBuf}
    (hd : s.drbgReady (s.slate id).house (nonceLen (s.slate id).pkt) = false) : s.sign id inp aux pk = s :=
  if_pos (by simpa [State.pktOf, State.houseOfSlate] using hd)

/-- What VERIFY of packet `p` answers, once its buffers are read and the public key is known. -/
def verified (p : List Byte) (id : Nat) (msg sig key : List Byte) (u : State) : State :=
  if pkValid (opAlg p) key = false then u.finishNeg id 8 none
  else if Config.pkVerify (opAlg p) key msg sig (opForm p) = true then u.finishOk id
  else u.finishNeg id 7 none

theorem verify_eq {inp aux pk : HostBuf} : s.verify id inp aux pk =
    s.withPublic id [0x10, 0x11] bVerify inp aux pk (verified (s.slate id).pkt id) := by
  unfold State.verify verified
  simp only [Bool.not_eq_true', State.pktOf]
  rfl

theorem signatures : Signatures := by
  intro s id m a q p h inp sig pub
  have hsign {inp aux pk : HostBuf} (hh : Held s id 0x0801) :
      exec (.sign id inp aux pk) s = .next (s.sign id inp aux pk) := congrArg _ (onTabqua_held hh _)
  have hverify (hh : Held s id 0x0802) : exec (.verify id (.bytes m) (.bytes a) (.bytes q)) s =
      .next (s.withPublic id [0x10, 0x11] bVerify (.bytes m) (.bytes a) (.bytes q) (verified p id)) :=
    congrArg _ ((onTabqua_held hh _).trans verify_eq)
  refine ⟨fun r k u hh hd hg hkind hk hu => ⟨?_, fun hn => ?_⟩, fun r k u hh hd hg hr => ?_, fun hh hd => ?_,
    fun hh h0 => ?_, fun r k u hh h0 hg hkind hk hu => ?_⟩
  · rw [hsign hh, sign_ready hd, useKey_ok hg hkind hk hu, withBufs_bytes, pktOf_congr (slates_getKey_ok hg)]
  · rw [hsign hh, sign_ready hd, useKey_ok hg hkind hk hu,
      withBufs_inputError (by rwa [pktOf_congr (slates_getKey_ok hg)])]
  · rw [hsign hh, sign_ready hd, useKey_refused hg hr]
  · rw [hsign hh, sign_dry hd]
  · rw [hverify hh, withPublic_buffer h0]
    rfl
  · rw [hverify hh, withPublic_key h0 hg hkind hk hu]
    rfl

/-! ### ENCAPSULATE, DECAPSULATE and ECDH -/

/-- ENCAPSULATE of packet `p` for House `h`, once the public key is known. -/
def encapsulated (p : List Byte) (h id : Nat) (key : List Byte) (u : State) : State :=
  if pkValid (opAlg p) key = false then
    u.finishNeg id 8 (some (zeros (kemLen (opAlg p) + createdLen (extWord p 1))))
  else
    let d := u.draw h 32
    d.2.create id (extWord p 1)
      (specKey (extWord p 1) [] ((List.range 32).map (Config.pkOut (opAlg p) key [] d.1 3)) [])
      ((List.range (kemLen (opAlg p))).map (Config.pkOut (opAlg p) key [] d.1 2)) false

theorem encapsulate_ready {inp aux pk : HostBuf} (hd : s.drbgReady (s.slate id).house 32 = true) :
    s.encapsulate id inp aux pk = s.withPublic id [0x12, 0x13] bEncrypt inp aux pk
      (fun _ _ => encapsulated (s.slate id).pkt (s.slate id).house id) := by
  unfold State.encapsulate encapsulated
  simp only [State.pktOf, State.houseOfSlate, hd, Bool.not_true, Bool.false_eq_true, if_false, Bool.not_eq_true']

theorem encapsulate_dry {inp aux pk : HostBuf} (hd : s.drbgReady (s.slate id).house 32 = false) :
    s.encapsulate id inp aux pk = s :=
  if_pos (by simpa [State.houseOfSlate] using hd)

/-- ECDH of packet `p` with the peer's key and the fixed info of `x`, once the secret `val` is known. -/
def agreed (p : List Byte) (id : Nat) (val x : List Byte) (u : State) : State :=
  let spec := extWord p 1
  let peer := x.take (pubLen (opAlg p))
  if pkValid (opAlg p) peer = false then u.finishNeg id 8 (some (zeros (createdLen spec)))
  else
    let z := (List.range (privLen (opAlg p))).map (Config.pkOut (opAlg p) val peer [] 5)
    u.create id spec (specKey spec [] (slice (oneStep sha256b z (x.drop (pubLen (opAlg p)))) 0
      (symLen (attrType (specAttr spec)) (attrKlen (specAttr spec)))) []) [] false

theorem ecdh_eq {inp aux pk : HostBuf} : s.ecdh id inp aux pk =
    s.useKey id 0 (opKey (s.slate id).pkt [0x14] bDerive) (fun r k u =>
      u.withBufs id inp aux pk 0 (fun _ x _ => agreed (s.slate id).pkt id k.val x (u.countUse r))) := by
  unfold State.ecdh agreed
  simp only [Bool.not_eq_true', State.pktOf]

theorem secretSharing : SecretSharing := by
  intro s id m a q p h spec x pub out shares
  have hencapsulate (hh : Held s id 0x0803) : exec (.encapsulate id (.bytes m) (.bytes a) (.bytes q)) s =
      .next (s.encapsulate id (.bytes m) (.bytes a) (.bytes q)) := congrArg _ (onTabqua_held hh _)
  have hdecapsulate (hh : Held s id 0x0804) : exec (.decapsulate id (.bytes m) (.bytes a) (.bytes q)) s =
      .next (s.decapsulate id (.bytes m) (.bytes a) (.bytes q)) := congrArg _ (onTabqua_held hh _)
  have hecdh (hh : Held s id 0x0805) : exec (.ecdh id (.bytes m) (.bytes a) (.bytes q)) s =
      .next (s.ecdh id (.bytes m) (.bytes a) (.bytes q)) := congrArg _ (onTabqua_held hh _)
  refine ⟨fun hh hd h0 => ?_, fun r k u hh hd h0 hg hkind hk hu => ?_, fun hh hd => ?_,
    fun r k u hh hg hkind hk hu => ?_, fun r k u hh hg hkind hk hu => ?_⟩
  · rw [hencapsulate hh, encapsulate_ready hd, withPublic_buffer h0]
    rfl
  · rw [hencapsulate hh, encapsulate_ready hd, withPublic_key h0 hg hkind hk hu]
    rfl
  · rw [hencapsulate hh, encapsulate_dry hd]
  · rw [hdecapsulate hh, State.decapsulate]
    refine congrArg _ ((useKey_ok hg hkind hk hu).trans ?_)
    rw [withBufs_bytes, pktOf_congr (slates_getKey_ok hg)]
    rfl
  · rw [hecdh hh, ecdh_eq, useKey_ok hg hkind hk hu, withBufs_bytes, pktOf_congr (slates_getKey_ok hg)]
    rfl

/-! ### The long hashes (R191) -/

/-- A hash of the packet's message. -/
theorem onTabqua_hash {op : Nat} {f : List Byte → List Byte} (h : Held s id op) :
    s.onTabqua id op (fun t => t.finishOut id (f (hashInput (t.pktOf id)))) =
      s.finishOut id (f (hashInput (s.slate id).pkt)) := onTabqua_held h _

theorem longHashes : LongHashes := by
  intro s id p m
  refine ⟨fun h => ?_, fun h => ?_, fun h => ?_, fun h => ?_, fun h => ?_⟩
  · exact congrArg Host.Outcome.next (onTabqua_hash (f := hashOf 2) h)
  · exact congrArg Host.Outcome.next (onTabqua_hash (f := hashOf 3) h)
  · exact congrArg Host.Outcome.next (onTabqua_hash (f := hashOf 4) h)
  · exact congrArg Host.Outcome.next (onTabqua_hash (f := hashOf 5) h)
  · exact congrArg Host.Outcome.next (onTabqua_held h _)

/-- Settles O55, by the ways in which keys and buffers come back (`useKey_ok`, `withPublic_key`, `withBufs_bytes`). -/
theorem publicKeyCommands : Obligations.PublicKeyCommands := ⟨signatures, secretSharing, longHashes⟩

end Sys2Proof.Laws
end

section
/-! SUPPORT. The Satchel's slots: what a write of one slot and the clearing of many leave (R161, R175, R197). -/

namespace Sys2Proof.Laws

open Sys2Proof.Machine Sys2Proof.Safety

variable {s : State} {a asym : Bool} {m n : Nat} {f : KeyEnt → Bool}

theorem slot_setSlot (s : State) (asym : Bool) (n : Nat) (k : KeyEnt) (a : Bool) (m : Nat) :
    (s.setSlot asym n k).slot a m = if a = asym ∧ m = n then k else s.slot a m := by
  cases asym <;> cases a <;> simp [State.slot, State.setSlot]

theorem clearSlot_eq (s : State) (asym : Bool) (n : Nat) : ∃ fl q, s.clearSlot asym n =
    { s.setSlot asym n { gen := ((s.slot asym n).gen + 1) % 65536 } with flash := fl, sealQ := q } := ⟨_, _, rfl⟩

theorem slot_clearSlot (s : State) (asym : Bool) (n : Nat) (a : Bool) (m : Nat) : (s.clearSlot asym n).slot a m =
    if a = asym ∧ m = n then { gen := ((s.slot asym n).gen + 1) % 65536 } else s.slot a m := by
  obtain ⟨fl, q, h⟩ := clearSlot_eq s asym n
  rw [h, ← slot_setSlot]
  rfl

/-- Clear the slots of a list. -/
def clearList (s : State) (asym : Bool) (l : List Nat) : State :=
  l.foldl (fun (s : State) n => s.clearSlot asym n) s

theorem slot_clearList_ne {l : List Nat} (h : ¬ (a = asym ∧ m ∈ l)) : (clearList s asym l).slot a m = s.slot a m := by
  induction l generalizing s with
  | nil => rfl
  | cons n l ih =>
    rw [List.mem_cons, not_and_or, not_or] at h
    rw [clearList, List.foldl_cons, ← clearList, ih (by tauto), slot_clearSlot, if_neg (by tauto)]

theorem used_clearList {l : List Nat} (h : m ∈ l) : ((clearList s asym l).slot asym m).used = false := by
  induction l generalizing s with
  | nil => cases h
  | cons n l ih =>
    rw [clearList, List.foldl_cons, ← clearList]
    by_cases hm : m ∈ l
    · exact ih hm
    · obtain rfl := (List.mem_cons.1 h).resolve_right hm
      rw [slot_clearList_ne (by tauto), slot_clearSlot, if_pos ⟨rfl, rfl⟩]

theorem mem_of_find {α : Type} {m : List (Nat × α)} {v : α} (h : Map.find n m = some v) : (n, v) ∈ m := by
  induction m with
  | nil => cases h
  | cons e m ih =>
    rw [Map.find] at h
    split at h
    · next he =>
      obtain rfl := he
      obtain rfl := Option.some.inj h
      exact List.mem_cons_self
    · exact List.mem_cons_of_mem _ (ih h)

/-- The slots of one kind that the state lists. -/
def slotsOf (s : State) (asym : Bool) : List (Nat × KeyEnt) := if asym then s.asymSlots else s.symSlots

theorem slot_eq_get (s : State) (asym : Bool) (n : Nat) : s.slot asym n = Map.get {} (slotsOf s asym) n := by
  cases asym <;> rfl

/-- A slot in use is listed. -/
theorem mem_slotsOf (h : (s.slot asym n).used = true) : (n, s.slot asym n) ∈ slotsOf s asym := by
  rw [slot_eq_get] at h ⊢
  rcases hf : Map.find n (slotsOf s asym) with _ | k
  · rw [Map.get, hf] at h
    exact absurd h Bool.false_ne_true
  · rw [Map.get, hf]
    exact mem_of_find hf

/-- Slots of one kind in use that satisfy `f`. -/
def chosenSlots (s : State) (asym : Bool) (f : KeyEnt → Bool) : List Nat :=
  ((slotsOf s asym).filter (fun e => e.2.used && f e.2)).map (·.1)

theorem mem_chosenSlots (h : (s.slot asym n).used = true) (hf : f (s.slot asym n) = true) :
    n ∈ chosenSlots s asym f :=
  List.mem_map.2 ⟨_, List.mem_filter.2 ⟨mem_slotsOf h, by rw [h, hf]; rfl⟩, rfl⟩

theorem clearSlots_eq (s : State) (f : KeyEnt → Bool) : s.clearSlots f =
    clearList (clearList s false (chosenSlots s false f)) true
      (chosenSlots (clearList s false (chosenSlots s false f)) true f) := rfl

/-- A slot of the kind that `clearList` works through, in use afterwards, was not chosen. -/
theorem slot_of_used_clearList (h : ((clearList s asym (chosenSlots s asym f)).slot asym n).used = true) :
    (clearList s asym (chosenSlots s asym f)).slot asym n = s.slot asym n ∧ f (s.slot asym n) = false := by
  have hn : n ∉ chosenSlots s asym f := fun hn => by simp [used_clearList hn] at h
  have hs : (clearList s asym (chosenSlots s asym f)).slot asym n = s.slot asym n := slot_clearList_ne (by tauto)
  rw [hs] at h
  exact ⟨hs, Bool.eq_false_iff.2 fun hf => hn (mem_chosenSlots h hf)⟩

/-- What is in use once the slots that satisfy `f` are cleared was there before, and does not satisfy `f`. -/
theorem slot_of_used_clearSlots (h : ((s.clearSlots f).slot asym n).used = true) :
    (s.clearSlots f).slot asym n = s.slot asym n ∧ f (s.slot asym n) = false := by
  rw [clearSlots_eq] at h ⊢
  cases asym with
  | false =>
    rw [slot_clearList_ne (by simp)] at h ⊢
    exact slot_of_used_clearList h
  | true =>
    have hsym : (clearList s false (chosenSlots s false f)).slot true n = s.slot true n := slot_clearList_ne (by simp)
    rw [← hsym]
    exact slot_of_used_clearList h

/-- Clearing slots changes nothing but slots, their seals in the boot flash, and the seals that wait. -/
theorem clearSlots_frame (s : State) (f : KeyEnt → Bool) : ∃ y a fl q,
    s.clearSlots f = { s with symSlots := y, asymSlots := a, flash := fl, sealQ := q } := by
  have hlist (t : State) (asym : Bool) (l : List Nat) : ∃ y a fl q,
      clearList t asym l = { t with symSlots := y, asymSlots := a, flash := fl, sealQ := q } := by
    refine foldl_keeps (fun u => ∃ y a fl q, u = { t with symSlots := y, asymSlots := a, flash := fl, sealQ := q })
      _ ?_ _ _ ⟨_, _, _, _, rfl⟩
    rintro _ n ⟨y, a, fl, q, rfl⟩
    cases asym <;> exact ⟨_, _, _, _, rfl⟩
  obtain ⟨y, a, fl, q, h₁⟩ := hlist s false (chosenSlots s false f)
  obtain ⟨y', a', fl', q', h₂⟩ := hlist (clearList s false (chosenSlots s false f)) true
    (chosenSlots (clearList s false (chosenSlots s false f)) true f)
  exact ⟨y', a', fl', q', by rw [clearSlots_eq, h₂, h₁]⟩

end Sys2Proof.Laws
end

section
/-! SUPPORT. Tamper hits (R195, Table 6.15): what a zeroisation leaves of TAMP_STAT, the supply, the device keys and the
slots. -/

namespace Sys2Proof.Laws

open Sys2Proof.Machine Sys2Proof.Safety

variable {s t : State}

/-- What stays through a zeroisation but for the step that writes it: TAMP_STAT, the supply, and the key store. -/
def keyStore (s : State) : Word × Power × DeviceKeys × List (Nat × KeyEnt) × List (Nat × KeyEnt) :=
  (s.rd Reg.tampStat, s.power, s.dev, s.symSlots, s.asymSlots)

theorem keyStore_wr {a : Nat} (ha : Reg.tampStat ≠ a) (v : Word) : keyStore (s.wr a v) = keyStore s := by
  rw [keyStore, rd_wr, if_neg ha]
  rfl

theorem keyStore_setFld {a : Nat} (ha : Reg.tampStat ≠ a) (f : Fld) (v : Nat) :
    keyStore (s.setFld a f v) = keyStore s :=
  keyStore_wr ha _

/-! ### Records (R226, R240) -/

theorem keyStore_modJ (s : State) (h : Nat) (f : Journal → Journal) : keyStore (s.modJ h f) = keyStore s := rfl

theorem keyStore_mirrorSuspend (s : State) (h cause n : Nat) : keyStore (s.mirrorSuspend h cause n) = keyStore s := by
  have ha : Reg.tampStat ≠ Reg.jrStat h := by simp only [Reg.tampStat, Reg.jrStat]; omega
  exact (keyStore_modJ _ _ _).trans (keyStore_setFld ha _ _)

theorem keyStore_putRec (s : State) (h : Nat) (b : List Byte) (p : PendRec) (copy : Bool) :
    keyStore (s.putRec h b p copy) = keyStore s := by
  unfold State.putRec
  extract_lets s₁ pend
  split
  · split
    · exact keyStore_mirrorSuspend _ _ _ _
    · rfl
  · rfl

theorem keyStore_writeRec (s : State) (h : Nat) (b : List Byte) (p : PendRec) (copy : Bool) :
    keyStore (s.writeRec h b p copy) = keyStore s := by
  unfold State.writeRec
  split
  · rfl
  · exact keyStore_putRec _ _ _ _ _

theorem keyStore_requestSeals (s : State) (h : Nat) : keyStore (s.requestSeals h) = keyStore s := rfl

theorem keyStore_append (s : State) (h ty : Nat) (mk : Nat → List Byte) (slate : Option Nat) (rej : Option Reject) :
    keyStore (s.append h ty mk slate rej) = keyStore s := by
  rw [State.append, keyStore_requestSeals, keyStore_writeRec, keyStore_modJ]

theorem keyStore_appendEvent (s : State) (h time ty : Nat) (b16 : List Byte) (b22 : Nat → List Byte) :
    keyStore (s.appendEvent h time ty b16 b22) = keyStore s := keyStore_append _ _ _ _ _ _

theorem keyStore_buildEvent (s : State) (h time : Nat) (ev : Event) :
    keyStore (s.buildEvent h time ev) = keyStore s := by
  cases ev with
  | sealed => rw [State.buildEvent, keyStore_appendEvent, keyStore_modJ]
  | start => exact keyStore_appendEvent _ _ _ _ _ _
  | tamper => exact keyStore_appendEvent _ _ _ _ _ _
  | mirrorSuspend => exact keyStore_appendEvent _ _ _ _ _ _
  | relocate => exact keyStore_appendEvent _ _ _ _ _ _
  | mirrorResume => exact keyStore_appendEvent _ _ _ _ _ _

theorem keyStore_build (s : State) (h : Nat) (u : Unbuilt) : keyStore (s.build h u) = keyStore s := by
  unfold State.build
  split
  · split
    · exact keyStore_append _ _ _ _ _ _
    · rfl
  · exact keyStore_append _ _ _ _ _ _

theorem keyStore_buildWaiting (s : State) (h n : Nat) : keyStore (s.buildWaiting h n) = keyStore s := by
  induction n generalizing s with
  | zero => rfl
  | succ n ih =>
    unfold State.buildWaiting
    split
    · rfl
    · split
      · exact (ih _).trans (keyStore_buildEvent _ _ _ _)
      · exact (ih _).trans (keyStore_build _ _ _)
      · rfl

theorem keyStore_journalTamper (s : State) (hit : Nat) : keyStore (s.journalTamper hit) = keyStore s := by
  refine foldl_keeps (fun t => keyStore t = keyStore s) _ (fun t h ht => ?_) _ _ rfl
  dsimp only
  split
  · exact (keyStore_buildWaiting _ _ _).trans ht
  · exact ht

/-! ### The key store is cleared (Table 6.15) -/

theorem keyStore_reseedDue (s : State) (h : Nat) : keyStore (s.reseedDue h) = keyStore s := by
  have ha : Reg.tampStat ≠ Reg.drbgStat h := by simp only [Reg.tampStat, Reg.drbgStat]; omega
  have hseeded (t : State) (live : Bool) : keyStore (t.reseeded h live) = keyStore t := by
    have hwait := (keyStore_setFld (s := t.setFld (Reg.drbgStat h) F.DrbgStat.reqs 0) ha F.DrbgStat.drbgWait 0).trans
      (keyStore_setFld ha _ _)
    unfold State.reseeded
    dsimp only
    split
    · exact (keyStore_setFld ha _ _).trans hwait
    · exact hwait
  unfold State.reseedDue
  split
  · exact hseeded _ _
  · exact keyStore_setFld ha _ _

/-- The keys of the device are gone, and what VAON shares of them. -/
def devCleared (s : State) : State :=
  { s with
    dev := { custRoot := s.dev.custRoot, portsClosed := true }
    dramKeys := []
    rekeyAt := none }

theorem keyStore_clearKeys (s : State) :
    keyStore s.clearKeys = keyStore ((devCleared s).clearSlots (fun _ => true)) := by
  refine foldl_keeps (fun t => keyStore t = _) _ (fun t h ht => ?_) _ _ rfl
  exact (keyStore_reseedDue _ _).trans ht

theorem keyStore_modSlate (s : State) (i : Nat) (f : Slate → Slate) : keyStore (s.modSlate i f) = keyStore s := rfl

theorem keyStore_dropLanes (s : State) : keyStore s.dropLanes = keyStore s := by
  refine foldl_keeps (fun t => keyStore t = keyStore s) _ (fun t i ht => ?_) _ _ rfl
  rw [keyStore_modSlate, ht]

theorem keyStore_machineCheck (s : State) : keyStore s.machineCheck = keyStore s := by
  rw [machineCheck_eq]
  rfl

theorem rd_eq_of_keyStore (h : keyStore t = keyStore s) : t.rd Reg.tampStat = s.rd Reg.tampStat := congrArg (·.1) h
theorem power_eq_of_keyStore (h : keyStore t = keyStore s) : t.power = s.power := congrArg (·.2.1) h
theorem dev_eq_of_keyStore (h : keyStore t = keyStore s) : t.dev = s.dev := congrArg (·.2.2.1) h

theorem slot_eq_of_keyStore (h : keyStore t = keyStore s) (asym : Bool) (n : Nat) : t.slot asym n = s.slot asym n := by
  have hsym : t.symSlots = s.symSlots := congrArg (·.2.2.2.1) h
  have hasym : t.asymSlots = s.asymSlots := congrArg (·.2.2.2.2) h
  rw [State.slot, hsym, hasym, State.slot]

/-- Where no switch-off waits behind a lease, the end of every lease starts none. -/
theorem dropLeases_eq (hq : s.power.offQueue = []) :
    s.dropLeases = { s with power := { s.power with leases := [] } } := by
  unfold State.dropLeases State.runOffQueue
  simp [hq]

/-- LATCH is set. -/
def latched (s : State) : State := s.setFlag Reg.tampStat F.TampStat.latch true

theorem latch_latched (s : State) : (latched s).flag Reg.tampStat F.TampStat.latch = true :=
  flag_setFlag_same _ _ (by decide) rfl _

theorem porst_latched (s : State) : (latched s).power.porst = s.power.porst := by simp [latched]

theorem zeroise_running (hp : s.power.porst = false) (hit : Nat) : s.zeroise hit =
    (((latched s).journalTamper hit).clearKeys.dropLanes.loseDram).dropLeases.machineCheck := by
  have hp' : ¬ (latched s).power.porst = true := by rw [porst_latched, hp]; exact Bool.false_ne_true
  unfold State.zeroise
  exact if_neg hp'

theorem zeroise_held (hp : s.power.porst = true) (hit : Nat) :
    s.zeroise hit = { latched s with dev := { (latched s).dev with vshare := none } } := by
  have hp' : (latched s).power.porst = true := by rw [porst_latched, hp]
  unfold State.zeroise
  exact if_pos hp'

/-- The key store that a zeroisation leaves: what LATCH and the cleared slots are stands in two earlier states. -/
theorem keyStore_loseDram_zeroise (s : State) (hit : Nat) :
    keyStore ((latched s).journalTamper hit).clearKeys.dropLanes.loseDram =
      keyStore ((devCleared ((latched s).journalTamper hit)).clearSlots (fun _ => true)) := by
  show keyStore ((latched s).journalTamper hit).clearKeys.dropLanes = _
  rw [keyStore_dropLanes, keyStore_clearKeys]

theorem zeroised_zeroise (hp : s.power.porst = false) (hq : s.power.offQueue = []) (hit : Nat) :
    Zeroised (s.zeroise hit) := by
  have hj : keyStore ((latched s).journalTamper hit) = keyStore (latched s) := keyStore_journalTamper _ _
  have hu := keyStore_loseDram_zeroise s hit
  rw [zeroise_running hp]
  generalize ((latched s).journalTamper hit).clearKeys.dropLanes.loseDram = u at hu ⊢
  generalize (latched s).journalTamper hit = v at hj hu
  obtain ⟨y, a, fl, q, hclear⟩ := clearSlots_frame (devCleared v) (fun _ => true)
  have hoff : u.power.offQueue = [] := by
    rw [power_eq_of_keyStore hu, hclear]
    show v.power.offQueue = []
    rw [power_eq_of_keyStore hj, latched, power_setFlag, hq]
  have hstat : u.rd Reg.tampStat = (latched s).rd Reg.tampStat := by
    rw [rd_eq_of_keyStore hu, hclear, ← rd_eq_of_keyStore hj]
    rfl
  have hdev : u.dev = { custRoot := v.dev.custRoot, portsClosed := true } := by
    rw [dev_eq_of_keyStore hu, hclear]
    rfl
  have hlast : keyStore u.dropLeases.machineCheck = keyStore { u with power := { u.power with leases := [] } } := by
    rw [keyStore_machineCheck, dropLeases_eq hoff]
  refine ⟨?_, ?_, ?_, fun asym n => ?_⟩
  · rw [State.flag, State.fld, rd_eq_of_keyStore hlast]
    show (F.TampStat.latch.get (u.rd Reg.tampStat) != 0) = true
    rw [hstat]
    exact latch_latched s
  · rw [dev_eq_of_keyStore hlast, hdev]
  · rw [dev_eq_of_keyStore hlast, hdev]
  · rw [slot_eq_of_keyStore hlast]
    show (u.slot asym n).used = false
    refine Bool.eq_false_iff.2 fun hused => ?_
    rw [slot_eq_of_keyStore hu] at hused
    exact Bool.false_ne_true (slot_of_used_clearSlots hused).2.symm

/-- The hits are noted. -/
def tampered (s : State) (mesh sw : Nat) : State :=
  let s := s.setFld Reg.tampStat F.TampStat.meshHit (s.fld Reg.tampStat F.TampStat.meshHit ||| mesh)
  s.setFld Reg.tampStat F.TampStat.swHit (s.fld Reg.tampStat F.TampStat.swHit ||| sw)

theorem power_tampered (s : State) (mesh sw : Nat) : (tampered s mesh sw).power = s.power := by simp [tampered]

theorem tamperHit_eq (s : State) (mesh sw : Nat) : ∃ hit, s.tamperHit mesh sw = (tampered s mesh sw).zeroise hit :=
  ⟨_, rfl⟩

theorem zeroised_tamperHit (hp : s.power.porst = false) (hq : s.power.offQueue = []) (mesh sw : Nat) :
    Zeroised (s.tamperHit mesh sw) := by
  obtain ⟨hit, he⟩ := tamperHit_eq s mesh sw
  rw [he]
  exact zeroised_zeroise (by rw [power_tampered, hp]) (by rw [power_tampered, hq]) hit

theorem rd_of_regs (h : t.regs = s.regs) (a : Nat) : t.rd a = s.rd a := by rw [State.rd, h, State.rd]

theorem rd_tampered (mesh sw : Nat) {a : Nat} (ha : a ≠ Reg.tampStat) :
    (latched (tampered s mesh sw)).rd a = s.rd a := by
  rw [latched, rd_setFlag, if_neg ha, tampered, rd_setFld, if_neg ha, rd_setFld, if_neg ha]

theorem mem_tampered (mesh sw : Nat) : (latched (tampered s mesh sw)).mem = s.mem := by
  rw [latched, mem_setFlag, tampered, mem_setFld, mem_setFld]

/-- While PORST_N holds the part, a hit sets LATCH and clears VSHARE. -/
theorem tamperHit_held (hp : s.power.porst = true) (mesh sw : Nat) :
    (s.tamperHit mesh sw).flag Reg.tampStat F.TampStat.latch = true ∧ (s.tamperHit mesh sw).dev.vshare = none ∧
      (s.tamperHit mesh sw).mem = s.mem ∧ ∀ a, a ≠ Reg.tampStat → (s.tamperHit mesh sw).rd a = s.rd a := by
  obtain ⟨hit, he⟩ := tamperHit_eq s mesh sw
  have hz := zeroise_held (s := tampered s mesh sw) (by rw [power_tampered, hp]) hit
  have hrd (a : Nat) : (s.tamperHit mesh sw).rd a = (latched (tampered s mesh sw)).rd a :=
    rd_of_regs (by rw [he, hz]) a
  refine ⟨?_, ?_, ?_, fun a ha => ?_⟩
  · rw [State.flag, State.fld, hrd]
    exact latch_latched _
  · rw [he, hz]
  · rw [he, hz, mem_tampered]
  · rw [hrd, rd_tampered _ _ ha]

theorem tamperHits : TamperHits := by
  intro s m k hv mesh sw held
  have hmesh (h : mesh) : exec (.tamperMeshSample m) s =
      .next (s.tamperHit (m.toNat &&& s.fld Reg.tampCtl F.TampCtl.meshEn) 0) := congrArg _ (if_pos ⟨hv, h⟩)
  have hsw (h : sw) : exec (.tamperSwitchHit k) s = .next (s.tamperHit 0 (2 ^ k.val)) :=
    congrArg _ (if_pos (by rw [hv, h]; rfl))
  exact ⟨fun hp hq => ⟨fun h => ⟨_, hmesh h, zeroised_tamperHit hp hq _ _⟩,
      fun h => ⟨_, hsw h, zeroised_tamperHit hp hq _ _⟩⟩,
    fun hp => ⟨fun h => ⟨_, hmesh h, tamperHit_held hp _ _⟩, fun h => ⟨_, hsw h, tamperHit_held hp _ _⟩⟩,
    fun h => congrArg _ (if_neg fun hc => h hc.2), fun h => congrArg _ (if_neg (by rw [hv, Bool.true_and]; exact h))⟩

end Sys2Proof.Laws
end

section
/-! SUPPORT. The seals of slots (R169). -/

namespace Sys2Proof.Laws

open Sys2Proof.Machine Sys2Proof.Safety

variable {s : State} {n : Nat}

/-- The seal of slot `n` has been taken from those that wait. -/
def sealTaken (s : State) (asym : Bool) (n : Nat) : State := { s with sealQ := s.sealQ.erase (asym, n) }

/-- The key of slot `n`, sealed. -/
def sealedKey (s : State) (asym : Bool) (n : Nat) : KeyEnt :=
  { s.slot asym n with attr := attrSet (s.slot asym n).attr bSealed }

/-- The slot holds it. -/
def slotKept (s : State) (asym : Bool) (n : Nat) : State := (sealTaken s asym n).setSlot asym n (sealedKey s asym n)

theorem slotSealed_good {asym : Bool} (hq : s.sealQ.contains (asym, n) = true) : s.slotSealed asym n true =
    { slotKept s asym n with
      flash :=
        if asym then { s.flash with asymSeals := Map.insert n (sealedKey s asym n) s.flash.asymSeals }
        else { s.flash with symSeals := Map.insert n (sealedKey s asym n) s.flash.symSeals } } := by
  rw [State.slotSealed, if_pos hq]
  cases asym <;> rfl

theorem slotSealed_bad {asym : Bool} (hq : s.sealQ.contains (asym, n) = true) : s.slotSealed asym n false =
    ((sealTaken s asym n).setFlag Reg.satStat F.SatStat.sealFail true).machineCheck := by
  rw [State.slotSealed, if_pos hq]
  rfl

theorem slot_slotKept (s : State) (asym : Bool) (n : Nat) (a : Bool) (m : Nat) :
    (slotKept s asym n).slot a m = if a = asym ∧ m = n then sealedKey s asym n else s.slot a m :=
  slot_setSlot _ _ _ _ _ _

theorem slotKept_frame (s : State) (asym : Bool) (n : Nat) :
    (slotKept s asym n).regs = s.regs ∧ (slotKept s asym n).mem = s.mem := by
  cases asym <;> exact ⟨rfl, rfl⟩

theorem slotSeals : SlotSeals := by
  intro s asym n hq
  constructor
  · refine ⟨s.slotSealed asym n true, rfl, ?_⟩
    have hslot (a : Bool) (m : Nat) : (s.slotSealed asym n true).slot a m =
        if a = asym ∧ m = n then sealedKey s asym n else s.slot a m := by
      rw [slotSealed_good hq, ← slot_slotKept]
      rfl
    have hsame : (s.slotSealed asym n true).slot asym n = sealedKey s asym n := by rw [hslot, if_pos ⟨rfl, rfl⟩]
    refine ⟨hsame, ?_, fun m hm => ?_, fun m => ?_, ?_, ?_⟩
    · rw [hsame, slotSealed_good hq]
      cases asym <;> exact (find_insert _ _ _ _).trans (if_pos rfl)
    · rw [hslot, if_neg fun h => hm h.2]
    · rw [hslot, if_neg (by simp)]
    · rw [slotSealed_good hq]
      exact (slotKept_frame s asym n).1
    · rw [slotSealed_good hq]
      exact (slotKept_frame s asym n).2
  · refine ⟨s.slotSealed asym n false, rfl, ?_⟩
    have he := (slotSealed_bad hq).trans (machineCheck_eq _)
    have hrd : (s.slotSealed asym n false).rd Reg.satStat =
        ((sealTaken s asym n).setFlag Reg.satStat F.SatStat.sealFail true).rd Reg.satStat := rd_of_regs (by rw [he]) _
    refine ⟨fun a k => ?_, ?_, ?_, ?_⟩
    · rw [he]
      rfl
    · rw [State.flag, State.fld, hrd]
      exact flag_setFlag_same Reg.satStat F.SatStat.sealFail (by decide) rfl true
    · rw [he]
      rfl
    · rw [he]
      rfl

end Sys2Proof.Laws
end

section
/-! SUPPORT. Reseeds of a House's DRBG, and the filling of its buffer (R193, R194). -/

namespace Sys2Proof.Laws

open Sys2Proof.Machine Sys2Proof.Safety

variable {s t : State} {h n : Nat}

/-- From `s` to `t` House `h` fills its buffer by at most `n` requests. -/
structure Fills (h n : Nat) (s t : State) : Prop where
  wait : t.flag (Reg.drbgStat h) F.DrbgStat.drbgWait = s.flag (Reg.drbgStat h) F.DrbgStat.drbgWait
  reseeds : t.fld (Reg.drbgStat h) F.DrbgStat.reseeds = s.fld (Reg.drbgStat h) F.DrbgStat.reseeds
  reqs : t.fld (Reg.drbgStat h) F.DrbgStat.reqs ≤ s.fld (Reg.drbgStat h) F.DrbgStat.reqs + n
  live : (t.house h).drbg.live = (s.house h).drbg.live
  house : ∀ k, k ≠ h → t.house k = s.house k

theorem Fills.refl (h : Nat) (s : State) : Fills h 0 s s := ⟨rfl, rfl, le_rfl, rfl, fun _ _ => rfl⟩

theorem Fills.trans {u : State} {m : Nat} (hst : Fills h n s t) (htu : Fills h m t u) : Fills h (n + m) s u where
  wait := htu.wait.trans hst.wait
  reseeds := htu.reseeds.trans hst.reseeds
  reqs := by have := htu.reqs; have := hst.reqs; omega
  live := htu.live.trans hst.live
  house k hk := (htu.house k hk).trans (hst.house k hk)

theorem Fills.mono {m : Nat} (hst : Fills h n s t) (hm : n ≤ m) : Fills h m s t :=
  { hst with reqs := hst.reqs.trans (by omega) }

theorem drbg_modDrbg (s : State) (h : Nat) (f : Drbg → Drbg) :
    ((s.modDrbg h f).house h).drbg = f (s.house h).drbg := by
  rw [State.modDrbg, house_modHouse, if_pos rfl]

theorem house_modDrbg_ne {k : Nat} (hk : k ≠ h) (f : Drbg → Drbg) : (s.modDrbg h f).house k = s.house k := by
  rw [State.modDrbg, house_modHouse, if_neg hk]

theorem live_update (x : Drbg) (l : List Byte) : (x.update l).live = x.live := by simp only [Drbg.update]

theorem live_generate (x : Drbg) : x.generate.live = x.live := by simp only [Drbg.generate, live_update]

/-- Short of the reseed interval, a request counts and nothing falls due. -/
theorem fills_drbgRequest (hn : s.fld (Reg.drbgStat h) F.DrbgStat.reqs + 1 < 2 ^ 20) :
    Fills h 1 s (s.drbgRequest h) := by
  have he : s.drbgRequest h = (s.modDrbg h Drbg.generate).setFld (Reg.drbgStat h) F.DrbgStat.reqs
      (s.fld (Reg.drbgStat h) F.DrbgStat.reqs + 1) := by
    unfold State.drbgRequest
    exact if_neg hn.ne
  have hreqs : (s.drbgRequest h).fld (Reg.drbgStat h) F.DrbgStat.reqs = s.fld (Reg.drbgStat h) F.DrbgStat.reqs + 1 := by
    rw [he]
    exact fld_setFld_fits (by decide) hn
  refine ⟨?_, ?_, hreqs.le, ?_, fun k hk => ?_⟩ <;> rw [he]
  · exact flag_setFld_disjoint (by decide) (by decide)
  · exact fld_setFld_disjoint (by decide) (by decide)
  · rw [house_setFld_ne, drbg_modDrbg, live_generate]
  · rw [house_setFld_ne, house_modDrbg_ne hk]

theorem fills_refill (l : List Nat) (s : State) (hn : s.fld (Reg.drbgStat h) F.DrbgStat.reqs + l.length < 2 ^ 20) :
    Fills h l.length s (l.foldl (fun (s : State) _ =>
      if s.flag (Reg.drbgStat h) F.DrbgStat.drbgWait ∨ 16384 - 4096 < (s.house h).drbg.held then s
      else s.drbgRequest h) s) := by
  induction l generalizing s with
  | nil => exact .refl h s
  | cons x l ih =>
    rw [List.length_cons] at hn
    rw [List.foldl_cons, List.length_cons, Nat.add_comm]
    split
    · exact (ih s (by omega)).mono (by omega)
    · have hreq : Fills h 1 s (s.drbgRequest h) := fills_drbgRequest (by omega)
      have hle := hreq.reqs
      exact hreq.trans (ih _ (by omega))

theorem fills_drbgRefill (hn : s.fld (Reg.drbgStat h) F.DrbgStat.reqs + 4 < 2 ^ 20) : Fills h 4 s (s.drbgRefill h) :=
  fills_refill (List.range 4) s hn

/-- While a reseed waits the buffer does not fill. -/
theorem drbgRefill_waiting (hw : s.flag (Reg.drbgStat h) F.DrbgStat.drbgWait = true) : s.drbgRefill h = s :=
  foldl_keeps (fun t => t = s) _ (fun t _ ht => by rw [ht]; exact if_pos (.inl hw)) _ _ rfl

theorem live_seed (x : Drbg) (h : Nat) (l : List Byte) : (x.seed h l).live = true := by
  unfold Drbg.seed
  split
  · next hx => rw [live_update, hx]
  · rw [live_update]

theorem reseeded_fields (s : State) (h : Nat) (live : Bool) :
    (s.reseeded h live).flag (Reg.drbgStat h) F.DrbgStat.drbgWait = false ∧
    (s.reseeded h live).fld (Reg.drbgStat h) F.DrbgStat.reqs = 0 ∧
    (s.reseeded h live).fld (Reg.drbgStat h) F.DrbgStat.reseeds =
      (if live then min (s.fld (Reg.drbgStat h) F.DrbgStat.reseeds + 1) (2 ^ 32 - 1)
       else s.fld (Reg.drbgStat h) F.DrbgStat.reseeds) ∧
    (s.reseeded h live).houses = s.houses := by
  let u := (s.setFld (Reg.drbgStat h) F.DrbgStat.reqs 0).setFlag (Reg.drbgStat h) F.DrbgStat.drbgWait false
  have hwait : u.flag (Reg.drbgStat h) F.DrbgStat.drbgWait = false := flag_setFlag_same _ _ (by decide) rfl _
  have hreqs : u.fld (Reg.drbgStat h) F.DrbgStat.reqs = 0 := by
    rw [fld_setFlag_disjoint (by decide) (by decide), fld_setFld_fits (by decide) (by decide)]
  have hres : u.fld (Reg.drbgStat h) F.DrbgStat.reseeds = s.fld (Reg.drbgStat h) F.DrbgStat.reseeds := by
    rw [fld_setFlag_disjoint (by decide) (by decide), fld_setFld_disjoint (by decide) (by decide)]
  cases live with
  | false => exact ⟨hwait, hreqs, hres, rfl⟩
  | true =>
    refine ⟨(flag_setFld_disjoint (by decide) (by decide)).trans hwait,
      (fld_setFld_disjoint (by decide) (by decide)).trans hreqs, ?_, rfl⟩
    rw [if_pos rfl, ← hres]
    exact fld_setFld_fits (by decide) (by simp only [F.DrbgStat.reseeds]; omega)

theorem exec_drbgReseed (hr : s.running = true) (hw : s.flag (Reg.drbgStat h) F.DrbgStat.drbgWait = true) :
    exec (.drbgReseed h) s = .next ((s.reseedDue h).drbgRefill h) :=
  congrArg _ (if_pos (by rw [hr, hw]; rfl))

theorem drbgReseeds : DrbgReseeds := by
  intro s h hr hw
  rw [exec_drbgReseed hr hw]
  refine ⟨fun he => ⟨_, rfl, ?_⟩, fun he => ⟨_, rfl, ?_⟩⟩
  · let v := (s.entropyBytes 48).2.modDrbg h (fun x => x.seed h (s.entropyBytes 48).1)
    have hdue : s.reseedDue h = v.reseeded h (s.house h).drbg.live := if_pos he
    obtain ⟨hwait, hreqs, hres, hhouses⟩ := reseeded_fields v h (s.house h).drbg.live
    have hhouse (k : Nat) : (v.reseeded h (s.house h).drbg.live).house k = v.house k := by
      rw [State.house, hhouses, State.house]
    have hmem := (drbgOnly_reseedDue s h).trans (drbgOnly_drbgRefill (s.reseedDue h) h)
    rw [hdue] at hmem ⊢
    have hfill : Fills h 4 _ ((v.reseeded h (s.house h).drbg.live).drbgRefill h) := fills_drbgRefill (by omega)
    refine ⟨hfill.wait.trans hwait, ?_, hfill.reseeds.trans hres, by have := hfill.reqs; omega, fun k hk => ?_,
      hmem.mem⟩
    · rw [hfill.live, hhouse, drbg_modDrbg]
      exact live_seed _ _ _
    · rw [hfill.house k hk, hhouse, house_modDrbg_ne hk]
      rfl
  · have hdue : s.reseedDue h = s.setFlag (Reg.drbgStat h) F.DrbgStat.drbgWait true := if_neg (by simp [he])
    have hflag : (s.setFlag (Reg.drbgStat h) F.DrbgStat.drbgWait true).flag (Reg.drbgStat h) F.DrbgStat.drbgWait =
        true :=
      flag_setFlag_same _ _ (by decide) rfl _
    rw [hdue, drbgRefill_waiting hflag]
    exact ⟨hflag, rfl⟩

end Sys2Proof.Laws
end

section
/-! OBLIGATION O44. Entropy samples (R192), and with them tamper hits, slot seals and DRBG reseeds. -/

namespace Sys2Proof.Laws

open Sys2Proof.Machine Sys2Proof.Safety

variable {s t : State} {e : Nat} {b : Bool}

theorem unitReg_source (he : e < 3) : unitReg (153 + e) = Reg.entStat e := by
  unfold unitReg unitKind
  simp [show ¬ 153 + e ≤ 71 by omega, show ¬ 153 + e ≤ 80 by omega, show ¬ 153 + e ≤ 116 by omega,
    show ¬ 153 + e ≤ 134 by omega, show ¬ 153 + e ≤ 152 by omega, show 153 + e ≤ 155 by omega]

theorem unitFld_source (he : e < 3) : unitFld (153 + e) = F.EntStat.state := by
  unfold unitFld unitKind
  simp [show ¬ 153 + e ≤ 71 by omega, show ¬ 153 + e ≤ 80 by omega, show ¬ 153 + e ≤ 116 by omega,
    show ¬ 153 + e ≤ 134 by omega, show ¬ 153 + e ≤ 152 by omega, show 153 + e ≤ 155 by omega]

/-- A unit that fails is marked; what else that changes is its retirement, or the rotation that is queued. -/
theorem failUnit_eq (s : State) (u : Nat) : (s.unitState u = unitFailed ∧ s.failUnit u = s) ∨
    ∃ w, s.failUnit u = { s.setUnitState u unitFailed with wear := w } := by
  unfold State.failUnit
  split
  · next h => exact .inl ⟨h, rfl⟩
  · right
    dsimp only
    split
    · exact ⟨_, rfl⟩
    · split
      · exact ⟨_, rfl⟩
      · split
        · exact ⟨_, rfl⟩
        · exact ⟨_, rfl⟩

/-- The sources, memory and the slates. -/
def sampleFrame (s : State) : List (Nat × Entropy) × List Host.Cell × List (Nat × Slate) := (s.entropy, s.mem, s.slates)

theorem sampleFrame_regsOnly (hr : RegsOnly s t) : sampleFrame t = sampleFrame s := by
  rw [hr.eq]
  rfl

theorem entropyFail_eq (s : State) (e : Nat) (f : Fld) : ∃ u, RegsOnly s u ∧
    s.entropyFail e f = (u.failUnit (153 + e)).machineCheck :=
  ⟨_, (setFld_regsOnly s _ _ _).trans (markUnit_regsOnly _ _ _ _), rfl⟩

theorem sampleFrame_entropyFail (s : State) (e : Nat) (f : Fld) : sampleFrame (s.entropyFail e f) = sampleFrame s := by
  obtain ⟨u, hu, he⟩ := entropyFail_eq s e f
  rw [he, machineCheck_eq, ← sampleFrame_regsOnly hu]
  rcases failUnit_eq u (153 + e) with ⟨-, h⟩ | ⟨w, h⟩ <;> rw [h] <;> rfl

theorem unitState_entropyFail (he : e < 3) (f : Fld) : (s.entropyFail e f).unitState (153 + e) = unitFailed := by
  obtain ⟨u, -, heq⟩ := entropyFail_eq s e f
  rw [heq, machineCheck_eq]
  rcases failUnit_eq u (153 + e) with ⟨hs, h⟩ | ⟨w, h⟩ <;> rw [h]
  · exact hs
  · refine Eq.trans ?_ (fld_setFld_fits (s := u) (a := Reg.entStat e) (f := F.EntStat.state) (by decide)
      (show unitFailed < _ by decide))
    rw [State.unitState, State.setUnitState, unitReg_source he, unitFld_source he]
    rfl

theorem rd_markUnit_below {a u ev n : Nat} (ha : a < Reg.mkUcnt u 0) : (s.markUnit u ev n).rd a = s.rd a := by
  refine foldl_keeps (fun t => t.rd a = s.rd a) _ (fun t i ht => ?_) _ _ rfl
  have hne : a ≠ Reg.mkUcnt u i := by simp only [Reg.mkUcnt] at *; omega
  dsimp only
  split
  · rw [rd_countMark _ _ _ _ hne, ht]
  · exact ht

/-- A raw bit has entered the conditioning and the tests of source `e`, and no test has been heeded yet. -/
def sampled (s : State) (e : Nat) (b : Bool) : State :=
  let r := (s.source e).sample b
  let s := if (s.source e).outputs < r.1.outputs then s.markUnit (153 + e) 0x0601 1 else s
  let s := if s.fld (Reg.entStat e) F.EntStat.state = entService then
      { s with entPool := (s.entPool ++ (s.source e).output b).take 1024 } else s
  s.modSource e (fun _ => r.1)

theorem entropyBit_eq (s : State) (e : Nat) (b : Bool) : s.entropyBit e b =
    (let r := (s.source e).sample b
     let u := if r.2.1 then (sampled s e b).entropyFail e F.EntStat.rctFails else sampled s e b
     if r.2.2 then u.entropyFail e F.EntStat.aptFails else u) := rfl

theorem sampled_eq (s : State) (e : Nat) (b : Bool) : ∃ u p, RegsOnly s u ∧
    (∀ a, a < Reg.mkUcnt (153 + e) 0 → u.rd a = s.rd a) ∧
    sampled s e b = { u with entPool := p }.modSource e (fun _ => ((s.source e).sample b).1) := by
  have hmark : ∃ u, RegsOnly s u ∧ (∀ a, a < Reg.mkUcnt (153 + e) 0 → u.rd a = s.rd a) ∧
      (if (s.source e).outputs < ((s.source e).sample b).1.outputs then s.markUnit (153 + e) 0x0601 1 else s) = u := by
    split
    · exact ⟨_, markUnit_regsOnly _ _ _ _, fun a ha => rd_markUnit_below ha, rfl⟩
    · exact ⟨_, .refl s, fun _ _ => rfl, rfl⟩
  obtain ⟨u, hu, hrd, he⟩ := hmark
  unfold sampled
  dsimp only
  rw [he]
  split
  · exact ⟨u, _, hu, hrd, rfl⟩
  · exact ⟨u, u.entPool, hu, hrd, rfl⟩

theorem source_modSource (s : State) (e k : Nat) (f : Entropy → Entropy) :
    (s.modSource e f).source k = if k = e then f (s.source e) else s.source k := get_put _ _ s.entropy e k

theorem unitState_sampled (he : e < 3) : (sampled s e b).unitState (153 + e) = s.unitState (153 + e) := by
  obtain ⟨u, p, -, hrd, h⟩ := sampled_eq s e b
  have hlow : Reg.entStat e < Reg.mkUcnt (153 + e) 0 := by simp only [Reg.entStat, Reg.mkUcnt]; omega
  rw [State.unitState, State.unitState, unitReg_source he, State.fld, State.fld, ← hrd _ hlow, h]
  rfl

theorem source_sampled (s : State) (e : Nat) (b : Bool) (k : Nat) :
    (sampled s e b).source k = if k = e then ((s.source e).sample b).1 else s.source k := by
  obtain ⟨u, p, hu, -, h⟩ := sampled_eq s e b
  rw [h, source_modSource]
  refine ite_congr rfl (fun _ => rfl) fun _ => ?_
  show u.source k = s.source k
  rw [State.source, hu.entropy, State.source]

theorem sampled_frame (s : State) (e : Nat) (b : Bool) :
    (sampled s e b).mem = s.mem ∧ (sampled s e b).slates = s.slates := by
  obtain ⟨u, p, hu, -, h⟩ := sampled_eq s e b
  rw [h]
  exact ⟨hu.mem, hu.slates⟩

theorem sampleFrame_entropyBit (s : State) (e : Nat) (b : Bool) :
    sampleFrame (s.entropyBit e b) = sampleFrame (sampled s e b) := by
  rw [entropyBit_eq]
  extract_lets r u
  have hu : sampleFrame u = sampleFrame (sampled s e b) := by
    unfold u
    split
    · exact sampleFrame_entropyFail _ _ _
    · rfl
  split
  · exact (sampleFrame_entropyFail _ _ _).trans hu
  · exact hu

theorem unitState_entropyBit_failed (he : e < 3)
    (hr : ((s.source e).sample b).2.1 = true) : (s.entropyBit e b).unitState (153 + e) = unitFailed := by
  rw [entropyBit_eq]
  dsimp only
  rw [if_pos hr]
  split
  · exact unitState_entropyFail he _
  · exact unitState_entropyFail he _

theorem entropyBit_passed (hr : ((s.source e).sample b).2.1 = false) (ha : ((s.source e).sample b).2.2 = false) :
    s.entropyBit e b = sampled s e b := by
  rw [entropyBit_eq]
  simp [hr, ha]

/-- The repetition count reaches its cutoff with the 41st equal bit. -/
theorem sample_repeats {x : Entropy} (hl : x.last = b) (hr : 40 ≤ x.run) : (x.sample b).2.1 = true := by
  have hne : x.run ≠ 0 := by omega
  simp [Entropy.sample, hl, hne]
  omega

theorem entropySamples : EntropySamples := by
  intro s e b hr he
  refine ⟨s.entropyBit e b, congrArg _ (if_pos ⟨hr, he⟩), ?_⟩
  have hframe := sampleFrame_entropyBit s e b
  have hentropy : (s.entropyBit e b).entropy = (sampled s e b).entropy := congrArg (·.1) hframe
  have hsource (k : Nat) : (s.entropyBit e b).source k = (sampled s e b).source k := by
    rw [State.source, hentropy, State.source]
  obtain ⟨hmem, hslates⟩ := sampled_frame s e b
  refine ⟨?_, fun hl hn => unitState_entropyBit_failed he (sample_repeats hl hn), fun hrep hprop => ?_, fun k hk => ?_,
    (congrArg (·.2.1) hframe).trans hmem, (congrArg (·.2.2) hframe).trans hslates⟩
  · rw [hsource, source_sampled, if_pos rfl]
  · rw [entropyBit_passed hrep hprop, unitState_sampled he]
  · rw [hsource, source_sampled, if_neg hk]

/-- Settles O44, by its four events. -/
theorem tamperSealsEntropy : Obligations.TamperSealsEntropy := ⟨tamperHits, slotSeals, drbgReseeds, entropySamples⟩

end Sys2Proof.Laws
end

section
/-! SUPPORT. Reports of keys and of the journal, and keys that come in or go out under another key (R161 to R164, R172,
R178 to R180, R241). -/

namespace Sys2Proof.Laws

open Sys2Proof.Machine Sys2Proof.Safety

variable {s t u w : State} {id h op n a : Nat} {asym : Bool} {r q : KeyRef} {k kb key : KeyEnt}
  {b : List Byte} {pl : Placed}

/-! ### Reports (R162, R241) -/

theorem inRange_good {f : State → State}
    (hr : lowestBad (s.jrangeChecks (s.slate id).house (pkOpcode (s.slate id).pkt) (s.slate id).pkt) = none) :
    s.inRange id f = f s := by
  simp only [State.inRange, State.pktOf, State.houseOfSlate, hr]

theorem jrnlRead_good
    (hheld : s.recordsHeld (s.slate id).house (le (s.slate id).pkt 52 8) (le (s.slate id).pkt 64 4) = false)
    (hread : ∀ i, i < le (s.slate id).pkt 64 4 →
      s.readError (s.ringLine (s.slate id).house (le (s.slate id).pkt 52 8 + i)) 64 = false) :
    s.jrnlRead id = s.finishOut id
      (s.ringRecords (s.slate id).house (le (s.slate id).pkt 52 8) (le (s.slate id).pkt 64 4)) := by
  have hall : (List.range (le (s.slate id).pkt 64 4)).any (fun i =>
      s.readError (s.ringLine (s.slate id).house (le (s.slate id).pkt 52 8 + i)) 64) = false := by
    simpa [List.any_eq_false] using hread
  simp only [State.jrnlRead, State.pktOf, State.houseOfSlate, hheld, hall, Bool.false_eq_true, if_false]

theorem jrnlSealRead_good (hseals : ∀ x ∈ (s.house (s.slate id).house).j.seals, x.no ≠ le (s.slate id).pkt 52 8)
    (hfrozen : s.frozenAt (s.sealAddr (s.slate id).house (le (s.slate id).pkt 52 8)) = false)
    (hread : s.readError (s.sealAddr (s.slate id).house (le (s.slate id).pkt 52 8)) 4096 = false) :
    s.jrnlSealRead id =
      s.finishOut id (s.bytesAt (s.sealAddr (s.slate id).house (le (s.slate id).pkt 52 8)) 4096) := by
  have hnone : (s.house (s.slate id).house).j.seals.any (fun x => x.no == le (s.slate id).pkt 52 8) = false := by
    simpa [List.any_eq_false] using hseals
  simp only [State.jrnlSealRead, State.pktOf, State.houseOfSlate, hnone, hfrozen, hread, Bool.or_false,
    Bool.false_eq_true, if_false]

theorem keyReports : KeyReports := by
  intro s id p h a n
  refine ⟨fun r k u hh hg => ?_, fun u hh hg => ?_, fun r k u hh hg => ?_, fun hh => ?_, fun hh hr hheld hread => ?_,
    fun hh hr hseals hfrozen hread => ?_⟩
  · exact congrArg _ ((onTabqua_held hh _).trans (withKey_ok hg))
  · exact congrArg _ ((onTabqua_held hh _).trans (withKey_absent hg))
  · exact congrArg _ ((onTabqua_held hh _).trans (withKey_ok hg))
  · exact congrArg _ (onTabqua_held hh _)
  · exact congrArg _ ((onTabqua_held hh _).trans ((inRange_good hr).trans (jrnlRead_good hheld hread)))
  · exact congrArg _ ((onTabqua_held hh _).trans ((inRange_good hr).trans (jrnlSealRead_good hseals hfrozen hread)))

/-! ### Records (R172) -/

theorem slates_putRecord (s : State) (h a : Nat) (b : List Byte) : (s.putRecord h a b).slates = s.slates := by
  unfold State.putRecord State.supersede
  split
  · rfl
  · exact (slates_setCache _ _ _).trans (slates_setCache _ _ _)

theorem mem_supersede (s : State) (h : Nat) (old v : Word) : (s.supersede h old v).mem = s.mem := by
  unfold State.supersede
  split <;> rfl

/-- A record in its entry. -/
theorem byte_putRecord (s : State) (h a : Nat) (b : List Byte) (x : Nat) : Memory.byte (s.putRecord h a b).mem x =
    if a ≤ x ∧ x < a + b.length then b.getD (x - a) 0 else Memory.byte s.mem x := by
  show Memory.byte (Memory.store (s.supersede h _ _).mem a b) x = _
  rw [byte_store, mem_supersede]

/-- The handle that a record names. -/
def namedBy (b : List Byte) : Word := BitVec.ofNat 64 (le b 0 8)

/-- A record of a class for House `h`, which unwraps. -/
def FitsRecord (s : State) (h : Nat) (asym : Bool) (b : List Byte) : Prop :=
  hHouse (namedBy b) = h ∧ hKind (namedBy b) = (if asym then 4 else 3) ∧ (s.unwrap h b).isSome = true

theorem loadRecord_unfit (hf : ¬ FitsRecord s (s.slate id).house asym b) :
    s.loadRecord id asym b = s.finishNeg id 5 none := by
  refine if_pos ?_
  simp only [FitsRecord, not_and_or, Bool.not_eq_true, Option.isSome_eq_false_iff] at hf
  exact hf

theorem loadRecord_fit (hf : FitsRecord s (s.slate id).house asym b) : s.loadRecord id asym b =
    if s.tableCount (s.slate id).house asym ≤ hIndex (namedBy b) then s.finishFail id St.notPermitted 0
    else (s.putRecord (s.slate id).house (s.tableEntry (s.slate id).house asym (hIndex (namedBy b)))
      b).finishOk id := by
  obtain ⟨hhouse, hkind, hopen⟩ := hf
  refine if_neg ?_
  rw [not_or, not_or, not_not, not_not, Bool.not_eq_true, Option.isNone_eq_false_iff]
  exact ⟨hhouse, hkind, hopen⟩

/-! ### Key blocks (R178 to R180) -/

theorem keyImport_good
    (hg : s.getKey (s.slate id).house (pkKey (s.slate id).pkt 0) = .ok r k u)
    (hd : hKind (pkKey (s.slate id).pkt 0) ≠ 5)
    (hk : kbpkOk bUnwrap k = true) (hu : u.useOk k = true)
    (ho : openBlock (attrType k.attr) (strength (attrType k.attr) 0) k.val
      (slice (s.slate id).pkt 64 (le (s.slate id).pkt 52 2)) = .key key)
    (hp : (u.countUse r).place (s.slate id).house key (param (s.slate id).pkt 2) (le (s.slate id).pkt 56 4) =
      (some pl, w)) :
    s.keyImport id = w.finishOut id (createdOutput pl key false) := by
  have hs := slates_getKey_ok hg
  rw [State.keyImport, useKey_ok hg hd hk hu]
  simp only [pktOf_congr hs, houseOfSlate_congr hs, ho, if_true, hp]

theorem keyExport_good
    (hg : s.getKey (s.slate id).house (pkKey (s.slate id).pkt 0) = .ok r kb u)
    (hd : hKind (pkKey (s.slate id).pkt 0) ≠ 5)
    (hk : kbpkOk bWrap kb = true) (hu : u.useOk kb = true)
    (hg' : u.getKey (s.slate id).house (pkKey (s.slate id).pkt 1) = .ok q k w)
    (hd' : hKind (pkKey (s.slate id).pkt 1) ≠ 5)
    (ha : isAsym (attrType k.attr) = false) (he : attrExport k.attr = 1 ∨ attrExport k.attr = 2)
    (hv : param (s.slate id).pkt 0 = versionOf (attrType kb.attr))
    (hs : strength (attrType k.attr) (attrKlen k.attr) ≤ strength (attrType kb.attr) 0) :
    s.keyExport id = (w.countUse r).finishOut id (exportBlock kb k) := by
  have hu' := slates_getKey_ok hg
  have hw := (slates_getKey_ok hg').trans hu'
  have hget : u.getKey (u.slate id).house (pkKey (u.slate id).pkt 1) = .ok q k w := by
    rw [← State.pktOf, pktOf_congr hu', ← State.houseOfSlate, houseOfSlate_congr hu', hg']
  have hexport : attrExport k.attr ≠ 0 ∧ attrExport k.attr ≠ 3 := by omega
  rw [State.keyExport, useKey_ok hg hd hk hu, withKey_ok hget, pktOf_congr hw, if_neg (by simp [hd', ha, hexport]),
    if_neg (by simp [hv, hs])]

theorem keyTransport : KeyTransport := by
  intro s id p h sym named loads fits
  have hload {inp : HostBuf} (hh : Held s id 0x0203) :
      exec (.recordLoad ⟨id, inp⟩) s = .next (s.recordLoad id inp) := congrArg _ (onTabqua_held hh _)
  have hgoes (asym : Bool) (b : List Byte) (o : Out) (ho : o = .next (s.loadRecord id asym b)) :
      (fits asym b → hIndex (named b) < s.tableCount h asym → loads o asym b) ∧
      (fits asym b → s.tableCount h asym ≤ hIndex (named b) → Refuses o s id St.notPermitted 0) ∧
      (¬ fits asym b → o = .next (s.finishNeg id 5 none)) := by
    refine ⟨fun hf hi => ⟨_, slates_putRecord s h (s.tableEntry h asym (hIndex (named b))) b,
      byte_putRecord s h _ b, ?_⟩,
      fun hf hi => ?_, fun hf => ?_⟩
    · exact ho.trans (congrArg _ ((loadRecord_fit hf).trans (if_neg hi.not_ge)))
    · exact ho.trans (congrArg _ ((loadRecord_fit hf).trans (if_pos hi)))
    · exact ho.trans (congrArg _ (loadRecord_unfit hf))
  refine ⟨fun inp hh hn => hgoes false sym _ ((hload hh).trans (congrArg _ (if_neg hn))),
    fun l hh hn => hgoes true _ _ ((hload hh).trans (congrArg _ (if_pos hn))),
    fun hh hn => (hload hh).trans (congrArg _ ((if_pos hn).trans (withBuf_error (by decide)))),
    fun r k u key pl w hh hg hd hk hu ho hp => ?_, fun r kb u q k w hh hg hd hk hu hg' hd' ha he hv hs => ?_⟩
  · exact congrArg _ ((onTabqua_held hh _).trans (keyImport_good hg hd hk hu ho hp))
  · exact congrArg _ ((onTabqua_held hh _).trans (keyExport_good hg hd hk hu hg' hd' ha he hv hs))

end Sys2Proof.Laws
end

section
/-! SUPPORT. Keys that are created and deleted, and component sessions (R175, R177, R182, R184, R187, R194). -/

namespace Sys2Proof.Laws

open Sys2Proof.Machine Sys2Proof.Safety

variable {s t u w : State} {id i h n blocks : Nat} {r : KeyRef} {k : KeyEnt} {v : Word} {c : CompSession} {pl : Placed}

/-! ### A draw changes the DRBG of its House (R193) -/

/-- From `s` to `t` the other Houses are the same, and House `h` keeps its HSK_EPOCH. -/
structure DrbgOf (h : Nat) (s t : State) : Prop where
  house : ∀ k, k ≠ h → t.house k = s.house k
  hskEpoch : (t.house h).hskEpoch = (s.house h).hskEpoch

theorem DrbgOf.refl (h : Nat) (s : State) : DrbgOf h s s := ⟨fun _ _ => rfl, rfl⟩

theorem DrbgOf.trans (hst : DrbgOf h s t) (htu : DrbgOf h t u) : DrbgOf h s u :=
  ⟨fun k hk => (htu.house k hk).trans (hst.house k hk), htu.hskEpoch.trans hst.hskEpoch⟩

theorem DrbgOf.of_houses (ht : t.houses = s.houses) : DrbgOf h s t := by
  refine ⟨fun k _ => ?_, ?_⟩ <;> rw [State.house, ht, State.house]

theorem drbgOf_modDrbg (s : State) (h : Nat) (f : Drbg → Drbg) : DrbgOf h s (s.modDrbg h f) := by
  refine ⟨fun k hk => house_modDrbg_ne hk f, ?_⟩
  rw [State.modDrbg, house_modHouse, if_pos rfl]

theorem drbgOf_reseedDue (s : State) (h : Nat) : DrbgOf h s (s.reseedDue h) := by
  unfold State.reseedDue
  split
  · obtain ⟨-, -, -, hhouses⟩ := reseeded_fields
      ((s.entropyBytes 48).2.modDrbg h (fun x => x.seed h (s.entropyBytes 48).1)) h (s.house h).drbg.live
    have hbits : DrbgOf h s (s.entropyBytes 48).2 := .of_houses rfl
    exact (hbits.trans (drbgOf_modDrbg _ _ _)).trans (.of_houses hhouses)
  · exact .of_houses rfl

theorem drbgOf_drbgRequest (s : State) (h : Nat) : DrbgOf h s (s.drbgRequest h) := by
  unfold State.drbgRequest
  dsimp only
  split
  · exact (drbgOf_modDrbg _ _ _).trans (drbgOf_reseedDue _ _)
  · exact (drbgOf_modDrbg _ _ _).trans (.of_houses rfl)

theorem drbgOf_drbgRefill (s : State) (h : Nat) : DrbgOf h s (s.drbgRefill h) := by
  refine foldl_keeps (DrbgOf h s) _ (fun t _ ht => ?_) _ s (.refl h s)
  split
  · exact ht
  · exact ht.trans (drbgOf_drbgRequest t h)

theorem drbgOf_drawFrom (s : State) (h f n : Nat) : DrbgOf h s (s.drawFrom h f n).2 := by
  induction f generalizing s n with
  | zero => exact .refl h s
  | succ f ih =>
    unfold State.drawFrom
    split
    · exact .refl h s
    · split
      · exact (drbgOf_drbgRequest s h).trans (ih _ _)
      · exact (drbgOf_modDrbg s h _).trans (ih _ _)

theorem out_of_drbgOnly (hst : DrbgOnly s t) : t.out = s.out := by rw [hst]

theorem drbgOf_draw (s : State) (h n : Nat) : DrbgOf h s (s.draw h n).2 :=
  (drbgOf_drawFrom s h _ n).trans (drbgOf_drbgRefill _ h)

/-! ### Creation (R177, R187, R194) -/

theorem create_placed {spec b : List Byte} {withPub : Bool}
    (hp : s.place (s.slate id).house k (byteAt spec 32) (le spec 36 4) = (some pl, w)) :
    s.create id spec k b withPub = w.finishOut id (b ++ createdOutput pl k withPub) := by
  rw [State.create, State.houseOfSlate, hp]

/-- Random bytes that KEY_GENERATE of packet `p` draws. -/
def generateLen (p : List Byte) (blocks : Nat) : Nat :=
  genBytes (attrType (specAttr (extWord p 0))) (attrKlen (specAttr (extWord p 0))) blocks

theorem keyGenerate_dry (hd : s.drbgReady (s.slate id).house (generateLen (s.slate id).pkt blocks) = false) :
    s.keyGenerate id blocks = s := by
  refine if_pos ?_
  simpa [generateLen, State.pktOf, State.houseOfSlate] using hd

theorem keyGenerate_ready (hd : s.drbgReady (s.slate id).house (generateLen (s.slate id).pkt blocks) = true) :
    s.keyGenerate id blocks =
      (let spec := extWord (s.slate id).pkt 0
       let ty := attrType (specAttr spec)
       let n := generateLen (s.slate id).pkt blocks
       let d := s.draw (s.slate id).house n
       let val := if isAsym ty then d.1.drop (n - privLen ty) else d.1
       let pub := if isAsym ty then pubOf ty val else []
       d.2.create id spec (specKey spec [bGenerated] val pub) [] true) := by
  refine if_neg ?_
  simpa [generateLen, State.pktOf, State.houseOfSlate] using hd

theorem keyGenerate_sym (hd : s.drbgReady (s.slate id).house (generateLen (s.slate id).pkt blocks) = true)
    (ha : isAsym (attrType (specAttr (extWord (s.slate id).pkt 0))) = false) :
    let d := s.draw (s.slate id).house (generateLen (s.slate id).pkt blocks)
    let spec := extWord (s.slate id).pkt 0
    s.keyGenerate id blocks = d.2.create id spec (specKey spec [bGenerated] d.1 []) [] true := by
  simp only [keyGenerate_ready hd, ha, Bool.false_eq_true, if_false]

theorem keyGenerate_asym (hd : s.drbgReady (s.slate id).house (generateLen (s.slate id).pkt blocks) = true)
    (ha : isAsym (attrType (specAttr (extWord (s.slate id).pkt 0))) = true) :
    let n := generateLen (s.slate id).pkt blocks
    let d := s.draw (s.slate id).house n
    let spec := extWord (s.slate id).pkt 0
    let val := d.1.drop (n - privLen (attrType (specAttr spec)))
    s.keyGenerate id blocks =
      d.2.create id spec (specKey spec [bGenerated] val (pubOf (attrType (specAttr spec)) val)) [] true := by
  simp only [keyGenerate_ready hd, ha, if_true]

/-! ### Deletion (R175) -/

theorem slates_markDeleting (s : State) (h : Nat) (v : Word) : (s.markDeleting h v).slates = s.slates := by
  unfold State.markDeleting
  split
  · exact slates_setSlot _ _ _ _
  · exact slates_setSlot _ _ _ _
  · rfl

theorem slot_markDeleting_sym (hv : hKind v = 1) :
    ((s.markDeleting h v).slot false (slotNo false h (hIndex v))).deleting = true := by
  simp only [State.markDeleting, hv, slot_setSlot, and_self, if_true]

theorem slot_markDeleting_asym (hv : hKind v = 2) :
    ((s.markDeleting h v).slot true (slotNo true h (hIndex v))).deleting = true := by
  simp only [State.markDeleting, hv, slot_setSlot, and_self, if_true]

theorem markDeleting_cached (h1 : hKind v ≠ 1) (h2 : hKind v ≠ 2) :
    s.markDeleting h v = s.cacheMark (fun e => e.handle == v) := by
  unfold State.markDeleting
  split
  · next hv => exact absurd hv h1
  · next hv => exact absurd hv h2
  · rfl

theorem deleting_of_mem_cacheMark {e : CacheEnt} (he : e ∈ (s.cacheMark (fun e => e.handle == v)).symCache ++
    (s.cacheMark (fun e => e.handle == v)).asymCache) (hv : e.handle = v) : e.key.deleting = true := by
  have hmark : ∃ x : CacheEnt,
      (if x.handle == v then { x with key := { x.key with deleting := true } } else x) = e := by
    rcases List.mem_append.1 he with he | he <;> obtain ⟨x, -, hx⟩ := List.mem_map.1 he <;> exact ⟨x, hx⟩
  obtain ⟨x, rfl⟩ := hmark
  by_cases hx : (x.handle == v) = true
  · rw [if_pos hx]
  · rw [if_neg hx] at hv
    exact absurd (beq_iff_eq.2 hv) hx

/-- The key is marked, and slate `id` waits for its other uses to end. -/
def deletionMarked (s : State) (id h : Nat) (v : Word) : State :=
  (s.markDeleting h v).modSlate id (fun x => { x with waiting := true })

theorem keyDelete_marks (hg : s.getKey (s.slate id).house (pkKey (s.slate id).pkt 0) = .ok r k u)
    (hd : hKind (pkKey (s.slate id).pkt 0) ≠ 5) : s.keyDelete id =
      (deletionMarked u id (s.slate id).house (pkKey (s.slate id).pkt 0)).finishOk id := by
  have hu := slates_getKey_ok hg
  rw [State.keyDelete, withKey_ok hg]
  simp only [pktOf_congr hu, houseOfSlate_congr hu, if_neg hd, deletionMarked]

/-- What the key of a deletion leaves behind it. -/
theorem deletionMarked_spec (hs : t.slates = s.slates) (id h : Nat) (v : Word) :
    ((deletionMarked t id h v).slate id).waiting = true ∧
    (∀ j, j ≠ id → (deletionMarked t id h v).slate j = s.slate j) ∧
    (hKind v = 1 → ((deletionMarked t id h v).slot false (slotNo false h (hIndex v))).deleting = true) ∧
    (hKind v = 2 → ((deletionMarked t id h v).slot true (slotNo true h (hIndex v))).deleting = true) ∧
    (hKind v ≠ 1 → hKind v ≠ 2 → ∀ e ∈ (deletionMarked t id h v).symCache ++ (deletionMarked t id h v).asymCache,
      e.handle = v → e.key.deleting = true) := by
  refine ⟨?_, fun j hj => ?_, fun hv => slot_markDeleting_sym hv, fun hv => slot_markDeleting_asym hv,
    fun h1 h2 e he hev => ?_⟩
  · rw [deletionMarked, slate_modSlate, if_pos rfl]
  · rw [deletionMarked, slate_modSlate, if_neg hj, State.slate, slates_markDeleting, hs, State.slate]
  · rw [deletionMarked, markDeleting_cached h1 h2] at he
    exact deleting_of_mem_cacheMark he hev

theorem keyCreation : KeyCreation := by
  intro s id blocks l p h spec ty n pub v
  have hgen (hh : Held s id 0x0283) : exec (.keyGenerate id blocks) s = .next (s.keyGenerate id blocks) :=
    congrArg _ (onTabqua_held hh _)
  have hload {pk : HostBuf} (hh : Held s id 0x0284) : exec (.pubkeyLoad id pk) s = .next (s.pubkeyLoad id pk) :=
    congrArg _ (onTabqua_held hh _)
  have hdelete (hh : Held s id 0x0285) : exec (.keyDelete id) s = .next (s.keyDelete id) :=
    congrArg _ (onTabqua_held hh _)
  refine ⟨fun hh hd ha => ?_, fun hh hd ha => ?_, fun hh hd => ?_, fun hh => hload hh, fun hh hn => ?_,
    fun r k u hh _ hg hd => ?_, fun u hh hg => ?_, fun pl w b k hp => create_placed hp⟩
  · exact (hgen hh).trans (congrArg _ (keyGenerate_sym hd ha))
  · exact (hgen hh).trans (congrArg _ (keyGenerate_asym hd ha))
  · rw [hgen hh, keyGenerate_dry hd]
  · rw [hload hh, State.pubkeyLoad]
    exact congrArg _ (withBuf_error hn)
  · rw [hdelete hh, keyDelete_marks hg hd]
    obtain ⟨hwait, hslates, hsym, hasym, hcached⟩ := deletionMarked_spec (slates_getKey_ok hg) id h v
    exact ⟨_, hwait, hslates, hsym, hasym, hcached, rfl⟩
  · rw [hdelete hh]
    exact congrArg _ (withKey_absent hg)

/-! ### Component sessions (R182, R184) -/

theorem session_setSession (s : State) (h : Nat) (c : Option CompSession) : (s.setSession h c).session h = c := by
  rw [State.session, State.setSession, house_modHouse, if_pos rfl]

theorem compBegin_open (hn : s.session (s.slate id).house = none) : s.compBegin id =
    (s.finishOk id).setSession (s.slate id).house
      (some ⟨extWord (s.slate id).pkt 0, param (s.slate id).pkt 0, 0, [], s.uptime⟩) := by
  refine if_neg ?_
  rw [State.houseOfSlate, hn]
  exact Bool.false_ne_true

theorem compEnter_noSession (hn : s.session (s.slate id).house = none) :
    s.compEnter id = s.finishFail id St.notPermitted 0 := by
  rw [State.compEnter, State.houseOfSlate, hn]

theorem compEnter_full (hc : s.session (s.slate id).house = some c) (hn : c.count ≤ c.cards.length) :
    s.compEnter id = s.finishFail id St.notPermitted 0 := by
  rw [State.compEnter, State.houseOfSlate, hc]
  exact if_pos hn

/-- A session that wants another component: what becomes of COMP_ENTER is a question of the interface and the DRBG. -/
theorem compEnter_wanted (hc : s.session (s.slate id).house = some c) (hn : c.cards.length < c.count) :
    s.compEnter id =
      (let i := param (s.slate id).pkt 0
       if (s.card i).exchange.isSome then s
       else if !(s.card i).present then s.freshWord.2.cardRefused id s.freshWord.1.toNat
       else if !s.drbgReady (s.slate id).house exchangeRnd then s
       else
         let d := s.draw (s.slate id).house exchangeRnd
         d.2.freshWord.2.beginExchange i (newExchange (some (id, (s.slate id).gen)) d.1 d.2.freshWord.1)) := by
  rw [State.compEnter, State.houseOfSlate, hc]
  exact if_neg hn.not_ge

theorem compEnter_busy (hc : s.session (s.slate id).house = some c) (hn : c.cards.length < c.count)
    (hx : (s.card (param (s.slate id).pkt 0)).exchange.isSome = true) : s.compEnter id = s :=
  (compEnter_wanted hc hn).trans (if_pos hx)

theorem compEnter_noCard (hc : s.session (s.slate id).house = some c) (hn : c.cards.length < c.count)
    (hx : (s.card (param (s.slate id).pkt 0)).exchange = none)
    (hp : (s.card (param (s.slate id).pkt 0)).present = false) :
    s.compEnter id = s.freshWord.2.cardRefused id s.freshWord.1.toNat := by
  simp only [compEnter_wanted hc hn, hx, hp, Option.isSome_none, Bool.false_eq_true, if_false, Bool.not_false, if_true]

theorem compEnter_dry (hc : s.session (s.slate id).house = some c) (hn : c.cards.length < c.count)
    (hx : (s.card (param (s.slate id).pkt 0)).exchange = none) (hp : (s.card (param (s.slate id).pkt 0)).present = true)
    (hd : s.drbgReady (s.slate id).house exchangeRnd = false) : s.compEnter id = s := by
  simp only [compEnter_wanted hc hn, hx, hp, hd, Option.isSome_none, Bool.false_eq_true, if_false, Bool.not_true,
    Bool.not_false, if_true]

/-- The exchange that COMP_ENTER starts once its random bytes are drawn. -/
def enteredExchange (s : State) (id : Nat) : Exchange :=
  newExchange (some (id, (s.slate id).gen)) (s.draw (s.slate id).house exchangeRnd).1
    (s.draw (s.slate id).house exchangeRnd).2.freshWord.1

theorem compEnter_begins (hc : s.session (s.slate id).house = some c) (hn : c.cards.length < c.count)
    (hx : (s.card (param (s.slate id).pkt 0)).exchange = none) (hp : (s.card (param (s.slate id).pkt 0)).present = true)
    (hd : s.drbgReady (s.slate id).house exchangeRnd = true) : s.compEnter id =
      (s.draw (s.slate id).house exchangeRnd).2.freshWord.2.beginExchange (param (s.slate id).pkt 0)
        (enteredExchange s id) := by
  simp only [compEnter_wanted hc hn, hx, hp, hd, Option.isSome_none, Bool.false_eq_true, if_false, Bool.not_true,
    enteredExchange]

theorem exchange_beginExchange (s : State) (i : Nat) (x : Exchange) :
    ((s.beginExchange i x).card i).exchange = some x := by
  rw [card_beginExchange]

theorem out_beginExchange (s : State) (i : Nat) (x : Exchange) :
    (s.beginExchange i x).out = .apdu i x.command :: s.out := rfl

theorem out_freshWord (s : State) : s.freshWord.2.out = s.out := rfl

theorem slates_beginExchange (s : State) (i : Nat) (x : Exchange) : (s.beginExchange i x).slates = s.slates := rfl

theorem house_beginExchange (s : State) (i : Nat) (x : Exchange) (k : Nat) :
    (s.beginExchange i x).house k = s.house k := rfl

theorem compComplete_none_or_partial (hc : s.session (s.slate id).house = some c) (hn : c.cards.length ≠ c.count) :
    s.compComplete id = s.finishFail id St.notPermitted 0 := by
  rw [State.compComplete, State.houseOfSlate, hc]
  exact if_pos hn

theorem compComplete_placed (hc : s.session (s.slate id).house = some c) (hn : c.cards.length = c.count)
    (hp : s.place (s.slate id).house (c.key c.acc) (byteAt c.spec 32) (le c.spec 36 4) = (some pl, w)) :
    s.compComplete id =
      (w.finishOut id (createdOutput pl (c.key c.acc) false)).setSession (s.slate id).house none := by
  rw [State.compComplete, State.houseOfSlate, hc]
  dsimp only
  rw [if_neg (not_not.2 hn), hp]

theorem componentSessions : ComponentSessions := by
  intro s id p h i
  have hbegin (hh : Held s id 0x0286) : exec (.compBegin id) s = .next (s.compBegin id) :=
    congrArg _ (onTabqua_held hh _)
  have henter (hh : Held s id 0x0287) : exec (.compEnter id) s = .next (s.compEnter id) :=
    congrArg _ (onTabqua_held hh _)
  have hcomplete (hh : Held s id 0x0288) : exec (.compComplete id) s = .next (s.compComplete id) :=
    congrArg _ (onTabqua_held hh _)
  have habort (hh : Held s id 0x0289) :
      exec (.compAbort id) s = .next ((s.finishOk id).setSession (s.slate id).house none) :=
    congrArg _ (onTabqua_held hh _)
  refine ⟨fun hh hn => ⟨_, (hbegin hh).trans (congrArg _ (compBegin_open hn)), session_setSession _ _ _⟩,
    fun hh hs => (hbegin hh).trans (congrArg _ (if_pos hs)), fun c hh hc hn => ⟨fun hx hp hd => ?_, fun hw => ?_,
    fun hx hp => ?_⟩, fun c hh hc hn => ?_, fun hh hn => ?_, fun c pl w hh hc hn hp => ?_, fun c hh hc hn => ?_,
    fun hh => ⟨_, habort hh, session_setSession _ _ _⟩⟩
  · have hdrbg : DrbgOnly s (s.draw h exchangeRnd).2 := drbgOnly_draw s h exchangeRnd
    refine ⟨_, enteredExchange s id, (henter hh).trans (congrArg _ (compEnter_begins hc hn hx hp hd)),
      exchange_beginExchange _ _ _, rfl, rfl, List.take_append_drop _ _, ?_, ?_, fun k hk => ?_⟩
    · rw [out_beginExchange, out_freshWord, out_of_drbgOnly hdrbg]
    · rw [slates_beginExchange]
      exact hdrbg.slates
    · rw [house_beginExchange]
      exact (drbgOf_draw s h exchangeRnd).house k hk
  · refine (henter hh).trans (congrArg _ ?_)
    by_cases hx : (s.card i).exchange.isSome = true
    · exact compEnter_busy hc hn hx
    · obtain ⟨hp, hd⟩ := hw.resolve_left hx
      exact compEnter_dry hc hn (by simpa using hx) hp hd
  · rw [henter hh, compEnter_noCard hc hn hx hp]
    rfl
  · exact (henter hh).trans (congrArg _ (compEnter_full hc hn))
  · exact (henter hh).trans (congrArg _ (compEnter_noSession hn))
  · exact (hcomplete hh).trans (congrArg _ (compComplete_placed hc hn hp))
  · exact (hcomplete hh).trans (congrArg _ (compComplete_none_or_partial hc hn))

end Sys2Proof.Laws
end

section
/-! OBLIGATION O54. The key commands of family 0x02 and the journal's reads. -/

namespace Sys2Proof.Laws

open Sys2Proof.Machine Sys2Proof.Safety

variable {s t u : State} {o : Out} {P : State → Prop} {id h n op : Nat} {f : CacheEnt → Bool}

/-- A command that finishes its slate and then changes no slate ends OK. -/
theorem endsOk_of_finishOk {f : State → State} (hh : Held s id op) (hu : Unreplied s id)
    (ho : o = .next (s.onTabqua id op f)) (hf : f s = t) (hs : t.slates = (s.finishOk id).slates) (hP : P t) :
    EndsOk o s id 0 P := by
  have hslate : t.slate id = (s.finishOk id).slate id := by rw [State.slate, hs, State.slate]
  refine ⟨t, by rw [ho, onTabqua_held hh, hf], ?_, ?_, hP⟩ <;> rw [hslate]
  · exact claim_finish hh hu
  · exact st_finish hh hu

/-! ### The caches without the keys of a House (R174, R197) -/

/-- No cache holds a key of House `h`. -/
def Uncached (h : Nat) (s : State) : Prop := ∀ e ∈ s.symCache ++ s.asymCache, hHouse e.handle ≠ h

theorem uncached_iff : Uncached h s ↔
    (∀ e ∈ s.symCache, hHouse e.handle ≠ h) ∧ ∀ e ∈ s.asymCache, hHouse e.handle ≠ h := by
  simp only [Uncached, List.mem_append, or_imp, forall_and]

theorem Uncached.of_subset (hs : Uncached h s) (hsym : t.symCache ⊆ s.symCache) (hasym : t.asymCache ⊆ s.asymCache) :
    Uncached h t := by
  rw [uncached_iff] at hs ⊢
  exact ⟨fun e he => hs.1 e (hsym he), fun e he => hs.2 e (hasym he)⟩

theorem uncached_emptyCache (s : State) (h : Nat) : Uncached h (s.emptyCache h) := by
  rw [uncached_iff]
  constructor <;> intro e he <;> simpa using (List.mem_filter.1 he).2

theorem Uncached.cacheMark (hs : Uncached h s) : Uncached h (s.cacheMark f) := by
  have hmark (l : List CacheEnt) (hl : ∀ e ∈ l, hHouse e.handle ≠ h) :
      ∀ e ∈ l.map (fun e => if f e then { e with key := { e.key with deleting := true } } else e),
        hHouse e.handle ≠ h := by
    rintro _ he
    obtain ⟨x, hx, rfl⟩ := List.mem_map.1 he
    split
    · exact hl x hx
    · exact hl x hx
  rw [uncached_iff] at hs ⊢
  exact ⟨hmark _ hs.1, hmark _ hs.2⟩

/-- An eviction only takes entries away. -/
theorem trim_subset (s : State) (n : Nat) (f : CacheEnt → Bool) (l : List CacheEnt) : s.trim n f l ⊆ l := by
  unfold State.trim
  generalize (l.filter f).length = m
  induction l with
  | nil => exact List.Subset.refl _
  | cons e l ih =>
    rw [List.foldr_cons]
    split
    · exact List.subset_cons_of_subset e ih
    · exact List.cons_subset_cons e ih

theorem Uncached.trimCache (hs : Uncached h s) (k : Nat) (asym : Bool) : Uncached h (s.trimCache k asym) := by
  cases asym with
  | false => exact hs.of_subset (trim_subset _ _ _ _) (List.Subset.refl _)
  | true => exact hs.of_subset (List.Subset.refl _) (trim_subset _ _ _ _)

theorem Uncached.purgeCache (hs : Uncached h s) (k : Nat) : Uncached h (s.purgeCache k) := by
  have hkept : Uncached h (s.keepCache (fun e => !e.key.deleting || s.pinned e.handle)) :=
    hs.of_subset (List.filter_subset_self _) (List.filter_subset_self _)
  exact (hkept.trimCache k false).trimCache k true

/-! ### A roll (R175, R193) -/

theorem setCache_frame (s : State) (asym : Bool) (l : List CacheEnt) :
    ∃ y a, s.setCache asym l = { s with symCache := y, asymCache := a } := by
  cases asym <;> exact ⟨_, _, rfl⟩

theorem trimCache_frame (s : State) (h : Nat) (asym : Bool) :
    ∃ y a, s.trimCache h asym = { s with symCache := y, asymCache := a } := setCache_frame _ _ _

/-- Only the caches lose the records. -/
theorem dropRecords_frame (s : State) (h : Nat) :
    ∃ y a, s.dropRecords h = { s with symCache := y, asymCache := a } := by
  let marked := s.cacheMark (fun e => hHouse e.handle == h)
  let kept := marked.keepCache (fun e => !e.key.deleting || marked.pinned e.handle)
  obtain ⟨y, a, hsym⟩ := trimCache_frame kept h false
  obtain ⟨y', a', hasym⟩ := trimCache_frame (kept.trimCache h false) h true
  refine ⟨y', a', ?_⟩
  rw [State.dropRecords, State.purgeCache, hasym, hsym]
  rfl

theorem slates_dropRecords (s : State) (h : Nat) : (s.dropRecords h).slates = s.slates := by
  obtain ⟨y, a, hdrop⟩ := dropRecords_frame s h
  rw [hdrop]

theorem houses_dropRecords (s : State) (h : Nat) : (s.dropRecords h).houses = s.houses := by
  obtain ⟨y, a, hdrop⟩ := dropRecords_frame s h
  rw [hdrop]

theorem slot_dropRecords (s : State) (h : Nat) (asym : Bool) (n : Nat) :
    (s.dropRecords h).slot asym n = s.slot asym n := by
  obtain ⟨y, a, hdrop⟩ := dropRecords_frame s h
  rw [hdrop]
  rfl

/-- The roll before the reseed that it asks for. -/
def epochRaised (s : State) (h : Nat) : State :=
  (s.modHouse h (fun x => { x with hskEpoch := x.hskEpoch + 1 })).dropRecords h

theorem hskRoll_eq (s : State) (h : Nat) : s.hskRoll h = ((epochRaised s h).reseedDue h).drbgRefill h := rfl

theorem drbgOnly_hskRoll (s : State) (h : Nat) : DrbgOnly (epochRaised s h) (s.hskRoll h) := by
  rw [hskRoll_eq]
  exact (drbgOnly_reseedDue _ h).trans (drbgOnly_drbgRefill _ h)

theorem hskEpoch_epochRaised (s : State) (h : Nat) :
    ((epochRaised s h).house h).hskEpoch = (s.house h).hskEpoch + 1 := by
  rw [epochRaised, State.house, houses_dropRecords, ← State.house, house_modHouse, if_pos rfl]

theorem hskEpoch_hskRoll (s : State) (h : Nat) : ((s.hskRoll h).house h).hskEpoch = (s.house h).hskEpoch + 1 := by
  rw [hskRoll_eq, ((drbgOf_reseedDue _ h).trans (drbgOf_drbgRefill _ h)).hskEpoch, hskEpoch_epochRaised]

theorem slates_hskRoll (s : State) (h : Nat) : (s.hskRoll h).slates = s.slates := by
  rw [(drbgOnly_hskRoll s h).slates, epochRaised, slates_dropRecords]
  rfl

theorem slot_of_drbgOnly (hst : DrbgOnly s t) (asym : Bool) (n : Nat) : t.slot asym n = s.slot asym n := by
  rw [hst]
  rfl

theorem Uncached.of_drbgOnly (hs : Uncached h s) (hst : DrbgOnly s t) : Uncached h t := by
  rw [hst]
  exact hs

theorem slot_epochRaised (s : State) (h : Nat) (asym : Bool) (n : Nat) :
    (epochRaised s h).slot asym n = s.slot asym n := by
  rw [epochRaised, slot_dropRecords]
  rfl

theorem slot_hskRoll (s : State) (h : Nat) (asym : Bool) (n : Nat) : (s.hskRoll h).slot asym n = s.slot asym n := by
  rw [slot_of_drbgOnly (drbgOnly_hskRoll s h), slot_epochRaised]

theorem Uncached.dropRecords (hs : Uncached h s) (k : Nat) : Uncached h (s.dropRecords k) := by
  rw [State.dropRecords]
  exact hs.cacheMark.purgeCache k

theorem Uncached.modHouse (hs : Uncached h s) (k : Nat) (f : House → House) : Uncached h (s.modHouse k f) := hs

theorem Uncached.epochRaised (hs : Uncached h s) (k : Nat) : Uncached h (epochRaised s k) :=
  (hs.modHouse k _).dropRecords k

theorem Uncached.hskRoll (hs : Uncached h s) (k : Nat) : Uncached h (s.hskRoll k) :=
  (hs.epochRaised k).of_drbgOnly (drbgOnly_hskRoll s k)

/-! ### A House without keys (R197) -/

theorem Uncached.emptyTables (hs : Uncached h s) (k : Nat) : Uncached h (s.emptyTables k) := hs

theorem slot_emptyTables (s : State) (h : Nat) (asym : Bool) (n : Nat) :
    (s.emptyTables h).slot asym n = s.slot asym n := rfl

theorem slot_emptyCache (s : State) (h : Nat) (asym : Bool) (n : Nat) :
    (s.emptyCache h).slot asym n = s.slot asym n := rfl

theorem slates_zeroiseHouse (s : State) (h : Nat) : (s.zeroiseHouse h).slates = s.slates := by
  obtain ⟨y, a, fl, q, hclear⟩ := clearSlots_frame s (fun k => k.house == h)
  rw [State.zeroiseHouse, slates_hskRoll, hclear]
  rfl

theorem house_ne_of_used_zeroiseHouse {asym : Bool} (hused : ((s.zeroiseHouse h).slot asym n).used = true) :
    ((s.zeroiseHouse h).slot asym n).house ≠ h := by
  rw [State.zeroiseHouse, slot_hskRoll, slot_emptyTables, slot_emptyCache] at hused ⊢
  obtain ⟨hkept, hhouse⟩ := slot_of_used_clearSlots (f := fun k => k.house == h) hused
  rw [hkept]
  simpa using hhouse

theorem uncached_zeroiseHouse (s : State) (h : Nat) : Uncached h (s.zeroiseHouse h) :=
  ((uncached_emptyCache (s.clearSlots (fun k => k.house == h)) h).emptyTables h).hskRoll h

/-! ### The rekey window and the custodian root (R182, R183) -/

/-- A rekey window opens at `time`. -/
def rekeyOpened (s : State) (time : Nat) : State := { s with rekeyAt := some time }

theorem slates_rekeyOpened (s : State) (time : Nat) : (rekeyOpened s time).slates = s.slates := rfl

theorem rekeyAt_rekeyOpened (s : State) (time : Nat) : (rekeyOpened s time).rekeyAt = some time := rfl

theorem slates_setRoot (s : State) (v : BitVec 384) : (s.setRoot v).slates = s.slates := rfl

theorem custRoot_setRoot (s : State) (v : BitVec 384) :
    (s.setRoot v).dev.custRoot = some v ∧ (s.setRoot v).flash.dev.custRoot = (s.setRoot v).dev.custRoot := ⟨rfl, rfl⟩

/-! ### The command key of a House (R71, R76) -/

theorem cmd_setCmdKey (s : State) (h : Nat) (v : BitVec 256) : Map.find h (s.setCmdKey h v).dev.cmd = some v := by
  show Map.find h (Map.insert h v s.dev.cmd) = some v
  rw [find_insert, if_pos rfl]

theorem slates_setCmdKey (s : State) (h : Nat) (v : BitVec 256) : (s.setCmdKey h v).slates = s.slates := rfl

theorem ctr_setCmdKey (s : State) (h : Nat) (v : BitVec 256) : ((s.setCmdKey h v).house h).ctr = [] := by
  rw [State.setCmdKey, house_modHouse, if_pos rfl]

theorem houseRekey_good {ok : BitVec 256} {key : KeyEnt}
    (hk : s.dev.okek = some ok) (hb : byteAt (slice (s.slate id).pkt 64 (le (s.slate id).pkt 54 2)) 0 = 0x44)
    (ho : openBlock 3 256 (toBytesBE ok.toNat 32) (slice (s.slate id).pkt 64 (le (s.slate id).pkt 54 2)) = .key key)
    (ha : attrType key.attr = 3) : s.houseRekey id =
      (s.finishOk id).setCmdKey (param (s.slate id).pkt 0) (BitVec.ofNat 256 (ofBytesBE key.val)) := by
  simp only [State.houseRekey, State.pktOf, hk, hb, ho, ha, ne_eq, not_true, if_false]

theorem rd_wr_same (s : State) (a : Nat) (v : Word) : (s.wr a v).rd a = v := by rw [rd_wr, if_pos rfl]

theorem exec_tamperClear_refused (hh : Held s id 0x02C1) (ho : s.dev.ownerMaster = none) :
    exec (.tamperClear id) s = .next (s.finishFail id St.notPermitted 0) :=
  congrArg _ ((onTabqua_held hh _).trans (by rw [ho]; exact if_neg Bool.false_ne_true))

theorem keyStoreCommands : KeyStoreCommands := by
  intro s id hu p h
  refine ⟨fun hh => ⟨_, rfl, (s.finishOk id).hskRoll h, congrArg _ (onTabqua_held hh _), hskEpoch_hskRoll _ _, ?_⟩,
    fun hh => ?_, fun hh => ?_, fun hh => ?_, fun hh => ?_, fun hh ho => ?_, fun hh ho => ?_, fun ok key => ?_⟩
  · rw [State.slate, slates_hskRoll, ← State.slate]
    exact claim_finish hh hu
  · exact endsOk_of_finishOk (t := (s.finishOk id).zeroiseHouse h) hh hu rfl rfl (slates_zeroiseHouse _ _)
      ⟨fun asym n => house_ne_of_used_zeroiseHouse, uncached_zeroiseHouse _ _⟩
  · exact endsOk_of_finishOk (t := rekeyOpened (s.finishOk id) s.uptime) hh hu rfl rfl (slates_rekeyOpened _ _)
      (rekeyAt_rekeyOpened _ _)
  · exact endsOk_of_finishOk hh hu rfl rfl (slates_setRoot _ _) (custRoot_setRoot _ _)
  · exact endsOk_of_finishOk hh hu rfl rfl (slates_wr _ _ _) (rd_wr_same _ _ _)
  · exact endsOk_of_finishOk hh hu rfl (if_pos ho) (slates_setFlag _ _ _ _) (flag_setFlag_same _ _ (by decide) rfl _)
  · exact exec_tamperClear_refused hh ho
  · intro b hh hk hb ho ha
    exact endsOk_of_finishOk hh hu rfl (houseRekey_good hk hb ho ha) (slates_setCmdKey _ _ _)
      ⟨cmd_setCmdKey _ _ _, ctr_setCmdKey _ _ _⟩

/-- Settles O54: every clause follows the command's own equation once Tabqua holds its slate; the draws of KEY_GENERATE,
COMP_ENTER and a roll change nothing but the DRBG of the House. -/
theorem keyCommands : Obligations.KeyCommands :=
  ⟨keyReports, keyTransport, keyCreation, componentSessions, keyStoreCommands⟩

end Sys2Proof.Laws
end

section
/-! SUPPORT. What a reset keeps (R80, R81, R168, R408, R454, Table 14.4). -/

namespace Sys2Proof.Laws

open Sys2Proof.Machine Sys2Proof.Safety

variable {α : Type} {s t : State} {cold : Bool} {a id n : Nat} {x : Slate}

/-! ### Every slate returns to FREE (R80, R81) -/

/-- A slate after a reset. -/
def freed (x : Slate) : Slate := { gen := if x.st = .free then x.gen else (x.gen + 1) % 256 }

/-- Free the slates of a list, one after the other. -/
def freeEach (m : List (Nat × Slate)) (r : List (Nat × Slate)) : List (Nat × Slate) :=
  m.foldl (fun (r : List (Nat × Slate)) e => Map.put {} r e.1 (freed e.2)) r

theorem freedSlates_eq (m : List (Nat × Slate)) : freedSlates m = freeEach m [] := rfl

theorem freeEach_cons (e : Nat × Slate) (m r : List (Nat × Slate)) :
    freeEach (e :: m) r = freeEach m (Map.put {} r e.1 (freed e.2)) := rfl

theorem st_freeEach (m : List (Nat × Slate)) : ∀ r : List (Nat × Slate), (Map.get {} r id).st = .free →
    (Map.get {} (freeEach m r) id).st = .free := by
  induction m with
  | nil => exact fun _ hr => hr
  | cons e m ih =>
    intro r hr
    rw [freeEach_cons]
    refine ih _ ?_
    rw [get_put]
    split
    · rfl
    · exact hr

/-- Whatever the table lists, no slate is in use afterwards. -/
theorem st_freedSlates (m : List (Nat × Slate)) (id : Nat) : (Map.get {} (freedSlates m) id).st = .free := by
  rw [freedSlates_eq]
  exact st_freeEach m [] rfl

theorem get_freeEach_unlisted {m : List (Nat × Slate)} (hm : id ∉ m.map (·.1)) :
    ∀ r : List (Nat × Slate), Map.get {} (freeEach m r) id = Map.get {} r id := by
  induction m with
  | nil => exact fun _ => rfl
  | cons e m ih =>
    intro r
    simp only [List.map_cons, List.mem_cons, not_or] at hm
    rw [freeEach_cons, ih hm.2, get_put, if_neg hm.1]

/-- A key that a table lists with rising keys is listed once. -/
theorem unlisted_of_sorted {e : Nat × α} {m : List (Nat × α)} (h : Map.sorted (e :: m) = true) : e.1 ∉ m.map (·.1) := by
  rw [sorted_iff, List.pairwise_cons] at h
  intro hm
  obtain ⟨f, hf, he⟩ := List.mem_map.1 hm
  exact absurd (h.1 f hf) (by omega)

theorem sorted_of_cons {e : Nat × α} {m : List (Nat × α)} (h : Map.sorted (e :: m) = true) : Map.sorted m = true := by
  rw [sorted_iff] at h ⊢
  exact h.of_cons

theorem get_freeEach {m : List (Nat × Slate)} (hm : Map.sorted m = true) : ∀ r : List (Nat × Slate),
    Map.get {} r id = {} → Map.get {} (freeEach m r) id = freed (Map.get {} m id) := by
  induction m with
  | nil => exact fun _ hr => hr
  | cons e m ih =>
    intro r hr
    obtain ⟨k, x⟩ := e
    rw [freeEach_cons]
    by_cases hk : k = id
    · subst hk
      rw [get_freeEach_unlisted (unlisted_of_sorted hm), get_put, if_pos rfl, Map.get, Map.find, if_pos rfl]
      rfl
    · rw [ih (sorted_of_cons hm), Map.get, Map.get, Map.find, if_neg hk]
      rw [get_put, if_neg (Ne.symm hk), hr]

/-- In a table with rising keys, each slate is freed. -/
theorem get_freedSlates {m : List (Nat × Slate)} (hm : Map.sorted m = true) (id : Nat) :
    Map.get {} (freedSlates m) id = freed (Map.get {} m id) := by
  rw [freedSlates_eq]
  exact get_freeEach hm [] rfl

/-! ### Registers (Table 14.4) -/

theorem find_filter (f : Nat → Bool) (m : List (Nat × α)) (a : Nat) :
    Map.find a (m.filter (fun e => f e.1)) = if f a then Map.find a m else none := by
  induction m with
  | nil => simp [Map.find]
  | cons e m ih =>
    obtain ⟨k, v⟩ := e
    by_cases hk : k = a
    · subst hk
      cases hf : f k with
      | true => simp [hf, Map.find]
      | false => simpa [hf] using ih
    · rw [Map.find, if_neg hk, ← ih, List.filter_cons]
      split
      · rw [Map.find, if_neg hk]
      · rfl

/-- A register that the reset keeps, or one at its reset value. -/
theorem rd_afterReset (s : State) (cold : Bool) (a : Nat) :
    (s.afterReset cold).rd a = if keptReg cold a then s.rd a else regReset a := by
  show Map.get (regReset a) (s.regs.filter (fun e => keptReg cold e.1)) a = _
  rw [Map.get, find_filter]
  split
  · rfl
  · rfl

theorem keptReg_cold (a : Nat) : keptReg true a = true ↔ a = Reg.tampCtl ∨ a = Reg.tampStat := by
  simp [keptReg]

theorem rd_afterReset_cold (s : State) (a : Nat) :
    (s.afterReset true).rd a = if a = Reg.tampCtl ∨ a = Reg.tampStat then s.rd a else regReset a := by
  simp only [rd_afterReset, keptReg_cold]

/-- The registers that nothing lists read their reset values. -/
theorem rd_of_noRegs (h : s.regs = []) (a : Nat) : s.rd a = regReset a := by
  rw [State.rd, h]
  rfl

theorem slate_afterReset (s : State) (cold : Bool) (id : Nat) :
    (s.afterReset cold).slate id = Map.get {} (freedSlates s.slates) id := rfl

theorem st_afterReset (s : State) (cold : Bool) (id : Nat) : ((s.afterReset cold).slate id).st = .free := by
  rw [slate_afterReset]
  exact st_freedSlates _ _

theorem slate_afterReset_sorted (hs : Map.sorted s.slates = true) (id : Nat) :
    (s.afterReset cold).slate id = freed (s.slate id) := by
  rw [slate_afterReset, get_freedSlates hs, State.slate]

/-! ### Cold reset, VAON, SRST_N and the end of a quiesce -/

theorem coldReset : ColdReset := by
  intro s
  exact ⟨(s.afterReset true).post (.float 0), rfl, rfl, rfl, rfl, rfl, rfl, rfl, st_afterReset s true,
    slate_afterReset_sorted (cold := true), rd_afterReset_cold s, rfl, rfl, rfl, rfl, rfl⟩

/-- The state that the loss of VAON leaves. -/
def vaonLost (s : State) : State :=
  { s.afterReset true with
    regs := []
    dev := { custRoot := (s.afterReset true).dev.custRoot }
    power := { (s.afterReset true).power with vaon := false } }

theorem exec_vaonLoss (s : State) : exec .vaonLoss s = .next ((vaonLost s).post (.float 0)) := rfl

theorem exec_vaonPowerUp_on (h : s.power.vaon = true) : exec .vaonPowerUp s = .next s := congrArg _ (if_pos h)

theorem exec_vaonPowerUp_off (h : s.power.vaon = false) :
    exec .vaonPowerUp s = .next { s with power := { s.power with vaon := true } } :=
  congrArg _ (if_neg (by rw [h]; exact Bool.false_ne_true))

theorem vaonEvents : VaonEvents := by
  intro s
  refine ⟨⟨_, exec_vaonLoss s, rfl, rfl, rfl, fun a => rd_of_noRegs rfl a, rfl, rfl, rfl, rfl, rfl⟩, ?_⟩
  cases h : s.power.vaon with
  | true => exact ⟨s, exec_vaonPowerUp_on h, h, rfl, rfl, rfl, rfl, rfl⟩
  | false => exact ⟨_, exec_vaonPowerUp_off h, rfl, rfl, rfl, rfl, rfl, rfl⟩

/-- SRST_N is seen while PORST_N is high and VAON is in range. -/
theorem exec_srstNAssert_ignored (h : s.power.porst = true ∨ s.power.vaon = false) :
    exec .srstNAssert s = .next s :=
  congrArg _ (if_pos (by rcases h with h | h <;> simp [h]))

theorem exec_srstNAssert (hp : s.power.porst = false) (hv : s.power.vaon = true) :
    exec .srstNAssert s = .next (match s.power.quiesce with
      | some (_, c) => { s with power := { s.power with quiesce := some (s.uptime, c) } }
      | none => s.beginQuiesce 0 1) :=
  congrArg _ (if_neg (by simp [hp, hv]))

/-- A quiesce begins: its window runs, and the Roll stops. -/
def quiesceNoted (s : State) (window cause : Nat) : State :=
  { s with power := { s.power with quiesce := some (s.uptime + window, cause), rollOn := false } }

theorem beginQuiesce_eq (h : s.power.quiesce = none) (window cause : Nat) : s.beginQuiesce window cause =
    (quiesceNoted s window cause).setFld Reg.pwrStat F.PwrStat.state pwrQuiesce := by
  rw [State.beginQuiesce, h]
  rfl

theorem softReset : SoftReset := by
  intro s
  refine ⟨exec_srstNAssert_ignored, fun hp hv => ⟨fun hq => ?_, fun t c hq => ?_⟩⟩
  · rw [exec_srstNAssert hp hv, hq]
    dsimp only
    rw [beginQuiesce_eq hq]
    refine ⟨_, rfl, ?_, ?_, ?_, ?_, ?_, fun a ha => ?_⟩
    · rw [power_setFld]; rfl
    · rw [power_setFld]; rfl
    · exact fld_setFld_fits (by decide) (by decide)
    · rw [slates_setFld]; rfl
    · rw [mem_setFld]; rfl
    · rw [rd_setFld, if_neg ha]; rfl
  · rw [exec_srstNAssert hp hv, hq]
    exact ⟨_, rfl, rfl, rfl, rfl, rfl⟩

end Sys2Proof.Laws
end

section
/-! SUPPORT. The end of a quiesce: a warm reset, or STOP (R236, R240, R409, Table 14.5). -/

namespace Sys2Proof.Laws

open Sys2Proof.Machine Sys2Proof.Safety

variable {s w : State} {t c : Nat}

/-- The end of a quiesce whose window began before `t`, for a reset of a cause. -/
theorem exec_quiesceEnd_reset (h : s.power.quiesce = some (t, c)) : exec .quiesceEnd s = .next (
    if s.uptime < t then s
    else if s.quiesceSteps.mirrorsOut ∨ (s.quiesceSteps.allHeld ≠ 0 ∧ s.quiesceSteps.uptime < t + 1000000) then
      s.quiesceSteps
    else s.quiesceSteps.warmStart [c] (s.quiesceSteps.allHeld + s.quiesceSteps.unserved) []) := by
  show execQuiesceEnd s = _
  rw [execQuiesceEnd, h]
  rfl

/-- On the way to STOP the window runs. -/
theorem exec_quiesceEnd_early (h : s.power.quiesce = none) (hs : s.power.stopping = some t) (ht : s.uptime < t) :
    exec .quiesceEnd s = .next s := by
  show execQuiesceEnd s = _
  simp only [execQuiesceEnd, h, hs, if_pos ht]

/-- On the way to STOP records or stores are still out. -/
theorem exec_quiesceEnd_waits (h : s.power.quiesce = none) (hs : s.power.stopping = some t) (ht : t ≤ s.uptime)
    (hw : s.quiesceSteps.stopSeals.recordsOut = true ∨ s.quiesceSteps.stopSeals.stopStores = none) :
    exec .quiesceEnd s = .next s.quiesceSteps.stopSeals := by
  show execQuiesceEnd s = _
  simp only [execQuiesceEnd, h, hs, if_neg ht.not_gt]
  split
  · rfl
  · next hr => simp only [hw.resolve_left hr]

/-- Every store has drained: the part stops. -/
theorem exec_quiesceEnd_stops (h : s.power.quiesce = none) (hs : s.power.stopping = some t) (ht : t ≤ s.uptime)
    (hr : s.quiesceSteps.stopSeals.recordsOut = false) (hw : s.quiesceSteps.stopSeals.stopStores = some w) :
    exec .quiesceEnd s = .next w.enterStop := by
  show execQuiesceEnd s = _
  simp only [execQuiesceEnd, h, hs, if_neg ht.not_gt, hr, hw, Bool.false_eq_true, if_false]

theorem exec_quiesceEnd_none (h : s.power.quiesce = none) (hs : s.power.stopping = none) :
    exec .quiesceEnd s = .next s := by
  show execQuiesceEnd s = _
  rw [execQuiesceEnd, h, hs]

theorem quiesceEnds : QuiesceEnds := by
  intro s u v
  refine ⟨fun t c hq => ?_, fun t hq hs => ⟨exec_quiesceEnd_early hq hs, exec_quiesceEnd_waits hq hs,
    fun ht hr w hw => exec_quiesceEnd_stops hq hs ht hr hw⟩, exec_quiesceEnd_none,
    rfl, rfl, rfl, st_afterReset s false, rfl, rfl, rfl⟩
  rw [exec_quiesceEnd_reset hq]
  refine ⟨fun ht => congrArg _ (if_pos ht), fun ht hw => ?_, fun ht hm hh => ?_⟩
  · rw [if_neg ht.not_gt, if_pos hw]
  · rw [if_neg ht.not_gt, if_neg]
    show ¬ (u.mirrorsOut = true ∨ (u.allHeld ≠ 0 ∧ u.uptime < t + 1000000))
    rw [hm]
    rintro (hm | ⟨h0, hlt⟩)
    · exact Bool.false_ne_true hm
    · omega

end Sys2Proof.Laws
end

section
/-! OBLIGATION O37. Cold reset and start, SRST_N, the end of a quiesce, and VAON. -/

namespace Sys2Proof.Laws

open Sys2Proof.Machine Sys2Proof.Safety

variable {s t u : State} {b : BootInput} {failed : List Nat} {kind k n c : Nat}

/-! ### The boot flash and the supply at a start (R405) -/

/-- The boot flash and the supply. -/
def board (s : State) : Flash × Power := (s.flash, s.power)

theorem flash_of_board (h : board t = board s) : t.flash = s.flash := congrArg (·.1) h
theorem power_of_board (h : board t = board s) : t.power = s.power := congrArg (·.2) h

theorem board_modTiller (s : State) (t : Nat) (f : Tiller → Tiller) : board (s.modTiller t f) = board s := rfl
theorem board_setTiller (s : State) (t : Nat) (v : Tiller) : board (s.setTiller t v) = board s := rfl
theorem board_modChute (s : State) (c : Nat) (f : Chute → Chute) : board (s.modChute c f) = board s := rfl
theorem board_modSlate (s : State) (i : Nat) (f : Slate → Slate) : board (s.modSlate i f) = board s := rfl
theorem board_modPort (s : State) (p : Nat) (f : Port → Port) : board (s.modPort p f) = board s := rfl
theorem board_modChan (s : State) (c : Nat) (f : Chan → Chan) : board (s.modChan c f) = board s := rfl
theorem board_wr (s : State) (a : Nat) (v : Word) : board (s.wr a v) = board s := rfl
theorem board_setFld (s : State) (a : Nat) (f : Fld) (n : Nat) : board (s.setFld a f n) = board s := rfl
theorem board_setFlag (s : State) (a : Nat) (f : Fld) (v : Bool) : board (s.setFlag a f v) = board s := rfl

/-- A loop whose body keeps the board keeps it. -/
theorem board_foldl {β : Type} {f : State → β → State} (hf : ∀ s x, board (f s x) = board s) (l : List β) (s : State) :
    board (l.foldl f s) = board s :=
  foldl_keeps (fun t => board t = board s) f (fun t x ht => (hf t x).trans ht) l s rfl

theorem board_setEdge (s : State) (t src : Nat) : board (s.setEdge t src) = board s := by
  unfold State.setEdge
  split
  · rfl
  · split
    · exact board_modTiller _ _ _
    · rfl

theorem board_emptyStack (s : State) (t : Nat) : board (s.emptyStack t) = board s := by
  unfold State.emptyStack
  dsimp only
  rw [board_foldl (fun s _ => board_setEdge s t _), board_modTiller]

theorem board_dropTillerChutes (s : State) (t : Nat) : board (s.dropTillerChutes t) = board s := by
  unfold State.dropTillerChutes
  dsimp only
  rw [board_foldl (fun s _ => board_modChute s _ _), board_modTiller]

theorem board_millGone (s : State) (o : MillOp) : board (s.millGone o) = board s := by
  unfold State.millGone
  split
  · split
    · exact board_modSlate _ _ _
    · rfl
  · rfl

theorem board_settleAll (s : State) : board s.settleAll = board s := by
  rw [(freesTags_settleAll s).rest]
  rfl

theorem board_dropTillerMills (s : State) (t : Nat) : board (s.dropTillerMills t) = board s := by
  unfold State.dropTillerMills
  dsimp only
  rw [board_settleAll]
  exact board_foldl (fun s _ => board_millGone s _) _ _

theorem board_freshWords (s : State) (n : Nat) : board (s.freshWords n).2 = board s := by
  induction n generalizing s with
  | zero => rfl
  | succ n ih => exact ih s.freshWord.2

theorem board_tillerReset (s : State) (t : Nat) (bump : Bool) : board (s.tillerReset t bump) = board s := by
  unfold State.tillerReset
  dsimp only
  rw [board_wr, board_setTiller, board_freshWords, board_dropTillerMills, board_dropTillerChutes, board_emptyStack]

theorem board_startAllTillers (s : State) : board s.startAllTillers = board s := by
  refine board_foldl (fun s t => ?_) _ _
  dsimp only
  rw [board_setTiller, board_tillerReset]

theorem board_refreshTau (s : State) : board s.refreshTau = board s := by
  unfold State.refreshTau
  rw [board_setFlag, board_setFld]

theorem board_avsIssue (s : State) (c : Nat) (retry : Bool) : board (s.avsIssue c retry) = board s := by
  unfold State.avsIssue
  dsimp only
  rw [board_refreshTau]
  rfl

theorem board_avsBegin (s : State) (c : Nat) : board (s.avsBegin c) = board s := by
  unfold State.avsBegin
  dsimp only
  split
  · rw [board_avsIssue, board_refreshTau, board_setFlag]
    rfl
  · rw [board_refreshTau, board_setFlag]
    rfl

theorem board_trainPorts (s : State) : board s.trainPorts = board s :=
  board_foldl (fun s p => board_modPort s p _) _ _

/-! ### What the board presents (R403, R405) -/

/-- The part at the release of PORST_N, once it has taken what the board presents. -/
def presented (s : State) (b : BootInput) : State := (s.present b).fuseLog

theorem present_flash_power (s : State) (b : BootInput) :
    (s.present b).flash = { s.flash with
      slotA := b.slots.1.getD s.flash.slotA
      slotB := b.slots.2.getD s.flash.slotB
      cfg := b.flash.getD s.flash.cfg } ∧
    (s.present b).power = { s.power with vpp := b.vpp } := by
  have hports (l : List Nat) (s : State) : board (l.foldl (fun (s : State) p =>
      s.modPort p (fun x => { x with perstLow := !b.perstHigh.contains p })) s) = board s :=
    board_foldl (fun s p => board_modPort s p _) l s
  have hdimms (l : List Nat) (s : State) : board (l.foldl (fun (s : State) c =>
      let d := b.dimms.getD c ⟨0, 0, false, 0, false⟩
      s.modChan c (fun x => { x with dimm := { d with trains := d.trains && dimmSupported d } })) s) = board s :=
    board_foldl (fun s c => board_modChan s c _) l s
  have hboard := (hdimms (List.range 4) _).trans (hports (List.range 4) s)
  have hflash := flash_of_board hboard
  have hpower := power_of_board hboard
  unfold State.present
  dsimp only at hflash hpower ⊢
  rw [hflash, hpower]
  exact ⟨rfl, rfl⟩

theorem fuseLog_image (s : State) : s.fuseLog.flash.image = s.flash.image ∧ s.fuseLog.power = s.power := by
  unfold State.fuseLog
  dsimp only
  split
  · exact ⟨rfl, rfl⟩
  · exact ⟨rfl, rfl⟩

/-- The images that the slots hold at the release. -/
def bootFlash (s : State) (b : BootInput) : Flash :=
  { s.flash with slotA := b.slots.1.getD s.flash.slotA, slotB := b.slots.2.getD s.flash.slotB }

theorem image_presented (s : State) (b : BootInput) : (presented s b).flash.image = (bootFlash s b).image := by
  rw [presented, (fuseLog_image _).1, (present_flash_power s b).1]
  rfl

theorem power_presented (s : State) (b : BootInput) : (presented s b).power = { s.power with vpp := b.vpp } := by
  rw [presented, (fuseLog_image _).2, (present_flash_power s b).2]

theorem imagePasses_iff (i : Image) (m : Nat) : imagePasses i m = true ↔
    i.formed = true ∧ m ≤ i.svn ∧ i.digest = true ∧ i.sigEc = true ∧ i.sigPq = true := by
  simp [imagePasses, and_assoc]

/-- PREF and its other slot are both slots. -/
theorem image_eq_none_iff (f : Flash) : f.image = none ↔
    imagePasses f.slotA f.minSvn = false ∧ imagePasses f.slotB f.minSvn = false := by
  have hpref : f.pref % 2 = 0 ∨ f.pref % 2 = 1 := by omega
  rcases hpref with hp | hp <;> simp [Flash.image, hp, Flash.slotPasses, Flash.slotOf, and_comm]

/-! ### The start (R402 to R407, Table 14.3) -/

/-- The supply at the release of PORST_N. -/
def supplied (s : State) : State := { s with power := { s.power with porst := false, vcore := true } }

/-- The start up to the choice of the image. -/
def poweredUp (s : State) : State := ((supplied s).startAllTillers.avsBegin 12).trainPorts

theorem board_poweredUp (s : State) : board (poweredUp s) = board (supplied s) := by
  rw [poweredUp, board_trainPorts, board_avsBegin, board_startAllTillers]

theorem flash_poweredUp (s : State) : (poweredUp s).flash = s.flash := (flash_of_board (board_poweredUp s)).trans rfl

theorem power_poweredUp (s : State) : (poweredUp s).power = { s.power with porst := false, vcore := true } :=
  (power_of_board (board_poweredUp s)).trans rfl

/-- T0 halts where no image passes. -/
def bootFailed (s : State) : State := (s.reportBoot none 0xF).modTiller 0 (fun x => { x with halted := true })

theorem start_failed (h : s.flash.image = none) : s.start failed kind = bootFailed (poweredUp s) := by
  have himage : (poweredUp s).flash.image = none := by rw [flash_poweredUp, h]
  unfold State.start
  extract_lets x s₁ s₂ kind₁
  split
  · rfl
  · next hk => exact absurd (hk.symm.trans himage) (by simp)

/-- A pass of the part has ended at the present time. -/
def passEnded (s : State) : State := { s with wear := { s.wear with lastPass := s.uptime } }

theorem start_served (h : s.flash.image = some k) : ∃ v : State, s.start failed kind = passEnded v.enterService := by
  have himage : (poweredUp s).flash.image = some k := by rw [flash_poweredUp, h]
  unfold State.start
  extract_lets x s₁ s₂ kind₁
  split
  · next hk => exact absurd (hk.symm.trans himage) (by simp)
  · extract_lets s₃ s₄ s₅ s₆ s₇ s₈ s₉ s₁₀ s₁₁ x₁
    exact ⟨_, rfl⟩

/-! ### Service (R306) -/

/-- A Tiller without translations and predictions. -/
def untranslated (x : Tiller) : Tiller := { x with tlb := [], pred := [] }

theorem tlb_untranslated (l : List (Nat × Tiller)) : ∀ s : State,
    n ∈ l.map (·.1) ∨ (s.tiller n).tlb = [] →
    ((l.foldl (fun (s : State) e => s.setTiller e.1 (untranslated e.2)) s).tiller n).tlb = [] := by
  induction l with
  | nil => exact fun s h => h.resolve_left (by simp)
  | cons e l ih =>
    intro s h
    rw [List.foldl_cons]
    refine ih _ ?_
    rw [tiller_setTiller]
    by_cases hn : n = e.1
    · exact .inr (by rw [if_pos hn]; rfl)
    · rw [if_neg hn]
      rw [List.map_cons, List.mem_cons] at h
      tauto

theorem tlb_mapTillers (s : State) (n : Nat) : ((s.mapTillers (fun _ x => untranslated x)).tiller n).tlb = [] := by
  refine tlb_untranslated s.tillers s ?_
  by_cases hn : n ∈ s.tillers.map (·.1)
  · exact .inl hn
  · exact .inr (by rw [tiller_unlisted hn])

theorem regs_mapTillers (s : State) (f : Nat → Tiller → Tiller) : (s.mapTillers f).regs = s.regs :=
  foldl_keeps (fun t => t.regs = s.regs) (fun (s : State) (e : Nat × Tiller) => s.setTiller e.1 (f e.1 e.2))
    (fun _ _ ht => ht) _ _ rfl

/-- The part is in service. -/
def serving (s : State) : State := { s with power := { s.power with service := true } }

/-- The translations and the predictions of every Tiller are gone. -/
def untranslatedAll (s : State) : State := s.mapTillers (fun _ x => untranslated x)

theorem enterService_eq (s : State) : s.enterService =
    serving (untranslatedAll (s.zeroMapped.setFlag Reg.custS2 F.CustS2.en false)) := rfl

theorem rd_serving (s : State) (a : Nat) : (serving s).rd a = s.rd a := rfl

theorem tiller_serving (s : State) (t : Nat) : (serving s).tiller t = s.tiller t := rfl

theorem rd_untranslatedAll (s : State) (a : Nat) : (untranslatedAll s).rd a = s.rd a :=
  rd_of_regs (regs_mapTillers s _) a

theorem enterService_spec (s : State) : s.enterService.power.service = true ∧
    s.enterService.flag Reg.custS2 F.CustS2.en = false ∧ ∀ t, (s.enterService.tiller t).tlb = [] := by
  rw [enterService_eq]
  refine ⟨rfl, ?_, fun t => ?_⟩
  · rw [State.flag, State.fld, rd_serving, rd_untranslatedAll]
    exact flag_setFlag_same _ _ (by decide) rfl _
  · rw [tiller_serving]
    exact tlb_mapTillers _ t

/-! ### BOOT_FAIL (R403) -/

theorem stage_reportBoot (s : State) : (s.reportBoot none 0xF).fld Reg.bootStat F.BootStat.stage = 0xF := by
  have hpref : s.flash.pref % 2 = 0 ∨ s.flash.pref % 2 = 1 := by omega
  rw [State.fld, State.reportBoot, rd_wr, if_pos rfl]
  rcases hpref with hp | hp <;> rw [hp] <;> decide

theorem bootFailed_spec (s : State) : (bootFailed s).power = s.power ∧ ((bootFailed s).tiller 0).halted = true ∧
    (bootFailed s).fld Reg.bootStat F.BootStat.stage = 0xF := by
  refine ⟨?_, ?_, stage_reportBoot s⟩
  · rw [bootFailed, power_modTiller, State.reportBoot, power_wr]
  · rw [bootFailed, tiller_modTiller, if_pos rfl]

/-! ### The release of PORST_N -/

theorem exec_porstNRelease_ignored (h : s.power.porst = false ∨ s.power.vaon = false) :
    exec (.porstNRelease b) s = .next s :=
  congrArg _ (if_neg (by rcases h with h | h <;> simp [h]))

theorem exec_porstNRelease (hp : s.power.porst = true) (hv : s.power.vaon = true) :
    exec (.porstNRelease b) s = .next ((presented s b).start b.failed 0) := by
  show execPorstNRelease b s = _
  rw [execPorstNRelease, presented, if_pos (by rw [hp, hv]; rfl)]

theorem coldStart : ColdStart := by
  intro s b pass slotA slotB
  have hpasses (i : Image) : pass i ↔ imagePasses i s.flash.minSvn = true := (imagePasses_iff i _).symm
  refine ⟨exec_porstNRelease_ignored, fun hp hv => ⟨fun hpass => ?_, fun hA hB hs => ?_⟩⟩ <;>
    rw [exec_porstNRelease hp hv]
  · have hsome : (presented s b).flash.image ≠ none := by
      rw [image_presented, ne_eq, image_eq_none_iff]
      rw [hpasses, hpasses] at hpass
      rintro ⟨hA, hB⟩
      rcases hpass with h | h
      · exact Bool.false_ne_true (hA.symm.trans h)
      · exact Bool.false_ne_true (hB.symm.trans h)
    obtain ⟨k, hk⟩ := Option.ne_none_iff_exists'.1 hsome
    obtain ⟨v, hv⟩ := start_served (failed := b.failed) (kind := 0) hk
    obtain ⟨hservice, hcust, htlb⟩ := enterService_spec v
    exact ⟨passEnded v.enterService, congrArg _ hv, hservice, rfl, hcust, htlb⟩
  · rw [hpasses, Bool.not_eq_true] at hA hB
    have hnone : (presented s b).flash.image = none := by
      rw [image_presented, image_eq_none_iff]
      exact ⟨hA, hB⟩
    obtain ⟨hpower, hhalted, hstage⟩ := bootFailed_spec (poweredUp (presented s b))
    rw [start_failed hnone]
    refine ⟨_, rfl, ?_, ?_, hhalted, hstage⟩ <;>
      rw [hpower, power_poweredUp, power_presented]
    exact hs

/-- Settles O37: a reset is read off field by field, a start from what it keeps up to the choice of the image and what
the entry into service sets, and a quiesce by the cases of its end. -/
theorem resetsAndStart : Obligations.ResetsAndStart :=
  ⟨coldReset, coldStart, softReset, quiesceEnds, vaonEvents⟩

end Sys2Proof.Laws
end

section
/-! SUPPORT. The list of staged changes (R207). The settings of step 3 of Table 7.2 put nothing on it but a ring that
still has to wait (R231, R238, R240, R241). -/

namespace Sys2Proof.Laws

open Sys2Proof.Machine Sys2Proof.Safety

variable {s₀ s t : State} {o : Option Nat} {h : Nat} {x y : Staged}

/-! ### The list of staged changes -/

theorem staged_stage (s : State) (x : Staged) :
    (s.stage x).staged = s.staged.filter (fun y => y.place != x.place) ++ [x] := rfl

theorem slate_stage (s : State) (x : Staged) (i : Nat) : (s.stage x).slate i = s.slate i := rfl

theorem dtime_stage (s : State) (x : Staged) : (s.stage x).dtime = s.dtime := rfl

theorem mem_staged_stage : y ∈ (s.stage x).staged ↔ (y ∈ s.staged ∧ y.place ≠ x.place) ∨ y = x := by
  simp [staged_stage]

/-! ### Records and rings -/

theorem Spares.buildAll (hs : Spares o s₀ s) : Spares o s₀ (s.buildAll h) := hs.buildWaiting

theorem Spares.recordEvent {e} (hs : Spares o s₀ s) : Spares o s₀ (s.recordEvent h e) := hs.modJ.buildAll

theorem Spares.rewriteHeld (hs : Spares o s₀ s) : Spares o s₀ (s.rewriteHeld h) :=
  hs.modJ.foldl fun _ _ hs₁ => hs₁.writeRec

theorem Spares.wr {a v} (hs : Spares o s₀ s) : Spares o s₀ (s.wr a v) := hs.frame rfl rfl
theorem Spares.setFld {a f n} (hs : Spares o s₀ s) : Spares o s₀ (s.setFld a f n) := hs.wr
theorem Spares.setFlag {a f b} (hs : Spares o s₀ s) : Spares o s₀ (s.setFlag a f b) := hs.wr

theorem Spares.relocate {base} (hs : Spares o s₀ s) : Spares o s₀ (s.relocate h base) :=
  hs.wr.modJ.rewriteHeld.setFlag.recordEvent

theorem Spares.softWrite {a v} (hs : Spares o s₀ s) : Spares o s₀ (s.softWrite a v) := by
  unfold State.softWrite
  split
  · exact hs.wr
  · exact hs

theorem Spares.driftCheck {c} (hs : Spares o s₀ s) : Spares o s₀ (s.driftCheck c) := .ite hs.setFlag hs

/-! ### Settings -/

theorem Spares.sealNow (hs : Spares o s₀ s) : Spares o s₀ (s.sealNow h) := .ite hs.modJ.requestSeals hs

theorem Spares.applyMirror {a l g en n} (hs : Spares o s₀ s) : Spares o s₀ (s.applyMirror h a l g en n) :=
  .ite hs.wr.setFld.setFld.setFld.setFlag.modJ.recordEvent hs.wr.setFld.setFld.setFld.setFlag

/-- A ring takes effect, or is staged again (R241). -/
theorem applyRing_spares_or_stages (s : State) (h b l : Nat) :
    Spares none s (s.applyRing h b l) ∨ s.applyRing h b l = s.stage (.jRing h b l) := by
  unfold State.applyRing
  dsimp only
  split
  · exact .inl (Spares.refl_none s).relocate
  · split
    · exact .inl (Spares.refl_none s).wr
    · exact .inr rfl

theorem applySetting_spares_or_stages (s : State) (x : Staged) :
    Spares none s (s.applySetting x) ∨ ∃ h b l, s.applySetting x = s.stage (.jRing h b l) := by
  have hs := Spares.refl_none s
  cases x with
  | jRing h b l => exact (applyRing_spares_or_stages s h b l).imp_right fun e => ⟨h, b, l, e⟩
  | fnConfig => exact .inl hs.setFld.setFlag.setFld.setFld.setFld
  | thresher => exact .inl hs.setFld.setFld.setFld
  | regime => exact .inl hs.setFlag.setFlag
  | loan => exact .inl hs.setFlag
  | jAlt => exact .inl hs.wr
  | jMarks => exact .inl hs.setFld.setFld
  | jSeal => exact .inl hs.setFld.setFld.setFld.sealNow
  | jMirror => exact .inl hs.applyMirror
  | jAdmin => exact .inl hs.setFld.setFlag
  | dram => exact .inl hs.softWrite.softWrite.setFld.driftCheck
  | bind | share | region | sealOn | sealOff | termLen => exact .inl hs

end Sys2Proof.Laws
end

section
/-! OBLIGATION O51. The commands whose change waits for a Term boundary (R199, R205 to R207, R213, R217, R218, R241,
R242). -/

namespace Sys2Proof.Laws

open Sys2Proof.Machine Sys2Proof.Safety

variable {s : State} {o : Out} {f : State → State} {id op n h q st r : Nat} {x : Staged} {bad : Bool}

/-! ### A staged change (R207) -/

theorem stagedChange : StagedChange := by
  intro s id op n x hh hu
  dsimp only
  rw [State.finishStaged, slate_stage, staged_stage, dtime_stage, (spares_finish hh hu).staged, claimTaken,
    staged_modSlate]
  exact ⟨claim_finish hh hu, st_finish hh hu, rfl, dtime_finish hh hu⟩

theorem stages_of_held (hh : Held s id op) (ho : o = .next (s.onTabqua id op f)) (hf : f s = s.finishStaged id n x) :
    Stages o s id n x := by
  rw [Stages, ho, onTabqua_held hh, hf]

theorem refuses_of_held (hh : Held s id op) (ho : o = .next (s.onTabqua id op f)) (hf : f s = s.finishFail id st r) :
    Refuses o s id st r := by
  rw [Refuses, ho, onTabqua_held hh, hf]

/-! ### Settings (R205, R206, R215, R218) -/

theorem houseSettings : HouseSettings := by
  intro s id p h g
  refine ⟨fun hh hg hc => ?_, fun hh hbad => ?_, fun hh => ?_, fun hh => ?_, fun hh => ?_, fun hh => ?_, fun hh => ?_,
    fun hh => ?_, fun hh => ?_⟩
  · exact stages_of_held hh rfl (if_neg (not_or.2 ⟨not_not_intro hg, Nat.not_lt.2 hc⟩))
  · exact refuses_of_held hh rfl (if_pos hbad)
  all_goals exact stages_of_held hh rfl rfl

/-! ### Ports (R199) -/

/-- Among the staged moves of ports to one House, each gives way only to itself. -/
theorem bind_mem_stage_bind (hm : .bind h q ∈ s.staged) (p : Nat) : .bind h q ∈ (s.stage (.bind h p)).staged := by
  rw [mem_staged_stage]
  by_cases hp : q = p
  · exact .inr (by rw [hp])
  · exact .inl ⟨hm, by simpa [Staged.place] using hp⟩

/-- The moves of the ports in `mask` to House `h` are staged, in the order of the ports. -/
def portMoves (s : State) (h mask : Nat) : State :=
  ((List.range 4).filter (mask.testBit ·)).foldl (fun (s : State) p => s.stage (.bind h p)) s

theorem bind_mem_foldl_stage {ports : List Nat} (hq : q ∈ ports) (s : State) :
    .bind h q ∈ (ports.foldl (fun (s : State) p => s.stage (.bind h p)) s).staged := by
  induction ports generalizing s with
  | nil => cases hq
  | cons p ports ih =>
    rw [List.foldl_cons]
    cases hq with
    | head =>
      have hnow : .bind h q ∈ (s.stage (.bind h q)).staged := mem_staged_stage.2 (.inr rfl)
      exact foldl_keeps (fun t => .bind h q ∈ t.staged) _ (fun _ p hm => bind_mem_stage_bind hm p) _ _ hnow
    | tail _ hq => exact ih hq _

theorem bind_mem_portMoves {mask : Nat} (s : State) (hq : q < 4) (hm : mask.testBit q = true) :
    .bind h q ∈ (portMoves s h mask).staged :=
  bind_mem_foldl_stage (List.mem_filter.2 ⟨List.mem_range.2 hq, hm⟩) s

theorem houseBind_staged (hr : s.bindRefused (param (s.slate id).pkt 0) (param (s.slate id).pkt 1) = false) :
    s.houseBind id = portMoves (s.finish id St.ok (s.term + 1) false none) (param (s.slate id).pkt 0)
      (param (s.slate id).pkt 1) := if_neg (ne_true_of_eq_false hr)

/-! ### Shares, ports and regions (R213, R217, R218) -/

theorem partitionSettings : PartitionSettings := by
  intro s id p h
  refine ⟨fun hh hr => ?_, fun hh hr => ?_, fun hh hr => ?_, fun hh hr => ?_, fun hh hr => ?_, fun hh hr => ?_⟩
  · exact congrArg Host.Outcome.next ((onTabqua_held hh _).trans (if_neg (ne_true_of_eq_false hr)))
  · exact refuses_of_held hh rfl (if_pos hr)
  · exact ⟨_, congrArg Host.Outcome.next ((onTabqua_held hh _).trans (houseBind_staged hr)),
      fun q => bind_mem_portMoves _⟩
  · exact refuses_of_held hh rfl (if_pos hr)
  · exact stages_of_held hh rfl (if_neg (ne_true_of_eq_false hr))
  · exact refuses_of_held hh rfl (if_pos hr)

/-! ### The journal's settings (R241, R242) -/

theorem journalSet_staged (hb : bad = false) : s.journalSet id bad x = s.finishStaged id 1 x :=
  if_neg (ne_true_of_eq_false hb)

theorem journalSet_refused (hb : bad = true) : s.journalSet id bad x = s.finishFail id St.notPermitted 0 := if_pos hb

theorem journalSettings : JournalSettings := by
  intro s id p h b l ring alt area
  refine ⟨fun hh hr => ?_, fun hh hr => ?_, fun hh hr => ?_, fun hh hr => ?_, fun hh => ?_, fun hh hr => ?_,
    fun hh hr => ?_, fun hh hg => ?_, fun hh hg => ?_, fun hh hg => ?_, fun hh hg => ?_⟩
  · exact stages_of_held hh rfl (journalSet_staged hr)
  · exact refuses_of_held hh rfl (journalSet_refused hr)
  · exact stages_of_held hh rfl (journalSet_staged hr)
  · exact refuses_of_held hh rfl (journalSet_refused hr)
  · exact stages_of_held hh rfl rfl
  · exact stages_of_held hh rfl (journalSet_staged hr)
  · exact refuses_of_held hh rfl (journalSet_refused hr)
  · exact stages_of_held hh rfl (journalSet_staged (bne_eq_false_iff_eq.2 hg))
  · exact refuses_of_held hh rfl (journalSet_refused (bne_iff_ne.2 hg))
  · exact stages_of_held hh rfl (journalSet_staged (bne_eq_false_iff_eq.2 hg))
  · exact refuses_of_held hh rfl (journalSet_refused (bne_iff_ne.2 hg))

/-- Settles O51: once Tabqua holds the slate each command is the branch that its condition picks, and the end of the
command spares the staged changes. -/
theorem stagedCommands : Obligations.StagedCommands :=
  ⟨stagedChange, houseSettings, partitionSettings, journalSettings⟩

end Sys2Proof.Laws
end

section
/-! OBLIGATION O43. The Term boundary, a setting that applies alone, the zeroing of a region, and a cleared way (R206,
R207, R209, R214, Table 7.2). -/

namespace Sys2Proof.Laws

open Sys2Proof.Machine Sys2Proof.Safety

variable {s : State} {h n w : Nat} {x : Staged} {f : Staged → Bool} {g : State → Staged → State}

/-! ### The boundary (R206, R207) -/

/-- The boundaries up to the present device time have passed. -/
def passed (s : State) : State := { s with termAt := s.dtime }

theorem exec_termBoundary_early (ht : s.timeRuns = true) (hd : s.termDue = false) :
    exec .termBoundary s = .next s :=
  congrArg _ (if_neg (by simp [ht, hd]))

theorem exec_termBoundary_due (ht : s.timeRuns = true) (hd : s.termDue = true) : exec .termBoundary s = .next (
    if s.stopped || !s.serving then (passed s).countFld Reg.termStat F.TermStat.term 1
    else (((((passed s).resumeHouses.applyAll).runLoans).newTerm).termSnapshots).readyRots) :=
  congrArg _ (if_pos (by simp [ht, hd]))

theorem termBoundary : TermBoundary := by
  intro s
  refine ⟨exec_termBoundary_early, fun ht hd hidle => ?_, fun ht hd hstop hserv => ?_⟩
  · have hcount : (s.stopped || !s.serving) = true := by simpa using hidle
    refine ⟨(passed s).countFld Reg.termStat F.TermStat.term 1, ?_, rfl, ?_, rfl, rfl, rfl, fun a ha => ?_⟩
    · rw [exec_termBoundary_due ht hd, if_pos hcount]
    · exact fld_setFld_same _ _ _ (by decide) _
    · exact (rd_setFld _ _ _ _ _).trans (if_neg ha)
  · rw [exec_termBoundary_due ht hd, if_neg (by simp [hstop, hserv])]
    rfl

/-! ### Staged changes in order (R207) -/

theorem applyStaged_none (hf : ∀ x ∈ s.staged, f x = false) : s.applyStaged f g = s := by
  have htaken : s.staged.filter f = [] := by simpa using hf
  have hkept : s.staged.filter (fun x => !f x) = s.staged := by simpa using hf
  rw [State.applyStaged, htaken, hkept]
  rfl

theorem applyStaged_singleton (hx : s.staged = [x]) (hf : f x = true) :
    s.applyStaged f g = g { s with staged := [] } x := by
  simp [State.applyStaged, hx, hf]

theorem lessens_of_step (hx : x.step = 3) (s : State) : s.lessens x = false := by
  cases x with
  | share => cases hx
  | _ => rfl

theorem clearTillers_of_none (hl : s.leaving = []) : s.clearTillers = s := by
  rw [State.clearTillers, hl, List.foldl_nil]

/-- A fold none of whose steps moves the state. -/
theorem foldl_eq_self_of_mem {α : Type} {l : List α} {f : State → α → State} (hf : ∀ a ∈ l, f s a = s) :
    l.foldl f s = s := by
  induction l with
  | nil => rfl
  | cons a l ih =>
    rw [List.foldl_cons, hf a List.mem_cons_self]
    exact ih fun b hb => hf b (List.mem_cons_of_mem _ hb)

/-- No Tiller joins a House at a boundary where none is on its way (R208). -/
theorem joinTillers_of_none (hl : s.leaving = []) (hc : ∀ h, h < 5 → (s.house h).tillersClearing = []) :
    s.joinTillers = s := by
  have hnone : (List.range 5).foldl (fun (s : State) h => (s.house h).tillersClearing.foldl (fun (s : State) t =>
      if (Map.find t s.leaving).isNone then s.tillerJoins t h else s) s) s = s :=
    foldl_eq_self_of_mem fun h hh => by rw [hc h (List.mem_range.1 hh), List.foldl_nil]
  rw [State.joinTillers, hnone, clearTillers_of_none hl]

theorem step_applySetting (hs : s.staged = []) (x : Staged) : ∀ y ∈ (s.applySetting x).staged, y.step = 3 := by
  intro y hy
  obtain hsp | ⟨h, b, l, he⟩ := applySetting_spares_or_stages s x
  · rw [hsp.staged, hs] at hy
    cases hy
  · rw [he, mem_staged_stage, hs] at hy
    obtain ⟨⟨⟩, -⟩ | rfl := hy
    rfl

theorem stagedSetting : StagedSetting := by
  intro s x hx h3 hl hc
  have hnot {k : Nat} (hk : 3 ≠ k) : ∀ y ∈ s.staged, (y.step == k) = false := by
    rw [hx]
    simpa [h3] using hk
  have hless : ∀ y ∈ s.staged, s.lessens y = false := by
    rw [hx]
    simpa using lessens_of_step h3 s
  have hseal : ∀ y ∈ (({ s with staged := [] } : State).applySetting x).staged, (y.step == 4) = false := fun y hy => by
    rw [step_applySetting rfl x y hy]
    rfl
  rw [State.applyAll, applyStaged_none (hnot (by decide)), applyStaged_none (hnot (by decide)), joinTillers_of_none hl hc,
    applyStaged_none hless, applyStaged_none (hnot (by decide)), clearTillers_of_none hl,
    applyStaged_singleton hx (by rw [h3]; rfl), applyStaged_none hseal]

/-! ### The zeroing of a region (R214) -/

theorem byte_zeroChanging (s : State) (n : Nat) (v w : Word × Word) (x : Nat) :
    Memory.byte (s.zeroChanging n v w).mem x =
      if x < 0x008000000000 ∧ rgnKey x v ≠ rgnKey x w then 0 else Memory.byte s.mem x := by
  have hkept : (decide (0x008000000000 ≤ x) || rgnKey x v == rgnKey x w) = true ↔
      ¬ (x < 0x008000000000 ∧ rgnKey x v ≠ rgnKey x w) := by
    simp [imp_iff_not_or]
  show (Map.find x (s.mem.filter (fun c => decide (0x008000000000 ≤ c.1) || rgnKey c.1 v == rgnKey c.1 w))).getD 0 = _
  rw [find_filter (fun a => decide (0x008000000000 ≤ a) || rgnKey a v == rgnKey a w)]
  split
  · next hk => rw [if_neg (hkept.1 hk)]; rfl
  · next hk => rw [if_pos (not_not.1 (hkept.not.1 hk))]; rfl

theorem region_mem_zeroChanging {a b : Word} {z : Bool} {v w : Word × Word} (hm : .region n a b z ∈ s.staged) :
    .region n a b true ∈ (s.zeroChanging n v w).staged :=
  List.mem_map.2 ⟨_, hm, if_pos rfl⟩

theorem exec_dramRegionZeroComplete {a b : Word} {l : List Staged} (hs : s.staged = .region n a b false :: l) :
    exec (.dramRegionZeroComplete n) s = .next (s.zeroChanging n (s.rgnWords n) (a, b)) := by
  show execDramRegionZeroComplete n s = _
  simp [execDramRegionZeroComplete, hs]

theorem regionZeroed : RegionZeroed := by
  intro s n a b l hs
  have hm : .region n a b false ∈ s.staged := hs ▸ List.mem_cons_self
  exact ⟨_, exec_dramRegionZeroComplete hs, region_mem_zeroChanging hm, byte_zeroChanging s n _ _, rfl, rfl, rfl⟩

/-! ### A cleared way (R209) -/

/-- Way `w` is no longer on its way to a House. -/
def wayArrived (s : State) (w : Nat) : State := { s with ways := Map.erase w s.ways }

/-- House `h` has way `w`. -/
def wayGiven (s : State) (w h : Nat) : State := s.setFld (Reg.houseGway h) ⟨w, 1⟩ 1

theorem exec_granaryWayClearComplete (hf : Map.find w s.ways = some h) :
    exec (.granaryWayClearComplete w) s =
      .next (if h < 4 then wayGiven (wayArrived s w) w h else wayArrived s w) := by
  show execGranaryWayClearComplete w s = _
  rw [execGranaryWayClearComplete, hf]
  rfl

theorem find_wayArrived (s : State) (w : Nat) : Map.find w (wayArrived s w).ways = none :=
  (find_erase w w s.ways).trans (if_pos rfl)

theorem testBit_waysOf_wayGiven (s : State) (hw : w < 16) (h : Nat) : ((wayGiven s w h).waysOf h).testBit w = true := by
  have hset : (wayGiven s w h).rd (Reg.houseGway h) = (⟨w, 1⟩ : Fld).set (s.rd (Reg.houseGway h)) 1 :=
    (rd_setFld _ _ _ _ _).trans (if_pos rfl)
  have hbit : ((⟨w, 1⟩ : Fld).set (s.rd (Reg.houseGway h)) 1).toNat.testBit w = true := by
    rw [testBit_set _ _ _ _ (by omega), if_pos ⟨Nat.le_refl w, Nat.lt_succ_self w⟩, Nat.sub_self]
    rfl
  rw [State.waysOf, State.fld, hset, Fld.get, Nat.testBit_mod_two_pow, Nat.testBit_div_two_pow, Nat.add_zero, hbit,
    decide_eq_true hw, Bool.and_self]

theorem waysOf_wayGiven_ne {k : Nat} (hk : k ≠ h) : (wayGiven s w h).waysOf k = s.waysOf k :=
  fld_setFld_ne _ _ _ _ _ _ (by simpa using hk)

theorem wayCleared : WayCleared := by
  intro s w h hw hf
  refine ⟨_, exec_granaryWayClearComplete hf, ?_⟩
  by_cases hh : h < 4
  · rw [if_pos hh]
    exact ⟨find_wayArrived s w, fun _ => testBit_waysOf_wayGiven _ hw h, fun k _ => waysOf_wayGiven_ne, rfl, rfl⟩
  · rw [if_neg hh]
    exact ⟨find_wayArrived s w, fun h4 => absurd h4 hh, fun _ _ _ => rfl, rfl, rfl⟩

/-- Settles O43: a boundary that is due counts, or runs its steps; a setting that stands alone passes the steps before
and after its own by; the zeroing of a region keeps the lines that keep their key; a way that is cleared goes to its
House. -/
theorem termEvents : Obligations.TermEvents := ⟨termBoundary, stagedSetting, regionZeroed, wayCleared⟩

end Sys2Proof.Laws
end

section
/-! OBLIGATION O2. The words of the instructions (R247, R248, Tables 9.1 to 9.3 and 11.3). -/

namespace Sys2Proof.Laws

variable {w : BitVec 32} {k : Kis}

/-! ### The word of an instruction decodes to it -/

/-- A field within imm16. -/
theorem extractLsb'_fmtI (mj : BitVec 6) (a b : Fin 32) (v : BitVec 16) (lo n : Nat) (h : lo + n ≤ 16) :
    (fmtI mj a b v).extractLsb' lo n = v.extractLsb' lo n := by
  unfold fmtI
  ext i hi
  simp
  grind

/-- The unused bits above a shift amount. -/
theorem amount_high (h : BitVec 6) : (0#10 ++ h).extractLsb' 6 10 = 0#10 := by
  ext i hi
  simp
  grind

/-- The unused bits above a control register number. -/
theorem csr_high (c : BitVec 12) : (0#4 ++ c).extractLsb' 12 4 = 0#4 := by
  ext i hi
  simp
  grind

/-- The two bits of MASKUP in the field of rs2 (Table 9.2). -/
theorem maskup_field (n : BitVec 2) : n.toNat % 32 < 4 ∧ BitVec.ofNat 2 (n.toNat % 32) = n := by
  revert n; decide

theorem decodeWord_encode (k : Kis) : decodeWord k.encode = some k := by
  have hann (mj a b n d) : (fmtB mj a b n d)[15] = n := ann_fmtB mj a b n d
  cases k with
  | maskup n => simp [Kis.encode, decodeWord, decodeSys, guarded, maskup_field]
  | _ =>
    simp [Kis.encode, decodeWord, decodeOp, decodeAtomic, decodeSys, decodeLong, guarded, hann, extractLsb'_fmtI,
      amount_high, csr_high]

/-! ### A word is the word of what it decodes to -/

theorem fmtR_of_fields {mj f} (hm : wMajor w = mj) (hf : wFunc w = f) : fmtR mj (wA w) (wB w) (wC w) f = w := by
  rw [← hm, ← hf, fmtR_fields]

theorem fmtI_of_major {mj} (hm : wMajor w = mj) : fmtI mj (wA w) (wB w) (wImm w) = w := by
  rw [← hm, fmtI_fields]

theorem fmtB_of_major {mj} (hm : wMajor w = mj) :
    fmtB mj (wA w) (wB w) (w.getLsbD 15) (w.extractLsb' 0 15) = w := by
  rw [← hm, fmtB_fields]

theorem fmtJ_of_major {mj} (hm : wMajor w = mj) : fmtJ mj (w.extractLsb' 0 26) = w := by
  rw [← hm, fmtJ_fields]

theorem fmtU_of_major {mj} (hm : wMajor w = mj) : fmtU mj (wA w) (w.extractLsb' 0 21) = w := by
  rw [← hm, fmtU_fields]

theorem guarded_eq_some {c : Bool} {i : Kis} : guarded c i = some k ↔ c = true ∧ i = k := by
  unfold guarded
  split <;> simp_all

/-- An imm16 whose unused bits are 0 is a shift amount. -/
theorem wImm_of_amount (h : w.extractLsb' 6 10 = 0#10) : 0#10 ++ w.extractLsb' 0 6 = wImm w := by
  rw [← h, wImm]
  ext i hi
  simp
  grind

/-- An imm16 whose unused bits are 0 is a control register number. -/
theorem wImm_of_csr (h : w.extractLsb' 12 4 = 0#4) : 0#4 ++ w.extractLsb' 0 12 = wImm w := by
  rw [← h, wImm]
  ext i hi
  simp
  grind

theorem encode_of_decodeOp (hm : wMajor w = 0x00#6) (h : decodeOp w = some k) : k.encode = w := by
  unfold decodeOp at h
  split at h
  case h_23 => cases h
  all_goals
    cases h
    exact fmtR_of_fields hm ‹_›

theorem encode_of_decodeAtomic (hm : wMajor w = 0x1C#6) (h : decodeAtomic w = some k) : k.encode = w := by
  unfold decodeAtomic at h
  split at h
  case h_3 => cases h
  all_goals
    cases h
    exact fmtR_of_fields hm ‹_›

theorem encode_of_decodeLong (hm : wMajor w = 0x38#6) (h : decodeLong w = some k) : k.encode = w := by
  unfold decodeLong at h
  split at h
  case h_5 => cases h
  case h_4 hf =>
    obtain ⟨hc, rfl⟩ := guarded_eq_some.1 h
    have hw := fmtR_of_fields hm hf
    rwa [eq_of_beq hc] at hw
  all_goals
    cases h
    exact fmtR_of_fields hm ‹_›

/-- The amount of MASKUP, where rs2 holds no more than its two bits. -/
theorem maskup_amount (b : Fin 32) (hb : b.val < 4) : ((BitVec.ofNat 2 b.val).setWidth 5).toFin = b := by
  revert b; decide

theorem encode_of_decodeSys (hm : wMajor w = 0x30#6) (h : decodeSys w = some k) : k.encode = w := by
  unfold decodeSys at h
  split at h
  case h_14 => cases h
  case h_9 hf =>
    obtain ⟨hc, rfl⟩ := guarded_eq_some.1 h
    simp only [Bool.and_eq_true, beq_iff_eq, decide_eq_true_eq] at hc
    obtain ⟨⟨hrd, ha⟩, hb⟩ := hc
    have hw := fmtR_of_fields hm hf
    rw [hrd, ha] at hw
    rw [Kis.encode, maskup_amount _ hb]
    exact hw
  all_goals
    obtain ⟨hc, rfl⟩ := guarded_eq_some.1 h
    simp only [Bool.and_eq_true, beq_iff_eq] at hc
    simpa [Kis.encode, hc] using fmtR_of_fields hm ‹wFunc w = _›

theorem encode_of_decodeWord (h : decodeWord w = some k) : k.encode = w := by
  unfold decodeWord at h
  split at h
  case h_1 hm => exact encode_of_decodeOp hm h
  case h_25 hm => exact encode_of_decodeAtomic hm h
  case h_35 hm => exact encode_of_decodeSys hm h
  case h_40 hm => exact encode_of_decodeLong hm h
  case h_41 => cases h
  case h_8 hm =>
    cases h
    exact fmtU_of_major hm
  case h_32 hm | h_33 hm =>
    cases h
    exact fmtJ_of_major hm
  case h_26 hm | h_27 hm | h_28 hm | h_29 hm | h_30 hm | h_31 hm =>
    cases h
    exact fmtB_of_major hm
  case h_9 hm | h_10 hm | h_11 hm | h_12 hm =>
    obtain ⟨hc, rfl⟩ := guarded_eq_some.1 h
    rw [Kis.encode, wImm_of_amount (eq_of_beq hc)]
    exact fmtI_of_major hm
  case h_34 hm =>
    obtain ⟨hc, rfl⟩ := guarded_eq_some.1 h
    simp only [Bool.and_eq_true, beq_iff_eq] at hc
    simpa [Kis.encode, hc] using fmtR_of_fields hm hc.2
  case h_38 hm | h_39 hm =>
    obtain ⟨hc, rfl⟩ := guarded_eq_some.1 h
    simp only [Bool.and_eq_true, beq_iff_eq] at hc
    simpa [Kis.encode, hc, wImm_of_csr hc.2] using fmtI_of_major hm
  case h_20 hm | h_36 hm | h_37 hm =>
    obtain ⟨hc, rfl⟩ := guarded_eq_some.1 h
    simp only [Bool.and_eq_true, beq_iff_eq] at hc
    simpa [Kis.encode, hc] using fmtI_of_major hm
  all_goals
    cases h
    exact fmtI_of_major ‹_›

/-- Settles O2: each format gives its fields back and is the word of its fields, so a word and its instruction determine
each other; the fields that an instruction does not use are 0 in both. -/
theorem decodeAndEncodeAgree : Obligations.DecodeAndEncodeAgree :=
  ⟨decodeWord_encode, fun _ _ => encode_of_decodeWord⟩

end Sys2Proof.Laws
end

section
/-! OBLIGATIONS O3 to O6. The register and immediate operations: value, ARITH and frame (R245, R247, R251, R252, Tables
9.4 and 9.5). -/

namespace Sys2Proof.Laws

open Sys2Proof.Machine Sys2Proof.Safety

variable {s : State} {t n : Nat} {rd a b : Fin 32} {v : Word}

/-! ### Operations that cannot trap (R247) -/

theorem alu_result {f : Word → Word → Word} (h : Ready s t) (hv : f (s.gr t a) (s.gr t b) = v) :
    Result (.next (s.alu t rd a b f n)) s t rd v (s.tiller t).arith := by
  subst hv
  rw [State.alu, instr_ready h true _ (.inl rfl)]
  simp only [started_gr]
  exact result_of s t rd _ n (Tiller.put · rd _) _ rfl

theorem aluImm_result {f : Word → Word} (h : Ready s t) (hv : f (s.gr t a) = v) :
    Result (.next (s.aluImm t rd a f n)) s t rd v (s.tiller t).arith := by
  subst hv
  rw [State.aluImm, instr_ready h true _ (.inl rfl)]
  simp only [started_gr]
  exact result_of s t rd _ n (Tiller.put · rd _) _ rfl

theorem truth_slt (x y : Word) : truth (x.slt y) = if x.toInt < y.toInt then 1 else 0 := by
  simp [truth, BitVec.slt]

theorem truth_ult (x y : Word) : truth (x.ult y) = if x.toNat < y.toNat then 1 else 0 := by
  simp [truth, BitVec.ult]

/-- The high half of a product is the product divided by 2^64 (Table 9.4). -/
theorem high_half (z : Int) : BitVec.ofInt 64 (z / 2 ^ 64) = (BitVec.ofInt 128 z).extractLsb' 64 64 := by
  apply BitVec.eq_of_toNat_eq
  simp only [BitVec.toNat_ofInt, BitVec.extractLsb'_toNat, Nat.shiftRight_eq_div_pow]
  omega

theorem mulh_value (x y : Word) :
    BitVec.ofInt 64 (x.toInt * y.toInt / 2 ^ 64) = (x.signExtend 128 * y.signExtend 128).extractLsb' 64 64 := by
  rw [high_half, BitVec.ofInt_mul]
  rfl

theorem mulhu_value (x y : Word) :
    BitVec.ofNat 64 (x.toNat * y.toNat / 2 ^ 64) = (x.zeroExtend 128 * y.zeroExtend 128).extractLsb' 64 64 := by
  have h := high_half ((x.toNat * y.toNat : Nat) : Int)
  have hz : BitVec.ofNat 128 (x.toNat * y.toNat) = x.zeroExtend 128 * y.zeroExtend 128 := by
    apply BitVec.eq_of_toNat_eq
    simp
  rw [BitVec.ofInt_natCast, hz] at h
  rw [← h, ← BitVec.ofInt_natCast]
  congr 1

/-- Settles O3: each operation is one write of the general registers. -/
theorem registerOperationResults : Obligations.RegisterOperationResults := by
  intro s t rd a b h
  exact ⟨alu_result h rfl, alu_result h rfl, alu_result h rfl, alu_result h (truth_slt _ _), alu_result h (truth_ult _ _),
    alu_result h rfl, alu_result h rfl, alu_result h rfl, alu_result h rfl, alu_result h (mulh_value _ _),
    alu_result h (mulhu_value _ _)⟩

theorem truth_slt_sx (x : Word) (imm : BitVec 16) : truth (x.slt (sx imm)) = if x.toInt < imm.toInt then 1 else 0 := by
  rw [truth_slt, sx, BitVec.toInt_signExtend_of_le (by decide)]

/-- Settles O4: each operation is one write of the general registers. -/
theorem immediateOperationResults : Obligations.ImmediateOperationResults := by
  intro s t rd a imm big sh h
  exact ⟨aluImm_result h (truth_slt_sx _ _), aluImm_result h (truth_ult _ _), aluImm_result h rfl, aluImm_result h rfl,
    aluImm_result h rfl, aluImm_result h rfl, aluImm_result h rfl, aluImm_result h rfl, aluImm_result h rfl,
    aluImm_result h rfl⟩

/-! ### Operations that may trap (R251, R252) -/

theorem arithDone_result {ov dz : Bool} {ar : Word} (hdz : dz = true → (s.tiller t).arith.getLsbD 0 = false)
    (hov : ov = true → (s.tiller t).arith.getLsbD 1 = false)
    (har : (s.tiller t).arith ||| (if ov then 0x200#64 else 0#64) ||| (if dz then 0x100#64 else 0#64) = ar) :
    Result (.next (((started s t).arithDone t rd v ov dz n).settle s t)) s t rd v ar := by
  have hd : (dz && ((started s t).tiller t).dzEn) = false := by
    rw [started_tiller]
    cases dz <;> simp_all [Tiller.dzEn]
  have ho : (ov && ((started s t).tiller t).ovEn) = false := by
    rw [started_tiller]
    cases ov <;> simp_all [Tiller.ovEn]
  simp only [State.arithDone, hd, ho]
  subst har
  exact result_of s t rd v n (fun x => (x.stick ov dz).put rd v) _ rfl

theorem overflows_iff (z : Int) : overflows z = true ↔ Unfit z := by
  simp [overflows, Unfit]

/-- OV_S after an operation that divides nothing. -/
theorem arith_of_overflow (ar : Word) (z : Int) :
    ar ||| (if overflows z then 0x200#64 else 0#64) ||| (if false then 0x100#64 else 0#64) =
      if z < -(2 ^ 63) ∨ 2 ^ 63 ≤ z then ar ||| 0x200#64 else ar := by
  simp only [overflows_iff, Unfit]
  split <;> simp

theorem overflowing_result {z : Int} (hon : Unfit z → ¬ (s.tiller t).arith.getLsbD 1 = true) :
    Result (.next (((started s t).arithDone t rd v (overflows z) false n).settle s t)) s t rd v
      (if z < -(2 ^ 63) ∨ 2 ^ 63 ≤ z then (s.tiller t).arith ||| 0x200#64 else (s.tiller t).arith) :=
  arithDone_result (fun h => by cases h) (fun h => Bool.eq_false_iff.2 (hon ((overflows_iff z).1 h)))
    (arith_of_overflow _ z)

theorem aluOv_eq {f : Word → Word → Word} {ov : Word → Word → Bool} (h : Ready s t) :
    s.aluOv t rd a b f ov n =
      ((started s t).arithDone t rd (f (s.gr t a) (s.gr t b)) (ov (s.gr t a) (s.gr t b)) false n).settle s t := by
  rw [State.aluOv, instr_ready h true _ (.inl rfl)]
  simp only [started_gr]

theorem exec_addi {imm : BitVec 16} (h : Ready s t) : exec (.addi t rd a imm) s =
    .next (((started s t).arithDone t rd (s.gr t a + sx imm) (overflows ((s.gr t a).toInt + imm.toInt)) false 4).settle
      s t) := by
  show execAddi t rd a imm s = _
  rw [execAddi, instr_ready h true _ (.inl rfl)]
  simp only [started_gr, addOv, sx, BitVec.toInt_signExtend_of_le (show 16 ≤ 64 by decide)]

/-- Settles O5: where the exact result fits, or its trap is off, the wrapped result is written and OV_S follows. -/
theorem overflowingOperationResults : Obligations.OverflowingOperationResults := by
  intro s t rd a b imm h
  refine ⟨fun hon => ?_, fun hon => ?_, fun hon => ?_, fun hon => ?_⟩
  · show Result (.next (s.aluOv t rd a b (· + ·) addOv 4)) _ _ _ _ _
    rw [aluOv_eq h]
    exact overflowing_result hon
  · show Result (.next (s.aluOv t rd a b (· - ·) subOv 4)) _ _ _ _ _
    rw [aluOv_eq h]
    exact overflowing_result hon
  · show Result (.next (s.aluOv t rd a b (· * ·) mulOv 9)) _ _ _ _ _
    rw [aluOv_eq h]
    exact overflowing_result hon
  · rw [exec_addi h]
    exact overflowing_result hon

theorem divOv_iff (x y : Word) : divOv x y = true ↔ x = 0x8000000000000000#64 ∧ y = 0xFFFFFFFFFFFFFFFF#64 := by
  simp [divOv]

/-- A divide or remainder whose conditions do not trap (Table 9.5). -/
theorem divide_result {sg rm fx : Bool} {ar : Word} (h : Ready s t)
    (hv : (if rm then remainder sg (s.gr t a) (s.gr t b) else quotient sg (s.gr t a) (s.gr t b)) = v)
    (hdz : s.gr t b = 0 → (s.tiller t).arith.getLsbD 0 = false)
    (hov : (sg && !rm && divOv (s.gr t a) (s.gr t b)) = true → (s.tiller t).arith.getLsbD 1 = false)
    (har : (s.tiller t).arith ||| (if sg && !rm && divOv (s.gr t a) (s.gr t b) then 0x200#64 else 0#64) |||
      (if s.gr t b == 0 then 0x100#64 else 0#64) = ar) :
    Result (.next (s.divide t rd a b sg rm fx)) s t rd v ar := by
  subst hv
  rw [State.divide, instr_ready h true _ (.inl rfl)]
  simp only [started_gr]
  exact arithDone_result (fun hb => hdz (eq_of_beq hb)) hov har

theorem quotient_unsigned (x y : Word) : quotient false x y =
    if y = 0 then 0xFFFFFFFFFFFFFFFF#64 else BitVec.ofNat 64 (x.toNat / y.toNat) := by
  simp [quotient, BitVec.udiv_def]

theorem remainder_unsigned (x y : Word) : remainder false x y =
    if y = 0 then x else BitVec.ofNat 64 (x.toNat % y.toNat) := by
  simp [remainder, BitVec.umod_def]

/-- DZ_S after an operation that cannot overflow. -/
theorem arith_of_divisor (ar y : Word) : ar ||| (if false then 0x200#64 else 0#64) ||| (if y == 0 then 0x100#64 else 0#64) =
    if y = 0 then ar ||| 0x100#64 else ar := by
  simp only [beq_iff_eq, Bool.false_eq_true, if_false, BitVec.or_zero]
  split <;> simp

/-- DZ_S and OV_S after a signed quotient: the divisor of the one overflow is not 0. -/
theorem arith_of_quotient (ar x y : Word) :
    ar ||| (if divOv x y then 0x200#64 else 0#64) ||| (if y == 0 then 0x100#64 else 0#64) =
      if x = 0x8000000000000000#64 ∧ y = 0xFFFFFFFFFFFFFFFF#64 then ar ||| 0x200#64
      else if y = 0 then ar ||| 0x100#64 else ar := by
  simp only [divOv_iff]
  by_cases ho : x = 0x8000000000000000#64 ∧ y = 0xFFFFFFFFFFFFFFFF#64
  · simp [ho]
  · rw [if_neg ho, if_neg ho]
    exact arith_of_divisor ar y

/-- Settles O6: the values of Table 9.5, and the sticky bits of a condition whose trap is off. -/
theorem divideResults : Obligations.DivideResults := by
  intro s t rd a b h x y ar ov dz q qu r ru hdz
  refine ⟨fun hov => ?_, ?_, ?_, ?_, ?_, ?_, ?_⟩
  · have hov' (hd : divOv x y = true) : ar.getLsbD 1 = false := hov ((divOv_iff x y).1 hd)
    exact ⟨divide_result h rfl hdz hov' (arith_of_quotient ar x y), divide_result h rfl hdz hov' (arith_of_quotient ar x y)⟩
  · exact divide_result h (quotient_unsigned x y) hdz (fun hc => by cases hc) (arith_of_divisor ar y)
  · exact divide_result h (quotient_unsigned x y) hdz (fun hc => by cases hc) (arith_of_divisor ar y)
  · exact divide_result h rfl hdz (fun hc => by cases hc) (arith_of_divisor ar y)
  · exact divide_result h rfl hdz (fun hc => by cases hc) (arith_of_divisor ar y)
  · exact divide_result h (remainder_unsigned x y) hdz (fun hc => by cases hc) (arith_of_divisor ar y)
  · exact divide_result h (remainder_unsigned x y) hdz (fun hc => by cases hc) (arith_of_divisor ar y)

end Sys2Proof.Laws
end

section
/-! SUPPORT. The frames of a Tiller's instruction (R244, R245): what is the same before and after it, put together from
its parts; and the ways to complete that write at most one general register. -/

namespace Sys2Proof.Laws

open Sys2Proof.Machine Sys2Proof.Safety

variable {s s1 s2 : State} {t n : Nat} {x y z : Tiller} {rd r : Fin 32} {v : Word}

/-! ### Frames are reflexive and compose -/

theorem ctlSame_refl (x : Tiller) : CtlSame x x :=
  ⟨rfl, rfl, rfl, rfl, rfl, ⟨rfl, rfl⟩, ⟨rfl, rfl⟩, rfl, rfl, rfl, rfl⟩

theorem ctlSame_trans (h : CtlSame x y) (k : CtlSame y z) : CtlSame x z where
  ring := k.ring.trans h.ring
  cause := k.cause.trans h.cause
  epc := k.epc.trans h.epc
  entry := k.entry.trans h.entry
  sp := k.sp.trans h.sp
  masks := ⟨k.masks.1.trans h.masks.1, k.masks.2.trans h.masks.2⟩
  pt := ⟨k.pt.1.trans h.pt.1, k.pt.2.trans h.pt.2⟩
  pred := k.pred.trans h.pred
  carrelCsr := k.carrelCsr.trans h.carrelCsr
  openEn := k.openEn.trans h.openEn
  pending := k.pending.trans h.pending

theorem buffersSame_refl (x : Tiller) : BuffersSame x x := ⟨rfl, rfl, rfl, rfl, rfl, rfl, rfl⟩

theorem buffersSame_trans (h : BuffersSame x y) (k : BuffersSame y z) : BuffersSame x z where
  sb := k.sb.trans h.sb
  posted := k.posted.trans h.posted
  tlb := k.tlb.trans h.tlb
  slots := k.slots.trans h.slots
  ans := k.ans.trans h.ans
  cancel := k.cancel.trans h.cancel
  edges := k.edges.trans h.edges

theorem outside_trans (h : OutsideSame s s1 t) (k : OutsideSame s1 s2 t) : OutsideSame s s2 t where
  mem b := (k.mem b).trans (h.mem b)
  others u hu := (k.others u hu).trans (h.others u hu)
  regs a ha := (k.regs a ha).trans (h.regs a ha)
  dtime := k.dtime.trans h.dtime
  slates := k.slates.trans h.slates
  houses := k.houses.trans h.houses
  fns := k.fns.trans h.fns
  chutes := k.chutes.trans h.chutes
  hoppers := k.hoppers.trans h.hoppers
  chans := k.chans.trans h.chans
  flash := k.flash.trans h.flash
  keys := ⟨k.keys.1.trans h.keys.1, k.keys.2.1.trans h.keys.2.1, k.keys.2.2.trans h.keys.2.2⟩
  caches := ⟨k.caches.1.trans h.caches.1, k.caches.2.trans h.caches.2⟩
  power := k.power.trans h.power
  out := k.out.trans h.out

/-- Marks counters are all that differs outside a Tiller whose registers alone were counted in. -/
theorem outside_of_regsOnly (h : RegsOnly s s1) (hr : ∀ a, ¬ IsMark a → s1.rd a = s.rd a) : OutsideSame s s1 t where
  mem b := by rw [h.mem]
  others u _ := by rw [State.tiller, State.tiller, h.tillers]
  regs := hr
  dtime := h.dtime
  slates := h.slates
  houses := h.houses
  fns := h.fns
  chutes := h.chutes
  hoppers := h.hoppers
  chans := h.chans
  flash := h.flash
  keys := ⟨h.symSlots, h.asymSlots, h.dev⟩
  caches := ⟨h.symCache, h.asymCache⟩
  power := h.power
  out := h.out

theorem mark_outside (s : State) (t u r ev n : Nat) : OutsideSame s (s.mark u r ev n) t :=
  outside_of_regsOnly (mark_regsOnly s u r ev n) fun _ => rd_mark s u r ev n _

/-! ### General registers -/

@[simp] theorem gr_zero (s : State) (t : Nat) : s.gr t 0 = 0 := rfl

theorem gr_setGr (s : State) (t : Nat) (rd : Fin 32) (v : Word) (r : Fin 32) :
    (s.setGr t rd v).gr t r = if r = 0 then 0 else if r = rd then v else s.gr t r := by
  rw [State.gr, State.setGr, tiller_modTiller, if_pos rfl, tiller_get_put]
  rfl

theorem gr_of_g (h : (s1.tiller t).g = (s.tiller t).g) : GrSame s s1 t := fun r => by
  rw [State.gr, State.gr, Tiller.get, Tiller.get, h]

theorem grWritten_setGr (s : State) (t : Nat) (rd : Fin 32) (v : Word) : GrWritten s (s.setGr t rd v) t rd v := by
  refine ⟨fun h => ?_, rfl, fun r hr => ?_⟩
  · rw [gr_setGr, if_neg h, if_pos rfl]
  · rw [gr_setGr, if_neg hr]
    split
    · next h0 => rw [h0, gr_zero]
    · rfl

theorem grWritten_of_grSame (h : GrWritten s1 s2 t rd v) (hg : GrSame s s1 t) : GrWritten s s2 t rd v :=
  ⟨h.1, h.2.1, fun r hr => (h.2.2 r hr).trans (hg r)⟩

theorem grSame_after (h : GrWritten s s1 t rd v) (hg : GrSame s1 s2 t) : GrWritten s s2 t rd v :=
  ⟨fun h0 => (hg rd).trans (h.1 h0), hg 0, fun r hr => (hg r).trans (h.2.2 r hr)⟩

theorem tiller_setGr (s : State) (t : Nat) (rd : Fin 32) (v : Word) : (s.setGr t rd v).tiller t = (s.tiller t).put rd v := by
  rw [State.setGr, tiller_modTiller, if_pos rfl]

theorem setGr_outside (s : State) (t : Nat) (rd : Fin 32) (v : Word) : OutsideSame s (s.setGr t rd v) t :=
  modTiller_outside s s t _ (refl_outside s t)

theorem ctlSame_put (x : Tiller) (rd : Fin 32) (v : Word) : CtlSame x (x.put rd v) := by
  obtain ⟨g, h⟩ := put_eq x rd v
  rw [h]
  exact ⟨rfl, rfl, rfl, rfl, rfl, ⟨rfl, rfl⟩, ⟨rfl, rfl⟩, rfl, rfl, rfl, rfl⟩

theorem buffersSame_put (x : Tiller) (rd : Fin 32) (v : Word) : BuffersSame x (x.put rd v) := by
  obtain ⟨g, h⟩ := put_eq x rd v
  rw [h]
  exact ⟨rfl, rfl, rfl, rfl, rfl, rfl, rfl⟩

@[simp] theorem pc_put (x : Tiller) (rd : Fin 32) (v : Word) : (x.put rd v).pc = x.pc := by
  obtain ⟨g, h⟩ := put_eq x rd v
  rw [h]

@[simp] theorem dslot_put (x : Tiller) (rd : Fin 32) (v : Word) : (x.put rd v).dslot = x.dslot := by
  obtain ⟨g, h⟩ := put_eq x rd v
  rw [h]

@[simp] theorem arith_put (x : Tiller) (rd : Fin 32) (v : Word) : (x.put rd v).arith = x.arith := by
  obtain ⟨g, h⟩ := put_eq x rd v
  rw [h]

@[simp] theorem sb_put (x : Tiller) (rd : Fin 32) (v : Word) : (x.put rd v).sb = x.sb := by
  obtain ⟨g, h⟩ := put_eq x rd v
  rw [h]

/-! ### Retirement -/

theorem ctlSame_retire (s : State) (t n : Nat) : CtlSame (s.tiller t) ((s.retire t n).tiller t) := by
  constructor <;> simp

theorem buffersSame_retire (s : State) (t n : Nat) : BuffersSame (s.tiller t) ((s.retire t n).tiller t) := by
  constructor <;> simp

theorem outside_retire (s : State) (t n : Nat) : OutsideSame s (s.retire t n) t :=
  retire_outside s s t n (refl_outside s t)

theorem grSame_retire (s : State) (t n : Nat) : GrSame s (s.retire t n) t := gr_retire s t n

theorem registerFrame_retire (s : State) (t n : Nat) : RegisterFrame s (s.retire t n) t :=
  ⟨outside_retire s t n, ctlSame_retire s t n, buffersSame_retire s t n⟩

theorem registerFrame_refl (s : State) (t : Nat) : RegisterFrame s s t :=
  ⟨refl_outside s t, ctlSame_refl _, buffersSame_refl _⟩

theorem registerFrame_trans (h : RegisterFrame s s1 t) (k : RegisterFrame s1 s2 t) : RegisterFrame s s2 t :=
  ⟨outside_trans h.outside k.outside, ctlSame_trans h.ctl k.ctl, buffersSame_trans h.buffers k.buffers⟩

theorem registerFrame_setGr (s : State) (t : Nat) (rd : Fin 32) (v : Word) : RegisterFrame s (s.setGr t rd v) t where
  outside := setGr_outside s t rd v
  ctl := by rw [tiller_setGr]; exact ctlSame_put _ rd v
  buffers := by rw [tiller_setGr]; exact buffersSame_put _ rd v

/-! ### How an instruction's effect ends (R288) -/

@[simp] theorem settle_done (s1 s : State) (t : Nat) : (Res.done s1).settle s t = s1 := rfl
@[simp] theorem settle_wait (s1 s : State) (t : Nat) : (Res.wait s1).settle s t = s1 := rfl
@[simp] theorem settle_fault (s1 s : State) (t c : Nat) (v : Word) :
    (Res.fault s1 c v).settle s t = (s1.takeFault t c v).getD s := rfl

/-! ### What an instruction leaves before it completes -/

/-- The Tiller stands at the same instruction with the same registers; what differs is in its caches, its predictor or
in EFLAGS.INC and CIDX. -/
structure Stands (s s1 : State) (t : Nat) : Prop where
  gr : GrSame s s1 t
  pc : (s1.tiller t).pc = (s.tiller t).pc
  dslot : (s1.tiller t).dslot = (s.tiller t).dslot
  arith : (s1.tiller t).arith = (s.tiller t).arith
  frame : RegisterFrame s s1 t

theorem stands_refl (s : State) (t : Nat) : Stands s s t := ⟨fun _ => rfl, rfl, rfl, rfl, registerFrame_refl s t⟩

theorem Stands.trans (h : Stands s s1 t) (k : Stands s1 s2 t) : Stands s s2 t where
  gr r := (k.gr r).trans (h.gr r)
  pc := k.pc.trans h.pc
  dslot := k.dslot.trans h.dslot
  arith := k.arith.trans h.arith
  frame := registerFrame_trans h.frame k.frame

theorem stands_started (s : State) (t : Nat) : Stands s (started s t) t where
  gr := started_gr s t
  pc := by rw [started_tiller]
  dslot := by rw [started_tiller]
  arith := by rw [started_tiller]
  frame :=
    { outside := modTiller_outside s s t _ (refl_outside s t)
      ctl := by rw [started_tiller]; exact ⟨rfl, rfl, rfl, rfl, rfl, ⟨rfl, rfl⟩, ⟨rfl, rfl⟩, rfl, rfl, rfl, rfl⟩
      buffers := by rw [started_tiller]; exact ⟨rfl, rfl, rfl, rfl, rfl, rfl, rfl⟩ }

/-- A change of the Tiller that leaves what its instructions can see. -/
theorem Stands.modTiller {f : Tiller → Tiller} (h : Stands s s1 t) (hg : (f (s1.tiller t)).g = (s1.tiller t).g)
    (hpc : (f (s1.tiller t)).pc = (s1.tiller t).pc) (hd : (f (s1.tiller t)).dslot = (s1.tiller t).dslot)
    (ha : (f (s1.tiller t)).arith = (s1.tiller t).arith) (hc : CtlSame (s1.tiller t) (f (s1.tiller t)))
    (hb : BuffersSame (s1.tiller t) (f (s1.tiller t))) : Stands s (s1.modTiller t f) t := by
  have hf : (s1.modTiller t f).tiller t = f (s1.tiller t) := by rw [tiller_modTiller, if_pos rfl]
  have hgr : GrSame s1 (s1.modTiller t f) t := gr_of_g (by rw [hf, hg])
  refine ⟨fun r => (hgr r).trans (h.gr r), ?_, ?_, ?_, modTiller_outside s s1 t f h.frame.outside, ?_, ?_⟩
  · rw [hf, hpc, h.pc]
  · rw [hf, hd, h.dslot]
  · rw [hf, ha, h.arith]
  · rw [hf]; exact ctlSame_trans h.frame.ctl hc
  · rw [hf]; exact buffersSame_trans h.frame.buffers hb

theorem Stands.nextPc_eq (h : Stands s s1 t) : nextPc s1 t = nextPc s t := by
  rw [nextPc, nextPc, h.dslot, h.pc]

/-- An instruction that writes one general register completes. -/
theorem Stands.result (h : Stands s s1 t) (rd : Fin 32) (v : Word) (n : Nat) :
    Result (.next ((s1.setGr t rd v).retire t n)) s t rd v (s.tiller t).arith := by
  have hg : GrWritten s ((s1.setGr t rd v).retire t n) t rd v :=
    grSame_after (grWritten_of_grSame (grWritten_setGr s1 t rd v) h.gr) (grSame_retire _ t n)
  refine ⟨_, rfl, hg, ?_, tiller_dslot_retire _ t n, ?_, ?_⟩
  · rw [tiller_pc_retire, tiller_setGr, dslot_put, pc_put, ← h.nextPc_eq]
    rfl
  · rw [tiller_arith_retire, tiller_setGr, arith_put, h.arith]
  · exact registerFrame_trans h.frame (registerFrame_trans (registerFrame_setGr s1 t rd v) (registerFrame_retire _ t n))

theorem pc_retire_of_stands (h : Stands s s1 t) (n : Nat) : ((s1.retire t n).tiller t).pc = nextPc s t := by
  rw [tiller_pc_retire, ← h.nextPc_eq]
  rfl

theorem gr_retire_of_stands (h : Stands s s1 t) (n : Nat) : GrSame s (s1.retire t n) t := fun r => by
  rw [gr_retire, h.gr r]

theorem arith_retire_of_stands (h : Stands s s1 t) (n : Nat) :
    ((s1.retire t n).tiller t).arith = (s.tiller t).arith := by
  rw [tiller_arith_retire, h.arith]

theorem frame_retire_of_stands (h : Stands s s1 t) (n : Nat) : RegisterFrame s (s1.retire t n) t :=
  registerFrame_trans h.frame (registerFrame_retire s1 t n)

end Sys2Proof.Laws
end

section
/-! OBLIGATION O7. Loads whose data is at hand (R253, R254, R256). -/

namespace Sys2Proof.Laws

open Sys2Proof.Machine Sys2Proof.Safety

variable {s s1 : State} {t va n : Nat} {rd a : Fin 32} {sg : Bool} {ps : List (Nat × Nat)} {bs : List Byte}

/-! ### The value of a load's bytes (R253) -/

theorem ofBytes_lt (bs : List Byte) : ofBytes bs < 2 ^ (8 * bs.length) := by
  induction bs with
  | nil => decide
  | cons b bs ih =>
    have hb := b.isLt
    rw [ofBytes, List.length_cons, Nat.mul_succ, Nat.pow_add]
    omega

theorem extend_false (bs : List Byte) : extend false bs = BitVec.ofNat 64 (ofBytes bs) := rfl

theorem extend_zero {w : Nat} (h : 8 * bs.length = w) (hw : w ≤ 64) :
    extend false bs = (BitVec.ofNat w (ofBytes bs)).zeroExtend 64 := by
  subst h
  have hle : 2 ^ (8 * bs.length) ≤ 2 ^ 64 := Nat.pow_le_pow_right (by decide) hw
  apply BitVec.eq_of_toNat_eq
  rw [extend_false, BitVec.toNat_ofNat, BitVec.toNat_setWidth, BitVec.toNat_ofNat, Nat.mod_eq_of_lt (ofBytes_lt bs)]

theorem extend_sign {w : Nat} (h : 8 * bs.length = w) (h0 : 0 < w) :
    extend true bs = (BitVec.ofNat w (ofBytes bs)).signExtend 64 := by
  have hlt := ofBytes_lt bs
  rw [h] at hlt
  have hm : (BitVec.ofNat w (ofBytes bs)).msb = (ofBytes bs).testBit (w - 1) := by
    rw [BitVec.msb_eq_getLsbD_last, BitVec.getLsbD_ofNat, decide_eq_true (by omega), Bool.true_and]
  rw [BitVec.signExtend, BitVec.toInt_eq_msb_cond, hm, BitVec.toNat_ofNat, Nat.mod_eq_of_lt hlt]
  unfold extend
  simp only [h, Bool.true_and]
  split
  · norm_num
  · rw [BitVec.ofInt_natCast]

/-! ### The pieces of an access (R254) -/

theorem eachPiece_sizes {now one : Bool} {ring : Nat} {k : Acc} {ipa : Option Nat} (vs : List (Nat × Nat)) (s : State)
    (h : (s.eachPiece now one t ring k ipa vs).1 = .ok ps) : ps.map Prod.snd = vs.map Prod.snd := by
  induction vs generalizing s ps with
  | nil =>
    cases h
    rfl
  | cons v vs ih =>
    obtain ⟨a, m⟩ := v
    unfold State.eachPiece at h
    dsimp only at h
    split at h
    · cases h
    · cases h
    · split at h
      · next l s' hrest =>
        cases h
        rw [List.map_cons, List.map_cons, ih _ (congrArg Prod.fst hrest)]
      · next o hno =>
        exact (hno ps _ (Prod.ext h rfl)).elim

theorem sum_pieces (va n : Nat) : ((pieces va n).map Prod.snd).sum = n := by
  unfold pieces
  dsimp only
  split
  · simp
  · simp
    omega

theorem access_sizes {k : Acc} (h : (s.access t k va n).1 = .ok ps) : (ps.map Prod.snd).sum = n := by
  have hs := eachPiece_sizes _ _ h
  rw [hs]
  split
  · simp
  · exact sum_pieces va n

theorem length_viewBytes (s : State) (t a n : Nat) : (s.viewBytes t a n).length = n := by
  simp [State.viewBytes]

theorem length_pieceBytes (s : State) (t : Nat) (ps : List (Nat × Nat)) :
    (s.pieceBytes t ps).length = (ps.map Prod.snd).sum := by
  simp [State.pieceBytes, List.length_flatten, Function.comp_def, length_viewBytes]

theorem viewBytes_congr (hsb : (s1.tiller t).sb = (s.tiller t).sb) (hm : MemSame s s1) (a n : Nat) :
    s1.viewBytes t a n = s.viewBytes t a n := by
  simp only [State.viewBytes, Tiller.buffered, hsb, State.memByte, hm _]

theorem pieceBytes_of_stands (h : Stands s s1 t) (ps : List (Nat × Nat)) : s1.pieceBytes t ps = s.pieceBytes t ps := by
  simp only [State.pieceBytes, viewBytes_congr h.frame.buffers.sb h.frame.outside.mem]

/-! ### A load that hits (R256) -/

/-- The bytes of a load lie in its Tiller's own Desk, or in its data cache. -/
def Near (s : State) (t : Nat) (ps : List (Nat × Nat)) : Prop :=
  (∀ p ∈ ps, ∃ o, s.placeOf p.1 = .desk (s.tiller t).pos o) ∨
    ∀ p ∈ ps, (s.addrType (s.tiller t).pos p.1).cached = true ∧ Lines.has (s.tiller t).dcache (lineOf p.1) = true

theorem any_false_of_plainLines (h : PlainLines s t ps) :
    (ps.any fun p => (s.tiller t).sideLine (lineOf p.1)) = false :=
  List.any_eq_false.2 fun p hp => Bool.eq_false_iff.1 (h.2 p hp).2

/-- A line of the data cache that a load uses becomes its most recently used one. -/
theorem stands_dcache (s : State) (t : Nat) (f : Tiller → Lines) :
    Stands s (s.modTiller t (fun x => { x with dcache := f x })) t :=
  (stands_refl s t).modTiller rfl rfl rfl rfl ⟨rfl, rfl, rfl, rfl, rfl, ⟨rfl, rfl⟩, ⟨rfl, rfl⟩, rfl, rfl, rfl, rfl⟩
    ⟨rfl, rfl, rfl, rfl, rfl, rfl, rfl⟩

/-- A load without side effects that waits for no drain completes, where its bytes are buffered whole, or not at all
and at hand. -/
theorem loadPieces_at_hand {p : Nat × Nat} (hplain : PlainLines s t (p :: ps))
    (hdata : (∀ q ∈ p :: ps, (s.tiller t).allBuffered q.1 q.2 = true) ∨
      (∀ q ∈ p :: ps, (s.tiller t).anyBuffered q.1 q.2 = false ∧ s.poisoned q.1 q.2 = false) ∧ Near s t (p :: ps))
    (v : Nat) : ∃ s1 m, Stands s s1 t ∧ s.loadPieces t rd sg v (p :: ps) =
      .done ((s1.setGr t rd (extend sg (s.pieceBytes t (p :: ps)))).retire t m) := by
  have hside : (s.addrType (s.tiller t).pos p.1).side = false := (hplain.2 p List.mem_cons_self).1
  unfold State.loadPieces
  simp only [List.head?_cons, Option.map_some, Option.getD_some, hside, hplain.1, any_false_of_plainLines hplain,
    Bool.or_self, Bool.false_eq_true, if_false]
  by_cases hall : ((p :: ps).all fun q => (s.tiller t).allBuffered q.1 q.2) = true
  · rw [if_pos hall]
    exact ⟨s, _, stands_refl s t, rfl⟩
  rw [if_neg hall]
  obtain hbuf | ⟨hfree, hnear⟩ := hdata
  · exact absurd (List.all_eq_true.2 hbuf) hall
  have hany : ((p :: ps).any fun q => (s.tiller t).anyBuffered q.1 q.2) = false :=
    List.any_eq_false.2 fun q hq => Bool.eq_false_iff.1 (hfree q hq).1
  have hfind : (p :: ps).find? (fun q => s.poisoned q.1 q.2) = none :=
    List.find?_eq_none.2 fun q hq => Bool.eq_false_iff.1 (hfree q hq).2
  simp only [hany, Bool.false_eq_true, if_false, hfind]
  by_cases hhit : (((p :: ps).map fun q => (s.addrType (s.tiller t).pos q.1).cached).all id &&
      (p :: ps).all fun q => Lines.has (s.tiller t).dcache (lineOf q.1)) = true
  · simp only [hhit, Bool.or_true, if_true]
    have hst := stands_dcache s t fun x => (p :: ps).foldl (fun (l : Lines) q => l.use 4 l1Set (lineOf q.1) false) x.dcache
    rw [← pieceBytes_of_stands hst (p :: ps)]
    exact ⟨_, _, hst, rfl⟩
  · obtain hdesk | hcache := hnear
    · obtain ⟨o, ho⟩ := hdesk p List.mem_cons_self
      simp only [ho, decide_true, Bool.true_or, if_true, hhit]
      exact ⟨s, _, stands_refl s t, rfl⟩
    · refine absurd ?_ hhit
      simpa [List.all_eq_true, forall_and] using hcache

theorem plainLines_started (h : PlainLines s t ps) : PlainLines (started s t) t ps := by
  rw [PlainLines, started_tiller]
  exact h

theorem near_started (h : Near s t ps) : Near (started s t) t ps := by
  rw [Near, started_tiller]
  exact h

/-- A load of `n` bytes whose data is at hand writes rd and completes. -/
theorem loadAt_result (hh : LoadHits s t va n ps) (hn : 0 < n) : Result
    (.next (((started s t).loadAt t rd va n sg).settle s t)) s t rd (extend sg (s.pieceBytes t ps)) (s.tiller t).arith := by
  obtain ⟨hacc, hplain, hdata⟩ := hh
  have hsum : (ps.map Prod.snd).sum = n := access_sizes (congrArg Prod.fst hacc)
  obtain ⟨p, ps, rfl⟩ : ∃ p l, ps = p :: l := List.exists_cons_of_ne_nil fun h => by simp [h] at hsum; omega
  have hd : (∀ q ∈ p :: ps, ((started s t).tiller t).allBuffered q.1 q.2 = true) ∨
      (∀ q ∈ p :: ps, ((started s t).tiller t).anyBuffered q.1 q.2 = false ∧ (started s t).poisoned q.1 q.2 = false) ∧
        Near (started s t) t (p :: ps) := by
    rw [started_tiller]
    exact hdata.imp id (And.imp id near_started)
  obtain ⟨s1, m, hst, heq⟩ := loadPieces_at_hand (rd := rd) (sg := sg) (plainLines_started hplain) hd va
  rw [State.loadAt, State.data, hacc]
  simp only [heq]
  rw [pieceBytes_of_stands (stands_started s t)]
  exact ((stands_started s t).trans hst).result rd _ m

theorem load_result {imm : BitVec 16} {v : Word} (h : Ready s t)
    (hh : LoadHits s t (s.gr t a + imm.signExtend 64).toNat n ps) (hn : 0 < n)
    (hv : extend sg (s.pieceBytes t ps) = v) :
    Result (.next (s.load t rd a imm n sg)) s t rd v (s.tiller t).arith := by
  subst hv
  rw [State.load, instr_ready h true _ (.inl rfl)]
  simp only [State.ea, started_gr, sx]
  exact loadAt_result hh hn

/-- The bits of a load, as many as it asks for. -/
theorem length_of_loadHits (hh : LoadHits s t va n ps) : 8 * (s.pieceBytes t ps).length = 8 * n :=
  congrArg (8 * ·) ((length_pieceBytes s t ps).trans (access_sizes (congrArg Prod.fst hh.1)))

theorem load_signed {imm : BitVec 16} {w : Nat} (h : Ready s t)
    (hh : LoadHits s t (s.gr t a + imm.signExtend 64).toNat n ps) (hw : 8 * n = w) (h0 : 0 < n) :
    Result (.next (s.load t rd a imm n true)) s t rd ((BitVec.ofNat w (loadValue s t ps)).signExtend 64)
      (s.tiller t).arith :=
  load_result h hh h0 (extend_sign ((length_of_loadHits hh).trans hw) (by omega))

theorem load_unsigned {imm : BitVec 16} {w : Nat} (h : Ready s t)
    (hh : LoadHits s t (s.gr t a + imm.signExtend 64).toNat n ps) (hw : 8 * n = w) (h0 : 0 < n) (h8 : n ≤ 8) :
    Result (.next (s.load t rd a imm n false)) s t rd ((BitVec.ofNat w (loadValue s t ps)).zeroExtend 64)
      (s.tiller t).arith :=
  load_result h hh h0 (extend_zero ((length_of_loadHits hh).trans hw) (by omega))

theorem exec_ldpc {imm : BitVec 16} (h : Ready s t) : exec (.ldpc t rd imm) s = .next (((started s t).loadAt t rd
    (((s.tiller t).pc &&& ~~~7#64) + imm.signExtend 64 * 8).toNat 8 false).settle s t) := by
  show execLdpc t rd imm s = _
  rw [execLdpc, instr_ready h true _ (.inl rfl)]
  simp only [started_tiller]
  rfl

/-- Settles O7: a load at hand reads its pieces in order, and each form extends what it reads. -/
theorem loadResults : Obligations.LoadResults := by
  intro s t rd a imm ps h va v ar
  refine ⟨fun hh => ⟨?_, ?_⟩, fun hh => ⟨?_, ?_⟩, fun hh => ⟨?_, ?_⟩, fun hh => ?_, fun hh => ?_⟩
  · exact load_signed h hh rfl (by decide)
  · exact load_unsigned h hh rfl (by decide) (by decide)
  · exact load_signed h hh rfl (by decide)
  · exact load_unsigned h hh rfl (by decide) (by decide)
  · exact load_signed h hh rfl (by decide)
  · exact load_unsigned h hh rfl (by decide) (by decide)
  · exact load_result h hh (by decide) (extend_false _)
  · rw [exec_ldpc h]
    exact loadAt_result hh (by decide)

end Sys2Proof.Laws
end

section
/-! OBLIGATION O8. Stores complete into the store buffer (R253, R255). -/

namespace Sys2Proof.Laws

open Sys2Proof.Machine Sys2Proof.Safety

variable {s s1 : State} {t va n pa : Nat} {x : Tiller} {bs : List Byte}

/-! ### The bytes of a line -/

theorem find_putBytes (bs : List Byte) (o k : Nat) (m : List (Nat × Byte)) :
    Map.find k (putBytes o bs m) = if o ≤ k ∧ k < o + bs.length then bs[k - o]? else Map.find k m := by
  induction bs generalizing o m with
  | nil => simp [putBytes]
  | cons b bs ih =>
    rw [putBytes, ih, find_insert, List.length_cons]
    by_cases hk : k = o
    · subst hk
      simp
    · by_cases hin : o + 1 ≤ k ∧ k < o + 1 + bs.length
      · have hsub : k - o = (k - (o + 1)) + 1 := by omega
        rw [if_pos hin, if_pos (by omega), hsub, List.getElem?_cons_succ]
      · rw [if_neg hin, if_neg hk, if_neg (by omega)]

/-- An address and its place in its line. -/
theorem lineOf_eq_iff (a b : Nat) : lineOf a = lineOf b ↔ a / 64 = b / 64 := by
  unfold lineOf
  omega

/-! ### The youngest byte at an address (R255) -/

/-- What one entry of the store buffer gives at an address. -/
def givesAt (b : Nat) (e : SbEntry) : Option Byte :=
  if e.side then none else if e.line = lineOf b then Map.find (b % 64) e.bytes else none

theorem buffered_eq (x : Tiller) (b : Nat) : x.buffered b = x.sb.reverse.findSome? (givesAt b) := rfl

theorem gives_elsewhere {e : SbEntry} {b : Nat} (h : e.side = true ∨ e.line ≠ lineOf b) : givesAt b e = none := by
  unfold givesAt
  obtain h | h := h <;> simp [h]

/-- The entry in which bytes of line `lineOf a` have been merged. -/
def mergedInto (a : Nat) (bs : List Byte) (e : SbEntry) : SbEntry :=
  { e with bytes := putBytes (a % 64) bs e.bytes }

/-- An address lies among the bytes, where they lie in one line. -/
theorem within_iff {a b n : Nat} (_hline : a % 64 + n ≤ 64) (hb : lineOf b = lineOf a) :
    (a % 64 ≤ b % 64 ∧ b % 64 < a % 64 + n) ↔ (a ≤ b ∧ b < a + n) := by
  rw [lineOf_eq_iff] at hb
  omega

theorem sub_mod_line {a b : Nat} (hb : lineOf b = lineOf a) (h : a ≤ b) : b % 64 - a % 64 = b - a := by
  rw [lineOf_eq_iff] at hb
  omega

theorem lineOf_of_within {a b n : Nat} (hline : a % 64 + n ≤ 64) (hin : a ≤ b ∧ b < a + n) : lineOf b = lineOf a := by
  rw [lineOf_eq_iff]
  omega

theorem gives_merged {e : SbEntry} {a b : Nat} (hside : e.side = false) (he : e.line = lineOf a)
    (hline : a % 64 + bs.length ≤ 64) : givesAt b (mergedInto a bs e) =
      if a ≤ b ∧ b < a + bs.length then bs[b - a]? else givesAt b e := by
  unfold givesAt mergedInto
  simp only [hside, Bool.false_eq_true, if_false, he]
  by_cases hb : lineOf b = lineOf a
  · rw [if_pos hb.symm, if_pos hb.symm, find_putBytes]
    simp only [within_iff hline hb]
    split
    · next hin => rw [sub_mod_line hb hin.1]
    · rfl
  · rw [if_neg (Ne.symm hb), if_neg (mt (lineOf_of_within hline) hb), if_neg (Ne.symm hb)]

/-- No younger entry of the line follows an open one. -/
def Youngest (x : Tiller) (a : Nat) : Prop :=
  ∀ pre e post, x.sb = pre ++ e :: post → openEntry (lineOf a) e = true → ∀ o ∈ post, o.side = true ∨ o.line ≠ lineOf a

theorem openEntry_iff {line : Nat} {e : SbEntry} :
    openEntry line e = true ↔ e.isOpen = true ∧ e.side = false ∧ e.line = line := by
  simp [openEntry, and_assoc]

/-- The open entry of a line stands alone. -/
theorem openEntry_of_youngest {a : Nat} {pre post : List SbEntry} {e : SbEntry} (hy : Youngest x a)
    (hsb : x.sb = pre ++ e :: post) (he : openEntry (lineOf a) e = true) :
    (∀ o ∈ pre, openEntry (lineOf a) o = false) ∧ ∀ o ∈ post, openEntry (lineOf a) o = false := by
  have hnot {o : SbEntry} (ho : o.side = true ∨ o.line ≠ lineOf a) : openEntry (lineOf a) o = false := by
    rw [Bool.eq_false_iff]
    intro h
    obtain ⟨-, hs, hl⟩ := openEntry_iff.1 h
    simp [hs, hl] at ho
  refine ⟨fun o ho => ?_, fun o ho => hnot (hy pre e post hsb he o ho)⟩
  rw [Bool.eq_false_iff]
  intro hopen
  obtain ⟨l, m, rfl⟩ := List.append_of_mem ho
  have hlater := hy l o (m ++ e :: post) (by rw [hsb, List.append_assoc, List.cons_append]) hopen e (by simp)
  have := hnot hlater
  simp [he] at this

theorem map_eq_of_not_open {a : Nat} {l : List SbEntry} {f : SbEntry → SbEntry}
    (h : ∀ o ∈ l, openEntry (lineOf a) o = false) :
    l.map (fun e => if openEntry (lineOf a) e then f e else e) = l :=
  (List.map_congr_left fun o ho => by rw [h o ho]; rfl).trans (List.map_id l)

/-- The entry that bytes of a line without an open one take. -/
def newEntry (x : Tiller) (a : Nat) (c : Bool) : SbEntry :=
  ⟨lineOf a, [], false, true, true, x.fenceNo, 64, x.ring, c⟩

/-- Where bytes of one line go in the store buffer: into the open entry of their line, or into a new one (R255). -/
theorem sb_buffer {a : Nat} (hy : Youngest x a) (bs : List Byte) (c : Bool) :
    (∃ pre e post, x.sb = pre ++ e :: post ∧ e.side = false ∧ e.line = lineOf a ∧
      (∀ o ∈ post, o.side = true ∨ o.line ≠ lineOf a) ∧ (x.buffer a bs c).sb = pre ++ mergedInto a bs e :: post) ∨
    (x.buffer a bs c).sb = x.sb ++ [mergedInto a bs (newEntry x a c)] := by
  unfold Tiller.buffer
  dsimp only
  split
  · next hany =>
    obtain ⟨e, hmem, he⟩ := List.any_eq_true.1 hany
    obtain ⟨pre, post, hsb⟩ := List.append_of_mem hmem
    obtain ⟨hpre, hpost⟩ := openEntry_of_youngest hy hsb he
    obtain ⟨-, hside, hl⟩ := openEntry_iff.1 he
    refine .inl ⟨pre, e, post, hsb, hside, hl, hy pre e post hsb he, ?_⟩
    rw [hsb, List.map_append, List.map_cons, map_eq_of_not_open hpre, map_eq_of_not_open hpost, if_pos he]
    rfl
  · exact .inr rfl

/-- What its Tiller sees once bytes of one line have been put into the store buffer. -/
theorem buffered_buffer {a : Nat} {c : Bool} (hline : a % 64 + bs.length ≤ 64) (hy : Youngest x a) (b : Nat) :
    (x.buffer a bs c).buffered b = if a ≤ b ∧ b < a + bs.length then bs[b - a]? else x.buffered b := by
  have hmerge {e : SbEntry} (hs : e.side = false) (hl : e.line = lineOf a) := gives_merged (bs := bs) (b := b) hs hl hline
  rw [buffered_eq, buffered_eq]
  obtain ⟨pre, e, post, hsb, hside, hl, hpost, hnew⟩ | hnew := sb_buffer hy bs c
  · rw [hnew, hsb]
    simp only [List.reverse_append, List.reverse_cons, List.findSome?_append, List.findSome?_cons, hmerge hside hl]
    by_cases hin : a ≤ b ∧ b < a + bs.length
    · have hnone : post.reverse.findSome? (givesAt b) = none := by
        rw [List.findSome?_eq_none_iff]
        intro o ho
        refine gives_elsewhere ?_
        rw [lineOf_of_within hline hin]
        exact hpost o (List.mem_reverse.1 ho)
      simp [hin, hnone, List.getElem?_eq_getElem (show b - a < bs.length by omega)]
    · simp only [if_neg hin]
  · rw [hnew, List.reverse_append, List.reverse_singleton, List.singleton_append, List.findSome?_cons,
      hmerge (e := newEntry x a c) rfl rfl]
    by_cases hin : a ≤ b ∧ b < a + bs.length
    · simp [hin, List.getElem?_eq_getElem (show b - a < bs.length by omega)]
    · have hnone : givesAt b (newEntry x a c) = none := by
        simp [givesAt, newEntry, Map.find]
      simp only [if_neg hin, hnone]

/-! ### Fields that buffering leaves -/

/-- Buffering touches the store buffer only. -/
theorem buffer_eq (x : Tiller) (a : Nat) (bs : List Byte) (c : Bool) : ∃ l, x.buffer a bs c = { x with sb := l } := by
  unfold Tiller.buffer
  dsimp only
  split
  · exact ⟨_, rfl⟩
  · exact ⟨_, rfl⟩

theorem ctlSame_buffer (x : Tiller) (a : Nat) (bs : List Byte) (c : Bool) : CtlSame x (x.buffer a bs c) := by
  obtain ⟨l, h⟩ := buffer_eq x a bs c
  rw [h]
  exact ⟨rfl, rfl, rfl, rfl, rfl, ⟨rfl, rfl⟩, ⟨rfl, rfl⟩, rfl, rfl, rfl, rfl⟩

@[simp] theorem g_buffer (x : Tiller) (a : Nat) (bs : List Byte) (c : Bool) : (x.buffer a bs c).g = x.g := by
  obtain ⟨l, h⟩ := buffer_eq x a bs c
  rw [h]

@[simp] theorem pc_buffer (x : Tiller) (a : Nat) (bs : List Byte) (c : Bool) : (x.buffer a bs c).pc = x.pc := by
  obtain ⟨l, h⟩ := buffer_eq x a bs c
  rw [h]

@[simp] theorem dslot_buffer (x : Tiller) (a : Nat) (bs : List Byte) (c : Bool) : (x.buffer a bs c).dslot = x.dslot := by
  obtain ⟨l, h⟩ := buffer_eq x a bs c
  rw [h]

/-! ### A store (R253, R255) -/

theorem buffered_congr {y : Tiller} (h : y.sb = x.sb) (b : Nat) : y.buffered b = x.buffered b := by
  rw [Tiller.buffered, Tiller.buffered, h]

theorem storeAt_fits (hf : StoreFits s t va n pa) (hn : bs.length = n) : ∃ c, (started s t).storeAt t va bs =
    .done (((started s t).modTiller t (fun x => x.buffer pa bs c)).retire t 5) := by
  subst hn
  have hside : ((started s t).addrType (s.tiller t).pos pa).side = false := hf.plain
  have hroom : ((started s t).tiller t).room pa = true := by
    rw [started_tiller]
    exact hf.room
  have hpos : ((started s t).tiller t).pos = (s.tiller t).pos := by rw [started_tiller]
  refine ⟨((started s t).addrType (s.tiller t).pos pa).cached, ?_⟩
  rw [State.storeAt, State.data, hf.checked]
  simp only [List.head?_cons, Option.map_some, Option.getD_some, hpos, hside, hroom, Bool.false_eq_true, if_false, if_true]

theorem storeAt_buffered (hf : StoreFits s t va n pa) (hn : bs.length = n) :
    Buffered (.next (((started s t).storeAt t va bs).settle s t)) s t pa bs := by
  obtain ⟨c, hs⟩ := storeAt_fits hf hn
  have hst := stands_started s t
  have hy : Youngest ((started s t).tiller t) pa := by
    rw [started_tiller]
    exact hf.youngest
  have htil : ((started s t).modTiller t (fun x => x.buffer pa bs c)).tiller t =
      ((started s t).tiller t).buffer pa bs c := by rw [tiller_modTiller, if_pos rfl]
  have hline : pa % 64 + bs.length ≤ 64 := hn ▸ hf.line
  rw [hs, settle_done]
  refine ⟨_, rfl, ?_, fun r => ?_, fun b => ?_, ?_, ?_⟩
  · rw [tiller_pc_retire, htil, dslot_buffer, pc_buffer, ← hst.nextPc_eq]
    rfl
  · rw [gr_retire, gr_of_g (s := started s t) (by rw [htil, g_buffer]), hst.gr]
  · rw [buffered_congr (tiller_sb_retire _ t 5), htil, buffered_buffer hline hy,
      buffered_congr (x := s.tiller t) hst.frame.buffers.sb]
  · exact outside_trans (modTiller_outside _ _ _ _ hst.frame.outside) (outside_retire _ t 5)
  · refine ctlSame_trans (ctlSame_trans hst.frame.ctl ?_) (ctlSame_retire _ t 5)
    rw [htil]
    exact ctlSame_buffer _ pa bs c

theorem store_buffered {b a : Fin 32} {imm : BitVec 16} (h : Ready s t)
    (hf : StoreFits s t (s.gr t a + imm.signExtend 64).toNat n pa) :
    Buffered (.next (s.store t b a imm n)) s t pa (toBytes (s.gr t b).toNat n) := by
  rw [State.store, instr_ready h true _ (.inl rfl)]
  simp only [State.ea, started_gr, sx]
  exact storeAt_buffered hf (length_toBytes n _)

/-- Settles O8: the low bytes of rs2 join the store buffer at the address that the checks give. -/
theorem storeResults : Obligations.StoreResults := by
  intro s t b a imm pa h va v
  exact ⟨store_buffered h, store_buffered h, store_buffered h, store_buffered h⟩

end Sys2Proof.Laws
end

section
/-! OBLIGATION O10. The Desk atomics (R262). -/

namespace Sys2Proof.Laws

open Sys2Proof.Machine Sys2Proof.Safety

variable {s s1 : State} {t n pa : Nat} {x y : Tiller} {bs : List Byte} {rd a : Fin 32}

/-! ### Memory (R14) -/

theorem memBytes_store (m : List Host.Cell) (a : Nat) (bs : List Byte) :
    Memory.bytes (Memory.store m a bs) a bs.length = bs := by
  induction bs generalizing m a with
  | nil => rfl
  | cons b bs ih =>
    rw [Memory.store, List.length_cons, Memory.bytes, ih, byte_store_outside _ _ _ _ (by omega), byte_setByte, if_pos rfl]

theorem memBytes_eq_map (m : List Host.Cell) (a n : Nat) :
    Memory.bytes m a n = (List.range n).map (fun i => Memory.byte m (a + i)) := by
  induction n generalizing a with
  | zero => rfl
  | succ n ih =>
    rw [Memory.bytes, ih, List.range_succ_eq_map, List.map_cons, List.map_map]
    congr 1
    refine List.map_congr_left fun i _ => ?_
    rw [Function.comp_apply, Nat.succ_eq_add_one, Nat.add_right_comm, Nat.add_assoc]

/-- Bytes that lie below the boot ROM are memory's. -/
theorem bytesAt_eq (h : pa + n ≤ 0x0F0000000000) : s.bytesAt pa n = Memory.bytes s.mem pa n := by
  rw [memBytes_eq_map]
  refine List.map_congr_left fun i hi => ?_
  have hlt := List.mem_range.1 hi
  rw [State.memByte, if_neg (by omega)]

/-! ### A write to memory rings doorbells (R351) -/

/-- A Tiller's instructions see no difference: claims may have been marked EMPTY, and edge sources be pending. -/
structure Signalled (x y : Tiller) : Prop where
  eq : y = { x with claims := y.claims, edges := y.edges }

theorem signalled_refl (x : Tiller) : Signalled x x := ⟨rfl⟩

theorem signalled_trans {z : Tiller} (h : Signalled x y) (k : Signalled y z) : Signalled x z := ⟨by rw [k.eq, h.eq]⟩

theorem signalled_of_sameButEmpty (h : SameButEmpty x y) : Signalled x y := ⟨by rw [h.1]⟩

theorem signalled_raisePrivate (s : State) (t k u : Nat) : Signalled (s.tiller u) ((s.raisePrivate t k).tiller u) := by
  unfold State.raisePrivate
  split
  · exact signalled_refl _
  · rw [tiller_modTiller]
    split
    · next h =>
      subst h
      exact ⟨rfl⟩
    · exact signalled_refl _

theorem mem_raisePrivate (s : State) (t k : Nat) : (s.raisePrivate t k).mem = s.mem := by
  unfold State.raisePrivate
  split <;> rfl

theorem ring_keeps (s : State) (n off len u : Nat) :
    Signalled (s.tiller u) ((s.ring n off len).tiller u) ∧ (s.ring n off len).mem = s.mem := by
  unfold State.ring
  split
  · refine foldl_keeps (fun s' => Signalled (s.tiller u) (s'.tiller u) ∧ s'.mem = s.mem) _ (fun s' k h => ?_) _ _
      ⟨signalled_refl _, rfl⟩
    dsimp only
    split
    · exact ⟨signalled_trans h.1 (signalled_raisePrivate _ _ _ _), (mem_raisePrivate _ _ _).trans h.2⟩
    · exact h
  · exact ⟨signalled_refl _, rfl⟩

/-- Memory with bytes stored, before any doorbell. -/
def stored (s : State) (a : Nat) (bs : List Byte) : State :=
  ({ s with mem := Memory.store s.mem a bs }).clearPoison a bs.length

theorem tiller_stored (s : State) (a : Nat) (bs : List Byte) (u : Nat) : (stored s a bs).tiller u = s.tiller u := rfl

theorem memWrite_cases (s : State) (a : Nat) (bs : List Byte) :
    s.memWrite a bs = stored s a bs ∨ ∃ m off, s.memWrite a bs = (stored s a bs).ring m off bs.length := by
  unfold State.memWrite
  dsimp only
  split
  · split
    · exact .inr ⟨_, _, rfl⟩
    · exact .inl rfl
  · exact .inl rfl

theorem signalled_memWrite (s : State) (a : Nat) (bs : List Byte) (u : Nat) :
    Signalled (s.tiller u) ((s.memWrite a bs).tiller u) := by
  rw [← tiller_stored s a bs u]
  obtain h | ⟨m, off, h⟩ := memWrite_cases s a bs <;> rw [h]
  · exact signalled_refl _
  · exact (ring_keeps _ m off _ u).1

@[simp] theorem mem_memWrite (s : State) (a : Nat) (bs : List Byte) :
    (s.memWrite a bs).mem = Memory.store s.mem a bs := by
  obtain h | ⟨m, off, h⟩ := memWrite_cases s a bs <;> rw [h]
  · rfl
  · exact (ring_keeps _ m off _ 0).2

theorem signalled_sense (s : State) (u : Nat) : Signalled (s.tiller u) (s.sense.tiller u) :=
  signalled_of_sameButEmpty ((onlySensed_sense s).tillers u)

theorem Signalled.g (h : Signalled x y) : y.g = x.g := by rw [h.eq]
theorem Signalled.pc (h : Signalled x y) : y.pc = x.pc := by rw [h.eq]
theorem Signalled.dslot (h : Signalled x y) : y.dslot = x.dslot := by rw [h.eq]
theorem Signalled.sb (h : Signalled x y) : y.sb = x.sb := by rw [h.eq]

theorem Signalled.ctl (h : Signalled x y) : CtlSame x y := by
  rw [h.eq]
  exact ⟨rfl, rfl, rfl, rfl, rfl, ⟨rfl, rfl⟩, ⟨rfl, rfl⟩, rfl, rfl, rfl, rfl⟩

/-! ### The target of an atomic (R262) -/

theorem not_mem_of_firstFault {fs : List Nat} {c : Nat} (h : firstFault fs = none) (hc : c ∈ causeOrder) : c ∉ fs := by
  have hn := List.find?_eq_none.1 h c hc
  simpa using hn

/-- An access that passes every check passes step 7 of Table 11.4. -/
theorem attrFaults_of_physFault {ring : Nat} {k : Acc} {ipa : Option Nat} {a n c : Nat} {al : Bool}
    (h : s.physFault t ring k ipa a n al = none) (hc : c ∈ causeOrder) :
    c ∉ s.attrFaults (s.tiller t).pos k a n al := by
  unfold State.physFault at h
  dsimp only at h
  split_ifs at h
  · exact not_mem_of_firstFault h hc
  all_goals exact fun hm => not_mem_of_firstFault h hc (List.mem_append_right _ hm)

theorem checked_ok {ring : Nat} {k : Acc} {ipa : Option Nat} {va n : Nat} {one : Bool} {r : Xl}
    (h : s.checked t ring k ipa va n one r = .ok pa) :
    r = .ok pa ∧ s.physFault t ring k ipa pa n (one && pa % n == 0) = none := by
  unfold State.checked at h
  split at h
  · split at h
    · cases h
    · next hphys =>
      cases h
      exact ⟨rfl, hphys⟩
  · next hno => exact absurd h (hno pa)

/-- The one piece of an atomic has passed the physical checks. -/
theorem physFault_of_access {va : Nat} (h : s.access t .atomic va n = (.ok [(pa, n)], s1)) :
    s1.physFault t (s.tiller t).ring .atomic (s.tiller t).curPa pa n (pa % n == 0) = none := by
  have hone : s.access t .atomic va n = s.eachPiece false true t (s.tiller t).ring .atomic (s.tiller t).curPa [(va, n)] := rfl
  rw [hone, State.eachPiece, State.eachPiece] at h
  split at h
  · cases h
  · cases h
  · next a hchk =>
    obtain ⟨hl, rfl⟩ := Prod.mk.inj h
    obtain ⟨rfl, -⟩ := Prod.mk.inj (List.cons.inj (Acs.ok.inj hl)).1
    exact (checked_ok hchk).2

theorem desk_of_atomic {ring : Nat} {ipa : Option Nat} {al : Bool}
    (h : s.physFault t ring .atomic ipa pa n al = none) : ∃ m off, s.placeOf pa = .desk m off := by
  have hnot : Ex.atomicTarget ∉ s.attrFaults (s.tiller t).pos .atomic pa n al :=
    attrFaults_of_physFault h (by decide)
  unfold State.attrFaults at hnot
  by_contra hno
  apply hnot
  cases hp : s.placeOf pa with
  | desk m off => exact absurd ⟨m, off, hp⟩ hno
  | _ => simp

theorem below_rom_of_desk {m off : Nat} (h : s.placeOf pa = .desk m off) : pa + 8 ≤ 0x0F0000000000 := by
  unfold State.placeOf at h
  split_ifs at h with h1 _ h2
  · have hlt : pa < deskBase 72 := h2.2
    simp only [deskBase] at hlt
    omega

/-! ### DADD and DSWP (R262) -/

theorem atomic_eq {va : Nat} {f : Word → Word} (h : Ready s t) (ha : (s.gr t a).toNat = va)
    (hacc : (started s t).access t .atomic va 8 = (.ok [(pa, 8)], started s t))
    (hheld : (s.tiller t).holdsLine (lineOf pa) = false) (hside : (s.tiller t).sideLine (lineOf pa) = false)
    (hp : s.poisoned pa 8 = false) : ∃ m, s.atomic t rd a f =
      ((((started s t).sense.memWrite pa
        (toBytes (f (BitVec.ofNat 64 (ofBytes (Memory.bytes s.mem pa 8)))).toNat 8)).setGr t rd
          (BitVec.ofNat 64 (ofBytes (Memory.bytes s.mem pa 8)))).retire t m) := by
  obtain ⟨m, off, hdesk⟩ := desk_of_atomic (physFault_of_access hacc)
  have hbytes : (started s t).bytesAt pa 8 = Memory.bytes s.mem pa 8 := bytesAt_eq (below_rom_of_desk hdesk)
  have hh : (((started s t).tiller t).holdsLine (lineOf pa) || ((started s t).tiller t).sideLine (lineOf pa)) = false := by
    rw [started_tiller]
    exact Bool.or_eq_false_iff.2 ⟨hheld, hside⟩
  have hpo : (started s t).poisoned pa 8 = false := hp
  rw [State.atomic, instr_ready h true _ (.inl rfl)]
  simp only [started_gr, ha]
  rw [State.data, hacc]
  simp only [List.head?_cons, Option.map_some, Option.getD_some, hh, hpo, hbytes, Bool.false_eq_true, if_false,
    settle_done]
  exact ⟨_, rfl⟩

/-- What an atomic that has read `old` leaves, with the new value at its address. -/
theorem atomic_results {v old : Word} {o : Out} {m : Nat} (ho : o =
    .next ((((started s t).sense.memWrite pa (toBytes v.toNat 8)).setGr t rd old).retire t m)) :
    ∃ s', o = .next s' ∧ GrWritten s s' t rd old ∧ (s'.tiller t).pc = nextPc s t ∧
      Memory.bytes s'.mem pa 8 = toBytes v.toNat 8 ∧ MemSameBut pa 8 s s' ∧ CtlSame (s.tiller t) (s'.tiller t) := by
  have hst := stands_started s t
  have hsig : Signalled ((started s t).tiller t) (((started s t).sense.memWrite pa (toBytes v.toNat 8)).tiller t) :=
    signalled_trans (signalled_sense _ t) (signalled_memWrite _ pa _ t)
  have hmem : ((started s t).sense.memWrite pa (toBytes v.toNat 8)).mem = Memory.store s.mem pa (toBytes v.toNat 8) := by
    rw [mem_memWrite, (onlySensed_sense _).mem]
    rfl
  have hlen : (toBytes v.toNat 8).length = 8 := length_toBytes 8 _
  refine ⟨_, ho, ?_, ?_, ?_, fun b hb => ?_, ?_⟩
  · refine grSame_after (grWritten_of_grSame (grWritten_setGr _ t rd old) fun r => ?_) (grSame_retire _ t m)
    rw [gr_of_g hsig.g, hst.gr]
  · rw [tiller_pc_retire, tiller_setGr, dslot_put, pc_put, hsig.dslot, hsig.pc, ← hst.nextPc_eq]
    rfl
  · rw [mem_retire, State.setGr, mem_modTiller, hmem]
    have hb := memBytes_store s.mem pa (toBytes v.toNat 8)
    rwa [hlen] at hb
  · rw [mem_retire, State.setGr, mem_modTiller, hmem, byte_store_outside _ _ _ _ (by rw [hlen]; exact hb)]
  · refine ctlSame_trans (ctlSame_trans hst.frame.ctl hsig.ctl) (ctlSame_trans ?_ (ctlSame_retire _ t m))
    rw [tiller_setGr]
    exact ctlSame_put _ rd old

/-- Settles O10: the access checks put an atomic in a Desk, where one write takes the new value and rd the old. -/
theorem atomicResults : Obligations.AtomicResults := by
  intro s t rd a b pa h hacc hheld hside hp _ old
  obtain ⟨m, hadd⟩ := atomic_eq (f := fun w => w + s.gr t b) (rd := rd) h rfl hacc hheld hside hp
  obtain ⟨k, hswp⟩ := atomic_eq (f := fun _ => s.gr t b) (rd := rd) h rfl hacc hheld hside hp
  exact ⟨atomic_results (congrArg _ hadd), atomic_results (congrArg _ hswp)⟩

end Sys2Proof.Laws
end

section
/-! SUPPORT. The synchronisation instructions and fences (R259 to R261, R272 to R276), and the statements about them. -/

namespace Sys2Proof.Laws

open Sys2Proof.Machine Sys2Proof.Safety

variable {s : State} {t : Nat}

/-! ### Changes of the Tiller that the instruction makes -/

theorem modTiller_self (s : State) (t : Nat) (f : Tiller → Tiller) : (s.modTiller t f).tiller t = f (s.tiller t) := by
  rw [tiller_modTiller, if_pos rfl]

theorem outside_modTiller (s : State) (t : Nat) (f : Tiller → Tiller) : OutsideSame s (s.modTiller t f) t :=
  modTiller_outside s s t f (refl_outside s t)

/-- A change of a started Tiller and its retirement leave the state outside the Tiller. -/
theorem started_modTiller_retire_outside (s : State) (t : Nat) (f : Tiller → Tiller) (n : Nat) :
    OutsideSame s (((started s t).modTiller t f).retire t n) t :=
  outside_trans (stands_started s t).frame.outside
    (outside_trans (outside_modTiller _ t f) (outside_retire _ t n))

theorem setMask_mask (x : Tiller) (sec : Bool) (v : Nat) : (x.setMask sec v).mask sec = v := by
  cases sec <;> rfl

theorem setMask_mask_not (x : Tiller) (sec : Bool) (v : Nat) : (x.setMask sec v).mask (!sec) = x.mask (!sec) := by
  cases sec <;> rfl

/-- MASK is one of two fields, by world. -/
theorem setMask_eq (x : Tiller) (sec : Bool) (v : Nat) :
    ∃ mo ms, x.setMask sec v = { x with maskOpen := mo, maskSecure := ms } := by
  cases sec
  · exact ⟨v, x.maskSecure, rfl⟩
  · exact ⟨x.maskOpen, v, rfl⟩

theorem mask_retire (s : State) (t n : Nat) (sec : Bool) :
    ((s.retire t n).tiller t).mask sec = (s.tiller t).mask sec := by
  cases sec
  · exact tiller_maskOpen_retire s t n
  · exact tiller_maskSecure_retire s t n

/-! ### MASKUP, CSYNC and IFENCE -/

theorem execMaskup_ready (h : Ready s t) (n : BitVec 2) (hr : (s.tiller t).ring ≠ 3) :
    exec (.maskup t n) s = .next (((started s t).modTiller t
      (fun x => x.setMask x.secure (max (x.mask x.secure) n.toNat))).retire t 4) := by
  show execMaskup t n s = _
  have hring : ((started s t).tiller t).ring ≠ 3 := by rw [started_tiller]; exact hr
  rw [execMaskup, instr_ready h true _ (.inl rfl)]
  simp only [hring, if_false, settle_done]

theorem maskup_result (h : Ready s t) (n : BitVec 2) (hr : (s.tiller t).ring ≠ 3) :
    ∃ s', exec (.maskup t n) s = .next s' ∧ (s'.tiller t).pc = nextPc s t ∧ GrSame s s' t ∧
      (s'.tiller t).mask (s.tiller t).secure = max ((s.tiller t).mask (s.tiller t).secure) n.toNat ∧
      (s'.tiller t).mask (!(s.tiller t).secure) = (s.tiller t).mask (!(s.tiller t).secure) ∧
      (s'.tiller t).arith = (s.tiller t).arith ∧ OutsideSame s s' t ∧ BuffersSame (s.tiller t) (s'.tiller t) := by
  let x : Tiller := { s.tiller t with carrel := s.nowIn t }
  obtain ⟨mo, ms, hx⟩ := setMask_eq x x.secure (max (x.mask x.secure) n.toNat)
  refine ⟨_, execMaskup_ready h n hr, ?_, ?_, ?_, ?_, ?_, started_modTiller_retire_outside s t _ 4,
    buffersSame_trans ?_ (buffersSame_retire _ t 4)⟩
  · rw [tiller_pc_retire, modTiller_self, started_tiller, hx]
    rfl
  · refine fun r => (gr_retire _ t 4 r).trans ?_
    exact gr_of_g (by rw [modTiller_self, started_tiller, hx]) r
  · rw [mask_retire, modTiller_self, started_tiller]
    exact setMask_mask x x.secure _
  · rw [mask_retire, modTiller_self, started_tiller]
    exact setMask_mask_not x x.secure _
  · rw [tiller_arith_retire, modTiller_self, started_tiller, hx]
  · rw [modTiller_self, started_tiller, hx]
    exact ⟨rfl, rfl, rfl, rfl, rfl, rfl, rfl⟩

/-- No control register write is left pending once the pending ones are put in force (R272). -/
theorem pendCsr_applyPending_refetch (u : State) (t : Nat) : (((u.applyPending t).refetch t).tiller t).pendCsr = [] := by
  rw [State.refetch, modTiller_self, State.applyPending, modTiller_self]

theorem csync_result (h : Ready s t) (hd : (s.tiller t).dslot = none) :
    exec (.csync t) s = .next ((((started s t).retire t 12).applyPending t).refetch t) := by
  show execCsync t s = _
  rw [execCsync, instr_ready h false _ (.inr hd)]
  rfl

theorem refetch_frame (u : State) (t : Nat) : RegisterFrame u (u.refetch t) t where
  outside := outside_modTiller u t _
  ctl := by rw [State.refetch, modTiller_self]; exact ⟨rfl, rfl, rfl, rfl, rfl, ⟨rfl, rfl⟩, ⟨rfl, rfl⟩, rfl, rfl, rfl, rfl⟩
  buffers := by rw [State.refetch, modTiller_self]; exact ⟨rfl, rfl, rfl, rfl, rfl, rfl, rfl⟩

theorem ifence_result (h : Ready s t) (hd : (s.tiller t).dslot = none) :
    ∃ s', exec (.ifence t) s = .next s' ∧ (s'.tiller t).pc = (s.tiller t).pc + 4 ∧ (s'.tiller t).fq = [] ∧
      GrSame s s' t ∧ (s'.tiller t).arith = (s.tiller t).arith ∧ RegisterFrame s s' t := by
  have hs := stands_started s t
  have hx : exec (.ifence t) s = .next (((started s t).retire t 10).refetch t) := by
    show execIfence t s = _
    rw [execIfence, instr_ready h false _ (.inr hd)]
    rfl
  have hpc : nextPc s t = (s.tiller t).pc + 4 := by rw [nextPc, hd, Option.getD_none]
  refine ⟨_, hx, ?_, ?_, fun r => ?_, ?_, registerFrame_trans (frame_retire_of_stands hs 10) (refetch_frame _ t)⟩
  · rw [State.refetch, modTiller_self, ← hpc, ← pc_retire_of_stands hs 10]
  · rw [State.refetch, modTiller_self]
  · rw [← gr_retire_of_stands hs 10 r]
    exact gr_of_g (by rw [State.refetch, modTiller_self]) r
  · rw [State.refetch, modTiller_self, ← arith_retire_of_stands hs 10]

/-- Settles O12: MASKUP raises one MASK field of a started Tiller, CSYNC retires before it applies what is pending, and
both CSYNC and IFENCE empty the fetch queue last. -/
theorem synchronisationResults : Obligations.SynchronisationResults := by
  intro s t n h
  exact ⟨fun hr => maskup_result h n hr, fun hd => ⟨csync_result h hd, fun u => pendCsr_applyPending_refetch u t,
    ifence_result h hd⟩⟩

/-! ### Fences -/

/-- FENCE.W closes the open entries and counts (R260); the bytes buffered are as before. -/
theorem fenceW_eq (x : Tiller) : x.fenceW =
    { x with sb := x.sb.map (fun e => { e with isOpen := false }), fenceNo := x.fenceNo + 1 } := rfl

theorem buffered_fenceW (x : Tiller) (b : Nat) : x.fenceW.buffered b = x.buffered b := by
  rw [fenceW_eq, Tiller.buffered, Tiller.buffered, ← List.map_reverse, List.findSome?_map]
  rfl

theorem ctlSame_fenceW (x : Tiller) : CtlSame x x.fenceW :=
  ⟨rfl, rfl, rfl, rfl, rfl, ⟨rfl, rfl⟩, ⟨rfl, rfl⟩, rfl, rfl, rfl, rfl⟩

/-- The state in which FENCE.W and FENCE.RW complete. -/
def fenced (s : State) (t n : Nat) : State := ((started s t).modTiller t Tiller.fenceW).retire t n

theorem fenced_outside (s : State) (t n : Nat) : OutsideSame s (fenced s t n) t :=
  started_modTiller_retire_outside s t _ n

theorem fenced_gr (s : State) (t n : Nat) : GrSame s (fenced s t n) t := fun r =>
  (gr_retire _ t n r).trans (gr_of_g (by rw [modTiller_self, started_tiller]; rfl) r)

theorem fenced_pc (s : State) (t n : Nat) : ((fenced s t n).tiller t).pc = nextPc s t := by
  rw [fenced, tiller_pc_retire, modTiller_self, started_tiller]
  rfl

theorem fenced_fenceNo (s : State) (t n : Nat) : ((fenced s t n).tiller t).fenceNo = (s.tiller t).fenceNo + 1 := by
  rw [fenced, tiller_fenceNo_retire, modTiller_self, started_tiller]
  rfl

theorem fenced_sb (s : State) (t n : Nat) : ((fenced s t n).tiller t).sb = (s.tiller t).fenceW.sb := by
  rw [fenced, tiller_sb_retire, modTiller_self, started_tiller]
  rfl

theorem fenced_ctl (s : State) (t n : Nat) : CtlSame (s.tiller t) ((fenced s t n).tiller t) := by
  refine ctlSame_trans ?_ (ctlSame_retire _ t n)
  rw [modTiller_self]
  exact ctlSame_trans (stands_started s t).frame.ctl (ctlSame_fenceW _)

theorem execFenceW_ready (h : Ready s t) : exec (.fenceW t) s = .next (fenced s t 4) := by
  show execFenceW t s = _
  rw [execFenceW, instr_ready h true _ (.inl rfl)]
  rfl

theorem execFenceRw_ready (h : Ready s t) :
    exec (.fenceRw t) s = .next (if (s.tiller t).sb = [] then fenced s t 6 else started s t) := by
  show execFenceRw t s = _
  have hsb : ((started s t).tiller t).sb = (s.tiller t).sb := by rw [started_tiller]
  rw [execFenceRw, instr_ready h true _ (.inl rfl), hsb]
  cases (s.tiller t).sb <;> rfl

theorem execFenceIo_ready (h : Ready s t) (hp : (s.tiller t).ioPending = false) :
    exec (.fenceIo t) s = .next ((started s t).retire t 6) := by
  show execFenceIo t s = _
  have hio : ((started s t).tiller t).ioPending = false := by rw [started_tiller]; exact hp
  rw [execFenceIo, instr_ready h true _ (.inl rfl), hio]
  rfl

theorem execWaiti_ready (h : Ready s t) (hd : (s.tiller t).dslot = none) :
    exec (.waiti t) s = .next (if (started s t).anyPending t = true then (started s t).retire t 0
      else (started s t).modTiller t (fun x => { x with stall := .waiti })) := by
  show execWaiti t s = _
  rw [execWaiti, instr_ready h false _ (.inr hd)]
  cases (started s t).anyPending t <;> rfl

/-- An instruction whose whole effect is to retire completes with every register and buffer as before. -/
theorem retired_result (s : State) (t n : Nat) (o : Out) (ho : o = .next ((started s t).retire t n)) :
    ∃ s', o = .next s' ∧ (s'.tiller t).pc = nextPc s t ∧ GrSame s s' t ∧
      (s'.tiller t).arith = (s.tiller t).arith ∧ RegisterFrame s s' t :=
  have hs := stands_started s t
  ⟨_, ho, pc_retire_of_stands hs n, gr_retire_of_stands hs n, arith_retire_of_stands hs n, frame_retire_of_stands hs n⟩

/-- Settles O13: each fence completes or waits by what its Tiller has buffered, and WAITI by what is pending. -/
theorem fenceResults : Obligations.FenceResults := by
  intro s t h
  refine ⟨?_, fun hsb => ?_, fun hsb => ?_, fun hio => ?_, fun hd hp => ?_, fun hd hp => ?_⟩
  · refine ⟨_, execFenceW_ready h, fenced_pc s t 4, fenced_gr s t 4, ?_, fenced_fenceNo s t 4, ?_, fenced_outside s t 4,
      fenced_ctl s t 4⟩
    · intro e he
      rw [fenced_sb, fenceW_eq] at he
      obtain ⟨e0, -, rfl⟩ := List.mem_map.1 he
      rfl
    · intro b
      rw [buffered_congr (fenced_sb s t 4) b, buffered_fenceW]
  · exact ⟨_, (execFenceRw_ready h).trans (by rw [if_pos hsb]), fenced_pc s t 6, fenced_gr s t 6, fenced_fenceNo s t 6,
      fenced_outside s t 6, fenced_ctl s t 6⟩
  · exact ⟨_, (execFenceRw_ready h).trans (by rw [if_neg hsb]), by rw [started_tiller], by rw [started_tiller],
      started_gr s t⟩
  · exact retired_result s t 6 _ (execFenceIo_ready h hio)
  · have hpc : nextPc s t = (s.tiller t).pc + 4 := by rw [nextPc, hd, Option.getD_none]
    rw [← hpc]
    exact retired_result s t 0 _ ((execWaiti_ready h hd).trans (by rw [if_pos hp]))
  · refine ⟨_, (execWaiti_ready h hd).trans (by rw [if_neg (by rw [hp]; exact Bool.false_ne_true)]), ?_, ?_, ?_⟩
    · rw [modTiller_self]
    · rw [modTiller_self, started_tiller]
    · exact gr_of_g (by rw [modTiller_self, started_tiller])

end Sys2Proof.Laws
end

section
/-! SUPPORT. Entries into a ring whose frame fits (R286 to R288), the faults of level 3 that make one, and the statements
about delay slots, illegal words, privileged instructions and arithmetic traps. -/

namespace Sys2Proof.Laws

open Sys2Proof.Machine Sys2Proof.Safety

variable {s : State} {t r a code : Nat} {tw ew : Word}

/-! ### Banked registers -/

theorem bank_setBank {q : Nat} (hq : q < 4) (hr : r < 4) (v : Vector Word 4) (w : Word) :
    bank (setBank v r w) q = if q = r then w else bank v q := by
  unfold bank setBank
  rw [Vector.getElem_set]
  simp only [Nat.mod_eq_of_lt hq, Nat.mod_eq_of_lt hr, eq_comm]

/-! ### The entry that an exception makes (R288) -/

/-- An entry that is no interrupt, no escalation and no gate's. -/
def plainEntry (r code : Nat) (tw ew : Word) : Entry := ⟨r, code, false, 0, r, tw, ew, none⟩

/-- What taking an entry into ring `r` makes of a Tiller in no carrel, but for its pc. -/
structure EntryMade (x y : Tiller) (r a code : Nat) (tw ew : Word) : Prop where
  ring : y.ring = r
  cause : y.cause = setBank x.cause r (faultCause code x.ring r)
  epc : y.epc = setBank x.epc r ew
  sp : y.sp = setBank x.sp r (bank x.sp r - 64)
  cleared : y.dslot = none ∧ y.progress = false ∧ y.carrel = none
  entry : y.entry = x.entry
  g : y.g = x.g
  halted : y.halted = x.halted
  sb : ∃ c, y.sb = (x.buffer a (x.frame (plainEntry r code tw ew) none) c).sb

variable {x y : Tiller}

theorem EntryMade.flushPred (h : EntryMade x y r a code tw ew) : EntryMade x y.flushPred r a code tw ew :=
  ⟨h.ring, h.cause, h.epc, h.sp, h.cleared, h.entry, h.g, h.halted, h.sb⟩

theorem EntryMade.setMask (h : EntryMade x y r a code tw ew) (sec : Bool) (v : Nat) :
    EntryMade x (y.setMask sec v) r a code tw ew := by
  obtain ⟨mo, ms, hm⟩ := setMask_eq y sec v
  rw [hm]
  exact ⟨h.ring, h.cause, h.epc, h.sp, h.cleared, h.entry, h.g, h.halted, h.sb⟩

/-- The last steps of an entry: MASK of the world entered, the predictor where the world changes, and the pc. -/
theorem EntryMade.finished (h : EntryMade x y r a code tw ew) (keep : Prop) [Decidable keep] :
    let z := y.setMask (secureRing r) 3
    let w := if keep then z else z.flushPred
    let v := { w with pc := bank w.entry r &&& ~~~3#64 }
    EntryMade x v r a code tw ew ∧ v.mask (secureRing r) = 3 ∧ v.pc = bank x.entry r &&& ~~~3#64 := by
  have hz := h.setMask (secureRing r) 3
  have hw : EntryMade x (if keep then y.setMask (secureRing r) 3 else (y.setMask (secureRing r) 3).flushPred)
      r a code tw ew := by
    split
    · exact hz
    · exact hz.flushPred
  refine ⟨⟨hw.ring, hw.cause, hw.epc, hw.sp, hw.cleared, hw.entry, hw.g, hw.halted, hw.sb⟩, ?_, ?_⟩
  · split
    · exact setMask_mask y _ 3
    · exact setMask_mask y _ 3
  · exact congrArg (fun e => bank e r &&& ~~~3#64) hw.entry

theorem halted_buffer (x : Tiller) (a : Nat) (bs : List Byte) (c : Bool) : (x.buffer a bs c).halted = x.halted := by
  obtain ⟨l, h⟩ := buffer_eq x a bs c
  rw [h]

theorem enterAt_made (hc : (s.tiller t).carrel = none) (hroom : (s.tiller t).room a = true)
    (he : code ≠ Ex.escalated) (hw : code ≠ Ex.watermark) :
    ∃ s', s.enterAt t (plainEntry r code tw ew) a = some s' ∧ OutsideSame s s' t ∧
      EntryMade (s.tiller t) (s'.tiller t) r a code tw ew ∧ (s'.tiller t).mask (secureRing r) = 3 ∧
      (s'.tiller t).pc = bank (s.tiller t).entry r &&& ~~~3#64 := by
  have hcode : ¬ (!(s.tiller t).secure ∧ !(plainEntry r code tw ew).intr ∧
      ((plainEntry r code tw ew).code = Ex.escalated ∨ (plainEntry r code tw ew).code = Ex.watermark)) :=
    fun h => h.2.2.elim he hw
  unfold State.enterAt
  extract_lets x token s1 y sec fr s2 s3 s4
  have htoken : token = none := by simp only [token, x, hc, Option.map_none]
  have hs1 : s1 = s := by simp only [s1, x, hc]
  have hy : y = x := by simp only [y, hs1, x]
  have hfr : fr = x.frame (plainEntry r code tw ew) none := by
    simp only [fr, htoken, hy]
    rfl
  have hs4 : s4 = s2.mark t x.ring evException 1 := if_neg Bool.false_ne_true
  have hs2 : OutsideSame s s2 t := by
    simp only [s2, hs1]
    exact outside_modTiller s t _
  have hx2 : s2.tiller t = _ := modTiller_self s1 t _
  rw [if_neg (by rw [hy, hroom]; exact Bool.false_ne_true), if_neg hcode, hs4]
  refine ⟨_, rfl, outside_trans hs2 (mark_outside _ t _ _ _ _), ?_⟩
  rw [tiller_mark, hx2, hs1, hfr, htoken]
  refine EntryMade.finished (keep := secureRing x.ring = secureRing r) ?_
  have hb := ctlSame_buffer x a (x.frame (plainEntry r code tw ew) none) (s.addrType x.pos a).cached
  exact
    { ring := rfl
      cause := congrArg (fun v => setBank v r (faultCause code x.ring r)) hb.cause
      epc := congrArg (fun v => setBank v r ew) hb.epc
      sp := congrArg (fun v => setBank v r (bank v r - 64)) hb.sp
      cleared := ⟨rfl, rfl, rfl⟩
      entry := hb.entry
      g := g_buffer x a _ _
      halted := halted_buffer x a _ _
      sb := ⟨_, rfl⟩ }

/-! ### An entry whose frame fits -/

theorem frame_plainEntry (x : Tiller) (r : Nat) : x.frame (plainEntry r code tw ew) none =
    toBytes ew.toNat 8 ++ toBytes x.frameFlags.toNat 8 ++ toBytes (faultCause code x.ring r).toNat 8 ++
    toBytes tw.toNat 8 ++ toBytes (x.dslot.getD 0).toNat 8 ++
    toBytes (x.mask (secureRing r) + if secureRing r then 256 else 0) 8 ++
    toBytes (x.get 30).toNat 8 ++ toBytes (x.get 31).toNat 8 := rfl

theorem length_frame (x : Tiller) : (x.frame (plainEntry r code tw ew) none).length = 64 := by
  rw [frame_plainEntry]
  simp only [List.length_append, length_toBytes]

theorem applyPending_tiller (hp : (s.tiller t).pendCsr = []) : (s.applyPending t).tiller t = s.tiller t := by
  unfold State.applyPending
  rw [hp]
  generalize hx : s.tiller t = x at hp
  simp only [List.foldl_nil, modTiller_self, hx]
  obtain ⟨⟩ := x
  simp only at hp
  rw [hp]

theorem applyPending_outside (hp : (s.tiller t).pendCsr = []) : OutsideSame s (s.applyPending t) t := by
  unfold State.applyPending
  rw [hp]
  exact outside_modTiller s t _

/-- What an entry makes of a Tiller is what taking the exception leaves (R288). -/
theorem EntryMade.entered {s' : State} (h : EntryMade (s.tiller t) (s'.tiller t) r a code tw ew)
    (hmask : (s'.tiller t).mask (secureRing r) = 3)
    (hpc : (s'.tiller t).pc = bank (s.tiller t).entry r &&& ~~~3#64) (ho : OutsideSame s s' t) (hr : r < 4)
    (ha : a % 64 = 0) (hy : Youngest (s.tiller t) a) :
    Entered s s' t r a (faultCause code (s.tiller t).ring r) tw ew (bank (s.tiller t).entry r &&& ~~~3#64) where
  ring := h.ring
  pc := hpc
  cause := by rw [h.cause, bank_setBank hr hr, if_pos rfl]
  epc := by rw [h.epc, bank_setBank hr hr, if_pos rfl]
  sp := by rw [h.sp, bank_setBank hr hr, if_pos rfl]
  mask := hmask
  cleared := h.cleared
  others q hq hne := by
    rw [h.cause, h.epc, h.sp]
    simp only [bank_setBank hq hr, if_neg hne, and_self]
  entry := h.entry
  gr := gr_of_g h.g
  frame i hi := by
    obtain ⟨c, hc⟩ := h.sb
    have hlen := length_frame (r := r) (code := code) (tw := tw) (ew := ew) (s.tiller t)
    rw [buffered_congr hc, buffered_buffer (by omega) hy, if_pos (by omega), Nat.add_sub_cancel_left]
    rfl
  outside := ho

/-- An entry whose frame fits is made. -/
theorem enter_fits (h : EntryFits s t r a) (hr : r < 4) (he : code ≠ Ex.escalated) (hw : code ≠ Ex.watermark) :
    ∃ s', s.enter t (plainEntry r code tw ew) = some s' ∧ (s'.tiller t).halted = (s.tiller t).halted ∧
      Entered s s' t r a (faultCause code (s.tiller t).ring r) tw ew (bank (s.tiller t).entry r &&& ~~~3#64) := by
  have ht := applyPending_tiller h.applied
  obtain ⟨s', hs', ho, hmade, hmask, hpc⟩ := enterAt_made (s := s.applyPending t) (t := t) (r := r) (a := a) (tw := tw)
    (ew := ew) (by rw [ht]; exact h.plain) (by rw [ht]; exact h.room) he hw
  rw [ht] at hmade hpc
  refine ⟨s', ?_, hmade.halted, hmade.entered hmask hpc (outside_trans (applyPending_outside h.applied) ho) hr h.aligned
    h.youngest⟩
  have hf : (s.applyPending t).frameAt t (plainEntry r code tw ew).ring = (.at a, s.applyPending t) := h.frame
  unfold State.enter
  simp only [hf]
  exact hs'

/-! ### Faults of level 3 (R286) -/

theorem faultLevel_eq (hl : faultLevel code = 3) : code ≠ Ex.escalated ∧ code ≠ Ex.watermark ∧ code ≠ Ex.walkError := by
  refine ⟨?_, ?_, ?_⟩ <;> (rintro rfl; exact absurd hl (by decide))

/-- The ring that takes a fault of level 3 which ENTRY3 does not take itself. -/
theorem faultRing_eq (hl : faultLevel code = 3) (hown : (code = Ex.divZero ∨ code = Ex.overflow) → s.ownTrap t = false) :
    s.faultRing t code = faultTarget s t := by
  have hno : ¬ ((code = Ex.divZero ∨ code = Ex.overflow) ∧ s.ownTrap t = true) := fun ⟨hc, ho⟩ => by
    rw [hown hc] at ho
    exact Bool.false_ne_true ho
  unfold State.faultRing faultTarget
  rw [if_neg (by omega)]
  simp only [if_neg hno]

theorem ownTrap_of_entry3 (h : (bank (s.tiller t).entry 3).getLsbD 0 = false) : s.ownTrap t = false := by
  unfold State.ownTrap
  simp only [h, Bool.false_and]

theorem faultTarget_started (s : State) (t : Nat) : faultTarget (started s t) t = faultTarget s t := by
  rw [faultTarget, faultTarget, started_tiller]

theorem takeFault_fits {f : Word} (hfits : EntryFits s t (faultTarget s t) a)
    (hl : faultLevel code = 3) (hown : (code = Ex.divZero ∨ code = Ex.overflow) → s.ownTrap t = false)
    (hm : (s.tiller t).mask (s.tiller t).secure ≠ 3) (hr : (s.tiller t).ring < 4) :
    ∃ s', s.takeFault t code f = some s' ∧ Entered s s' t (faultTarget s t) a
      (faultCause code (s.tiller t).ring (faultTarget s t)) f (s.tiller t).pc
      (bank (s.tiller t).entry (faultTarget s t) &&& ~~~3#64) := by
  obtain ⟨he, hw, hwalk⟩ := faultLevel_eq hl
  have hentry : s.faultEntry t code f = plainEntry (faultTarget s t) code f (s.tiller t).pc := by
    unfold State.faultEntry
    simp only [hfits.plain, faultRing_eq hl hown, hwalk, hm, hl, and_false, or_self, if_false, Option.isSome_none,
      Bool.false_eq_true]
    rfl
  have hhalt : ¬ ((s.tiller t).ring = 0 ∧ (s.tiller t).maskSecure = 3) := fun ⟨h0, h3⟩ => by
    rw [Tiller.secure, h0] at hm
    exact hm h3
  have hrt : faultTarget s t < 4 := by
    unfold faultTarget
    split <;> omega
  obtain ⟨s', hs', -, hentered⟩ := enter_fits (tw := f) (ew := (s.tiller t).pc) hfits hrt he hw
  refine ⟨s', ?_, hentered⟩
  unfold State.takeFault
  simp only [hentry, if_neg hhalt]
  exact hs'

/-- An instruction that ends in a fault of level 3 faults. -/
theorem faults_of_takeFault {o : Out} {f : Word} (hl : faultLevel code = 3)
    (hown : (code = Ex.divZero ∨ code = Ex.overflow) → (bank (s.tiller t).entry 3).getLsbD 0 = false)
    (ho : o = .next ((Res.fault (started s t) code f).settle s t)) : Faults o s t code f := by
  intro a hfits hm hr
  have hown' : (code = Ex.divZero ∨ code = Ex.overflow) → (started s t).ownTrap t = false := fun hc =>
    ownTrap_of_entry3 (by rw [started_tiller]; exact hown hc)
  rw [← faultTarget_started] at hfits ⊢
  obtain ⟨s', hs', hentered⟩ := takeFault_fits (f := f) hfits hl hown' (by rw [started_tiller]; exact hm)
    (by rw [started_tiller]; exact hr)
  rw [started_tiller] at hentered
  exact ⟨s', by rw [ho, settle_fault, hs', Option.getD_some], hentered⟩

theorem faultLevel_illegal : faultLevel Ex.illegal = 3 := by decide
theorem faultLevel_priv : faultLevel Ex.priv = 3 := by decide
theorem faultLevel_align : faultLevel Ex.align = 3 := by decide
theorem faultLevel_divZero : faultLevel Ex.divZero = 3 := by decide
theorem faultLevel_overflow : faultLevel Ex.overflow = 3 := by decide

/-- A fault that is no arithmetic trap. -/
theorem faults_of_settle {o : Out} {f : Word} (hl : faultLevel code = 3) (hd : code ≠ Ex.divZero)
    (hv : code ≠ Ex.overflow) (ho : o = .next ((Res.fault (started s t) code f).settle s t)) : Faults o s t code f :=
  faults_of_takeFault hl (fun h => absurd h (not_or.2 ⟨hd, hv⟩)) ho

/-! ### Delay slots (R269) -/

theorem slotCheck_allowed (u : State) (t : Nat) : u.slotCheck t true = .done u := by
  unfold State.slotCheck
  simp only [Bool.not_true, Bool.and_false, Bool.false_eq_true, if_false]

/-- The check for the delay slot comes first in the effect of an instruction. -/
theorem instr_slotCheck (s : State) (t : Nat) (f : State → Res) :
    s.instr t false f = s.instr t true (fun u => (u.slotCheck t false).andThen f) := by
  have hres (r : Res) : (r.andThen (fun u => u.slotCheck t false)).andThen f =
      (r.andThen (fun u => u.slotCheck t true)).andThen (fun u => (u.slotCheck t false).andThen f) := by
    cases r with
    | done u => simp only [Res.andThen, slotCheck_allowed]
    | wait u => rfl
    | fault u c v => rfl
  unfold State.instr
  simp only [hres]

/-- A ready instruction that R269 forbids in a delay slot raises ILLEGAL there, whatever its own effect. -/
theorem instr_slot (h : Ready s t) (hd : (s.tiller t).dslot.isSome = true) (f : State → Res) :
    s.instr t false f = (Res.fault (started s t) Ex.illegal (s.tiller t).pc).settle s t := by
  have hslot : (started s t).slotCheck t false = .fault (started s t) Ex.illegal (s.tiller t).pc := by
    unfold State.slotCheck
    simp only [started_tiller, hd, Bool.not_false, Bool.and_self, if_true]
  rw [instr_slotCheck, instr_ready h true _ (.inl rfl), hslot]
  rfl

theorem slot_faults (h : Ready s t) (hd : (s.tiller t).dslot.isSome = true) (f : State → Res) :
    Faults (.next (s.instr t false f)) s t Ex.illegal (s.tiller t).pc :=
  faults_of_settle faultLevel_illegal (by decide) (by decide) (by rw [instr_slot h hd f])

/-- Settles O16: each of these runs with the delay slot forbidden to it. -/
theorem delaySlotFaults : Obligations.DelaySlotFaults := by
  intro s t rd a b f d15 d26 imm h hd
  have bad := slot_faults h hd
  exact ⟨bad _, bad _, bad _, bad _, bad _, bad _, bad _, bad _, bad _, bad _, bad _, bad _, bad _, bad _, bad _, bad _,
    bad _, bad _, bad _⟩

/-! ### Illegal words, privileged instructions and arithmetic traps (R249, R251) -/

theorem illegal_faults {w : BitVec 32} (h : Ready s t) (hw : decodeWord w = none) :
    Faults (exec (.illegal t w) s) s t Ex.illegal (s.tiller t).pc := by
  refine faults_of_settle faultLevel_illegal (by decide) (by decide) ?_
  show execIllegal t w s = _
  rw [execIllegal, hw, if_neg (by exact Bool.false_ne_true), instr_ready h true _ (.inl rfl), State.trap, started_tiller]

theorem maskup_faults {n : BitVec 2} (h : Ready s t) (hr : (s.tiller t).ring = 3) :
    Faults (exec (.maskup t n) s) s t Ex.priv (s.tiller t).pc := by
  refine faults_of_settle faultLevel_priv (by decide) (by decide) ?_
  show execMaskup t n s = _
  rw [execMaskup, instr_ready h true _ (.inl rfl)]
  simp only [started_tiller, hr, if_true, State.trap]

theorem tlbiworld_faults (h : Ready s t) (hr : (s.tiller t).ring = 3) :
    Faults (exec (.tlbiworld t) s) s t Ex.priv (s.tiller t).pc := by
  refine faults_of_settle faultLevel_priv (by decide) (by decide) ?_
  show execTlbiworld t s = _
  rw [execTlbiworld, instr_ready h true _ (.inl rfl)]
  simp only [started_tiller, hr, if_true, State.trap]

section
variable {rd a b : Fin 32} {n : Nat} {v : Word}

/-- An operation that traps on a division by zero. -/
theorem arithDone_divZero (ov : Bool) (hdz : (s.tiller t).arith.getLsbD 0 = true) :
    (started s t).arithDone t rd v ov true n = .fault (started s t) Ex.divZero (s.tiller t).pc := by
  have hen : ((started s t).tiller t).dzEn = true := by rw [started_tiller]; exact hdz
  have hpc : ((started s t).tiller t).pc = (s.tiller t).pc := by rw [started_tiller]
  simp only [State.arithDone, hen, hpc, Bool.and_self, if_true, State.trap]

/-- An operation that traps on an overflow. -/
theorem arithDone_overflow (hov : (s.tiller t).arith.getLsbD 1 = true) :
    (started s t).arithDone t rd v true false n = .fault (started s t) Ex.overflow (s.tiller t).pc := by
  have hen : ((started s t).tiller t).ovEn = true := by rw [started_tiller]; exact hov
  have hpc : ((started s t).tiller t).pc = (s.tiller t).pc := by rw [started_tiller]
  simp only [State.arithDone, hen, hpc, Bool.and_self, Bool.false_and, Bool.false_eq_true, if_false, if_true, State.trap]

theorem divide_faults {sg rem fixed : Bool} (h : Ready s t) (hown : (bank (s.tiller t).entry 3).getLsbD 0 = false)
    (hb : s.gr t b = 0) (hdz : (s.tiller t).arith.getLsbD 0 = true) :
    Faults (.next (s.divide t rd a b sg rem fixed)) s t Ex.divZero (s.tiller t).pc := by
  refine faults_of_takeFault faultLevel_divZero (fun _ => hown) ?_
  rw [State.divide, instr_ready h true _ (.inl rfl)]
  simp only [started_gr, hb, beq_self_eq_true, arithDone_divZero _ hdz]

theorem add_faults (h : Ready s t) (hown : (bank (s.tiller t).entry 3).getLsbD 0 = false)
    (hu : Unfit ((s.gr t a).toInt + (s.gr t b).toInt)) (hov : (s.tiller t).arith.getLsbD 1 = true) :
    Faults (exec (.add t rd a b) s) s t Ex.overflow (s.tiller t).pc := by
  refine faults_of_takeFault faultLevel_overflow (fun _ => hown) ?_
  have hadd : addOv (s.gr t a) (s.gr t b) = true := (overflows_iff _).2 hu
  show (.next (s.aluOv t rd a b (· + ·) addOv 4) : Out) = _
  rw [aluOv_eq h, hadd, arithDone_overflow hov]

end

/-- Settles O17: each of these ends in a fault of level 3 at the instruction's address. -/
theorem faultEntries : Obligations.FaultEntries := by
  intro s t w rd a b n h pc own3
  exact ⟨illegal_faults h, fun hr => ⟨maskup_faults h hr, tlbiworld_faults h hr⟩,
    fun hown hb hdz => ⟨divide_faults h hown hb hdz, divide_faults h hown hb hdz⟩, add_faults h⟩

end Sys2Proof.Laws
end

section
/-! SUPPORT. Control transfers (R263, R266 to R268) and PCALL (R274, R294), and the statements about them. -/

namespace Sys2Proof.Laws

open Sys2Proof.Machine Sys2Proof.Safety

variable {s s1 s2 : State} {t : Nat}

/-! ### What the predictor and the Marks counters leave -/

theorem stands_regsOnly (h : RegsOnly s s1) (hr : ∀ a, ¬ IsMark a → s1.rd a = s.rd a) : Stands s s1 t := by
  have ht : s1.tiller t = s.tiller t := by rw [State.tiller, State.tiller, h.tillers]
  refine ⟨gr_of_g (by rw [ht]), by rw [ht], by rw [ht], by rw [ht], outside_of_regsOnly h hr, ?_, ?_⟩
  · rw [ht]
    exact ctlSame_refl _
  · rw [ht]
    exact buffersSame_refl _

theorem stands_mark (s : State) (t u r ev n : Nat) : Stands s (s.mark u r ev n) t :=
  stands_regsOnly (mark_regsOnly s u r ev n) fun _ => rd_mark s u r ev n _

theorem stands_topDown (s : State) (t u r k n : Nat) : Stands s (s.topDown u r k n) t :=
  stands_regsOnly (topDown_regsOnly s u r k n) fun _ => rd_topDown s u r k n _

theorem stands_train (s : State) (t : Nat) (pc : Word) (taken : Bool) :
    Stands s (s.modTiller t (fun x => x.train pc taken)) t :=
  (stands_refl s t).modTiller rfl rfl rfl rfl ⟨rfl, rfl, rfl, rfl, rfl, ⟨rfl, rfl⟩, ⟨rfl, rfl⟩, rfl, rfl, rfl, rfl⟩
    ⟨rfl, rfl, rfl, rfl, rfl, rfl, rfl⟩

/-- A choice of the model counts itself and nothing else. -/
theorem stands_choose (s : State) (t n : Nat) : Stands s (s.choose n).2 t where
  gr _ := rfl
  pc := rfl
  dslot := rfl
  arith := rfl
  frame :=
    { outside := ⟨fun _ => rfl, fun _ _ => rfl, fun _ _ => rfl, rfl, rfl, rfl, rfl, rfl, rfl, rfl, rfl, ⟨rfl, rfl, rfl⟩,
        ⟨rfl, rfl⟩, rfl, rfl⟩
      ctl := ctlSame_refl _
      buffers := buffersSame_refl _ }

theorem stands_refetch (s : State) (t : Nat) : Stands s (s.refetch t) t :=
  (stands_refl s t).modTiller rfl rfl rfl rfl ⟨rfl, rfl, rfl, rfl, rfl, ⟨rfl, rfl⟩, ⟨rfl, rfl⟩, rfl, rfl, rfl, rfl⟩
    ⟨rfl, rfl, rfl, rfl, rfl, rfl, rfl⟩

theorem stands_mispredict (s : State) (t : Nat) : Stands s (s.mispredict t) t := by
  unfold State.mispredict
  extract_lets x c
  have h1 : Stands s (c.2.refetch t) t := (stands_choose s t 2).trans (stands_refetch c.2 t)
  have h2 := h1.trans (stands_mark (c.2.refetch t) t t x.ring evMispredict 1)
  exact h2.trans (stands_mark _ t t x.ring evWrongPath c.1)

/-! ### Retirement of a control transfer -/

/-- The Tiller has stepped to the word after a control transfer, and no target is recorded yet. -/
structure Stepped (s s1 : State) (t : Nat) : Prop where
  gr : GrSame s s1 t
  pc : (s1.tiller t).pc = (s.tiller t).pc + 4
  dslot : (s1.tiller t).dslot = none
  arith : (s1.tiller t).arith = (s.tiller t).arith
  frame : RegisterFrame s s1 t

theorem Stepped.trans (h : Stepped s s1 t) (k : Stands s1 s2 t) : Stepped s s2 t where
  gr r := (k.gr r).trans (h.gr r)
  pc := k.pc.trans h.pc
  dslot := k.dslot.trans h.dslot
  arith := k.arith.trans h.arith
  frame := registerFrame_trans h.frame k.frame

theorem Stands.stepped (h : Stands s s1 t) (k : Stepped s1 s2 t) : Stepped s s2 t where
  gr r := (k.gr r).trans (h.gr r)
  pc := by rw [k.pc, h.pc]
  dslot := k.dslot
  arith := k.arith.trans h.arith
  frame := registerFrame_trans h.frame k.frame

theorem stepped_retireBranch (hd : (s.tiller t).dslot = none) (slow : Bool) : Stepped s (s.retireBranch t slow) t := by
  have hr : Stepped s (s.retire t 4) t :=
    ⟨grSame_retire s t 4, by rw [tiller_pc_retire, hd, Option.getD_none], tiller_dslot_retire s t 4,
      tiller_arith_retire s t 4, registerFrame_retire s t 4⟩
  cases slow
  · exact hr
  · exact hr.trans (stands_topDown _ t _ _ _ _)

/-- A change of the Tiller's pc and recorded target alone. -/
theorem registerFrame_steer (s : State) (t : Nat) (pc : Tiller → Word) (target : Tiller → Option Word) :
    RegisterFrame s (s.modTiller t (fun x => { x with pc := pc x, dslot := target x })) t where
  outside := outside_modTiller s t _
  ctl := by rw [modTiller_self]; exact ⟨rfl, rfl, rfl, rfl, rfl, ⟨rfl, rfl⟩, ⟨rfl, rfl⟩, rfl, rfl, rfl, rfl⟩
  buffers := by rw [modTiller_self]; exact ⟨rfl, rfl, rfl, rfl, rfl, rfl, rfl⟩

theorem modTiller_gr (s : State) (t : Nat) (f : Tiller → Tiller) (h : (f (s.tiller t)).g = (s.tiller t).g) :
    GrSame s (s.modTiller t f) t :=
  gr_of_g (by rw [modTiller_self, h])

/-! ### Branches and jumps (R267, R268) -/

/-- The state in which a conditional branch has retired and its slot is to be settled. -/
def branchRetired (s : State) (t : Nat) (taken : Bool) : State :=
  let wrong := s.predicting t && (decide (2 ≤ (s.tiller t).counter (s.tiller t).pc) != taken)
  let u := (s.modTiller t (fun x => x.train (s.tiller t).pc taken)).mark t (s.tiller t).ring evBranch 1
  let v := u.retireBranch t (wrong || !u.predicting t)
  if wrong then v.mispredict t else v

theorem branchTo_eq (s : State) (t : Nat) (taken a : Bool) (target : Word) : s.branchTo t taken a target =
    if !taken && a then (branchRetired s t taken).annul t
    else (branchRetired s t taken).modTiller t (fun x => x.toSlot (if taken then target else (s.tiller t).pc + 8)) := by
  unfold State.branchTo branchRetired
  rfl

theorem Stepped.mispredict_or (h : Stepped s s1 t) (wrong : Bool) :
    Stepped s (if wrong then s1.mispredict t else s1) t := by
  cases wrong
  · exact h
  · exact h.trans (stands_mispredict s1 t)

theorem stepped_branchRetired (hd : (s.tiller t).dslot = none) (taken : Bool) :
    Stepped s (branchRetired s t taken) t := by
  have htrain := stands_train s t (s.tiller t).pc taken
  have hmark := htrain.trans (stands_mark _ t t (s.tiller t).ring evBranch 1)
  have hdslot := hmark.dslot.trans hd
  exact (hmark.stepped (stepped_retireBranch hdslot _)).mispredict_or _

/-- The slot of a control transfer runs next, and then the recorded target. -/
structure Slotted (s s1 : State) (t : Nat) (target : Word) : Prop where
  gr : GrSame s s1 t
  pc : (s1.tiller t).pc = (s.tiller t).pc + 4
  dslot : (s1.tiller t).dslot = some target
  arith : (s1.tiller t).arith = (s.tiller t).arith
  frame : RegisterFrame s s1 t

theorem Stepped.toSlot (h : Stepped s s1 t) (target : Word) :
    Slotted s (s1.modTiller t (fun x => x.toSlot target)) t target where
  gr r := (modTiller_gr s1 t (fun x => x.toSlot target) rfl r).trans (h.gr r)
  pc := by rw [modTiller_self]; exact h.pc
  dslot := by rw [modTiller_self]; rfl
  arith := by rw [modTiller_self]; exact h.arith
  frame := registerFrame_trans h.frame (registerFrame_steer s1 t (fun x => x.pc) (fun _ => some target))

/-- An annulled slot is stepped over. -/
theorem stands_annul (s : State) (t : Nat) :
    Stands (s.modTiller t (fun x => { x with pc := x.pc + 4 })) (s.annul t) t :=
  (stands_mark _ t t (s.tiller t).ring evAnnulled 1).trans (stands_topDown _ t t (s.tiller t).ring 1 2)

theorem branchTo_branches {taken a : Bool} {disp : BitVec 15} (h : Stepped s s1 t) :
    let u := if !taken && a then s1.annul t
      else s1.modTiller t (fun x => x.toSlot (if taken then (s.tiller t).pc + disp15 disp else (s.tiller t).pc + 8))
    Branches (.next u) s t a taken disp := by
  intro u
  by_cases hn : taken = false ∧ a = true
  · have hu : u = s1.annul t := if_pos (by rw [hn.1, hn.2]; rfl)
    have hk := stands_annul s1 t
    refine ⟨u, rfl, ?_, ?_, ?_, ?_⟩
    · rw [if_pos hn, hu, hk.pc, hk.dslot, modTiller_self]
      exact ⟨by rw [h.pc, BitVec.add_assoc]; rfl, h.dslot⟩
    · rw [hu]
      exact fun r => (hk.gr r).trans ((modTiller_gr s1 t _ rfl r).trans (h.gr r))
    · rw [hu, hk.arith, modTiller_self]
      exact h.arith
    · rw [hu]
      exact registerFrame_trans h.frame
        (registerFrame_trans (registerFrame_steer s1 t (fun x => x.pc + 4) (fun x => x.dslot)) hk.frame)
  · have hu : u = _ := if_neg (by cases taken <;> cases a <;> simp_all)
    have hk := h.toSlot (if taken then (s.tiller t).pc + disp15 disp else (s.tiller t).pc + 8)
    refine ⟨u, rfl, ?_, ?_, ?_, ?_⟩
    · rw [if_neg hn, hu]
      exact ⟨hk.pc, hk.dslot⟩
    · rw [hu]; exact hk.gr
    · rw [hu]; exact hk.arith
    · rw [hu]; exact hk.frame

section
variable {x y rd a : Fin 32} {an taken : Bool} {disp : BitVec 15} {f : Word → Word → Bool} {target : Word}

theorem branch_branches (h : Ready s t) (hd : (s.tiller t).dslot = none) (hf : f (s.gr t x) (s.gr t y) = taken) :
    Branches (.next (s.branch t x y an disp f)) s t an taken disp := by
  have hst := stands_started s t
  have hpc : ((started s t).tiller t).pc = (s.tiller t).pc := hst.pc
  rw [State.branch, instr_ready h false _ (.inr hd)]
  simp only [settle_done, started_gr, hf, hpc, branchTo_eq]
  exact branchTo_branches (hst.stepped (stepped_branchRetired (hst.dslot.trans hd) taken))

theorem branchResults : BranchResults := by
  intro s t x y a disp h hd
  refine ⟨branch_branches h hd ?_, branch_branches h hd ?_, branch_branches h hd ?_, branch_branches h hd ?_,
    branch_branches h hd ?_, branch_branches h hd ?_⟩
  · exact beq_eq_decide _ _
  · rw [bne, beq_eq_decide, ← decide_not]
  · exact BitVec.slt_eq_decide
  · rw [BitVec.slt_eq_decide, ← decide_not]
    exact decide_eq_decide.2 Int.not_lt
  · exact BitVec.ult_eq_decide
  · rw [BitVec.ult_eq_decide, ← decide_not]
    exact decide_eq_decide.2 Nat.not_lt

/-- A jump links and then retires as a control transfer. -/
theorem jumps_of_stepped {target : Word}
    (h : Stepped ((started s t).setGr t rd ((s.tiller t).pc + 8)) s1 t) :
    Jumps (.next (s1.modTiller t (fun x => x.toSlot target))) s t rd target := by
  have hst := stands_started s t
  have hk := h.toSlot target
  have hlink := grWritten_of_grSame (grWritten_setGr (started s t) t rd ((s.tiller t).pc + 8)) hst.gr
  refine ⟨_, rfl, ?_, hk.dslot, grSame_after hlink hk.gr, ?_, ?_⟩
  · rw [hk.pc, tiller_setGr, pc_put, hst.pc]
  · rw [hk.arith, tiller_setGr, arith_put, hst.arith]
  · exact registerFrame_trans hst.frame (registerFrame_trans (registerFrame_setGr _ t rd _) hk.frame)

theorem linked_dslot (hd : (s.tiller t).dslot = none) (v : Word) :
    (((started s t).setGr t rd v).tiller t).dslot = none := by
  rw [tiller_setGr, dslot_put, (stands_started s t).dslot, hd]

theorem jumpTo_jumps (hd : (s.tiller t).dslot = none) : Jumps (.next ((started s t).jumpTo t rd target)) s t rd target := by
  have hpc : ((started s t).tiller t).pc = (s.tiller t).pc := (stands_started s t).pc
  unfold State.jumpTo
  rw [hpc]
  exact jumps_of_stepped (stepped_retireBranch (linked_dslot hd _) _)

theorem j_jumps {disp : BitVec 26} (h : Ready s t) (hd : (s.tiller t).dslot = none) :
    Jumps (exec (.j t disp) s) s t 0 ((s.tiller t).pc + disp.signExtend 64 * 4) := by
  have hpc : ((started s t).tiller t).pc = (s.tiller t).pc := (stands_started s t).pc
  show Jumps (execJ t disp s) s t 0 _
  rw [execJ, instr_ready h false _ (.inr hd), hpc]
  exact jumpTo_jumps hd

theorem jal_jumps {disp : BitVec 26} (h : Ready s t) (hd : (s.tiller t).dslot = none) :
    Jumps (exec (.jal t disp) s) s t 31 ((s.tiller t).pc + disp.signExtend 64 * 4) := by
  have hpc : ((started s t).tiller t).pc = (s.tiller t).pc := (stands_started s t).pc
  show Jumps (execJal t disp s) s t 31 _
  rw [execJal, instr_ready h false _ (.inr hd), hpc]
  exact jumpTo_jumps hd

theorem jalr_jumps (h : Ready s t) (hd : (s.tiller t).dslot = none) (ha : (s.gr t a).toNat % 4 = 0) :
    Jumps (exec (.jalr t rd a) s) s t rd (s.gr t a) := by
  have hpc : ((started s t).tiller t).pc = (s.tiller t).pc := (stands_started s t).pc
  have hretire (n : Nat) (v : Word) :
      Stepped ((started s t).setGr t rd v) (((started s t).setGr t rd v).retire t n) t :=
    ⟨grSame_retire _ t n, by rw [tiller_pc_retire, linked_dslot hd, Option.getD_none], tiller_dslot_retire _ t n,
      tiller_arith_retire _ t n, registerFrame_retire _ t n⟩
  show Jumps (execJalr t rd a s) s t rd _
  rw [execJalr, instr_ready h false _ (.inr hd)]
  simp only [started_gr, ha, ne_eq, not_true_eq_false, if_false, settle_done, hpc]
  refine jumps_of_stepped ?_
  split
  · exact (hretire 4 _).trans (stands_topDown _ t t _ 1 3)
  · exact hretire 7 _

theorem jalr_faults (h : Ready s t) (hd : (s.tiller t).dslot = none) (ha : (s.gr t a).toNat % 4 ≠ 0) :
    Faults (exec (.jalr t rd a) s) s t Ex.align (s.gr t a) := by
  refine faults_of_settle faultLevel_align (by decide) (by decide) ?_
  show execJalr t rd a s = _
  rw [execJalr, instr_ready h false _ (.inr hd)]
  simp only [started_gr, ha, ne_eq, not_false_eq_true, if_true]

end

/-- Settles O15: a control transfer retires as one step to its slot, and the recorded target follows it; a JALR whose
target is misaligned faults before that. -/
theorem controlTransferResults : Obligations.ControlTransferResults :=
  ⟨branchResults, fun _ _ _ _ _ h hd => ⟨j_jumps h hd, jal_jumps h hd, jalr_jumps h hd⟩,
    fun _ _ _ _ h hd ha => jalr_faults h hd ha⟩

/-! ### PCALL (R274, R294) -/

/-- An instruction that retires where it stands leaves the Tiller's ring and whether it is halted. -/
theorem retireHere_tiller (s : State) (t n : Nat) : ∃ cl, (s.retireHere t n).tiller t =
    { s.tiller t with prevPa := (s.tiller t).curPa, noEntryCheck := false, dbgStep := false,
                      emptyWin := none, claims := cl } := by
  unfold State.retireHere
  obtain ⟨cl, h⟩ := closeWindow_tiller
    (s.modTiller t (fun x => { x with prevPa := x.curPa, noEntryCheck := false, dbgStep := false })) t
  exact ⟨cl, by simp only [tiller_topDown, tiller_mark, h, modTiller_self]⟩

/-- The wait for the Proctor is no part of what an entry leaves. -/
theorem entered_waits {r a : Nat} {cw tw ew target : Word} (h : Entered s s1 t r a cw tw ew target)
    (v : Option (Nat × Nat)) :
    Entered s (s1.modTiller t (fun x => { x with pcall := v })) t r a cw tw ew target := by
  have hx := modTiller_self s1 t (fun x => { x with pcall := v })
  have hb (b : Nat) : ((s1.modTiller t (fun x => { x with pcall := v })).tiller t).buffered b =
      (s1.tiller t).buffered b := buffered_congr (by rw [hx]) b
  exact
    { ring := by rw [hx]; exact h.ring
      pc := by rw [hx]; exact h.pc
      cause := by rw [hx]; exact h.cause
      epc := by rw [hx]; exact h.epc
      sp := by rw [hx]; exact h.sp
      mask := by rw [hx]; exact h.mask
      cleared := by rw [hx]; exact h.cleared
      others := by rw [hx]; exact h.others
      entry := by rw [hx]; exact h.entry
      gr := fun q => (modTiller_gr s1 t _ rfl q).trans (h.gr q)
      frame := fun i hi => (hb _).trans (h.frame i hi)
      outside := outside_trans h.outside (outside_modTiller s1 t _) }

theorem faultCause_code {code fring : Nat} (hc : code < 65536) :
    (faultCause code fring 0).toNat % 65536 = code := by
  rw [faultCause, BitVec.toNat_ofNat]
  omega

/-- What PCALL does once ring 0 is entered. -/
def pcallServed (u : State) (t n ring : Nat) (sec : Bool) (s0 : State) : Res :=
  if (svcRings n).isEmpty then
    match u.undefinedService t sec with
    | some s => .done s
    | none => .wait s0
  else .done (u.modTiller t (fun y => { y with pcall := some (n, ring) }))

theorem execPcall_entered {imm : BitVec 16} {u : State} (h : Ready s t) (hd : (s.tiller t).dslot = none)
    (hr : (s.tiller t).ring ≠ 0) (hsb : (s.tiller t).secure = true ∨ (s.tiller t).sb = [])
    (hu : ((started s t).retireHere t 24).enter t
      (plainEntry 0 Ex.pcall (BitVec.ofNat 64 imm.toNat) ((s.tiller t).pc + 4)) = some u)
    (hc : (bank (u.tiller t).cause 0).toNat % 65536 = Ex.pcall) (hh : (u.tiller t).halted = false) :
    exec (.pcall t imm) s =
      .next ((pcallServed u t imm.toNat (s.tiller t).ring (s.tiller t).secure (started s t)).settle s t) := by
  have hring : ((started s t).tiller t).ring = (s.tiller t).ring := by rw [started_tiller]
  have hsec : ((started s t).tiller t).secure = (s.tiller t).secure := by rw [Tiller.secure, Tiller.secure, hring]
  have hpc : ((started s t).tiller t).pc = (s.tiller t).pc := by rw [started_tiller]
  have hdrained : (!(s.tiller t).secure && !((started s t).tiller t).sb.isEmpty) = false := by
    rw [started_tiller]
    obtain hs | hs := hsb <;> simp [hs]
  show execPcall t imm s = _
  rw [execPcall, instr_ready h false _ (.inr hd)]
  simp only [hdrained, hring, hr, if_false, Bool.false_eq_true, hpc, hsec]
  rw [show (⟨0, Ex.pcall, false, 0, 0, BitVec.ofNat 64 imm.toNat, (s.tiller t).pc + 4, none⟩ : Entry) =
    plainEntry 0 Ex.pcall (BitVec.ofNat 64 imm.toNat) ((s.tiller t).pc + 4) from rfl, hu]
  simp only [hc, hh, ne_eq, not_true_eq_false, Bool.false_eq_true, or_self, if_false]
  rfl

theorem ready_not_halted (h : Ready s t) : (s.tiller t).halted = false := by
  have hr := h.runs
  simp only [State.tillerRuns, Bool.and_eq_true, Bool.not_eq_true'] at hr
  exact hr.1.1.2

/-- Settles O18: PCALL retires where it stands and enters ring 0; what it does then follows from its service. -/
theorem pcallEntersTheProctor : Obligations.PcallEntersTheProctor := by
  intro s t a imm h hd hr hr4 hsb s1 hfits entered
  obtain ⟨cl, h1⟩ := retireHere_tiller (started s t) t 24
  have hring : (s1.tiller t).ring = (s.tiller t).ring := by rw [h1, started_tiller]
  have hentry : (s1.tiller t).entry = (s.tiller t).entry := by rw [h1, started_tiller]
  have hhalted : (s1.tiller t).halted = false := by rw [h1, started_tiller]; exact ready_not_halted h
  obtain ⟨u, hu, huh, hue⟩ := enter_fits (code := Ex.pcall) (tw := BitVec.ofNat 64 imm.toNat)
    (ew := (s.tiller t).pc + 4) hfits (by decide) (by decide) (by decide)
  rw [hring, hentry] at hue
  have hcause : (bank (u.tiller t).cause 0).toNat % 65536 = Ex.pcall := by
    rw [hue.cause]
    exact faultCause_code (by decide)
  have hx := execPcall_entered h hd hr hsb hu hcause (huh.trans hhalted)
  refine ⟨fun hsvc => ⟨_, hx.trans ?_, entered_waits hue (some (imm.toNat, (s.tiller t).ring)), by rw [modTiller_self]⟩,
    fun hsvc hsec => ⟨u, hue, fun s' hs' => hx.trans ?_⟩⟩
  · rw [pcallServed, if_neg (by rw [List.isEmpty_iff]; exact hsvc), settle_done]
  · have hund : u.undefinedService t true = some s' := hs'
    rw [pcallServed, if_pos (List.isEmpty_iff.2 hsvc), hsec, hund]
    rfl

end Sys2Proof.Laws
end

section
/-! SUPPORT. The statements that fail in a state whose table of Tillers lists a Tiller twice. Sparse tables are read at
their first entry and canonical ones have one for each key (Map.wf), but these statements ask no such thing of the state.
A pass over every Tiller (State.mapTillers) writes the entries in turn, so there the second one is what is left: such a
pass takes a Tiller back to what its other entry says. -/

namespace Sys2Proof.Laws

open Sys2Proof.Machine Sys2Proof.Safety

/-! ### A table that lists Tiller 0 twice -/

/-- The part in service, with Tiller 0 listed twice: it reads as `x`. -/
def twice (x y : Tiller) : State :=
  { State.reset with
    power := { State.reset.power with porst := false, vcore := true, vaon := true, service := true }
    tillers := [(0, x), (0, y)] }

/-- Tiller 0 at an instruction of its own Desk. -/
def working : Tiller := { pos := homePos 0, pc := 0x080000001000, fq := [(0x080000001000, 0x080000001000)] }

/-- What the next state gives, where there is one. -/
def nextGives {α : Type} (o : Out) (f : State → α) : Option α :=
  match o with
  | .next s => some (f s)
  | _ => none

theorem eq_of_nextGives {α : Type} {o : Out} {s : State} {f : State → α} {v : α} (h : nextGives o f = some v)
    (ho : o = .next s) : f s = v := by
  rw [ho] at h
  exact Option.some.inj h

/-- Eight lines of one L2 set: the line at 0x1000, of DRAM or of a Desk, takes the place of one of them. -/
def fullSet : Lines := (List.range 8).map (fun i => (0x200000 + 0x40000 * i + 0x1000, false))

/-! ### STORE_BUFFER_DRAIN -/

/-- A buffered store of one byte to a line of the Desk, cached. -/
def cachedStore : SbEntry :=
  { line := 0x080000001100, bytes := [(0, 5)], side := false, ewa := false, isOpen := true, grp := 0, size := 0, ring := 0,
    cached := true }

/-- One store is buffered, and the other entry of the Tiller buffers it twice. -/
def draining : State :=
  twice { working with sb := [cachedStore] } { working with sb := [cachedStore, cachedStore] }

/-- Refutes O9: a drain that takes its line from the other caches (State.own) passes over every Tiller; where the table
lists the draining Tiller twice, a store is left in its buffer. -/
theorem not_storeDrainWritesItsBytes : ¬ Obligations.StoreDrainWritesItsBytes := by
  unfold Obligations.StoreDrainWritesItsBytes
  intro h
  obtain ⟨s', hs', hsb, -⟩ := h draining 0 0 cachedStore (by decide +kernel) (by decide +kernel) (by decide +kernel)
    (by decide +kernel) (by decide +kernel) (by decide +kernel) (by decide +kernel)
    (fun hd => absurd hd (by decide +kernel))
  have hleft : nextGives (exec (.storeBufferDrain 0 0 false) draining) (fun s => (s.tiller 0).sb) =
      some [cachedStore] := by decide +kernel
  rw [eq_of_nextGives hleft hs'] at hsb
  exact absurd hsb (by decide +kernel)

/-! ### Data returns -/

/-- A load of one byte waits for its data, cached; the other entry of the Tiller has 7 in g2. -/
def loading : State :=
  let x : Tiller := { working with stall := .load [(0x080000001000, 1)] [true] false 0x080000001000 1 }
  { twice x (x.put 2 7) with l2 := [(sheafOf (homePos 0), fullSet)] }

/-- Refutes O23: a load that fills a line drops the line which leaves the L2 from every Tiller's caches; where the table
lists the loading Tiller twice, a register other than rd changes. -/
theorem not_dataReturns : ¬ Obligations.DataReturns := by
  unfold Obligations.DataReturns
  intro h
  obtain ⟨hload, -⟩ := h loading loading 0 0x080000001000 1 0x080000001000 0 0 0 false true 1 .load .ok
    { secure := true, asid := 0, vpn := 0, size := 12, ppn := 0, bits := 0 } (by decide +kernel)
  obtain ⟨s', hs', -, ⟨-, -, hgr⟩, -⟩ := hload (by decide +kernel) (by decide +kernel) (by decide +kernel)
  have hchanged : nextGives (exec (.loadDataReturn 0 .ok) loading) (fun s => s.gr 0 2) = some 7 := by decide +kernel
  have h2 := hgr 2 (by decide)
  rw [eq_of_nextGives hchanged hs'] at h2
  exact absurd h2 (by decide +kernel)

/-! ### Long instructions -/

/-- HUSKSUM of the 64 bytes at 0x1000 of DRAM: channel 0 holds 1 GB, and region 0 is of it. The other entry of the Tiller
has 7 in g5. -/
def summing : State :=
  let x : Tiller := (working.put 2 0x1000).put 3 64
  let s : State := { twice x (x.put 5 7) with l2 := [(sheafOf (homePos 0), fullSet)] }
  let s := (s.modChan 0 (fun c => { c with dimm := ⟨1, 1, false, 24, true⟩ })).setFld (Reg.dcStat 0) F.DcStat.state chanService
  ((s.setFld (Reg.dramRgnA 0) F.DramRgnA.limit 1).setFld (Reg.dramRgnB 0) F.DramRgnB.mode 0).setFld
    (Reg.dramRgnB 0) F.DramRgnB.chmask 1

theorem summing_ready : Ready summing 0 where
  runs := by decide +kernel
  free := by decide +kernel
  due := by decide +kernel
  fetched := by decide +kernel
  entry c h := by
    have hn : summing.nowIn 0 = none := by decide +kernel
    rw [hn] at h
    cases h

theorem summing_reads : BlockReads (started summing 0) 0 0x1000 64 0x1000 where
  checked := by decide +kernel
  plain := ⟨by decide +kernel, by decide +kernel⟩
  whole := by decide +kernel
  thawed := by decide +kernel
  sound := by decide +kernel

/-- Refutes O21: HUSKSUM of a cached line drops the line which leaves the L2 from every Tiller's caches; where the table
lists the Tiller twice, a register that is no operand changes. -/
theorem not_longInstructionBlocks : ¬ Obligations.LongInstructionBlocks := by
  unfold Obligations.LongInstructionBlocks
  intro h
  obtain ⟨-, -, -, hsum⟩ := h summing 0 1 2 3 0x1000 0 summing_ready (by decide +kernel)
  obtain ⟨s', hs', hg, -⟩ := hsum (by decide +kernel) summing_reads
  have hchanged : nextGives (exec (.husksum 0 1 2 3) summing) (fun s => s.gr 0 5) = some 7 := by decide +kernel
  have h5 := hg 5
  rw [eq_of_nextGives hchanged hs'] at h5
  exact absurd h5 (by decide +kernel)

/-! ### MILL_OPERATION_COMPLETE -/

/-- A SHAKE-256 operation of a Tiller that waits for it; the other entry of the Tiller has 7 in g2. -/
def milling : State :=
  let x : Tiller := { working with
    stall := .mill 0 1, slots := (#v[.running 5 0 0 0x080000001200 0x400 0 [] [] 64, .empty, .empty, .empty]) }
  { twice x (x.put 2 7) with smills := [(0, ⟨.tiller 0 0, 0, some (0, 0), false, []⟩)] }

/-- Refutes O22: the output of an operation is dropped from every Tiller's data cache as it is written; where the table
lists the waiting Tiller twice, a register other than rd changes. -/
theorem not_millcalls : ¬ Obligations.Millcalls := by
  unfold Obligations.Millcalls
  rintro ⟨-, h⟩
  obtain ⟨s', hs', -, -, -, -, ⟨-, -, hgr⟩, -⟩ := h milling false 0 0 0 5 0 0 0x080000001200 0x400 0 0 [] [] [] 64 1 false
    (by decide +kernel) (by decide +kernel) (by decide +kernel) (by decide +kernel) (by decide +kernel)
    (by decide +kernel) (by decide +kernel) (by decide +kernel) (by decide +kernel) (.inl (by decide +kernel))
  have hchanged : nextGives (exec (.millOperationComplete false 0 .done) milling) (fun s => s.gr 0 2) = some 7 := by
    decide +kernel
  have h2 := hgr 2 (by decide)
  rw [eq_of_nextGives hchanged hs'] at h2
  exact absurd h2 (by decide +kernel)

end Sys2Proof.Laws
end

section
/-! SUPPORT. The return through a frame that names no carrel (R290): what it makes of the Tiller, and what it leaves. -/

namespace Sys2Proof.Laws

open Sys2Proof.Machine Sys2Proof.Safety

variable {s : State} {t r : Nat} {f : Frame} {x y : Tiller}

/-- What a return through frame `f` of ring `r` makes of a Tiller, where the frame names no carrel: its general
registers, MASK and the flush of the predictor apart. -/
def rewound (r : Nat) (f : Frame) (x : Tiller) : Tiller :=
  let key := (r, (bank x.sp r).toNat)
  { x with
    sp := setBank x.sp r (bank x.sp r + 64)
    ring := f.ring
    lineWait := []
    overlap := x.overFrames.contains key
    overFrames := x.overFrames.filter (· != key)
    fq := []
    stall := .none
    pcall := none
    pc := f.epc &&& ~~~3#64
    progress := f.flags.getLsbD 3
    dslot := if f.flags.getLsbD 4 then some (f.dtarget &&& ~~~3#64) else none
    carrel := if f.flags.getLsbD 8 then some (f.flags.toNat / 65536 % 256) else none }

/-- The general registers and MASK of the frame taken too. -/
def framed (r : Nat) (f : Frame) (x : Tiller) : Tiller :=
  (((rewound r f x).put 30 f.g30).put 31 f.g31).setMask (f.msave.getLsbD 8) (f.msave.toNat % 4)

theorem restore_eq (hf : f.token = none) : s.restore t r f = (s.modTiller t (framed r f)).modTiller t
    (fun x => if x.secure = (s.tiller t).secure then x else x.flushPred) := by
  unfold State.restore
  simp only [hf, Option.isSome_none, Bool.false_eq_true, if_false]
  rfl

/-- Tiller `y` is Tiller `x` returned through frame `f` of ring `r`. -/
structure Returned (x y : Tiller) (r : Nat) (f : Frame) : Prop where
  pc : y.pc = f.epc &&& ~~~3#64
  ring : y.ring = f.flags.toNat % 4
  progress : y.progress = f.flags.getLsbD 3
  dslot : y.dslot = if f.flags.getLsbD 4 then some (f.dtarget &&& ~~~3#64) else none
  sp : y.sp = setBank x.sp r (bank x.sp r + 64)
  gr : ∀ q, y.get q = if q = 30 then f.g30 else if q = 31 then f.g31 else x.get q
  mask : y.mask (f.msave.getLsbD 8) = f.msave.toNat % 4
  cause : y.cause = x.cause
  epc : y.epc = x.epc
  pcall : y.pcall = none

theorem Returned.flushPred (h : Returned x y r f) : Returned x y.flushPred r f :=
  ⟨h.pc, h.ring, h.progress, h.dslot, h.sp, h.gr, h.mask, h.cause, h.epc, h.pcall⟩

theorem get_setMask (x : Tiller) (sec : Bool) (v : Nat) (q : Fin 32) : (x.setMask sec v).get q = x.get q := by
  cases sec <;> rfl

/-- The two general registers that a frame holds. -/
theorem get_put_frame (x : Tiller) (v w : Word) (q : Fin 32) :
    ((x.put 30 v).put 31 w).get q = if q = 30 then v else if q = 31 then w else x.get q := by
  simp only [tiller_get_put]
  by_cases h0 : q = 0
  · subst h0
    rfl
  · by_cases h31 : q = 31
    · subst h31
      rfl
    · simp only [h0, h31, if_false]

theorem framed_eq (r : Nat) (f : Frame) (x : Tiller) :
    ∃ g mo ms, framed r f x = { rewound r f x with g := g, maskOpen := mo, maskSecure := ms } := by
  obtain ⟨g, hg⟩ := put_eq (rewound r f x) 30 f.g30
  obtain ⟨g', hg'⟩ := put_eq { rewound r f x with g := g } 31 f.g31
  obtain ⟨mo, ms, hm⟩ := setMask_eq { rewound r f x with g := g' } (f.msave.getLsbD 8) (f.msave.toNat % 4)
  exact ⟨g', mo, ms, by rw [framed, hg, hg', ← hm]⟩

theorem returned_framed (x : Tiller) (r : Nat) (f : Frame) : Returned x (framed r f x) r f := by
  have hgr (q : Fin 32) := (get_setMask _ (f.msave.getLsbD 8) (f.msave.toNat % 4) q).trans
    (get_put_frame (rewound r f x) f.g30 f.g31 q)
  have hmask := setMask_mask (((rewound r f x).put 30 f.g30).put 31 f.g31) (f.msave.getLsbD 8) (f.msave.toNat % 4)
  obtain ⟨g, mo, ms, h⟩ := framed_eq r f x
  constructor
  case gr => exact hgr
  case mask => exact hmask
  all_goals rw [h]; rfl

/-- A return through a frame that names no carrel makes this of its Tiller. -/
theorem returned_restore (hf : f.token = none) : Returned (s.tiller t) ((s.restore t r f).tiller t) r f := by
  have h := returned_framed (s.tiller t) r f
  rw [restore_eq hf, modTiller_self, modTiller_self]
  split
  · exact h
  · exact h.flushPred

theorem restore_outside (hf : f.token = none) : OutsideSame s (s.restore t r f) t := by
  rw [restore_eq hf]
  exact outside_trans (outside_modTiller s t _) (outside_modTiller _ t _)

theorem mem_restore (hf : f.token = none) : (s.restore t r f).mem = s.mem := by
  rw [restore_eq hf, mem_modTiller, mem_modTiller]

theorem bank_setBank_self (v : Vector Word 4) (r : Nat) (w : Word) : bank (setBank v r w) r = w := by
  unfold bank setBank
  rw [Vector.getElem_set, if_pos rfl]

end Sys2Proof.Laws
end

section
/-! OBLIGATION O27. The return from a Proctor service (R290, R294). -/

namespace Sys2Proof.Laws

open Sys2Proof.Machine Sys2Proof.Safety

variable {s u : State} {t status : Nat} {v : Word} {f : Frame}

/-- The Proctor's answer: the return through the frame, then the status and the value. -/
theorem proctorReturn_of_topFrame (h : s.topFrame t = (some f, u)) :
    s.proctorReturn t status v = some (((u.restore t 0 f).setGr t 1 (BitVec.ofNat 64 status)).setGr t 2 v) := by
  rw [State.proctorReturn, h]

/-- The status and the value go to general registers only. -/
theorem tiller_answered (s : State) (t : Nat) (a v : Word) :
    ∃ g, ((s.setGr t 1 a).setGr t 2 v).tiller t = { s.tiller t with g := g } := by
  obtain ⟨g1, h1⟩ := put_eq (s.tiller t) 1 a
  obtain ⟨g2, h2⟩ := put_eq { s.tiller t with g := g1 } 2 v
  exact ⟨g2, by rw [tiller_setGr, tiller_setGr, h1, h2]⟩

theorem gr_answered (s : State) (t : Nat) (a v : Word) (q : Fin 32) : ((s.setGr t 1 a).setGr t 2 v).gr t q =
    if q = 2 then v else if q = 1 then a else s.gr t q := by
  rw [gr_setGr, gr_setGr]
  by_cases h0 : q = 0
  · subst h0
    rfl
  · simp only [h0, if_false]

/-- Settles O27: the Tiller returns through the frame, and then two of its general registers are written. -/
theorem serviceReturns : Obligations.ServiceReturns := by
  intro s u t status v f h hf
  have hr : Returned (u.tiller t) ((u.restore t 0 f).tiller t) 0 f := returned_restore hf
  have ho : OutsideSame u (u.restore t 0 f) t := restore_outside hf
  obtain ⟨g, hx⟩ := tiller_answered (u.restore t 0 f) t (BitVec.ofNat 64 status) v
  have hgr := gr_answered (u.restore t 0 f) t (BitVec.ofNat 64 status) v
  refine ⟨_, proctorReturn_of_topFrame h, ?_, ?_, hgr 1, hgr 2, (hgr 30).trans (hr.gr 30), (hgr 31).trans (hr.gr 31),
    fun q h3 h30 => ?_, ?_, ?_, ?_, fun p hp => ?_⟩
  · rw [hx]
    exact hr.pc
  · rw [hx]
    exact hr.ring
  · have hne {k : Fin 32} (hk : k.val < 3 ∨ 30 ≤ k.val) : ¬ q = k := fun hq => by
      subst hq
      omega
    have hq := hr.gr q
    rw [if_neg (hne (.inr (by decide))), if_neg (hne (.inr (by decide)))] at hq
    rw [hgr, if_neg (hne (.inl (by decide))), if_neg (hne (.inl (by decide)))]
    exact hq
  · rw [hx]
    exact hr.pcall
  · rw [hx]
    exact (congrArg (bank · 0) hr.sp).trans (bank_setBank_self _ 0 _)
  · rw [State.setGr, State.setGr, mem_modTiller, mem_modTiller, mem_restore hf]
  · rw [(setGr_outside _ t 2 v).others p hp, (setGr_outside _ t 1 _).others p hp, ho.others p hp]

end Sys2Proof.Laws
end

section
/-! OBLIGATION O28. The Proctor's services (R291, R294, R297, R302, R311, R312, R417). -/

namespace Sys2Proof.Laws

open Sys2Proof.Machine Sys2Proof.Safety

variable {s u : State} {t n r : Nat} {f : State → Nat → Option Svc}

/-! ### A service runs for its open PCALL (R294) -/

theorem serviceOpen_runs (h : ServiceOpen s t n r) :
    s.tillerRuns t = true ∧ (s.tiller t).stall = .none ∧
      (secureRing r = true ∨ (s.tiller t).sb.isEmpty = true) :=
  ⟨h.runs, h.free, h.drained.imp_right List.isEmpty_iff.2⟩

/-- A service that its caller's ring may call answers what it returns. -/
theorem service_answers (h : ServiceOpen s t n r) (hr : (svcRings n).contains r = true) {v : Svc} (hf : f s r = some v)
    (hu : v.1.proctorReturn t v.2.1 v.2.2 = some u) : (.next (s.service t n f) : Out) = .next u := by
  unfold State.service
  simp only [h.opened, true_and, if_pos (serviceOpen_runs h), hr, if_true, hf, Option.bind_some, hu, Option.getD_some]

/-- A service that its caller's ring may not call returns NOT_PERMITTED. -/
theorem service_notPermitted (h : ServiceOpen s t n r) (hr : (svcRings n).contains r = false)
    (hu : s.freshWord.2.proctorReturn t St.notPermitted s.freshWord.1 = some u) :
    (.next (s.service t n f) : Out) = .next u := by
  unfold State.service
  simp only [h.opened, true_and, if_pos (serviceOpen_runs h), hr, Bool.false_eq_true, if_false, hu, Option.getD_some]

/-! ### Leases (R311, R312) -/

theorem leaseTake_granted (hd : (s.gr t 1).toNat < 12) (hn : s.leaseCount (s.gr t 1).toNat < 255) :
    s.leaseTake t = (s.setLease (s.gr t 1).toNat (s.leaseCount (s.gr t 1).toNat + 1), St.ok,
      BitVec.ofNat 64 (s.leaseCount (s.gr t 1).toNat + 1)) := by
  unfold State.leaseTake
  rw [if_neg (Nat.not_le.2 hd), if_neg (Nat.not_le.2 hn)]

theorem leaseRelease_granted (hd : (s.gr t 1).toNat < 12) (hn : s.leaseCount (s.gr t 1).toNat ≠ 0) :
    s.leaseRelease t = (if s.leaseCount (s.gr t 1).toNat = 1 then (s.setLease (s.gr t 1).toNat 0).runOffQueue
      else s.setLease (s.gr t 1).toNat (s.leaseCount (s.gr t 1).toNat - 1), St.ok,
      BitVec.ofNat 64 (s.leaseCount (s.gr t 1).toNat - 1)) := by
  unfold State.leaseRelease
  rw [if_neg (Nat.not_le.2 hd), if_neg hn]
  by_cases h1 : s.leaseCount (s.gr t 1).toNat = 1
  · simp only [h1, Nat.sub_self, if_true]
  · have h2 : s.leaseCount (s.gr t 1).toNat - 1 ≠ 0 := by omega
    simp only [h1, h2, if_false]

/-! ### Domains (R312, R417) -/

section
variable (hd : (s.gr t 1).toNat < 12) (hn : s.mayName t r (s.gr t 1).toNat = true)
include hd hn

theorem serviceOff_done {s1 : State} (ho : s.requestOff (s.gr t 1).toNat (.tiller t) = .done s1) :
    s.serviceOff t r = some (s1.status St.ok) := by
  simp only [State.serviceOff, if_neg (Nat.not_le.2 hd), hn, ho, Bool.not_true, Bool.false_eq_true, if_false]

theorem serviceOff_leased {s1 : State} (ho : s.requestOff (s.gr t 1).toNat (.tiller t) = .leased s1) :
    s.serviceOff t r = some (s1.status St.leased) := by
  simp only [State.serviceOff, if_neg (Nat.not_le.2 hd), hn, ho, Bool.not_true, Bool.false_eq_true, if_false]

theorem serviceOff_refused (ho : s.requestOff (s.gr t 1).toNat (.tiller t) = .refused) :
    s.serviceOff t r = some (s.status St.notPermitted) := by
  simp only [State.serviceOff, if_neg (Nat.not_le.2 hd), hn, ho, Bool.not_true, Bool.false_eq_true, if_false]

theorem serviceOn_named : s.serviceOn t r = (s.requestOn (s.gr t 1).toNat).status St.ok := by
  unfold State.serviceOn
  rw [if_neg (Nat.not_le.2 hd), if_neg (by rw [hn]; exact Bool.false_ne_true)]

end

/-! ### Carrels and the open world (R291, R297, R302) -/

theorem reopen_granted (hd : (s.gr t 1).toNat < 64) (hsome : (s.tillerFor t).isSome = true)
    (hsame : s.tillerFor (s.gr t 1).toNat = s.tillerFor t) :
    s.reopen t = (s.modTiller (s.gr t 1).toNat (fun x => { x with openEn := true })).status St.ok :=
  if_pos ⟨hd, hsame, hsome⟩

theorem carrelDestroy_granted (hd : (s.gr t 1).toNat < 256) (hv : (s.carrel t (s.gr t 1).toNat).valid = true)
    (hh : s.tillerFor t = some (s.carrel t (s.gr t 1).toNat).house)
    (hr : s.carrelRunning (s.gr t 1).toNat = false) :
    s.carrelDestroy t = (s.clearCarrel t (s.gr t 1).toNat).status St.ok :=
  if_pos ⟨hd, hv, hh, by rw [hr]; rfl⟩

theorem proctorServices : ProctorServices := by
  intro s t r d n w
  refine ⟨fun h hd hn u hu => ?_, fun h hd hn u hu => ?_, fun h hd hsome hsame u hu => ?_, fun h hr hd hn => ?_,
    fun h hr hd hn u hu => ?_, fun h hd hv hh hrun u hu => ?_, fun h u hu => ?_⟩
  · exact service_answers h rfl (congrArg some (leaseTake_granted hd hn)) hu
  · exact service_answers h rfl (congrArg some (leaseRelease_granted hd hn)) hu
  · exact service_answers h rfl (congrArg some (reopen_granted hd hsome hsame)) hu
  · have hrings : (svcRings svcOff).contains r = true := by
      obtain rfl | rfl := hr <;> rfl
    exact ⟨fun s1 u ho hu => service_answers h hrings (serviceOff_done hd hn ho) hu,
      fun s1 u ho hu => service_answers h hrings (serviceOff_leased hd hn ho) hu,
      fun u ho hu => service_answers h hrings (serviceOff_refused hd hn ho) hu⟩
  · have hrings : (svcRings svcOn).contains r = true := by
      obtain rfl | rfl := hr <;> rfl
    exact service_answers h hrings (congrArg some (serviceOn_named hd hn)) hu
  · exact service_answers h rfl (congrArg some (carrelDestroy_granted hd hv hh hrun)) hu
  · exact service_notPermitted h rfl hu

theorem carrelCreate_accepted {s s1 s2 : State} {t h c : Nat} {b : List Byte} (hh : s.tillerFor t = some h)
    (hb : s.readDescriptor t 2 = (some b, s1)) (hk : s1.carrelAccepted t h (s1.carrelOf b h) = true)
    (hc : s1.pickFree 256 (fun c => (s1.carrel t c).valid) = (some c, s2)) :
    s.carrelCreate t 2 =
      ((s2.writeCarrel t c (slice b 0 36 ++ toBytes h 1 ++ toBytes 1 1 ++ zeros 26)).zeroRange
        (s1.carrelOf b h).dataBase ((s1.carrelOf b h).dataLimit - (s1.carrelOf b h).dataBase), St.ok,
        BitVec.ofNat 64 c) := by
  simp only [State.carrelCreate, hb, hh, hk, if_true, hc]

theorem execYield_resumes {s s1 : State} {t : Nat} {f : Frame} (hp : (s.tiller t).pcall = some (svcYield, 1))
    (hruns : s.tillerRuns t = true) (hsb : (s.tiller t).sb = [])
    (hf : (s.modTiller t (fun x => { x with sp := setBank x.sp 0 (bank x.sp 0 + 64), pcall := none })).topFrame t =
      (some f, s1)) (hok : s1.frameOk t 0 f = true) :
    exec (.yield t) s = .next ((s1.restore t 0 f).modTiller t (fun x =>
      { x with maskSecure := x.keptMask.getD x.maskSecure, keptMask := none })) := by
  have hto : s.yieldTo t = (s1.restore t 0 f).modTiller t (fun x =>
      { x with maskSecure := x.keptMask.getD x.maskSecure, keptMask := none }) := by
    simp only [State.yieldTo, hf, hok, if_true]
  show execYield t s = _
  simp only [execYield, hp, hruns, hsb, List.isEmpty_nil, and_self, if_true, hto]

theorem carrelCreateAndYield : CarrelCreateAndYield := by
  intro s s1 s2 t h c b f
  refine ⟨fun hopen hh hb hk hc u hu => ?_, fun hp hruns hsb hf hok => execYield_resumes hp hruns hsb hf hok⟩
  exact service_answers hopen rfl (congrArg some (carrelCreate_accepted hh hb hk hc)) hu

/-- Settles O28: each service that its caller's ring may call answers what it returns, and YIELD resumes the frame
below. -/
theorem proctorCalls : Obligations.ProctorCalls := ⟨proctorServices, carrelCreateAndYield⟩

end Sys2Proof.Laws
end

section
/-! OBLIGATION O19. GCALL (R288, R292, R293). -/

namespace Sys2Proof.Laws

open Sys2Proof.Machine Sys2Proof.Safety

variable {s : State} {t r a code va : Nat} {tw ew g : Word}

/-! ### Bytes at hand -/

/-- An instruction reads the bytes of plain pieces as its Tiller sees them. -/
theorem takeBytes_plain {p : Nat × Nat} {ps : List (Nat × Nat)} (h : TakesPlain s t (p :: ps))
    (f : List Byte → State → Res) : s.takeBytes t va (p :: ps) f = f (s.pieceBytes t (p :: ps)) s := by
  have hside : (s.addrType (s.tiller t).pos p.1).side = false := (h p List.mem_cons_self).1
  have hwait : (p :: ps).any (fun p => (s.tiller t).sideLine (lineOf p.1) || s.frozenAt p.1) = false := by
    rw [List.any_eq_false]
    intro q hq
    obtain ⟨-, hline, hfrozen, -⟩ := h q hq
    simp only [hline, hfrozen, Bool.or_self, Bool.false_eq_true, not_false_eq_true]
  have herror : (p :: ps).find? (fun p => !(s.tiller t).allBuffered p.1 p.2 && s.readError p.1 p.2) = none := by
    rw [List.find?_eq_none]
    intro q hq
    obtain ⟨-, -, -, hbuf | herr⟩ := h q hq
    · simp only [hbuf, Bool.not_true, Bool.false_and, Bool.false_eq_true, not_false_eq_true]
    · simp only [herr, Bool.and_false, Bool.false_eq_true, not_false_eq_true]
  unfold State.takeBytes
  simp only [List.head?_cons, Option.map_some, Option.getD_some, hside, Bool.false_eq_true, if_false, hwait, herror]

theorem pieceBytes_single (s : State) (t a n : Nat) : s.pieceBytes t [(a, n)] = s.viewBytes t a n := by
  simp only [State.pieceBytes, List.map_cons, List.map_nil, List.flatten_cons, List.flatten_nil, List.append_nil]

/-! ### An entry through a gate (R288, R293) -/

/-- The entry that a gate of ring `r` makes at address `g`. -/
def gateEntry (r : Nat) (tw ew g : Word) : Entry := ⟨r, Ex.gate, false, 0, r, tw, ew, some g⟩

/-- The last steps of an entry through a gate: the pc is the gate's. -/
theorem EntryMade.throughGate {x y : Tiller} (h : EntryMade x y r a code tw ew) (g : Word) (keep : Prop)
    [Decidable keep] :
    let z := y.setMask (secureRing r) 3
    let w := if keep then z else z.flushPred
    let v := { w with pc := g }
    EntryMade x v r a code tw ew ∧ v.mask (secureRing r) = 3 ∧ v.pc = g := by
  intro z w v
  obtain ⟨hw, hmask, -⟩ := h.finished keep
  exact ⟨⟨hw.ring, hw.cause, hw.epc, hw.sp, hw.cleared, hw.entry, hw.g, hw.halted, hw.sb⟩, hmask, rfl⟩

/-- What a gate's entry writes is what an exception's would; only the pc comes from the gate. -/
theorem enterAt_gate (hc : (s.tiller t).carrel = none) (hroom : (s.tiller t).room a = true) :
    ∃ s', s.enterAt t (gateEntry r tw ew g) a = some s' ∧ OutsideSame s s' t ∧
      EntryMade (s.tiller t) (s'.tiller t) r a Ex.gate tw ew ∧ (s'.tiller t).mask (secureRing r) = 3 ∧
      (s'.tiller t).pc = g := by
  unfold State.enterAt
  extract_lets x token s1 y sec fr s2 s3 s4
  have htoken : token = none := by simp only [token, x, hc, Option.map_none]
  have hs1 : s1 = s := by simp only [s1, x, hc]
  have hy : y = x := by simp only [y, hs1, x]
  have hfr : fr = x.frame (plainEntry r Ex.gate tw ew) none := by
    simp only [fr, htoken, hy]
    rfl
  have hx2 : s2.tiller t = _ := modTiller_self s1 t _
  have hcode : ¬ (!x.secure ∧ !(gateEntry r tw ew g).intr ∧
      ((gateEntry r tw ew g).code = Ex.escalated ∨ (gateEntry r tw ew g).code = Ex.watermark)) :=
    fun h => absurd h.2.2 (by decide : ¬ (Ex.gate = Ex.escalated ∨ Ex.gate = Ex.watermark))
  have hs4 : s4 = s2.mark t x.ring evException 1 := if_neg Bool.false_ne_true
  rw [if_neg (by rw [hy, hroom]; exact Bool.false_ne_true), if_neg hcode, hs4]
  refine ⟨_, rfl, outside_trans (by rw [← hs1]; exact outside_modTiller s1 t _) (mark_outside _ t _ _ _ _), ?_⟩
  rw [tiller_mark, hx2, hs1, hfr, htoken]
  refine EntryMade.throughGate (keep := secureRing x.ring = secureRing r) ?_ g
  have hb := ctlSame_buffer x a (x.frame (plainEntry r Ex.gate tw ew) none) (s.addrType x.pos a).cached
  exact
    { ring := rfl
      cause := congrArg (fun v => setBank v r (faultCause Ex.gate x.ring r)) hb.cause
      epc := congrArg (fun v => setBank v r ew) hb.epc
      sp := congrArg (fun v => setBank v r (bank v r - 64)) hb.sp
      cleared := ⟨rfl, rfl, rfl⟩
      entry := hb.entry
      g := g_buffer x a _ _
      halted := halted_buffer x a _ _
      sb := ⟨_, rfl⟩ }

/-- What an entry leaves (R288), wherever it goes on. -/
theorem EntryMade.enteredAt {s' : State} {target : Word} (h : EntryMade (s.tiller t) (s'.tiller t) r a code tw ew)
    (hmask : (s'.tiller t).mask (secureRing r) = 3) (hpc : (s'.tiller t).pc = target) (ho : OutsideSame s s' t)
    (hr : r < 4) (ha : a % 64 = 0) (hy : Youngest (s.tiller t) a) :
    Entered s s' t r a (faultCause code (s.tiller t).ring r) tw ew target where
  ring := h.ring
  pc := hpc
  cause := by rw [h.cause, bank_setBank_self]
  epc := by rw [h.epc, bank_setBank_self]
  sp := by rw [h.sp, bank_setBank_self]
  mask := hmask
  cleared := h.cleared
  others q hq hne := by
    rw [h.cause, h.epc, h.sp]
    simp only [bank_setBank hq hr, if_neg hne, and_self]
  entry := h.entry
  gr := gr_of_g h.g
  frame i hi := by
    obtain ⟨c, hc⟩ := h.sb
    rw [buffered_congr hc, buffered_buffer (by rw [length_frame]; omega) hy, length_frame, if_pos (by omega),
      Nat.add_sub_cancel_left]
    rfl
  outside := ho

/-- An entry through a gate whose frame fits is made. -/
theorem enter_gate (h : EntryFits s t r a) (hr : r < 4) :
    ∃ s', s.enter t (gateEntry r tw ew g) = some s' ∧
      Entered s s' t r a (faultCause Ex.gate (s.tiller t).ring r) tw ew g := by
  have ht := applyPending_tiller h.applied
  obtain ⟨s', hs', ho, hmade, hmask, hpc⟩ := enterAt_gate (s := s.applyPending t) (t := t) (r := r) (a := a)
    (tw := tw) (ew := ew) (g := g) (by rw [ht]; exact h.plain) (by rw [ht]; exact h.room)
  rw [ht] at hmade
  have hf : (s.applyPending t).frameAt t (gateEntry r tw ew g).ring = (.at a, s.applyPending t) := h.frame
  refine ⟨s', ?_, hmade.enteredAt hmask hpc (outside_trans (applyPending_outside h.applied) ho) hr h.aligned
    h.youngest⟩
  unfold State.enter
  simp only [hf]
  exact hs'

/-! ### GCALL (R292, R293) -/

/-- The ring that GCALL's operand names. -/
def gcallRing (imm : BitVec 16) : Nat := imm.toNat / 256 % 4

/-- The entry page of that ring, which begins with its gates. -/
def gcallPage (x : Tiller) (imm : BitVec 16) : Nat := (bank x.entry (gcallRing imm)).toNat / 4096 * 4096

/-- The entry that GCALL makes through a gate of offset `off`. -/
def gcallEntry (x : Tiller) (imm : BitVec 16) (off : Nat) : Entry :=
  gateEntry (gcallRing imm) (BitVec.ofNat 64 imm.toNat) (x.pc + 4) (BitVec.ofNat 64 (gcallPage x imm + off))

theorem execGcall_entered {imm : BitVec 16} {pa off : Nat} {s' : State} (h : Ready s t) (hd : (s.tiller t).dslot = none)
    (hn : imm.toNat / 1024 = 0) (hr0 : gcallRing imm ≠ 0) (hsec : secureRing (gcallRing imm) = (s.tiller t).secure)
    (hle : gcallRing imm ≤ (s.tiller t).ring)
    (hacc : (started s t).accessPieces true t (gcallRing imm) .load none
      [(gcallPage (s.tiller t) imm + 8 * (imm.toNat % 256), 8)] = (.ok [(pa, 8)], started s t))
    (hplain : TakesPlain (started s t) t [(pa, 8)])
    (hgate : gateOffset (ofBytes (s.viewBytes t pa 8)) (s.tiller t).ring = some off)
    (hs' : ((started s t).retireHere t 16).enter t (gcallEntry (s.tiller t) imm off) = some s') :
    exec (.gcall t imm) s = .next s' := by
  have hring : ((started s t).tiller t).ring = (s.tiller t).ring := by rw [started_tiller]
  have hsecure : ((started s t).tiller t).secure = (s.tiller t).secure := by rw [Tiller.secure, Tiller.secure, hring]
  have hpc : ((started s t).tiller t).pc = (s.tiller t).pc := by rw [started_tiller]
  have hentry : ((started s t).tiller t).entry = (s.tiller t).entry := by rw [started_tiller]
  have hbytes : (started s t).pieceBytes t [(pa, 8)] = s.viewBytes t pa 8 := by
    rw [pieceBytes_of_stands (stands_started s t), pieceBytes_single]
  have hok : ¬ (gcallRing imm = 0 ∨ secureRing (gcallRing imm) ≠ (s.tiller t).secure ∨
      (s.tiller t).ring < gcallRing imm) := by
    rintro (h0 | h1 | h2)
    · exact hr0 h0
    · exact h1 hsec
    · omega
  simp only [gcallEntry, gateEntry, gcallPage, gcallRing] at hacc hs' hok
  show execGcall t imm s = _
  rw [execGcall, instr_ready h false _ (.inr hd)]
  simp only [hn, hring, hsecure, hentry, hpc, hok, hacc, takeBytes_plain hplain, hbytes, hgate, hs', if_false, ne_eq,
    not_true_eq_false, settle_done]

/-- Settles O19: GCALL reads its gate, retires where it stands and enters the gate's ring. -/
theorem gcallEntersTheGate : Obligations.GcallEntersTheGate := by
  intro s t a pa off imm h hd hr4 n r page s1 hn hr0 hsec hle hacc hplain hgate hfits
  have hring : (s1.tiller t).ring = (s.tiller t).ring := by
    obtain ⟨cl, h1⟩ := retireHere_tiller (started s t) t 16
    rw [h1, started_tiller]
  obtain ⟨s', hs', hentered⟩ := enter_gate (tw := BitVec.ofNat 64 n) (ew := (s.tiller t).pc + 4)
    (g := BitVec.ofNat 64 (page + off)) hfits (Nat.mod_lt _ (by decide))
  rw [hring] at hentered
  exact ⟨s', execGcall_entered h hd hn hr0 hsec hle hacc hplain hgate hs', hentered⟩

end Sys2Proof.Laws
end

section
/-! OBLIGATION O20. RETX (R289, R290). -/

namespace Sys2Proof.Laws

open Sys2Proof.Machine Sys2Proof.Safety

variable {s v : State} {t pa : Nat} {f : Frame}

/-! ### What RETX leaves before it returns -/

theorem closeWindow_outside (s : State) (t : Nat) : OutsideSame s (s.closeWindow t) t := by
  unfold State.closeWindow
  obtain ⟨cl, h | h⟩ := senseOne_eq s t
  · rw [h]
    exact outside_trans (outside_modTiller s t _) (outside_modTiller _ t _)
  · rw [h]
    exact outside_modTiller s t _

theorem topDown_outside (s : State) (t r k n : Nat) : OutsideSame s (s.topDown t r k n) t :=
  outside_of_regsOnly (topDown_regsOnly s t r k n) (rd_topDown s t r k n)

theorem retireHere_outside (s : State) (t n : Nat) : OutsideSame s (s.retireHere t n) t :=
  outside_trans (outside_modTiller s t _)
    (outside_trans (closeWindow_outside _ t) (outside_trans (mark_outside _ t t _ _ _) (topDown_outside _ t _ _ _)))

/-- The state in which RETX reads its frame, where no control register write is pending. -/
theorem tiller_applyPending_started (hp : (s.tiller t).pendCsr = []) :
    ((started s t).applyPending t).tiller t = { s.tiller t with carrel := s.nowIn t } := by
  rw [applyPending_tiller (by rw [started_tiller, hp]), started_tiller]

theorem applyPending_started_outside (hp : (s.tiller t).pendCsr = []) :
    OutsideSame s ((started s t).applyPending t) t :=
  outside_trans (stands_started s t).frame.outside (applyPending_outside (by rw [started_tiller, hp]))

/-- A frame that passes the checks of R290 is returned through, where a change of world finds the store buffer drained. -/
theorem returnThrough_ok {u : State} (hok : u.frameOk t (u.tiller t).ring f = true)
    (hdrained : f.sec = (u.tiller t).secure ∨ (u.tiller t).sb = []) :
    u.returnThrough t f = .done ((u.retireHere t 20).restore t (u.tiller t).ring f) := by
  have hdrain : (f.sec != (u.tiller t).secure && !(u.tiller t).sb.isEmpty) = false := by
    obtain hs | hs := hdrained <;> simp [hs]
  simp only [State.returnThrough, hok, hdrain, Bool.not_true, Bool.false_eq_true, if_false]

/-- RETX whose frame is at hand returns through it. -/
theorem execRetx_returns {u : State} (h : Ready s t) (hd : (s.tiller t).dslot = none)
    (hu : (started s t).applyPending t = u) (hsp : (bank (u.tiller t).sp (u.tiller t).ring).toNat % 64 = 0)
    (hacc : u.access t .load (bank (u.tiller t).sp (u.tiller t).ring).toNat 64 = (.ok [(pa, 64)], u))
    (hplain : TakesPlain u t [(pa, 64)]) (hret : u.returnThrough t (Frame.of (u.viewBytes t pa 64)) = .done v) :
    exec (.retx t) s = .next v := by
  show execRetx t s = _
  rw [execRetx, instr_ready h false _ (.inr hd)]
  simp only [hu, hsp, ne_eq, not_true_eq_false, if_false, State.data, hacc, takeBytes_plain hplain, pieceBytes_single,
    hret, settle_done]

/-- Settles O20: RETX applies what is pending, reads its frame, retires where it stands and returns. -/
theorem retxRestoresTheFrame : Obligations.RetxRestoresTheFrame := by
  intro s t pa h hd hp x f s1 hsp hacc hplain hok hf hdrained
  have hx : s1.tiller t = { s.tiller t with carrel := s.nowIn t } := tiller_applyPending_started hp
  have ho : OutsideSame s s1 t := applyPending_started_outside hp
  have hring : (s1.tiller t).ring = x.ring := by rw [hx]
  have hsecure : (s1.tiller t).secure = x.secure := by rw [Tiller.secure, Tiller.secure, hring]
  have hspv : (s1.tiller t).sp = x.sp := by rw [hx]
  have hsb : (s1.tiller t).sb = x.sb := by rw [hx]
  have hframe : Frame.of (s1.viewBytes t pa 64) = f := by rw [viewBytes_congr hsb ho.mem]
  rw [← hspv, ← hring] at hsp hacc
  rw [← hring] at hok
  rw [← hsecure, ← hsb] at hdrained
  have hexec : exec (.retx t) s = .next ((s1.retireHere t 20).restore t (s1.tiller t).ring f) :=
    execRetx_returns h hd rfl hsp hacc hplain (by rw [hframe]; exact returnThrough_ok hok hdrained)
  obtain ⟨cl, hy⟩ := retireHere_tiller s1 t 20
  have hret : Returned ((s1.retireHere t 20).tiller t)
    (((s1.retireHere t 20).restore t (s1.tiller t).ring f).tiller t) (s1.tiller t).ring f := returned_restore hf
  refine ⟨_, hexec, hret.pc, hret.ring, hret.progress, hret.dslot, ?_, hret.gr 30, hret.gr 31, fun q h30 h31 => ?_,
    hret.mask, ?_, ?_, outside_trans ho (outside_trans (retireHere_outside s1 t 20) (restore_outside hf))⟩
  · rw [← hring, hret.sp, bank_setBank_self, hy, hspv]
  · refine (hret.gr q).trans ?_
    rw [if_neg h30, if_neg h31, hy, hx]
    rfl
  · rw [hret.cause, hy, hx]
  · rw [hret.epc, hy, hx]

end Sys2Proof.Laws
end

section
/-! OBLIGATION O29. The TAP's instructions and the debug port (R308, R404, R448). -/

namespace Sys2Proof.Laws

open Sys2Proof.Machine Sys2Proof.Safety

/-! ### The TAP (R404, R448) -/

/-- While PORST_N is high the TAP takes its instruction. -/
theorem tapUp_of_porst {s : State} (h : s.power.porst = false) : s.tapUp = true := by
  rw [State.tapUp, h]
  rfl

theorem tapInstructions : TapInstructions := by
  intro s x y h
  have hup := tapUp_of_porst h
  exact ⟨congrArg _ (if_pos hup), congrArg _ (if_pos hup), congrArg _ (if_pos hup),
    congrArg _ (if_pos hup), congrArg _ (if_pos hup)⟩

/-! ### The grants of the installed pass (R308, Table 10.10) -/

section
variable {s : State} {t a : Nat}

theorem debugEn_of_inactive (h : s.flag Reg.passStat F.PassStat.active = false) (k : Nat) : s.debugEn k = false := by
  rw [State.debugEn, h, Bool.and_false, Bool.false_and]

theorem debugTiller_of_inactive (h : s.flag Reg.passStat F.PassStat.active = false) (t : Nat) :
    s.debugTiller t = false := by
  simp only [State.debugTiller, debugEn_of_inactive h, Bool.false_and, Bool.or_self, Bool.and_false]

theorem debugMarks_of_inactive (h : s.flag Reg.passStat F.PassStat.active = false) (a : Nat) :
    s.debugMarks a = false := by
  unfold State.debugMarks
  split
  · simp only [debugEn_of_inactive h, Bool.false_and, Bool.or_self]
  · rfl

theorem debugMay_of_inactive (h : s.flag Reg.passStat F.PassStat.active = false) (k : Acc) (a : Nat) :
    s.debugMay k a = false := by
  simp only [State.debugMay, debugEn_of_inactive h, debugMarks_of_inactive h, Bool.false_and, Bool.and_false,
    Bool.or_self]

/-- SEC_INV grants every Tiller. -/
theorem debugTiller_of_secInv (ht : t < 64) (h : s.debugEn 0 = true) : s.debugTiller t = true := by
  simp only [State.debugTiller, ht, h, decide_true, Bool.true_or, Bool.and_self]

/-- SEC_INV grants every aligned address. -/
theorem debugMay_of_secInv (ha : a % 8 = 0) (h : s.debugEn 0 = true) (k : Acc) : s.debugMay k a = true := by
  simp only [State.debugMay, ha, h, beq_self_eq_true, Bool.true_or, Bool.and_self]

end

/-! ### What the port reads does not depend on the TAP -/

/-- The state with the TAP in state `x`. -/
def tapped (s : State) (x : Tap) : State := { s with tap := x }

/-- The value that a window load gives, 0 where it gives none. -/
def winShown : WinRes → Word
  | .val v _ => v
  | _ => 0

theorem winShown_val (v : Word) (u : State) : winShown (.val v u) = v := rfl

section
variable (s : State) (x : Tap) (t : Nat)

theorem winShown_icuClaim_tapped (r : Nat) : winShown ((tapped s x).icuClaim t r) = winShown (s.icuClaim t r) := by
  have ht : (tapped s x).tiller t = s.tiller t := rfl
  have hc (d : Nat) : (tapped s x).claimable t d = s.claimable t d := rfl
  simp only [State.icuClaim, ht, hc]
  split
  · rfl
  · split
    · rfl
    · split <;> rfl

theorem winShown_icuEoi_tapped (r src : Nat) :
    winShown ((tapped s x).icuEoi t r src) = winShown (s.icuEoi t r src) := by
  have ht : (tapped s x).tiller t = s.tiller t := rfl
  simp only [State.icuEoi, ht]
  split
  · rfl
  · split
    · rfl
    · split <;> rfl

theorem chuteReadAt_tapped (c o : Nat) : ((tapped s x).chuteReadAt c o).1 = (s.chuteReadAt c o).1 := by
  have hc : ((tapped s x).modChute c (fun y => { y with staleAt := (tapped s x).uptime })).chute c =
    (s.modChute c (fun y => { y with staleAt := s.uptime })).chute c := rfl
  simp only [State.chuteReadAt, hc]
  split
  · rfl
  · split
    · rfl
    · split <;> rfl

theorem chutePort_tapped (c o : Nat) : ((tapped s x).chutePort t c o).1 = (s.chutePort t c o).1 := by
  have hrole : (tapped s x).chuteRole c = s.chuteRole c := rfl
  have hreader : (tapped s x).chuteReader c = s.chuteReader c := rfl
  have hmoves : (tapped s x).tillerMoves t = s.tillerMoves t := rfl
  have hchute : (tapped s x).chute c = s.chute c := rfl
  simp only [State.chutePort, hrole, hreader, hmoves, hchute]
  split
  · split
    · rfl
    · exact chuteReadAt_tapped s x c _
  · rfl

theorem chuteDrop_tapped (c : Nat) : ((tapped s x).chuteDrop c).1 = (s.chuteDrop c).1 := by
  have hchute : (tapped s x).chute c = s.chute c := rfl
  simp only [State.chuteDrop, hchute]
  split <;> rfl

theorem chuteCancel_tapped : ((tapped s x).chuteCancel t).1 = (s.chuteCancel t).1 := by
  have ht : (tapped s x).tiller t = s.tiller t := rfl
  simp only [State.chuteCancel, ht]
  split <;> rfl

theorem chuteAnswer_tapped :
    (tapped s x).chuteAnswer t = ((s.chuteAnswer t).1, tapped (s.chuteAnswer t).2 x) := by
  have ht : (tapped s x).tiller t = s.tiller t := rfl
  simp only [State.chuteAnswer, ht]
  split <;> rfl

/-- What a load from the window shows is no part of the TAP. -/
theorem winShown_winLoad_tapped (o : Nat) : winShown ((tapped s x).winLoad t o) = winShown (s.winLoad t o) := by
  have ht : (tapped s x).tiller t = s.tiller t := rfl
  have hrole (c : Nat) : (tapped s x).chuteRole c = s.chuteRole c := rfl
  have hreader (c : Nat) : (tapped s x).chuteReader c = s.chuteReader c := rfl
  have hpend (w : Nat) : (tapped s x).icuPend t w = s.icuPend t w := rfl
  have hstat (c : Nat) : ((tapped s x).chuteStat c).1 = (s.chuteStat c).1 := rfl
  have hfresh : (tapped s x).freshWord.1 = s.freshWord.1 := rfl
  have hreg (a : Nat) : (tapped s x).shownReg a = s.shownReg a := rfl
  simp only [State.winLoad, apply_ite winShown, ht, hrole, hreader, hpend, hstat, hfresh, hreg, winShown_val,
    winShown_icuClaim_tapped, winShown_icuEoi_tapped, chuteDrop_tapped, chuteCancel_tapped, chutePort_tapped,
    chuteAnswer_tapped]
  rcases s.chuteAnswer t with ⟨_ | v, u⟩ <;> rfl

theorem debugRead_tapped (a : Nat) : (tapped s x).debugRead a = s.debugRead a := by
  have hplace : (tapped s x).placeOf a = s.placeOf a := rfl
  have hat (n : Nat) : (tapped s x).tillerAt n = s.tillerAt n := rfl
  simp only [State.debugRead, hplace, hat]
  split
  · rfl
  · rfl
  · rfl
  · split
    · next t ht => exact winShown_winLoad_tapped s x t _
    · rfl
  · rfl
  · rfl

end

/-! ### The port under a pass (R308; log entry 58) -/

/-- The state in which the TAP has loaded the instruction of the debug port. -/
def atPort (s : State) : State := s.tapIr .dap

section
variable {s : State}

theorem execDap_of_porst (h : s.power.porst = false) (op : DapOp) :
    exec (.dap op) s = .next ((atPort s).dapAccess op) :=
  congrArg _ (if_pos (tapUp_of_porst h))

/-- Without a pass a write through the port, or a command to a Tiller, is ignored. -/
theorem dapAccess_ignored {t a : Nat} {r : Fin 32} {v b : Word} {n : BitVec 12}
    (h : s.flag Reg.passStat F.PassStat.active = false) :
    ∀ op ∈ [DapOp.write a v, .writeReg t r v, .writePc t v, .writeCsr t n v, .halt t, .resume t, .singleStep t,
      .setBreak t b, .clearBreak t b], (atPort s).dapAccess op = atPort s := by
  have ht : ¬ (atPort s).debugTiller t = true := Bool.not_eq_true _ ▸ debugTiller_of_inactive h t
  have ha : ¬ (atPort s).debugMay .store a = true := Bool.not_eq_true _ ▸ debugMay_of_inactive h .store a
  intro op hop
  simp only [List.mem_cons, List.not_mem_nil, or_false] at hop
  obtain rfl | rfl | rfl | rfl | rfl | rfl | rfl | rfl | rfl := hop
  · exact if_neg ha
  all_goals exact if_neg ht

end

theorem debugPortNeedsAPass : DebugPortNeedsAPass := by
  intro s t r a v b n hup s1
  have hx := execDap_of_porst hup
  refine ⟨fun hpass => ?_, fun ht hinv => ?_⟩
  · have htil : (atPort s).debugTiller t = false := debugTiller_of_inactive hpass t
    have hmay : (atPort s).debugMay .load a = false := debugMay_of_inactive hpass .load a
    refine ⟨?_, ?_, ?_, fun op hop => (hx op).trans (congrArg _ (dapAccess_ignored hpass op hop))⟩
    · rw [hx, State.dapAccess, hmay]
      rfl
    · rw [hx, State.dapAccess, htil]
      rfl
    · rw [hx, State.dapAccess, htil]
      rfl
  · have htil : (atPort s).debugTiller t = true := debugTiller_of_secInv ht hinv
    refine ⟨?_, ?_, ?_, fun ha => ?_⟩
    · rw [hx, State.dapAccess, htil]
      rfl
    · rw [hx, State.dapAccess, htil]
      rfl
    · rw [hx, State.dapAccess, htil]
      rfl
    · have hmay : (atPort s).debugMay .load a = true := debugMay_of_secInv ha hinv .load
      have hread : (atPort s).debugRead a = s.debugRead a := debugRead_tapped s _ a
      rw [hx, State.dapAccess, hmay, if_pos rfl, hread]
      rfl

/-- Settles O29: each TAP instruction has one effect while PORST_N is high, and every access of the port asks for its
grant first. -/
theorem testAndDebugPort : Obligations.TestAndDebugPort := ⟨tapInstructions, debugPortNeedsAPass⟩

end Sys2Proof.Laws
end

section
/-! OBLIGATION O50. The commands that only report (R309, R400, R419, R440, Table 1.2b). -/

namespace Sys2Proof.Laws

open Sys2Proof.Machine Sys2Proof.Safety

variable {s : State} {id : Nat}

theorem execTimeRead_held (h : Held s id 0x0C01) : exec (.timeRead id) s =
    .next (s.finishOut id (toBytes s.dtime 8 ++ toBytes (if s.flag Reg.timeCtl F.TimeCtl.ppsInEn then
      s.rd Reg.timeStat else F.TimeStat.ppsLock.set (s.rd Reg.timeStat) 0).toNat 8)) :=
  congrArg _ (onTabqua_held h _)

/-- The registers that a report shows, one after the other. -/
def shownBytes (s : State) (l : List Nat) : List Byte := (l.map (fun a => toBytes (s.shownReg a).toNat 8)).flatten

theorem shownBytes_nil (s : State) : shownBytes s [] = [] := rfl

theorem shownBytes_cons (s : State) (a : Nat) (l : List Nat) :
    shownBytes s (a :: l) = toBytes (s.shownReg a).toNat 8 ++ shownBytes s l := rfl

theorem shownBytes_map (s : State) (f : Nat → Nat) (l : List Nat) :
    shownBytes s (l.map f) = (l.map (fun i => toBytes (s.shownReg (f i)).toNat 8)).flatten := by
  rw [shownBytes, List.map_map]
  rfl

theorem execPowerStatus_held (h : Held s id 0x0010) : exec (.powerStatus id) s =
    .next (s.finishOut id (shownBytes s [Reg.bootStat, Reg.rstCause, Reg.pwrStat, Reg.wakeStat])) :=
  congrArg _ (onTabqua_held h _)

theorem execRollcallStatus_held (h : Held s id 0x0E01) : exec (.rollcallStatus id) s =
    .next (s.finishOut id (shownBytes s (Reg.rcStat :: (List.range 179).map (fun u => Reg.rcUnit u)))) :=
  congrArg _ (onTabqua_held h _)

theorem execRepairLogRead_held (h : Held s id 0x0E03) : exec (.repairLogRead id) s =
    .next (s.finishOut id (shownBytes s (Reg.rlogStat :: (List.range 256).map (fun i => Reg.rlog i)))) :=
  congrArg _ (onTabqua_held h _)

theorem execDramStatus_held (h : Held s id 0x0E30) : exec (.dramStatus id) s =
    .next (s.finishOut id (((List.range 4).map (fun c => toBytes (s.rd (Reg.dcStat c)).toNat 8)).flatten)) :=
  congrArg _ (onTabqua_held h _)

theorem execMarchResult_held {r c l : Nat} (h : Held s id 0x0E21)
    (hr : s.marchOf (param (s.slate id).pkt 0) (param (s.slate id).pkt 1) = (r, c, l)) : exec (.marchResult id) s =
    .next (s.finish id St.ok (r + 256 * (c % 256) + 65536 * (l % 256)) false none) := by
  show execMarchResult id s = _
  rw [execMarchResult, onTabqua_held h]
  simp only [State.pktOf, hr]

/-- What PASS_STATUS reports. -/
def passReport (s : State) : List Byte :=
  let w := s.rd Reg.passStat
  toBytes (F.PassStat.enables.get w) 1 ++ toBytes (F.PassStat.houses.get w) 1 ++
    toBytes (F.PassStat.zeroised.get w) 1 ++ zeros 5 ++ toBytes (s.rd Reg.passExp).toNat 8 ++
    toBytes (if F.PassStat.active.get w = 1 then (s.rd Reg.passHwm).toNat else 0) 8 ++
    toBytes (s.rd Reg.passHwm).toNat 8

theorem execPassStatus_held (h : Held s id 0x0F03) : exec (.passStatus id) s = .next (s.finishOut id (passReport s)) :=
  congrArg _ (onTabqua_held h _)

/-- The bytes of a report that stand behind `a`. -/
theorem slice_between {a b c : List Byte} {o n : Nat} (ha : a.length = o) (hb : b.length = n) :
    slice (a ++ b ++ c) o n = b := by
  subst ha hb
  simp only [slice, List.append_assoc, List.drop_left, List.take_left, Nat.sub_self, zeros, List.replicate_zero,
    List.append_nil]

theorem slice_passReport_enables (s : State) :
    slice (passReport s) 0 1 = [BitVec.ofNat 8 (s.fld Reg.passStat F.PassStat.enables)] := by
  unfold passReport
  simp only [List.append_assoc]
  exact slice_between (a := []) rfl (length_toBytes 1 _)

/-- The bytes before PASS_EXP in the report. -/
theorem length_passReport_head (e h z : Nat) : (toBytes e 1 ++ toBytes h 1 ++ toBytes z 1 ++ zeros 5).length = 8 := by
  simp only [List.length_append, length_toBytes, zeros, List.length_replicate]

theorem slice_passReport_expiry (s : State) : slice (passReport s) 8 8 = toBytes (s.rd Reg.passExp).toNat 8 := by
  have hp : passReport s = _ ++ toBytes (s.rd Reg.passExp).toNat 8 ++ _ := List.append_assoc _ _ _
  rw [hp]
  exact slice_between (length_passReport_head _ _ _) (length_toBytes 8 _)

theorem slice_passReport_id (s : State) : slice (passReport s) 16 8 =
    toBytes (if F.PassStat.active.get (s.rd Reg.passStat) = 1 then (s.rd Reg.passHwm).toNat else 0) 8 := by
  refine slice_between ?_ (length_toBytes 8 _)
  rw [List.length_append, length_passReport_head, length_toBytes]

theorem slice_passReport_hwm (s : State) : slice (passReport s) 24 8 = toBytes (s.rd Reg.passHwm).toNat 8 := by
  rw [← List.append_nil (passReport s)]
  refine slice_between ?_ (length_toBytes 8 _)
  rw [List.length_append, List.length_append, length_passReport_head, length_toBytes, length_toBytes]

/-- Settles O50: each command ends its slate's work with its report. -/
theorem readCommands : Obligations.ReadCommands := by
  intro s id b
  refine ⟨execTimeRead_held, fun h => ?_, fun h => ?_, fun h => ?_, fun h => ?_,
    fun r c l h hr => execMarchResult_held h hr,
    fun h => ⟨passReport s, execPassStatus_held h, slice_passReport_enables s, slice_passReport_expiry s,
      slice_passReport_hwm s, fun hpass => ?_⟩⟩
  · rw [execPowerStatus_held h]
    simp only [shownBytes_cons, shownBytes_nil, List.append_nil, b, List.append_assoc]
  · rw [execRollcallStatus_held h, shownBytes_cons, shownBytes_map]
  · rw [execRepairLogRead_held h, shownBytes_cons, shownBytes_map]
  · rw [execDramStatus_held h]
    simp only [show List.range 4 = [0, 1, 2, 3] from rfl, List.map_cons, List.map_nil, List.flatten_cons,
      List.flatten_nil, List.append_nil, List.append_assoc]
  · have hno : ¬ F.PassStat.active.get (s.rd Reg.passStat) = 1 := fun h1 => by
      rw [State.flag, State.fld, h1] at hpass
      exact absurd hpass (by decide)
    rw [slice_passReport_id, if_neg hno]
    rfl

end Sys2Proof.Laws
end

section
/-! SUPPORT. The level inputs of the interrupt sources and the claims that sensing them marks (R342, R347), and what a
claim leaves of its source. -/

namespace Sys2Proof.Laws

open Sys2Proof.Machine Sys2Proof.Safety

variable {s u v : State} {t src : Nat}

/-! ### Level inputs (Table 12.2) -/

/-- The interrupt sources have the same inputs: the states differ in pending sources, and in what the inputs do not
read of a Tiller. -/
structure SameInputs (s u : State) : Prop where
  rest : u = { s with tillers := u.tillers, sharedEdges := u.sharedEdges }
  pos : ∀ w, (u.tiller w).pos = (s.tiller w).pos
  on : ∀ w, (u.tiller w).on = (s.tiller w).on
  cancel : ∀ w, (u.tiller w).cancel = (s.tiller w).cancel

theorem SameInputs.trans (h : SameInputs s u) (k : SameInputs u v) : SameInputs s v where
  rest := by rw [k.rest, h.rest]
  pos w := (k.pos w).trans (h.pos w)
  on w := (k.on w).trans (h.on w)
  cancel w := (k.cancel w).trans (h.cancel w)

theorem OnlySensed.sameInputs (h : OnlySensed s u) : SameInputs s u where
  rest := by rw [h.rest]
  pos w := by rw [(h.tillers w).1]
  on w := by rw [(h.tillers w).1]
  cancel w := by rw [(h.tillers w).1]

/-- A change of one Tiller that no input reads. -/
theorem sameInputs_modTiller {f : Tiller → Tiller} (hp : ∀ x, (f x).pos = x.pos) (ho : ∀ x, (f x).on = x.on)
    (hc : ∀ x, (f x).cancel = x.cancel) : SameInputs s (s.modTiller t f) := by
  refine ⟨rfl, fun w => ?_, fun w => ?_, fun w => ?_⟩ <;> rw [tiller_modTiller] <;> split
  · next h => rw [hp, h]
  · rfl
  · next h => rw [ho, h]
  · rfl
  · next h => rw [hc, h]
  · rfl

theorem SameInputs.flag (h : SameInputs s u) (a : Nat) (f : Fld) : u.flag a f = s.flag a f := by
  rw [h.rest]
  rfl

theorem SameInputs.fld (h : SameInputs s u) (a : Nat) (f : Fld) : u.fld a f = s.fld a f := by
  rw [h.rest]
  rfl

theorem SameInputs.chute (h : SameInputs s u) (c : Nat) : u.chute c = s.chute c := by
  rw [h.rest]
  rfl

theorem SameInputs.tcmp (h : SameInputs s u) (t : Nat) : u.tcmp t = s.tcmp t := by
  unfold State.tcmp
  rw [h.pos, h.rest]

theorem SameInputs.markOvf (h : SameInputs s u) (t : Nat) : u.markOvf t = s.markOvf t := by
  simp only [State.markOvf, h.pos, h.flag]

theorem SameInputs.chuteAttached (h : SameInputs s u) (c : Nat) : u.chuteAttached c = s.chuteAttached c := by
  simp only [State.chuteAttached, State.chuteRole, h.fld, h.on]

theorem SameInputs.attach (h : SameInputs s u) (t k : Nat) : u.attach t k = s.attach t k := by
  simp only [State.attach, State.chuteEvent, h.chuteAttached, h.fld, h.flag, h.chute, h.cancel]

theorem SameInputs.mark (h : SameInputs s u) (k : Nat) : u.ringOk k = s.ringOk k ∧ (u.house k).j.u = (s.house k).j.u := by
  rw [h.rest]
  exact ⟨rfl, rfl⟩

theorem SameInputs.dtime (h : SameInputs s u) : u.dtime = s.dtime := by rw [h.rest]

theorem SameInputs.levelInput (h : SameInputs s u) (t src : Nat) : u.levelInput t src = s.levelInput t src := by
  simp only [State.levelInput, h.tcmp, h.markOvf, h.attach, h.chuteAttached, h.fld, h.flag, h.chute, h.dtime,
    (h.mark _).1, (h.mark _).2]

/-! ### Sensing (R347) -/

/-- A claim whose EMPTY window is open is not marked while its input is high. -/
theorem senseOne_high (h : ∀ src, (s.tiller t).emptyWin = some src → s.levelInput t src = true) : s.senseOne t = s := by
  unfold State.senseOne
  split
  · next src he => rw [if_pos (h src he)]
  · rfl

/-- Sensing leaves the claims of a Tiller whose open EMPTY window, if any, is of a source with a high input. -/
theorem claims_sense (h : ∀ src, (s.tiller t).emptyWin = some src → s.levelInput t src = true) :
    (s.sense.tiller t).claims = (s.tiller t).claims := by
  refine (foldl_keeps (fun v => OnlySensed s v ∧ (v.tiller t).claims = (s.tiller t).claims) _ (fun v w hv => ?_) _ s
    ⟨.refl s, rfl⟩).2
  obtain ⟨hs, hc⟩ := hv
  refine ⟨hs.trans (onlySensed_senseOne v w), ?_⟩
  by_cases hw : t = w
  · subst hw
    rw [senseOne_high fun src he => ?_, hc]
    rw [hs.sameInputs.levelInput]
    rw [(hs.tillers t).1] at he
    exact h src he
  · obtain ⟨cl, hcl | hcl⟩ := senseOne_eq v w
    · rw [hcl, tiller_modTiller, if_neg hw, hc]
    · rw [hcl, hc]

/-! ### Claiming a source (R342, R345) -/

/-- A claimed level source, and an edge source whose pending bit is clear, is not pending. -/
theorem srcPending_claimed (hl : isLevel src = true → ∃ b, (src, b) ∈ (s.tiller t).claims)
    (he : isLevel src = false → src < 32 → src ∉ (s.tiller t).edges)
    (hs : isLevel src = false → ¬ src < 32 → src ∉ s.sharedEdges) : s.srcPending t src = false := by
  unfold State.srcPending
  cases hlev : isLevel src
  · by_cases h32 : src < 32
    · have hno : (s.tiller t).edges.contains src = false := by simpa using he hlev h32
      simp only [Bool.false_eq_true, if_false, if_pos h32, hno, Bool.and_false]
    · have hno : s.sharedEdges.contains src = false := by simpa using hs hlev h32
      simp only [Bool.false_eq_true, if_false, if_neg h32, hno, Bool.and_false]
  · obtain ⟨b, hb⟩ := hl hlev
    have hcl : s.srcClaimed t src = true := by
      rw [State.srcClaimed, List.any_eq_true.2 ⟨(src, b), hb, beq_self_eq_true src⟩, Bool.true_or]
    simp only [if_true, hcl, Bool.not_true, Bool.and_false]

/-- Clearing an edge source's pending bit (R342). -/
theorem clearEdge_tiller (s : State) (t src : Nat) : (s.clearEdge t src).tiller t = { s.tiller t with
    edges := if src < 32 then (s.tiller t).edges.filter (· != src) else (s.tiller t).edges } := by
  unfold State.clearEdge
  split
  · rw [modTiller_self]
  · rfl

theorem clearEdge_tiller_ne {w : Nat} (hw : w ≠ t) (src : Nat) : (s.clearEdge t src).tiller w = s.tiller w := by
  unfold State.clearEdge
  split
  · rw [tiller_modTiller, if_neg hw]
  · rfl

theorem clearEdge_rest (s : State) (t src : Nat) : s.clearEdge t src =
    { s with tillers := (s.clearEdge t src).tillers, sharedEdges := (s.clearEdge t src).sharedEdges } := by
  unfold State.clearEdge
  split <;> rfl

/-- A claim clears the pending bit of an edge source, and is the top of the stack. -/
theorem pushClaim_eq (s : State) (t src : Nat) : s.pushClaim t src =
    (if isLevel src then s else s.clearEdge t src).modTiller t (fun x => { x with
      claims := (src, false) :: x.claims
      emptyWin := if isLevel src then some src else none }) := rfl

/-- A claim writes the claims, the EMPTY window and the edges of its Tiller, and the shared pending bits. -/
theorem pushClaim_tiller (s : State) (t src : Nat) : ∃ l, (s.pushClaim t src).tiller t = { s.tiller t with
      claims := (src, false) :: (s.tiller t).claims
      emptyWin := if isLevel src then some src else none
      edges := l } ∧ (isLevel src = false → src < 32 → src ∉ l) := by
  rw [pushClaim_eq, modTiller_self]
  cases isLevel src
  · rw [if_neg Bool.false_ne_true, clearEdge_tiller]
    refine ⟨_, rfl, fun _ h32 => ?_⟩
    simp [h32]
  · exact ⟨_, rfl, fun h => absurd h (by decide)⟩

theorem pushClaim_tiller_ne {w : Nat} (hw : w ≠ t) (src : Nat) : (s.pushClaim t src).tiller w = s.tiller w := by
  rw [pushClaim_eq, tiller_modTiller, if_neg hw]
  split
  · rfl
  · exact clearEdge_tiller_ne hw src

theorem pushClaim_rest (s : State) (t src : Nat) : s.pushClaim t src =
    { s with tillers := (s.pushClaim t src).tillers, sharedEdges := (s.pushClaim t src).sharedEdges } := by
  rw [pushClaim_eq]
  split
  · rfl
  · rw [clearEdge_rest]
    rfl

theorem not_mem_sharedEdges_pushClaim (s : State) (t src : Nat) (hl : isLevel src = false) (h32 : ¬ src < 32) :
    src ∉ (s.pushClaim t src).sharedEdges := by
  rw [pushClaim_eq, hl, if_neg Bool.false_ne_true, State.clearEdge, if_neg h32]
  simp

theorem sameInputs_pushClaim (s : State) (t src : Nat) : SameInputs s (s.pushClaim t src) := by
  obtain ⟨l, hx, -⟩ := pushClaim_tiller s t src
  refine ⟨pushClaim_rest s t src, fun w => ?_, fun w => ?_, fun w => ?_⟩ <;> by_cases hw : w = t
  · rw [hw, hx]
  · rw [pushClaim_tiller_ne hw]
  · rw [hw, hx]
  · rw [pushClaim_tiller_ne hw]
  · rw [hw, hx]
  · rw [pushClaim_tiller_ne hw]

/-- A source that has just been claimed is not pending, wherever its claim stands and the pending bits are the same. -/
theorem srcPending_pushClaim (hc : ∃ b, (src, b) ∈ (u.tiller t).claims)
    (he : (u.tiller t).edges = ((s.pushClaim t src).tiller t).edges)
    (hs : u.sharedEdges = (s.pushClaim t src).sharedEdges) : u.srcPending t src = false := by
  obtain ⟨l, hx, hl⟩ := pushClaim_tiller s t src
  refine srcPending_claimed (fun _ => hc) (fun hlev h32 => ?_) (fun hlev h32 => ?_)
  · rw [he, hx]
    exact hl hlev h32
  · rw [hs]
    exact not_mem_sharedEdges_pushClaim s t src hlev h32

end Sys2Proof.Laws
end

section
/-! OBLIGATION O24. Delivery of interrupts, the timer, HOLD and ICU_RESET (R286, R288, R343, R344, R347 to R351). -/

namespace Sys2Proof.Laws

open Sys2Proof.Machine Sys2Proof.Safety

variable {s s' u : State} {t r a src : Nat} {ew : Word}

/-! ### The entry of an interrupt (R286, R288) -/

/-- What delivery writes beside the entry itself: the claim stack and its EMPTY window, pending bits, and DFLAG with its
time and ring. -/
structure ClaimOnly (x y : Tiller) : Prop where
  eq : y = { x with
    claims := y.claims
    emptyWin := y.emptyWin
    edges := y.edges
    dflag := y.dflag
    dflagAt := y.dflagAt
    dring := y.dring }

/-- What an entry leaves stands where only claims and their pending bits change after it. -/
theorem entered_after {cw tw target : Word} (h : Entered s u t r a cw tw ew target) (hx : ClaimOnly (u.tiller t) (s'.tiller t))
    (ho : OutsideSame u s' t) : Entered s s' t r a cw tw ew target := by
  have hb : ∀ b, (s'.tiller t).buffered b = (u.tiller t).buffered b := buffered_congr (by rw [hx.eq])
  have hm : ∀ sec, (s'.tiller t).mask sec = (u.tiller t).mask sec := fun sec => by cases sec <;> rw [hx.eq] <;> rfl
  have hg : GrSame u s' t := gr_of_g (by rw [hx.eq])
  have hr : (s'.tiller t).ring = (u.tiller t).ring := by rw [hx.eq]
  have hpc : (s'.tiller t).pc = (u.tiller t).pc := by rw [hx.eq]
  have hc : (s'.tiller t).cause = (u.tiller t).cause := by rw [hx.eq]
  have he : (s'.tiller t).epc = (u.tiller t).epc := by rw [hx.eq]
  have hsp : (s'.tiller t).sp = (u.tiller t).sp := by rw [hx.eq]
  have hen : (s'.tiller t).entry = (u.tiller t).entry := by rw [hx.eq]
  have hd : (s'.tiller t).dslot = (u.tiller t).dslot := by rw [hx.eq]
  have hp : (s'.tiller t).progress = (u.tiller t).progress := by rw [hx.eq]
  have hcar : (s'.tiller t).carrel = (u.tiller t).carrel := by rw [hx.eq]
  exact
    { ring := hr.trans h.ring
      pc := hpc.trans h.pc
      cause := by rw [hc, h.cause]
      epc := by rw [he, h.epc]
      sp := by rw [hsp, h.sp]
      mask := by rw [hm, h.mask]
      cleared := by rw [hd, hp, hcar]; exact h.cleared
      others := by rw [hc, he, hsp]; exact h.others
      entry := hen.trans h.entry
      gr := fun q => (hg q).trans (h.gr q)
      frame := fun i hi => (hb (a + i)).trans (h.frame i hi)
      outside := outside_trans h.outside ho }

/-- The entry that an interrupt makes into its source's own ring. -/
def interruptEntry (r src : Nat) (ew : Word) : Entry := ⟨r, src, true, 0, r, 0, ew, none⟩

/-- The number by which CAUSE tells an interrupt: the source and bit 63. -/
abbrev intrCode (src : Nat) : Nat := src + 2 ^ 63

theorem cause_interruptEntry (r src : Nat) (ew : Word) (fring : Nat) :
    (interruptEntry r src ew).cause fring = (plainEntry r (intrCode src) 0 ew).cause fring := by
  simp only [Entry.cause, interruptEntry, plainEntry, intrCode, if_true, Bool.false_eq_true, if_false]
  congr 1
  omega

theorem frame_interruptEntry (x : Tiller) (r src : Nat) (ew : Word) :
    x.frame (interruptEntry r src ew) = x.frame (plainEntry r (intrCode src) 0 ew) := by
  funext token
  unfold Tiller.frame
  rw [cause_interruptEntry]
  rfl

/-- An interrupt enters as a plain exception of its cause would, and counts as an interrupt too. -/
theorem enterAt_interruptEntry (hc : (s.tiller t).carrel = none) (hroom : (s.tiller t).room a = true) :
    s.enterAt t (interruptEntry r src ew) a =
      (s.enterAt t (plainEntry r (intrCode src) 0 ew) a).map (fun v => v.mark t (s.tiller t).ring evInterrupt 1) := by
  have hplain : ¬ ((plainEntry r (intrCode src) 0 ew).code = Ex.escalated ∨
      (plainEntry r (intrCode src) 0 ew).code = Ex.watermark) := by
    simp only [plainEntry, intrCode, Ex.escalated, Ex.watermark]
    omega
  unfold State.enterAt
  simp only [hc, hroom, frame_interruptEntry, cause_interruptEntry, hplain, and_false, if_false]
  simp only [interruptEntry, plainEntry, Bool.not_true, Bool.false_eq_true, false_and, and_false, if_false, if_true]
  rfl

/-- An entry leaves the claim stack. -/
theorem claims_enterAt {code : Nat} {tw : Word} (hc : (s.tiller t).carrel = none) (he : code ≠ Ex.escalated)
    (hw : code ≠ Ex.watermark) (h : s.enterAt t (plainEntry r code tw ew) a = some s') :
    (s'.tiller t).claims = (s.tiller t).claims := by
  have hcode : ¬ (code = Ex.escalated ∨ code = Ex.watermark) := not_or.2 ⟨he, hw⟩
  unfold State.enterAt at h
  extract_lets x token s1 y sec fr s2 s3 s4 at h
  have hs1 : s1 = s := by simp only [s1, x, hc]
  have hs4 : s4 = s2.mark t x.ring evException 1 := if_neg Bool.false_ne_true
  have hx2 : s2.tiller t = _ := modTiller_self s1 t _
  split at h
  · exact absurd h (by simp)
  · rw [Option.some.injEq, hs4, if_neg (fun hh => hcode hh.2.2)] at h
    rw [← h, tiller_mark, hx2, hs1]
    obtain ⟨l, hl⟩ := buffer_eq (s.tiller t) a fr (s.addrType (s.tiller t).pos a).cached
    simp only [hl]
    split <;> (cases sec <;> rfl)

/-- An interrupt whose frame fits enters its source's ring. -/
theorem enter_interruptEntry (h : EntryFits s t r a) (hr : r < 4) :
    ∃ s', s.enter t (interruptEntry r src ew) = some s' ∧ (s'.tiller t).claims = (s.tiller t).claims ∧
      Entered s s' t r a (faultCause (intrCode src) (s.tiller t).ring r) 0 ew
        (bank (s.tiller t).entry r &&& ~~~3#64) := by
  have ht := applyPending_tiller h.applied
  have hcode : intrCode src ≠ Ex.escalated ∧ intrCode src ≠ Ex.watermark := by
    simp only [intrCode, Ex.escalated, Ex.watermark]
    omega
  have hc : ((s.applyPending t).tiller t).carrel = none := by rw [ht]; exact h.plain
  have hroom : ((s.applyPending t).tiller t).room a = true := by rw [ht]; exact h.room
  have hf (e : Entry) (he : e.ring = r) : s.enter t e = (s.applyPending t).enterAt t e a := by
    unfold State.enter
    simp only [he, h.frame]
  obtain ⟨u, hu, -, hentered⟩ := enter_fits (tw := 0) (ew := ew) h hr hcode.1 hcode.2
  rw [hf _ rfl] at hu
  refine ⟨u.mark t (s.tiller t).ring evInterrupt 1, ?_, ?_, ?_⟩
  · rw [hf _ rfl, enterAt_interruptEntry hc hroom, hu, ht]
    rfl
  · rw [tiller_mark, claims_enterAt hc hcode.1 hcode.2 hu, ht]
  · exact entered_after hentered ⟨by rw [tiller_mark]⟩ (mark_outside _ _ _ _ _ _)

/-! ### Delivery (R343) -/

/-- The claim of a delivered source, and DFLAG with its time and ring. -/
def delivered (s : State) (t src now r : Nat) : State :=
  (s.pushClaim t src).modTiller t (fun x => { x with dflag := true, dflagAt := now, dring := r })

theorem pushClaim_outside (s : State) (t src : Nat) : OutsideSame s (s.pushClaim t src) t := by
  have hshared (v : State) (l : List Nat) : OutsideSame v { v with sharedEdges := l } t :=
    ⟨fun _ => rfl, fun _ _ => rfl, fun _ _ => rfl, rfl, rfl, rfl, rfl, rfl, rfl, rfl, rfl, ⟨rfl, rfl, rfl⟩, ⟨rfl, rfl⟩,
      rfl, rfl⟩
  rw [pushClaim_eq]
  refine modTiller_outside _ _ _ _ ?_
  unfold State.clearEdge
  split
  · exact refl_outside s t
  · split
    · exact outside_modTiller s t _
    · exact hshared s _

theorem entered_delivered {cw tw target : Word} (h : Entered s u t r a cw tw ew target) (src now q : Nat) :
    Entered s (delivered u t src now q) t r a cw tw ew target := by
  refine entered_after h ⟨?_⟩ (outside_trans (pushClaim_outside u t src) (outside_modTiller _ t _))
  obtain ⟨l, hx, -⟩ := pushClaim_tiller u t src
  rw [delivered, modTiller_self, hx]

theorem srcPending_delivered (s : State) (t src now q : Nat) : (delivered s t src now q).srcPending t src = false := by
  obtain ⟨l, hx, -⟩ := pushClaim_tiller s t src
  refine srcPending_pushClaim (s := s) ⟨false, ?_⟩ ?_ ?_
  · rw [delivered, modTiller_self, hx]
    exact List.mem_cons_self
  · rw [delivered, modTiller_self]
  · rfl

theorem intrEntry_own (h1 : s.srcRing t src = 1 → (s.tiller t).secure = true) :
    s.intrEntry t src = interruptEntry (s.srcRing t src) src (s.tiller t).pc := by
  have hdest : ¬ (s.srcRing t src = 1 ∧ (!(s.tiller t).secure) = true) := fun ⟨h, hn⟩ => by
    rw [h1 h] at hn
    exact absurd hn (by decide)
  unfold State.intrEntry
  simp only [if_neg hdest]
  rfl

/-- A delivered source's ring takes the interrupt itself: nothing is passed on to ring 1. -/
theorem deliverSource_own (h1 : s.srcRing t src = 1 → (s.tiller t).secure = true)
    (hu : s.enter t (interruptEntry (s.srcRing t src) src (s.tiller t).pc) = some u) :
    s.deliverSource t src = some (delivered u t src s.uptime (s.srcRing t src)) := by
  unfold State.deliverSource
  rw [intrEntry_own h1]
  simp only [hu]
  simp only [interruptEntry, bne_self_eq_false, Bool.and_false, Bool.false_eq_true, if_false]
  rfl

theorem endWait_free (h : (s.tiller t).stall ≠ .waiti) : s.endWait t = s := by
  unfold State.endWait
  exact if_neg fun hw => h hw.1

theorem suspendMill_free (h : (s.tiller t).stall = .none) : s.suspendMill t = s := by
  unfold State.suspendMill
  simp only [h]

theorem execInterruptDelivery_due (hrun : s.tillerRuns t = true) (hd : (s.tiller t).dslot = none)
    (hfree : (s.tiller t).stall = .none) (hdue : (s.tiller t).due = none) (hflag : (s.tiller t).dflag = false)
    (hsrc : s.deliverable t = some src) (hu : s.deliverSource t src = some u) :
    exec (.interruptDelivery t) s = .next u := by
  have hb : (s.tiller t).atBoundary = true := by
    unfold Tiller.atBoundary
    simp only [hd, hfree, Option.isNone_none, Bool.and_self]
  show execInterruptDelivery t s = _
  unfold execInterruptDelivery
  simp only [hrun, hb, Bool.and_self, if_true, endWait_free (s := s) (t := t) (by rw [hfree]; simp), hdue, hflag,
    Bool.false_eq_true, if_false, hsrc, suspendMill_free hfree, hu, Option.getD_some]

theorem interruptDelivery : InterruptDelivery := by
  intro s t src a hrun hd hfree hdue hflag hsrc hr4 r h1 hfits
  have hr : r < 4 := lt_of_le_of_lt (min_le_left 2 _) (by decide)
  obtain ⟨u, hu, hclaims, hentered⟩ := enter_interruptEntry (src := src) (ew := (s.tiller t).pc) hfits hr
  obtain ⟨l, hx, -⟩ := pushClaim_tiller u t src
  have hcause : faultCause (intrCode src) (s.tiller t).ring r =
      BitVec.ofNat 64 (src + 2 ^ 56 * (s.tiller t).ring + 2 ^ 58 * r + 2 ^ 63) := by
    rw [faultCause, intrCode]
    congr 1
    omega
  rw [hcause] at hentered
  refine ⟨delivered u t src s.uptime r, execInterruptDelivery_due hrun hd hfree hdue hflag hsrc (deliverSource_own h1 hu),
    entered_delivered hentered src _ r, ?_, ?_, ?_, ?_, srcPending_delivered u t src _ r⟩
  · rw [delivered, modTiller_self]
  · rw [delivered, modTiller_self]
  · rw [delivered, modTiller_self]
  · rw [delivered, modTiller_self, hx, hclaims]

/-! ### The timer (R344, R351) -/

theorem execTimerCompare_waiti (hrun : s.tillerRuns t = true) (hhigh : s.levelInput t 0 = true)
    (hw : (s.tiller t).stall = .waiti) (hp : s.anyPending t = true) :
    exec (.timerCompare t) s = .next ((s.modTiller t (fun x => { x with stall := .none })).retire t 0) := by
  show execTimerCompare t s = _
  rw [execTimerCompare, hrun, hhigh, if_pos (by rfl), State.endWait, if_pos ⟨hw, hp⟩]

theorem timerEndsWaiti (hrun : s.tillerRuns t = true) (hhigh : s.levelInput t 0 = true)
    (hw : (s.tiller t).stall = .waiti) (hp : s.anyPending t = true) :
    ∃ s', exec (.timerCompare t) s = .next s' ∧ (s'.tiller t).stall = .none ∧ (s'.tiller t).pc = nextPc s t ∧
      GrSame s s' t ∧ MemSame s s' := by
  refine ⟨_, execTimerCompare_waiti hrun hhigh hw hp, ?_, ?_, fun q => ?_, fun b => ?_⟩
  · rw [tiller_stall_retire, modTiller_self]
  · rw [tiller_pc_retire, modTiller_self]
    rfl
  · rw [gr_retire]
    exact gr_of_g (by rw [modTiller_self]) q
  · rw [mem_retire, mem_modTiller]

/-! ### ICU_RESET (R348, R350) -/

theorem mem_insertNat (n : Nat) (l : List Nat) : n ∈ insertNat n l := by
  induction l with
  | nil => exact List.mem_cons_self
  | cons a l ih =>
    unfold insertNat
    split
    · exact List.mem_cons_self
    · split
      · next h => rw [h]; exact List.mem_cons_self
      · exact List.mem_cons_of_mem a ih

/-- Pending bits of Tiller `t` and of the shared sources may have been set, and nothing else has changed. -/
structure EdgesSet (s u : State) (t : Nat) : Prop where
  rest : u = { s with tillers := u.tillers, sharedEdges := u.sharedEdges }
  tiller : u.tiller t = { s.tiller t with edges := (u.tiller t).edges }
  edges : ∀ n ∈ (s.tiller t).edges, n ∈ (u.tiller t).edges
  shared : ∀ n ∈ s.sharedEdges, n ∈ u.sharedEdges

theorem edgesSet_refl (s : State) (t : Nat) : EdgesSet s s t := ⟨rfl, rfl, fun _ h => h, fun _ h => h⟩

theorem EdgesSet.trans {v : State} (h : EdgesSet s u t) (k : EdgesSet u v t) : EdgesSet s v t where
  rest := by rw [k.rest, h.rest]
  tiller := by rw [k.tiller, h.tiller]
  edges n hn := k.edges n (h.edges n hn)
  shared n hn := k.shared n (h.shared n hn)

theorem EdgesSet.srcEn (h : EdgesSet s u t) (n : Nat) : u.srcEn t n = s.srcEn t n := by
  rw [h.rest]
  rfl

theorem edgesSet_setEdge (s : State) (t src : Nat) : EdgesSet s (s.setEdge t src) t := by
  unfold State.setEdge
  split
  · exact edgesSet_refl s t
  · split
    · refine ⟨rfl, by rw [modTiller_self], fun n hn => ?_, fun _ h => h⟩
      rw [modTiller_self]
      exact mem_insertNat_of_mem hn src
    · exact ⟨rfl, rfl, fun _ h => h, fun n hn => mem_insertNat_of_mem hn src⟩

/-- The source's pending bit is set. -/
def EdgePending (s : State) (t src : Nat) : Prop :=
  if src < 32 then src ∈ (s.tiller t).edges else src ∈ s.sharedEdges

theorem EdgesSet.pending (h : EdgesSet s u t) (hp : EdgePending s t src) : EdgePending u t src := by
  unfold EdgePending at hp ⊢
  split
  · next h32 => exact h.edges _ (by rwa [if_pos h32] at hp)
  · next h32 => exact h.shared _ (by rwa [if_neg h32] at hp)

theorem setEdge_pending (hl : isLevel src = false) (he : s.srcEn t src = true) : EdgePending (s.setEdge t src) t src := by
  have hno : ¬ (isLevel src || !s.srcEn t src) = true := by
    rw [hl, he]
    decide
  unfold State.setEdge EdgePending
  rw [if_neg hno]
  by_cases h32 : src < 32
  · rw [if_pos h32, if_pos h32, modTiller_self]
    exact mem_insertNat src _
  · rw [if_neg h32, if_neg h32]
    exact mem_insertNat src _

/-- Each enabled edge source of a list is pending once all of them have been set. -/
theorem setEdges (l : List (Nat × Bool)) (s : State) (t : Nat) :
    EdgesSet s (l.foldl (fun (s : State) e => s.setEdge t e.1) s) t ∧
      ∀ e ∈ l, isLevel e.1 = false → s.srcEn t e.1 = true →
        EdgePending (l.foldl (fun (s : State) e => s.setEdge t e.1) s) t e.1 := by
  induction l generalizing s with
  | nil => exact ⟨edgesSet_refl s t, fun e he => absurd he (by simp)⟩
  | cons c l ih =>
    have hset := edgesSet_setEdge s t c.1
    obtain ⟨hrest, hpend⟩ := ih (s.setEdge t c.1)
    refine ⟨hset.trans hrest, fun e he hl hen => ?_⟩
    rcases List.mem_cons.1 he with rfl | he
    · exact hrest.pending (setEdge_pending hl hen)
    · exact hpend e he hl (by rw [hset.srcEn, hen])

/-- The claim stack is empty and DFLAG clear, before any source is pending again. -/
def stackCleared (s : State) (t : Nat) : State :=
  s.modTiller t (fun x => { x with claims := [], dflag := false, emptyWin := none })

theorem icuResets (ht : t < 64) :
    ∃ s', exec (.icuReset t) s = .next s' ∧ (s'.tiller t).claims = [] ∧ (s'.tiller t).dflag = false ∧
      (∀ e ∈ (s.tiller t).claims, isLevel e.1 = false → s.srcEn t e.1 = true →
        (if e.1 < 32 then e.1 ∈ (s'.tiller t).edges else e.1 ∈ s'.sharedEdges)) ∧
      (∀ n ∈ (s.tiller t).edges, n ∈ (s'.tiller t).edges) ∧ (∀ n ∈ s.sharedEdges, n ∈ s'.sharedEdges) ∧
      (s'.tiller t).pc = (s.tiller t).pc ∧ GrSame s s' t ∧ s'.mem = s.mem := by
  obtain ⟨hset, hpend⟩ := setEdges (s.tiller t).claims (stackCleared s t) t
  have hx : (stackCleared s t).tiller t = { s.tiller t with claims := [], dflag := false, emptyWin := none } :=
    modTiller_self s t _
  have hexec : exec (.icuReset t) s =
      .next ((s.tiller t).claims.foldl (fun (s : State) e => s.setEdge t e.1) (stackCleared s t)) := by
    show execIcuReset t s = _
    rw [execIcuReset, if_pos ht]
    rfl
  refine ⟨_, hexec, ?_, ?_, fun e he hl hen => hpend e he hl hen, fun n hn => hset.edges n (by rw [hx]; exact hn),
    hset.shared, ?_, gr_of_g ?_, ?_⟩
  · rw [hset.tiller, hx]
  · rw [hset.tiller, hx]
  · rw [hset.tiller, hx]
  · rw [hset.tiller, hx]
  · rw [hset.rest]
    rfl

/-! ### The statement -/

theorem timerHoldAndReset : TimerHoldAndReset := by
  intro s t
  refine ⟨timerEndsWaiti, fun hrun hlow => ?_, fun hrun hflag hhold hlate hp => ?_, fun hflag => ?_, icuResets⟩
  · show execTimerCompare t s = _
    rw [execTimerCompare, hlow, Bool.and_false, if_neg Bool.false_ne_true]
  · have hne : (1000 * s.fld (Reg.icuCtl t) F.IcuCtl.hold != 0) = true := by
      rw [bne_iff_ne]
      omega
    show execHoldTimeout t s = _
    unfold execHoldTimeout
    simp only [hrun, hflag, hne, hlate, hp, decide_true, Bool.and_self, if_true]
  · show execHoldTimeout t s = _
    unfold execHoldTimeout
    simp only [hflag, Bool.and_false, Bool.false_and, Bool.false_eq_true, if_false]

/-- Settles O24: a delivery enters as a plain exception of its cause does and then claims its source; ICU_RESET sets the
pending bits of what it takes off the claim stack. -/
theorem interruptEvents : Obligations.InterruptEvents := ⟨interruptDelivery, timerHoldAndReset⟩

end Sys2Proof.Laws
end

section
/-! SUPPORT. A load of a Tiller from its own window (R339, R345, R347): where it completes, what it leaves beside what its
place in the window does. -/

namespace Sys2Proof.Laws

open Sys2Proof.Machine Sys2Proof.Safety

variable {s u : State} {t o n : Nat} {rd : Fin 32} {v : Word}

/-! ### The EMPTY window (R347) -/

theorem insert_insert {α : Type} (k : Nat) (v : α) (m : List (Nat × α)) :
    Map.insert k v (Map.insert k v m) = Map.insert k v m := by
  induction m with
  | nil => simp [Map.insert]
  | cons e m ih =>
    obtain ⟨a, w⟩ := e
    simp only [Map.insert]
    split
    · simp [Map.insert]
    · next hlt =>
      split
      · simp [Map.insert]
      · next hne => simp only [Map.insert, if_neg hlt, if_neg hne, ih]

theorem erase_erase {α : Type} (k : Nat) (m : List (Nat × α)) : Map.erase k (Map.erase k m) = Map.erase k m := by
  induction m with
  | nil => rfl
  | cons e m ih =>
    simp only [Map.erase]
    split
    · exact ih
    · next hne => simp only [Map.erase, if_neg hne, ih]

theorem put_put {α : Type} [DecidableEq α] (d v : α) (m : List (Nat × α)) (k : Nat) :
    Map.put d (Map.put d m k v) k v = Map.put d m k v := by
  unfold Map.put
  split
  · exact erase_erase k m
  · exact insert_insert k v m

/-- A second change of a Tiller that changes nothing more is no change. -/
theorem modTiller_modTiller (s : State) (t : Nat) (f g : Tiller → Tiller) (h : g (f (s.tiller t)) = f (s.tiller t)) :
    (s.modTiller t f).modTiller t g = s.modTiller t f := by
  have hx : ((s.modTiller t f).tiller t) = f (s.tiller t) := modTiller_self s t f
  unfold State.modTiller at hx ⊢
  rw [hx, h]
  unfold State.setTiller
  simp only [put_put]

/-- With no EMPTY window open, an instruction that starts has none to close. -/
theorem closeWindow_started (h : (s.tiller t).emptyWin = none) : (started s t).closeWindow t = started s t := by
  have hw : ((started s t).tiller t).emptyWin = none := by rw [started_tiller, h]
  have hsense : (started s t).senseOne t = started s t := by
    refine senseOne_high fun src he => ?_
    rw [hw] at he
    exact absurd he (by simp)
  unfold State.closeWindow
  rw [hsense, started]
  refine modTiller_modTiller s t _ _ ?_
  have hx : s.tiller t = { s.tiller t with emptyWin := none } := by rw [← h]
  rw [hx]

/-! ### The load completes -/

/-- The state after a load from the window that leaves state `u` and gives `v`. -/
def windowDone (u : State) (t : Nat) (rd : Fin 32) (v : Word) : State := (u.sense.setGr t rd v).retireKeep t 14

theorem windowInstr_val (h : WindowFits s t o) (hv : (started s t).winLoad t o = .val v u) :
    s.windowInstr t rd o = windowDone u t rd v := by
  have hring : ((started s t).tiller t).ring = (s.tiller t).ring := by rw [started_tiller]
  have hpos : ((started s t).tiller t).pos = (s.tiller t).pos := by rw [started_tiller]
  have hcur : ((started s t).tiller t).curPa = (s.tiller t).curPa := by rw [started_tiller, Tiller.curPa, Tiller.curPa]
  have hreach : (started s t).physFault t ((started s t).tiller t).ring .load ((started s t).tiller t).curPa
      (windowBase ((started s t).tiller t).pos + o) 8 = none := by
    rw [hring, hpos, hcur]
    exact h.reach
  have hwait (b : Nat) : (started s t).sideWaits t b = s.sideWaits t b := by
    rw [State.sideWaits, State.sideWaits, started_tiller]
    rfl
  have hdrained : (started s t).sideWaits t (windowBase ((started s t).tiller t).pos + o) = false := by
    rw [hwait, hpos]
    exact h.drained
  have hload (va : Nat) : (started s t).windowLoad t rd o va = .done (windowDone u t rd v) := by
    unfold State.windowLoad
    simp only [hv, closeWindow_started h.closed]
    rfl
  rw [State.windowInstr, instr_ready h.ready true _ (.inl rfl)]
  simp only [hreach, hdrained, hload, Bool.false_eq_true, if_false, settle_done]

theorem retireKeep_tiller (s : State) (t n : Nat) : (s.retireKeep t n).tiller t = (s.tiller t).advance := by
  rw [State.retireKeep]
  simp only [tiller_topDown, tiller_mark, modTiller_self]

theorem retireKeep_tiller_ne {w : Nat} (hw : w ≠ t) : (s.retireKeep t n).tiller w = s.tiller w := by
  rw [State.retireKeep]
  simp only [tiller_topDown, tiller_mark, tiller_modTiller, if_neg hw]

/-- Retirement counts Marks and steps on, whether or not it closes an EMPTY window. -/
theorem retireKeep_rest (s : State) (t n : Nat) : s.retireKeep t n =
    { s with regs := (s.retireKeep t n).regs, tillers := (s.retireKeep t n).tillers } := by
  unfold State.retireKeep
  dsimp only
  rw [((mark_regsOnly _ t _ _ _).trans (topDown_regsOnly _ t _ _ _)).eq]
  rfl

theorem windowDone_tiller (u : State) (t : Nat) (rd : Fin 32) (v : Word) :
    (windowDone u t rd v).tiller t = ((u.sense.tiller t).put rd v).advance := by
  rw [windowDone, retireKeep_tiller, tiller_setGr]

/-- Fields of the Tiller that neither a register write nor the step to the next instruction touches. -/
theorem advance_put (x : Tiller) (rd : Fin 32) (v : Word) : ∃ g pc, (x.put rd v).advance = { x with
    g := g, pc := pc, prevPa := x.curPa, noEntryCheck := false, progress := false, dbgStep := false, lineWait := [],
    dslot := none } := by
  obtain ⟨g, hg⟩ := put_eq x rd v
  rw [hg]
  exact ⟨g, _, rfl⟩

/-- What the load of a window place leaves to the Tiller's instruction: registers, pc and control registers of the
Tiller, memory, and every other Tiller. -/
structure WindowPlace (s u : State) (t : Nat) : Prop where
  gr : GrSame s u t
  pc : nextPc u t = nextPc s t
  ctl : CtlSame (s.tiller t) (u.tiller t)
  mem : u.mem = s.mem
  others : ∀ w, w ≠ t → u.tiller w = s.tiller w

theorem windowPlace_started (s : State) (t : Nat) : WindowPlace s (started s t) t where
  gr := started_gr s t
  pc := (stands_started s t).nextPc_eq
  ctl := (stands_started s t).frame.ctl
  mem := rfl
  others w hw := started_tiller_ne s t w hw

/-- The place changed nothing of the Tillers but the Tiller's own claims, DFLAG, pending bits and queues. -/
structure PlaceOnly (x y : Tiller) : Prop where
  eq : y = { x with
    claims := y.claims
    dflag := y.dflag
    emptyWin := y.emptyWin
    emptyCount := y.emptyCount
    edges := y.edges
    ans := y.ans
    cancel := y.cancel }

theorem windowPlace_of (hx : PlaceOnly ((started s t).tiller t) (u.tiller t)) (hm : u.mem = s.mem)
    (ho : ∀ w, w ≠ t → u.tiller w = s.tiller w) : WindowPlace s u t := by
  have h := windowPlace_started s t
  have hg : GrSame (started s t) u t := gr_of_g (by rw [hx.eq])
  refine ⟨fun r => (hg r).trans (h.gr r), ?_, ?_, hm, ho⟩
  · rw [← h.pc, nextPc, nextPc, hx.eq]
  · refine ctlSame_trans h.ctl ?_
    rw [hx.eq]
    exact ⟨rfl, rfl, rfl, rfl, rfl, ⟨rfl, rfl⟩, ⟨rfl, rfl⟩, rfl, rfl, rfl, rfl⟩

/-- A load whose place is known completes. -/
theorem windowLoads_of {f : State → Prop} (h : WindowFits s t o) (hv : (started s t).winLoad t o = .val v u)
    (hu : WindowPlace s u t) (hf : f (windowDone u t rd v)) :
    WindowLoads (.next (s.windowInstr t rd o)) s t rd v f := by
  have hs := onlySensed_sense u
  have hx := windowDone_tiller u t rd v
  obtain ⟨g, pc, ha⟩ := advance_put (u.sense.tiller t) rd v
  have hsig := signalled_sense u t
  have hgr : GrWritten s (windowDone u t rd v) t rd v := by
    have hsense : GrSame s u.sense t := fun r => (gr_of_g hsig.g r).trans (hu.gr r)
    refine grSame_after (grWritten_of_grSame (grWritten_setGr u.sense t rd v) hsense) (gr_of_g ?_)
    rw [windowDone, retireKeep_tiller]
    rfl
  refine ⟨windowDone u t rd v, by rw [windowInstr_val h hv], hgr, ?_, ?_, ?_, fun w hw => ?_, hf⟩
  · rw [hx, ← hu.pc, nextPc, ← hsig.pc, ← hsig.dslot]
    simp only [Tiller.advance, pc_put, dslot_put]
  · rw [windowDone, retireKeep_rest, State.setGr]
    exact hs.mem.trans hu.mem
  · refine ctlSame_trans hu.ctl (ctlSame_trans hsig.ctl ?_)
    rw [hx, ha]
    exact ⟨rfl, rfl, rfl, rfl, rfl, ⟨rfl, rfl⟩, ⟨rfl, rfl⟩, rfl, rfl, rfl, rfl⟩
  · have he : (windowDone u t rd v).tiller w = u.sense.tiller w := by
      rw [windowDone, retireKeep_tiller_ne hw, State.setGr, tiller_modTiller, if_neg hw]
    rw [he, ← hu.others w hw]
    exact hs.tillers w

/-! ### What stands after the load -/

theorem chute_windowDone (u : State) (t : Nat) (rd : Fin 32) (v : Word) (c : Nat) :
    (windowDone u t rd v).chute c = u.chute c := by
  rw [windowDone, retireKeep_rest]
  exact (onlySensed_sense u).chute c

theorem sharedEdges_windowDone (u : State) (t : Nat) (rd : Fin 32) (v : Word) :
    (windowDone u t rd v).sharedEdges = u.sharedEdges := by
  have hs : u.sense.sharedEdges = u.sharedEdges := by rw [(onlySensed_sense u).rest]
  rw [windowDone, retireKeep_rest]
  exact hs

/-- The load leaves of its Tiller's ICU and Chute state what its place has made of it; claims may be marked EMPTY. -/
theorem windowDone_place (u : State) (t : Nat) (rd : Fin 32) (v : Word) :
    ((windowDone u t rd v).tiller t).claims = (u.sense.tiller t).claims ∧
      ((windowDone u t rd v).tiller t).dflag = (u.tiller t).dflag ∧
      ((windowDone u t rd v).tiller t).edges = (u.tiller t).edges ∧
      ((windowDone u t rd v).tiller t).ans = (u.tiller t).ans ∧
      ((windowDone u t rd v).tiller t).cancel = (u.tiller t).cancel := by
  obtain ⟨g, pc, ha⟩ := advance_put (u.sense.tiller t) rd v
  rw [windowDone_tiller, ha]
  have hs := ((onlySensed_sense u).tillers t).1
  exact ⟨rfl, by rw [hs], by rw [hs], by rw [hs], by rw [hs]⟩

end Sys2Proof.Laws
end

section
/-! OBLIGATION O25. ICU_CLAIM and ICU_EOI (R345, R346, Table 12.8). -/

namespace Sys2Proof.Laws

open Sys2Proof.Machine Sys2Proof.Safety

variable {s u : State} {t src : Nat} {rd : Fin 32}

/-! ### ICU_CLAIM (R345) -/

theorem icuClaim_taken (hf : (s.tiller t).claimFault (s.tiller t).ring = none)
    (hsrc : (started s t).claimable t (s.tiller t).dring = some src) (hlen : (s.tiller t).claims.length < 4) :
    (started s t).winLoad t 8 = .val (BitVec.ofNat 64 (((s.tiller t).claims.length + 1) * 65536 + src))
      ((started s t).pushClaim t src) := by
  have hfault : ((started s t).tiller t).claimFault ((started s t).tiller t).ring = none := by
    rw [started_tiller]
    exact hf
  have hring : ((started s t).tiller t).dring = (s.tiller t).dring := by rw [started_tiller]
  have hcl : ((started s t).tiller t).claims = (s.tiller t).claims := by rw [started_tiller]
  show (started s t).icuClaim t _ = _
  unfold State.icuClaim
  simp only [hfault, hring, hsrc, hcl, if_neg (Nat.not_le.2 hlen)]

theorem icuClaim_none (hf : (s.tiller t).claimFault (s.tiller t).ring = none)
    (hsrc : (started s t).claimable t (s.tiller t).dring = none) :
    (started s t).winLoad t 8 = .val (BitVec.ofNat 64 (2 ^ 63 + (s.tiller t).claims.length * 65536)) (started s t) := by
  have hfault : ((started s t).tiller t).claimFault ((started s t).tiller t).ring = none := by
    rw [started_tiller]
    exact hf
  have hring : ((started s t).tiller t).dring = (s.tiller t).dring := by rw [started_tiller]
  have hcl : ((started s t).tiller t).claims = (s.tiller t).claims := by rw [started_tiller]
  show (started s t).icuClaim t _ = _
  unfold State.icuClaim
  simp only [hfault, hring, hsrc, hcl]

/-- The input of a level source that can be claimed is high. -/
theorem levelInput_of_claimable {r : Nat} (h : s.claimable t r = some src) (hl : isLevel src = true) :
    s.levelInput t src = true := by
  have hcl : s.srcClaimable t r src = true := List.find?_some h
  simp only [State.srcClaimable, State.srcPending, hl, if_true, Bool.and_eq_true] at hcl
  exact hcl.1.2.2.1

theorem windowPlace_pushClaim (s : State) (t src : Nat) : WindowPlace s ((started s t).pushClaim t src) t := by
  obtain ⟨l, hx, -⟩ := pushClaim_tiller (started s t) t src
  refine windowPlace_of ⟨by rw [hx]⟩ ?_ fun w hw => ?_
  · rw [pushClaim_rest]
    rfl
  · rw [pushClaim_tiller_ne hw, started_tiller_ne s t w hw]

/-- The claim that a load has just pushed is not marked EMPTY: its source is not a level source, or its input is high. -/
theorem claims_sense_pushClaim {r : Nat} (h : s.claimable t r = some src) :
    ((s.pushClaim t src).sense.tiller t).claims = (src, false) :: (s.tiller t).claims := by
  obtain ⟨l, hx, -⟩ := pushClaim_tiller s t src
  rw [claims_sense fun n hn => ?_, hx]
  rw [(sameInputs_pushClaim s t src).levelInput]
  rw [hx] at hn
  cases hl : isLevel src
  · rw [hl] at hn
    exact absurd hn (by simp)
  · rw [hl] at hn
    rw [← Option.some.inj hn]
    exact levelInput_of_claimable h hl

theorem claims_sense_closed (h : (s.tiller t).emptyWin = none) : (s.sense.tiller t).claims = (s.tiller t).claims :=
  claims_sense fun n hn => by rw [h] at hn; exact absurd hn (by simp)

/-! ### ICU_EOI (R346) -/

/-- The top claim is popped; DFLAG clears with the last one, and an EMPTY claim counts. -/
def popped (s : State) (t : Nat) (rest : List (Nat × Bool)) (count : Nat) : State :=
  s.modTiller t (fun x => { x with claims := rest, dflag := !rest.isEmpty, emptyCount := count })

theorem winLoad_eoi (s : State) (t : Nat) (hsrc : src < 288) :
    s.winLoad t (0x1000 + 8 * src) = s.icuEoi t (s.tiller t).ring src := by
  unfold State.winLoad
  rw [if_neg (by omega), if_neg (by omega), if_neg (by omega), if_neg (by omega), if_pos (by omega)]
  congr 1
  omega

theorem icuEoi_top {b : Bool} {rest : List (Nat × Bool)} (hf : (s.tiller t).claimFault (s.tiller t).ring = none)
    (hc : (s.tiller t).claims = (src, b) :: rest) :
    ∃ n, (started s t).icuEoi t (s.tiller t).ring src =
      .val (BitVec.ofNat 64 ((if isLevel src = true ∧ (started s t).levelInput t src = true then 8 else 0) + rest.length))
        (popped (started s t) t rest n) := by
  have hfault : ((started s t).tiller t).claimFault (s.tiller t).ring = none := by
    rw [started_tiller]
    exact hf
  have hcl : ((started s t).tiller t).claims = (src, b) :: rest := by rw [started_tiller, hc]
  refine ⟨if isLevel src && !(isLevel src && (started s t).levelInput t src) && b then
    min (((started s t).tiller t).emptyCount + 1) (2 ^ 32 - 1) else ((started s t).tiller t).emptyCount, ?_⟩
  unfold State.icuEoi
  simp only [hfault, hcl, ne_eq, not_true_eq_false, if_false]
  congr 1
  cases isLevel src <;> cases (started s t).levelInput t src <;> rfl

theorem windowPlace_popped (s : State) (t : Nat) (rest : List (Nat × Bool)) (n : Nat) :
    WindowPlace s (popped (started s t) t rest n) t := by
  refine windowPlace_of ⟨by rw [popped, modTiller_self]⟩ rfl fun w hw => ?_
  rw [popped, tiller_modTiller, if_neg hw, started_tiller_ne s t w hw]

/-! ### The statement -/

/-- Settles O25: a claim pushes a source whose pending state it takes, and a completion pops the top claim. -/
theorem interruptClaimAndCompletion : Obligations.InterruptClaimAndCompletion := by
  intro s t src rd x
  refine ⟨fun hw hf hsrc hlen => ?_, fun hw hf hsrc => ?_, fun hlt hw hf b rest hc => ?_⟩
  · refine windowLoads_of hw (icuClaim_taken hf hsrc hlen) (windowPlace_pushClaim s t src) ?_
    obtain ⟨hclaims, hdflag, hedges, -, -⟩ :=
      windowDone_place ((started s t).pushClaim t src) t rd (BitVec.ofNat 64 ((x.claims.length + 1) * 65536 + src))
    rw [claims_sense_pushClaim hsrc, started_tiller] at hclaims
    obtain ⟨l, hx, -⟩ := pushClaim_tiller (started s t) t src
    refine ⟨hclaims, srcPending_pushClaim (s := started s t) ⟨false, ?_⟩ hedges (sharedEdges_windowDone _ t rd _), ?_⟩
    · rw [hclaims]
      exact List.mem_cons_self
    · rw [hdflag, hx, started_tiller]
  · refine windowLoads_of hw (icuClaim_none hf hsrc) (windowPlace_started s t) ?_
    obtain ⟨hclaims, -, hedges, -, -⟩ :=
      windowDone_place (started s t) t rd (BitVec.ofNat 64 (2 ^ 63 + x.claims.length * 65536))
    rw [claims_sense_closed (by rw [started_tiller]; exact hw.closed), started_tiller] at hclaims
    rw [started_tiller] at hedges
    exact ⟨hclaims, hedges, sharedEdges_windowDone _ t rd _⟩
  · obtain ⟨n, hn⟩ := icuEoi_top hf hc
    have hring : ((started s t).tiller t).ring = (s.tiller t).ring := by rw [started_tiller]
    rw [← hring, ← winLoad_eoi _ t hlt] at hn
    show WindowLoads (execIcuEoi t rd src s) s t rd _ _
    rw [execIcuEoi, if_pos hlt]
    refine windowLoads_of hw hn (windowPlace_popped s t rest n) ?_
    obtain ⟨hclaims, hdflag, -, -, -⟩ := windowDone_place (popped (started s t) t rest n) t rd
      (BitVec.ofNat 64 ((if isLevel src = true ∧ (started s t).levelInput t src = true then 8 else 0) + rest.length))
    rw [claims_sense_closed (by rw [popped, modTiller_self, started_tiller]; exact hw.closed)] at hclaims
    rw [popped, modTiller_self] at hclaims hdflag
    exact ⟨hclaims, hdflag⟩

end Sys2Proof.Laws
end

section
/-! OBLIGATION O26. Reads of a Chute, CH_DROP, CH_ANS and CH_CANCEL (R353, R355, R358, R360). -/

namespace Sys2Proof.Laws

open Sys2Proof.Machine Sys2Proof.Safety

variable {s u : State} {t c o off : Nat} {rd : Fin 32} {p : Packet} {l : List Packet} {v : Word}

/-! ### Places of the window (Table 12.1) -/

theorem winLoad_chute (hc : c < 256) (ho : off < 512) :
    s.winLoad t (0x40000 + 0x400 * c + 0x200 + off) =
      .val (s.chutePort t c (0x200 + off)).1 (s.chutePort t c (0x200 + off)).2 := by
  have hport : (0x40000 + 0x400 * c + 0x200 + off - 0x40000) / 0x400 = c := by omega
  have hoff : (0x40000 + 0x400 * c + 0x200 + off) % 0x400 = 0x200 + off := by omega
  unfold State.winLoad
  rw [if_neg (by omega), if_neg (by omega), if_neg (by omega), if_neg (by omega), if_neg (by omega), if_neg (by omega),
    if_neg (by omega), if_neg (by omega), if_neg (by omega), if_pos (by omega)]
  simp only [hport, hoff]

theorem winLoad_drop (hc : c < 256) (hrole : s.chuteRole c = roleTiller ∨ s.chuteRole c = roleWork)
    (hr : s.chuteReader c = t) : s.winLoad t (0x2800 + 8 * c) = .val (s.chuteDrop c).1 (s.chuteDrop c).2 := by
  have hport : (0x2800 + 8 * c - 0x2800) / 8 = c := by omega
  unfold State.winLoad
  rw [if_neg (by omega), if_neg (by omega), if_neg (by omega), if_neg (by omega), if_neg (by omega), if_neg (by omega),
    if_pos (by omega)]
  simp only [hport, hrole.symm, hr, and_self, if_true]

theorem winLoad_ans {w : Word} (h : s.chuteAnswer t = (some w, u)) : s.winLoad t 0x3000 = .val w u := by
  show (match s.chuteAnswer t with
    | (some v, s) => WinRes.val v s
    | (none, _) => .wait) = _
  rw [h]

theorem winLoad_cancel (s : State) (t : Nat) : s.winLoad t 0x3008 = .val (s.chuteCancel t).1 (s.chuteCancel t).2 := rfl

/-! ### What a read leaves (R355) -/

/-- A read of a Chute changes Chutes, and the slate whose packet leaves. -/
structure ChuteOnly (s u : State) : Prop where
  rest : u = { s with chutes := u.chutes, slates := u.slates }

theorem chuteOnly_refl (s : State) : ChuteOnly s s := ⟨rfl⟩

theorem ChuteOnly.trans {w : State} (h : ChuteOnly s u) (k : ChuteOnly u w) : ChuteOnly s w := ⟨by rw [k.rest, h.rest]⟩

theorem chuteOnly_modChute (s : State) (c : Nat) (f : Chute → Chute) : ChuteOnly s (s.modChute c f) := ⟨rfl⟩

theorem chuteOnly_chutePop (s : State) (c : Nat) : ChuteOnly s (s.chutePop c) := by
  unfold State.chutePop
  split
  · exact chuteOnly_refl s
  · dsimp only
    split
    · split
      · split
        · exact ⟨rfl⟩
        · exact chuteOnly_modChute s c _
      · exact chuteOnly_modChute s c _
    · exact chuteOnly_modChute s c _

theorem windowPlace_chuteOnly (h : ChuteOnly (started s t) u) : WindowPlace s u t := by
  have hx : ∀ w, u.tiller w = (started s t).tiller w := fun w => by
    rw [h.rest]
    rfl
  refine windowPlace_of ⟨by rw [hx]⟩ ?_ fun w hw => ?_
  · rw [h.rest]
    rfl
  · rw [hx, started_tiller_ne s t w hw]

/-- The head packet leaves its Chute. -/
theorem pkts_chutePop (h : (s.chute c).pkts = p :: l) : ((s.chutePop c).chute c).pkts = l := by
  have hmod : ((s.modChute c (fun x => { x with pkts := l, taken := [] })).chute c).pkts = l := by
    rw [chute_modChute, if_pos rfl]
  unfold State.chutePop
  rw [h]
  dsimp only
  split
  · split
    · split
      · rw [chute_modSlate_ne]
        exact hmod
      · exact hmod
    · exact hmod
  · exact hmod

/-! ### The read window (R355) -/

/-- The read restarts the Chute's stale timer (R356). -/
def readStarts (s : State) (c : Nat) : State := s.modChute c (fun x => { x with staleAt := s.uptime })

theorem chute_readStarts (s : State) (c : Nat) : (readStarts s c).chute c = { s.chute c with staleAt := s.uptime } := by
  rw [readStarts, chute_modChute, if_pos rfl]

/-- A read beyond the packet's end. -/
def readBeyond (s : State) (c : Nat) : State := (readStarts s c).modChute c (fun x => { x with lastRead := 0 })

/-- A read of an empty Chute. -/
def readEmpty (s : State) (c : Nat) : State := (readStarts s c).modChute c (fun x => { x with underrun := true })

/-- A read of the word at `off`, before a packet that has been read to its end leaves. -/
def readWord (s : State) (c off : Nat) (v : Word) : State :=
  (readStarts s c).modChute c (fun x => { x with
    lastRead := v, taken := if x.taken.contains (off / 8) then x.taken else x.taken ++ [off / 8] })

theorem chuteReadAt_word (h : (s.chute c).pkts = p :: l) (ho : off / 64 < p.words) :
    s.chuteReadAt c off = (BitVec.ofNat 64 (le p.bytes off 8),
      if off = 64 * p.words - 8 then (readWord s c off (BitVec.ofNat 64 (le p.bytes off 8))).chutePop c
      else readWord s c off (BitVec.ofNat 64 (le p.bytes off 8))) := by
  have hp : ((readStarts s c).chute c).pkts = p :: l := by rw [chute_readStarts, h]
  rw [readStarts] at hp
  unfold State.chuteReadAt
  simp only [hp, if_neg (Nat.not_le.2 ho)]
  split <;> rfl

theorem chuteReadAt_beyond (h : (s.chute c).pkts = p :: l) (ho : p.words ≤ off / 64) :
    s.chuteReadAt c off = (0, readBeyond s c) := by
  have hp : ((readStarts s c).chute c).pkts = p :: l := by rw [chute_readStarts, h]
  rw [readStarts] at hp
  unfold State.chuteReadAt
  simp only [hp, if_pos ho]
  rfl

theorem chuteReadAt_empty (h : (s.chute c).pkts = []) : s.chuteReadAt c off = ((s.chute c).lastRead, readEmpty s c) := by
  have hp : ((readStarts s c).chute c).pkts = [] := by rw [chute_readStarts, h]
  have hv : ((readStarts s c).chute c).lastRead = (s.chute c).lastRead := by rw [chute_readStarts]
  rw [readStarts] at hp hv
  unfold State.chuteReadAt
  simp only [hp, hv]
  rfl

theorem pkts_readWord (s : State) (c off : Nat) (v : Word) :
    ((readWord s c off v).chute c).pkts = (s.chute c).pkts := by
  rw [readWord, chute_modChute, if_pos rfl, chute_readStarts]

theorem chuteOnly_readStarts (s : State) (c : Nat) : ChuteOnly s (readStarts s c) := chuteOnly_modChute s c _

theorem chuteOnly_readWord (s : State) (c off : Nat) (v : Word) : ChuteOnly s (readWord s c off v) :=
  (chuteOnly_readStarts s c).trans (chuteOnly_modChute _ c _)

/-- A word that its Chute's reader may take, where no move keeps it from new work (R208, R355). -/
structure ReaderAt (s : State) (t c : Nat) : Prop where
  role : s.chuteRole c = roleTiller ∨ s.chuteRole c = roleWork ∧ s.tillerMoves t = false
  reader : s.chuteReader c = t

theorem chutePort_reader (h : ReaderAt s t c) : s.chutePort t c (0x200 + off) = s.chuteReadAt c off := by
  have hread : 0x200 ≤ 0x200 + off ∧ (s.chuteRole c = roleWork ∨ s.chuteRole c = roleTiller) ∧ s.chuteReader c = t :=
    ⟨by omega, h.role.elim .inr fun hw => .inl hw.1, h.reader⟩
  have hmoves : ¬ (s.tillerMoves t = true ∧ s.chuteRole c = roleWork ∧ (s.chute c).taken.isEmpty = true) := by
    rintro ⟨hm, hw, -⟩
    rcases h.role with ht | ⟨-, hn⟩
    · rw [hw] at ht
      exact absurd ht (by decide)
    · rw [hn] at hm
      exact absurd hm (by decide)
  rw [State.chutePort, if_pos hread, if_neg hmoves, Nat.add_sub_cancel_left]

theorem readerAt_started (h : ReaderAt s t c) : ReaderAt (started s t) t c := ⟨h.role, h.reader⟩

/-- The load of a word from the own window's read port completes with what the Chute answers. -/
theorem chuteRead_loads {f : State → Prop} (hc : c < 256) (ho : off < 512)
    (hw : WindowFits s t (0x40000 + 0x400 * c + 0x200 + off)) (hr : ReaderAt s t c)
    (hv : (started s t).chuteReadAt c off = (v, u)) (hu : ChuteOnly (started s t) u) (hf : f (windowDone u t rd v)) :
    WindowLoads (exec (.chuteRead t rd c off) s) s t rd v f := by
  have hload : (started s t).winLoad t (0x40000 + 0x400 * c + 0x200 + off) = .val v u := by
    rw [winLoad_chute hc ho, chutePort_reader (readerAt_started hr), hv]
  show WindowLoads (execChuteRead t rd c off s) s t rd v f
  rw [execChuteRead, if_pos ⟨hc, ho⟩]
  exact windowLoads_of hw hload (windowPlace_chuteOnly hu) hf

/-! ### CH_DROP (R355) -/

theorem chuteDrop_head (h : (s.chute c).pkts = p :: l) :
    s.chuteDrop c = (BitVec.ofNat 64 ((s.chute c).unread p), s.chutePop c) := by
  unfold State.chuteDrop
  rw [h]

/-- Where nothing has been read, every word of the packet is left. -/
theorem unread_untouched {x : Chute} (h : x.taken = []) (p : Packet) : x.unread p = p.words := by
  have hall : ∀ k ∈ List.range p.words,
      ((List.range 8).any fun j => !x.taken.contains (8 * k + j)) = true := fun k _ => by
    rw [h]
    rfl
  rw [Chute.unread, List.countP_eq_length.2 hall, List.length_range]

theorem chDrop_loads (hc : c < 256) (hw : WindowFits s t (0x2800 + 8 * c))
    (hrole : s.chuteRole c = roleTiller ∨ s.chuteRole c = roleWork) (hr : s.chuteReader c = t)
    (h : (s.chute c).pkts = p :: l) :
    WindowLoads (exec (.chDrop t rd c) s) s t rd (BitVec.ofNat 64 ((s.chute c).unread p))
      (fun s' => (s'.chute c).pkts = l) := by
  have hload : (started s t).winLoad t (0x2800 + 8 * c) =
      .val (BitVec.ofNat 64 ((s.chute c).unread p)) ((started s t).chutePop c) := by
    rw [winLoad_drop (s := started s t) hc hrole hr, chuteDrop_head (s := started s t) h]
    rfl
  show WindowLoads (execChDrop t rd c s) s t rd _ _
  rw [execChDrop, if_pos hc]
  refine windowLoads_of hw hload (windowPlace_chuteOnly (chuteOnly_chutePop _ c)) ?_
  rw [chute_windowDone]
  exact pkts_chutePop (s := started s t) h

/-! ### CH_ANS and CH_CANCEL (R358, R360) -/

theorem windowPlace_queues (s : State) (t : Nat) (f : Tiller → Tiller) (hf : ∀ x, PlaceOnly x (f x)) :
    WindowPlace s ((started s t).modTiller t f) t := by
  refine windowPlace_of ?_ rfl fun w hw => ?_
  · rw [modTiller_self]
    exact hf _
  · rw [tiller_modTiller, if_neg hw, started_tiller_ne s t w hw]

theorem chAns_loads {w : Word} {q : List (Nat × Option Word)} (hw : WindowFits s t 0x3000)
    (h : (s.tiller t).ans = (c, some w) :: q) :
    WindowLoads (exec (.chAns t rd) s) s t rd w (fun s' => (s'.tiller t).ans = q) := by
  have hans : ((started s t).tiller t).ans = (c, some w) :: q := by rw [started_tiller, h]
  have hanswer : (started s t).chuteAnswer t =
      (some w, (started s t).modTiller t (fun x => { x with ans := q })) := by
    unfold State.chuteAnswer
    rw [hans]
  refine windowLoads_of hw (winLoad_ans hanswer) (windowPlace_queues s t _ fun x => ⟨rfl⟩) ?_
  obtain ⟨-, -, -, hdone, -⟩ := windowDone_place ((started s t).modTiller t (fun x => { x with ans := q })) t rd w
  rw [hdone, modTiller_self]

theorem chCancel_loads {tag : Nat} {q : List (Nat × Option Nat)} {n : Option Nat} (hw : WindowFits s t 0x3008)
    (h : (s.tiller t).cancel = (tag, n) :: q) :
    WindowLoads (exec (.chCancel t rd) s) s t rd (BitVec.ofNat 64 (2 ^ 31 + tag))
      (fun s' => (s'.tiller t).cancel = q) := by
  have hcancel : ((started s t).tiller t).cancel = (tag, n) :: q := by rw [started_tiller, h]
  have htake : (started s t).chuteCancel t =
      (BitVec.ofNat 64 (2 ^ 31 + tag), (started s t).modTiller t (fun x => { x with cancel := q })) := by
    unfold State.chuteCancel
    rw [hcancel]
  have hload : (started s t).winLoad t 0x3008 = .val (BitVec.ofNat 64 (2 ^ 31 + tag))
      ((started s t).modTiller t (fun x => { x with cancel := q })) := by rw [winLoad_cancel, htake]
  refine windowLoads_of hw hload (windowPlace_queues s t _ fun x => ⟨rfl⟩) ?_
  obtain ⟨-, -, -, -, hdone⟩ := windowDone_place ((started s t).modTiller t (fun x => { x with cancel := q })) t rd
    (BitVec.ofNat 64 (2 ^ 31 + tag))
  rw [hdone, modTiller_self]

/-! ### The statement -/

/-- Settles O26: each load is one access of its Chute or of a queue of its Tiller, in the state in which the instruction
starts. -/
theorem chuteReads : Obligations.ChuteReads := by
  intro s t c off rd p rest
  have hstart : (started s t).chute c = s.chute c := rfl
  refine ⟨fun hc ho hw hrole hr => ⟨fun hp hlt => ?_, fun hp hle => ?_, fun hp => ?_⟩, fun hc hw hrole hr hp => ⟨?_, ?_⟩,
    fun hw w l h => chAns_loads hw h, fun hw tag l h => chCancel_loads hw h⟩
  · rw [← hstart] at hp
    refine chuteRead_loads hc ho hw ⟨hrole, hr⟩ (chuteReadAt_word hp hlt) ?_ ?_
    · split
      · exact (chuteOnly_readWord _ c off _).trans (chuteOnly_chutePop _ c)
      · exact chuteOnly_readWord _ c off _
    · have hpkts := (pkts_readWord (started s t) c off (BitVec.ofNat 64 (le p.bytes off 8))).trans hp
      rw [chute_windowDone]
      by_cases hlast : off = 64 * p.words - 8
      · rw [if_pos hlast, if_pos hlast]
        exact pkts_chutePop hpkts
      · rw [if_neg hlast, if_neg hlast]
        exact hpkts
  · rw [← hstart] at hp
    refine chuteRead_loads hc ho hw ⟨hrole, hr⟩ (chuteReadAt_beyond hp hle)
      ((chuteOnly_readStarts _ c).trans (chuteOnly_modChute _ c _)) ?_
    rw [chute_windowDone, readBeyond, chute_modChute, if_pos rfl, chute_readStarts]
    exact hp
  · rw [← hstart] at hp
    refine chuteRead_loads hc ho hw ⟨hrole, hr⟩ (chuteReadAt_empty hp)
      ((chuteOnly_readStarts _ c).trans (chuteOnly_modChute _ c _)) ?_
    rw [chute_windowDone, readEmpty, chute_modChute, if_pos rfl, chute_readStarts]
    exact ⟨hp, rfl⟩
  · intro htaken
    rw [← unread_untouched htaken p]
    exact chDrop_loads hc hw hrole hr hp
  · exact chDrop_loads hc hw hrole hr hp

end Sys2Proof.Laws
end

section
/-! SUPPORT. What a Hopper channel moves (R363, R373): the writes of a line of its destination, and the stream of a plain
copy. -/

namespace Sys2Proof.Laws

open Sys2Proof.Machine Sys2Proof.Safety

variable {s u : State} {e k a n b : Nat} {bs : List Byte} {h : HopSide}

/-! ### Writes of a destination line -/

theorem mem_mapTillers (s : State) (f : Nat → Tiller → Tiller) : (s.mapTillers f).mem = s.mem := by
  unfold State.mapTillers
  exact foldl_keeps (fun v => v.mem = s.mem) (fun v e => v.setTiller e.1 (f e.1 e.2)) (fun _ _ hv => hv) s.tillers s rfl

theorem mem_dropCopies (s : State) (line : Nat) : (s.dropCopies line).mem = s.mem :=
  mem_mapTillers s fun _ x => { x with dcache := Lines.drop x.dcache line }

/-- The write of a part of a destination line that lies in one line of memory. -/
def hopPutPart (s : State) (p : Nat × List Byte) : State := (s.dropCopies (lineOf p.1)).memWrite p.1 p.2

theorem mem_hopPutPart (s : State) (p : Nat × List Byte) : (hopPutPart s p).mem = Memory.store s.mem p.1 p.2 := by
  rw [hopPutPart, mem_memWrite, mem_dropCopies]

/-- The parts of a destination line, one after the other, store its bytes. -/
theorem byte_hopPutParts (f a : Nat) (bs : List Byte) (hf : bs.length ≤ f) (s : State) (b : Nat) :
    Memory.byte ((State.hopPut.pieces' a bs f).foldl hopPutPart s).mem b =
      if a ≤ b ∧ b < a + bs.length then bs.getD (b - a) 0 else Memory.byte s.mem b := by
  induction f generalizing a bs s with
  | zero =>
    rw [List.length_eq_zero_iff.1 (Nat.le_zero.1 hf), if_neg (by simp)]
    rfl
  | succ f ih =>
    cases bs with
    | nil =>
      rw [if_neg (by simp)]
      rfl
    | cons x xs =>
      obtain ⟨n, hn, hpos⟩ : ∃ n, n = 64 - a % 64 ∧ 0 < n := ⟨_, rfl, by omega⟩
      have hparts : State.hopPut.pieces' a (x :: xs) (f + 1) =
          (a, (x :: xs).take n) :: State.hopPut.pieces' (a + n) ((x :: xs).drop n) f := by
        rw [hn]
        rfl
      generalize x :: xs = bs at *
      rw [hparts, List.foldl_cons, ih (a + n) (bs.drop n) (by rw [List.length_drop]; omega), mem_hopPutPart, byte_store,
        List.length_drop, List.length_take]
      by_cases h1 : a + n ≤ b ∧ b < a + bs.length
      · rw [if_pos (by omega), if_pos (by omega), List.getD_eq_getElem?_getD, List.getElem?_drop,
          List.getD_eq_getElem?_getD]
        congr 3
        omega
      · rw [if_neg (by omega)]
        by_cases h2 : a ≤ b ∧ b < a + bs.length
        · rw [if_pos (by omega), if_pos h2, List.getD_eq_getElem?_getD, List.getElem?_take, if_pos (by omega),
            List.getD_eq_getElem?_getD]
        · rw [if_neg (by omega), if_neg h2]

theorem byte_hopPut (s : State) (a : Nat) (bs : List Byte) (b : Nat) : Memory.byte (s.hopPut a bs).mem b =
    if a ≤ b ∧ b < a + bs.length then bs.getD (b - a) 0 else Memory.byte s.mem b :=
  byte_hopPutParts bs.length a bs le_rfl s b

/-- A destination of one line without side effects takes the whole stream at its address. -/
theorem hopWriteOut_oneLine (hs : s.hopAnySide e h = false) (h1 : h.lines = 1) (hlen : h.len = bs.length) :
    s.hopWriteOut e h bs bs.length = s.hopPut (s.norm h.addr) bs := by
  unfold State.hopWriteOut
  rw [hs, if_neg Bool.false_ne_true, h1]
  simp only [List.range_one, List.foldl_cons, List.foldl_nil, List.take_length, Nat.zero_mul, Nat.add_zero,
    List.drop_zero, hlen]

/-! ### The stream (R363) -/

theorem length_hopArrange (mode f w : Nat) (src : List Byte) : (hopArrange mode f w src).length = src.length := by
  unfold hopArrange
  rw [List.length_map, List.length_range]

/-- Bytes listed by their own position. -/
theorem find_listed (val : Nat → Byte) (n j : Nat) :
    Map.find j ((List.range n).foldl (fun m i => Map.insert i (val i) m) []) = if j < n then some (val j) else none := by
  induction n with
  | zero => rfl
  | succ n ih =>
    rw [List.range_succ, List.foldl_append, List.foldl_cons, List.foldl_nil, find_insert, ih]
    by_cases hj : j = n
    · rw [if_pos hj, if_pos (by omega), hj]
    · rw [if_neg hj]
      by_cases hlt : j < n
      · rw [if_pos hlt, if_pos (by omega)]
      · rw [if_neg hlt, if_neg (by omega)]

/-- A plain copy leaves the order of the stream. -/
theorem hopArrange_plain (f w : Nat) (src : List Byte) : hopArrange 0 f w src = src := by
  have harrange : hopArrange 0 f w src = (List.range src.length).map (fun i => Map.get 0
      ((List.range src.length).foldl (fun m i => Map.insert i (hopArrange.byteOf src i) m) []) i) := rfl
  rw [harrange]
  refine List.ext_getElem (by rw [List.length_map, List.length_range]) fun j h1 h2 => ?_
  rw [List.getElem_map, List.getElem_range, Map.get, find_listed, if_pos h2, Option.getD_some, hopArrange.byteOf,
    List.getD_eq_getElem _ _ h2]

/-- The source stream, which has no side effects, as memory holds it. -/
def hopSourceBytes (s : State) (h : HopSide) : List Byte :=
  (List.range h.total).map (fun i => s.memByte (s.norm (h.byteAddr i)))

theorem OnlySensed.hopAnySide (hu : OnlySensed s u) (e : Nat) (h : HopSide) : u.hopAnySide e h = s.hopAnySide e h := by
  rw [hu.rest]
  rfl

theorem OnlySensed.hopSourceBytes (hu : OnlySensed s u) (h : HopSide) : hopSourceBytes u h = hopSourceBytes s h := by
  rw [hu.rest]
  rfl

theorem hopRead_plain (hs : s.hopAnySide e h = false) (m : Nat) : s.hopRead e h m = (hopSourceBytes s h, s) := by
  unfold State.hopRead
  rw [hs, if_neg Bool.false_ne_true]
  rfl

/-- The stream that channel `k` moves. -/
def hopMoved (s : State) (e k : Nat) : List Byte :=
  hopArrange (s.hopMode e k) (s.hopF e k) (s.hopW e k) (hopSourceBytes s (s.hopSrc e k))

theorem length_hopMoved (s : State) (e k : Nat) : (hopMoved s e k).length = (s.hopSrc e k).total := by
  rw [hopMoved, length_hopArrange, hopSourceBytes, List.length_map, List.length_range]

theorem OnlySensed.hopOrder (hu : OnlySensed s u) (e k : Nat) :
    u.hopMode e k = s.hopMode e k ∧ u.hopF e k = s.hopF e k ∧ u.hopW e k = s.hopW e k := by
  rw [hu.rest]
  exact ⟨rfl, rfl, rfl⟩

end Sys2Proof.Laws
end

section
/-! OBLIGATION O47. The Hopper's channels (R362, R364 to R367). -/

namespace Sys2Proof.Laws

open Sys2Proof.Machine Sys2Proof.Safety

variable {s : State} {e k n : Nat}

/-! ### Reports of a channel (R365, R366) -/

/-- An interrupt of a channel sets a pending bit only. -/
theorem hopRaise_eq (s : State) (e k : Nat) : ∃ l, s.hopRaise e k = { s with sharedEdges := l } := by
  unfold State.hopRaise State.raiseShared
  split
  · split
    · exact ⟨s.sharedEdges, rfl⟩
    · exact ⟨_, rfl⟩
  · exact ⟨s.sharedEdges, rfl⟩

@[simp] theorem rd_hopRaise (s : State) (e k a : Nat) : (s.hopRaise e k).rd a = s.rd a := by
  obtain ⟨l, hl⟩ := hopRaise_eq s e k
  rw [hl]
  rfl

@[simp] theorem fld_hopRaise (s : State) (e k a : Nat) (f : Fld) : (s.hopRaise e k).fld a f = s.fld a f := by
  rw [State.fld, State.fld, rd_hopRaise]

@[simp] theorem flag_hopRaise (s : State) (e k a : Nat) (f : Fld) : (s.hopRaise e k).flag a f = s.flag a f := by
  rw [State.flag, State.flag, fld_hopRaise]

@[simp] theorem hoppers_hopRaise (s : State) (e k : Nat) : (s.hopRaise e k).hoppers = s.hoppers := by
  obtain ⟨l, hl⟩ := hopRaise_eq s e k
  rw [hl]

@[simp] theorem mem_hopRaise (s : State) (e k : Nat) : (s.hopRaise e k).mem = s.mem := by
  obtain ⟨l, hl⟩ := hopRaise_eq s e k
  rw [hl]

/-- What a channel that no longer runs shows: BUSY is clear, and everything else is as it has been reported. -/
structure Stopped (s u : State) (e k : Nat) : Prop where
  running : (u.hopper e).running = none
  busy : u.flag (Reg.hcStat e k) F.HcStat.busy = false
  stat : ∀ f : Fld, 1 ≤ f.lo → f.lo + f.w ≤ 64 → u.fld (Reg.hcStat e k) f = s.fld (Reg.hcStat e k) f
  regs : ∀ a, a ≠ Reg.hcStat e k → u.rd a = s.rd a
  mem : u.mem = s.mem

theorem stopped_hopRaise (s : State) (e k : Nat) : Stopped s ((s.hopStop e k).hopRaise e k) e k where
  running := by
    rw [State.hopper, hoppers_hopRaise, ← State.hopper, State.hopStop, hopper_setFlag_ne, hopper_modHopper, if_pos rfl]
  busy := by rw [flag_hopRaise, State.hopStop, flag_setFlag_same _ _ (by decide) rfl]
  stat f h1 h2 := by
    rw [fld_hopRaise, State.hopStop, fld_setFlag_disjoint (g := F.HcStat.busy) h2 (.inr h1), fld_modHopper_ne]
  regs a ha := by rw [rd_hopRaise, State.hopStop, rd_setFlag, if_neg ha, rd_modHopper_ne]
  mem := by rw [mem_hopRaise, State.hopStop, mem_setFlag, mem_modHopper]

theorem Stopped.flag {u : State} (h : Stopped s u e k) (f : Fld) (h1 : 1 ≤ f.lo) (h2 : f.lo + f.w ≤ 64) :
    u.flag (Reg.hcStat e k) f = s.flag (Reg.hcStat e k) f := by
  rw [State.flag, State.flag, h.stat f h1 h2]

/-! ### GO and the engine's start (R362) -/

theorem hopperGo_queues (hen : s.flag (Reg.hcCtl e k) F.HcCtl.en = true) (hidle : s.hopActive e k = false)
    (hg : s.hopGeometry e k = true) : ∃ s', exec (.hopperGo e k) s = .next s' ∧
      (s'.hopper e).queue = (s.hopper e).queue ++ [k] ∧ s'.flag (Reg.hcStat e k) F.HcStat.queued = true ∧
      (∀ a, a ≠ Reg.hcStat e k → s'.rd a = s.rd a) ∧ s'.mem = s.mem := by
  have hgo : exec (.hopperGo e k) s = .next ((s.modHopper e (fun x => { x with queue := x.queue ++ [k] })).setFlag
      (Reg.hcStat e k) F.HcStat.queued true) := by
    show execHopperGo e k s = _
    rw [execHopperGo, State.hopGo, if_neg (by simp [hen, hidle]), if_pos hg]
  refine ⟨_, hgo, ?_, flag_setFlag_same _ _ (by decide) rfl true, fun a ha => ?_, rfl⟩
  · rw [hopper_setFlag_ne, hopper_modHopper, if_pos rfl]
  · rw [rd_setFlag, if_neg ha, rd_modHopper_ne]

theorem hopperGo_reports (hen : s.flag (Reg.hcCtl e k) F.HcCtl.en = true) (hidle : s.hopActive e k = false)
    (hg : s.hopGeometry e k = false) : ∃ s', exec (.hopperGo e k) s = .next s' ∧ s'.hoppers = s.hoppers ∧
      s'.flag (Reg.hcStat e k) F.HcStat.err = true ∧ s'.fld (Reg.hcStat e k) F.HcStat.errCode = 1 ∧
      (∀ a, a ≠ Reg.hcStat e k → s'.rd a = s.rd a) ∧ s'.mem = s.mem := by
  have hgo : exec (.hopperGo e k) s = .next (((s.setFlag (Reg.hcStat e k) F.HcStat.err true).setFld (Reg.hcStat e k)
      F.HcStat.errCode hopGeometryErr).hopRaise e k) := by
    show execHopperGo e k s = _
    rw [execHopperGo, State.hopGo, if_neg (by simp [hen, hidle]), hg, if_neg Bool.false_ne_true]
  refine ⟨_, hgo, by rw [hoppers_hopRaise]; rfl, ?_, ?_, fun a ha => ?_, by rw [mem_hopRaise]; rfl⟩
  · rw [flag_hopRaise, flag_setFld_disjoint (by decide) (by decide), flag_setFlag_same _ _ (by decide) rfl]
  · rw [fld_hopRaise, fld_setFld_fits (by decide) (by decide)]
  · rw [rd_hopRaise, rd_setFld, if_neg ha, rd_setFlag, if_neg ha]

theorem hopperGo_ignored (h : s.flag (Reg.hcCtl e k) F.HcCtl.en = false ∨ s.hopActive e k = true) :
    exec (.hopperGo e k) s = .next s := by
  show execHopperGo e k s = _
  rw [execHopperGo, State.hopGo, if_pos (h.imp (fun hen => by rw [hen]; rfl) id)]

theorem hopperStarts : HopperStarts := by
  intro s e k
  refine ⟨fun hen hidle => ⟨hopperGo_queues hen hidle, hopperGo_reports hen hidle⟩, hopperGo_ignored,
    fun l hr hq => ?_⟩
  have hstart : execHopperChannelStart e s = .next (((s.modHopper e (fun x => { x with
      running := some k, queue := l })).setFlag (Reg.hcStat e k) F.HcStat.queued false).setFlag (Reg.hcStat e k)
      F.HcStat.busy true) := by
    unfold execHopperChannelStart
    rw [hr, hq]
  refine ⟨_, hstart, ?_, ?_, ?_, flag_setFlag_same _ _ (by decide) rfl true, rfl⟩
  · rw [hopper_setFlag_ne, hopper_setFlag_ne, hopper_modHopper, if_pos rfl]
  · rw [hopper_setFlag_ne, hopper_setFlag_ne, hopper_modHopper, if_pos rfl]
  · exact (flag_setFlag_disjoint (by decide) (by decide)).trans (flag_setFlag_same _ _ (by decide) rfl false)

/-! ### The end of a channel (R365) -/

/-- The channel's bytes have been written: PROG and DONE report it, and it stops. -/
def hopEnded (s : State) (e k n : Nat) : State :=
  (((s.wr (Reg.hcProg e k) (BitVec.ofNat 64 n)).setFlag (Reg.hcStat e k) F.HcStat.done true).hopStop e k).hopRaise e k

/-- Every access of the channel passes, and no frozen channel holds one. -/
structure HopPasses (s : State) (e k : Nat) : Prop where
  src : s.hopSidePasses e k .load (s.hopSrc e k) = true
  dst : s.hopSidePasses e k .store (s.hopDst e k) = true
  srcThawed : s.hopHeld (s.hopSrc e k) = false
  dstThawed : s.hopHeld (s.hopDst e k) = false

theorem hopDone_passes (h : HopPasses s e k) (hs : s.hopAnySide e (s.hopSrc e k) = false) :
    s.hopDone e k =
      hopEnded (s.sense.hopWriteOut e (s.hopDst e k) (hopMoved s e k) (hopMoved s e k).length) e k
        (hopMoved s e k).length := by
  have hsense := onlySensed_sense s
  obtain ⟨hmode, hf, hw⟩ := hsense.hopOrder e k
  have hread := hopRead_plain (s := s.sense) (e := e) (h := s.hopSrc e k) (by rw [hsense.hopAnySide, hs])
    (s.hopSrc e k).total
  rw [hsense.hopSourceBytes] at hread
  unfold State.hopDone
  simp only [h.src, h.dst, h.srcThawed, h.dstThawed, Bool.not_false, Bool.and_self, if_true, hread, hmode, hf, hw]
  rfl

theorem hopDone_waits (h : s.hopSidePasses e k .load (s.hopSrc e k) = false ∨
    s.hopSidePasses e k .store (s.hopDst e k) = false ∨ s.hopHeld (s.hopSrc e k) = true ∨
    s.hopHeld (s.hopDst e k) = true) : s.hopDone e k = s := by
  unfold State.hopDone
  refine if_neg ?_
  rcases h with h | h | h | h <;> simp [h]

theorem execHopperChannelDone_running (hr : (s.hopper e).running = some k) :
    exec (.hopperChannelDone e) s = .next (s.hopDone e k) := by
  show execHopperChannelDone e s = _
  unfold execHopperChannelDone
  rw [hr]

/-- A plain copy to one line of memory has moved every byte. -/
theorem plainCopy_moves (hd : s.hopAnySide e (s.hopDst e k) = false) (hmode : s.hopMode e k = 0)
    (hlines : (s.hopDst e k).lines = 1) (hlen : (s.hopDst e k).len = (s.hopSrc e k).total) {i : Nat}
    (hi : i < (s.hopSrc e k).total) :
    Memory.byte (s.sense.hopWriteOut e (s.hopDst e k) (hopMoved s e k) (hopMoved s e k).length).mem
      (s.norm (s.hopDst e k).addr + i) = s.memByte (s.norm ((s.hopSrc e k).byteAddr i)) := by
  have hsense := onlySensed_sense s
  have hmoved : hopMoved s e k = hopSourceBytes s (s.hopSrc e k) := by rw [hopMoved, hmode, hopArrange_plain]
  have hnorm : s.sense.norm (s.hopDst e k).addr = s.norm (s.hopDst e k).addr := by
    rw [hsense.rest]
    rfl
  have hbyte : (hopMoved s e k).getD i 0 = s.memByte (s.norm ((s.hopSrc e k).byteAddr i)) := by
    rw [hmoved, hopSourceBytes, List.getD_eq_getElem _ _ (by rwa [List.length_map, List.length_range]),
      List.getElem_map, List.getElem_range]
  rw [hopWriteOut_oneLine (by rw [hsense.hopAnySide, hd]) hlines (by rw [hlen, length_hopMoved]), hnorm, byte_hopPut,
    length_hopMoved, if_pos (by omega), Nat.add_sub_cancel_left, hbyte]

theorem hcProg_ne_hcStat (e k : Nat) : Reg.hcProg e k ≠ Reg.hcStat e k := by
  simp only [Reg.hcProg, Reg.hcStat]
  omega

theorem hopEnded_reports (s : State) (e k n : Nat) (hn : n < 2 ^ 64) :
    ((hopEnded s e k n).hopper e).running = none ∧
      (hopEnded s e k n).flag (Reg.hcStat e k) F.HcStat.done = true ∧
      (hopEnded s e k n).flag (Reg.hcStat e k) F.HcStat.busy = false ∧
      ((hopEnded s e k n).rd (Reg.hcProg e k)).toNat = n ∧ (hopEnded s e k n).mem = s.mem := by
  have h := stopped_hopRaise
    ((s.wr (Reg.hcProg e k) (BitVec.ofNat 64 n)).setFlag (Reg.hcStat e k) F.HcStat.done true) e k
  refine ⟨h.running, (h.flag _ (by decide) (by decide)).trans (flag_setFlag_same _ _ (by decide) rfl true), h.busy, ?_,
    h.mem⟩
  rw [hopEnded, h.regs _ (hcProg_ne_hcStat e k), rd_setFlag, if_neg (hcProg_ne_hcStat e k), rd_wr, if_pos rfl,
    BitVec.toNat_ofNat, Nat.mod_eq_of_lt hn]

/-! ### An error (R366) -/

/-- What an error reports, after what the engine had written by then. -/
def hopFailed (s : State) (e k code addr n : Nat) : State :=
  (((((s.wr (Reg.hcErraddr e k) (BitVec.ofNat 64 (addr % 2 ^ 44))).wr (Reg.hcProg e k) (BitVec.ofNat 64 n)).setFlag
    (Reg.hcStat e k) F.HcStat.err true).setFld (Reg.hcStat e k) F.HcStat.errCode code).hopStop e k).hopRaise e k

theorem hopError_eq (s : State) (e k code addr done : Nat) :
    ∃ u n, n ≤ done ∧ s.hopError e k code addr done = hopFailed u e k code addr n := by
  refine ⟨_, _, ?_, rfl⟩
  split
  · exact (Nat.div_mul_le_self _ 8).trans (min_le_left done _)
  · exact min_le_left done _

theorem hcErraddr_ne (e k : Nat) : Reg.hcErraddr e k ≠ Reg.hcStat e k ∧ Reg.hcErraddr e k ≠ Reg.hcProg e k := by
  simp only [Reg.hcProg, Reg.hcStat, Reg.hcErraddr]
  omega

theorem hopFailed_reports (s : State) (e k addr n : Nat) (why : HopFail) :
    ((hopFailed s e k (hopCode why) addr n).hopper e).running = none ∧
      (hopFailed s e k (hopCode why) addr n).flag (Reg.hcStat e k) F.HcStat.err = true ∧
      (hopFailed s e k (hopCode why) addr n).fld (Reg.hcStat e k) F.HcStat.errCode = hopCode why ∧
      (hopFailed s e k (hopCode why) addr n).flag (Reg.hcStat e k) F.HcStat.busy = false ∧
      ((hopFailed s e k (hopCode why) addr n).rd (Reg.hcErraddr e k)).toNat = addr % 2 ^ 44 ∧
      ((hopFailed s e k (hopCode why) addr n).rd (Reg.hcProg e k)).toNat ≤ n := by
  have h := stopped_hopRaise ((((s.wr (Reg.hcErraddr e k) (BitVec.ofNat 64 (addr % 2 ^ 44))).wr (Reg.hcProg e k)
    (BitVec.ofNat 64 n)).setFlag (Reg.hcStat e k) F.HcStat.err true).setFld (Reg.hcStat e k) F.HcStat.errCode
    (hopCode why)) e k
  have hcode : hopCode why < 2 ^ F.HcStat.errCode.w := by cases why <;> decide
  have hprog := hcProg_ne_hcStat e k
  obtain ⟨hstat, haddr⟩ := hcErraddr_ne e k
  refine ⟨h.running, (h.flag _ (by decide) (by decide)).trans ?_, (h.stat _ (by decide) (by decide)).trans ?_, h.busy,
    ?_, ?_⟩
  · exact (flag_setFld_disjoint (by decide) (by decide)).trans (flag_setFlag_same _ _ (by decide) rfl true)
  · exact fld_setFld_fits (by decide) hcode
  · rw [hopFailed, h.regs _ hstat, rd_setFld, if_neg hstat, rd_setFlag, if_neg hstat, rd_wr, if_neg haddr, rd_wr,
      if_pos rfl, BitVec.toNat_ofNat]
    omega
  · rw [hopFailed, h.regs _ hprog, rd_setFld, if_neg hprog, rd_setFlag, if_neg hprog, rd_wr, if_pos rfl,
      BitVec.toNat_ofNat]
    exact Nat.mod_le _ _

theorem hopperErrs (hr : (s.hopper e).running = some k) (why : HopFail) (addr done : Nat)
    (hf : s.hopFails e k why addr = true) :
    ∃ s', exec (.hopperChannelError e why addr done) s = .next s' ∧ (s'.hopper e).running = none ∧
      s'.flag (Reg.hcStat e k) F.HcStat.err = true ∧ s'.fld (Reg.hcStat e k) F.HcStat.errCode = hopCode why ∧
      s'.flag (Reg.hcStat e k) F.HcStat.busy = false ∧
      (s'.rd (Reg.hcErraddr e k)).toNat = addr % 2 ^ 44 ∧ (s'.rd (Reg.hcProg e k)).toNat ≤ done := by
  have hexec : exec (.hopperChannelError e why addr done) s =
      .next ((if s.readError addr 1 then s.countUe addr else s).hopError e k (hopCode why) addr done) := by
    show execHopperChannelError e why addr done s = _
    unfold execHopperChannelError
    rw [hr]
    simp only [hf, if_true]
  obtain ⟨u, n, hn, hu⟩ := hopError_eq (if s.readError addr 1 then s.countUe addr else s) e k (hopCode why) addr done
  rw [hu] at hexec
  obtain ⟨hrun, herr, hcode, hbusy, haddr, hprog⟩ := hopFailed_reports u e k addr n why
  exact ⟨_, hexec, hrun, herr, hcode, hbusy, haddr, hprog.trans hn⟩

theorem hopperEnds : HopperEnds := by
  intro s e k hr src dst
  refine ⟨fun hsrc hdst hs hd hss hds htotal => ?_, fun h => ?_, hopperErrs hr⟩
  · have hlen : (hopMoved s e k).length < 2 ^ 64 := by rw [length_hopMoved]; exact htotal
    obtain ⟨hrun, hdone, hbusy, hprog, hmem⟩ := hopEnded_reports
      (s.sense.hopWriteOut e dst (hopMoved s e k) (hopMoved s e k).length) e k (hopMoved s e k).length hlen
    refine ⟨_, by rw [execHopperChannelDone_running hr, hopDone_passes ⟨hsrc, hdst, hs, hd⟩ hss], hrun, hdone, hbusy,
      hprog.trans (length_hopMoved s e k), fun hmode hlines hdlen i hi => ?_⟩
    rw [hmem]
    exact plainCopy_moves hds hmode hlines hdlen hi
  · rw [execHopperChannelDone_running hr, hopDone_waits h]

/-! ### EN is cleared (R367) -/

/-- QUEUED and EN are clear, and the channel is off the queue. -/
def hopUnqueued (s : State) (e k : Nat) : State :=
  ((s.setFlag (Reg.hcCtl e k) F.HcCtl.en false).setFlag (Reg.hcStat e k) F.HcStat.queued false).modHopper e
    (fun x => { x with queue := x.queue.filter (· != k) })

/-- The engine drops channel `k`, whose writes settle later. -/
def hopDropping (s : State) (e k : Nat) : State :=
  s.modHopper e (fun x => { x with running := none, dropping := insertNat k x.dropping })

theorem hopper_hopUnqueued (s : State) (e k : Nat) :
    (hopUnqueued s e k).hopper e = { s.hopper e with queue := (s.hopper e).queue.filter (· != k) } := by
  rw [hopUnqueued, hopper_modHopper, if_pos rfl, hopper_setFlag_ne, hopper_setFlag_ne]

theorem hopClear_running (h : (s.hopper e).running = some k) : s.hopClear e k = hopDropping (hopUnqueued s e k) e k := by
  have hu : ((hopUnqueued s e k).hopper e).running = some k := by rw [hopper_hopUnqueued, h]
  exact if_pos hu

theorem hopClear_queued (h : (s.hopper e).running ≠ some k) : s.hopClear e k = hopUnqueued s e k := by
  have hu : ((hopUnqueued s e k).hopper e).running ≠ some k := by rw [hopper_hopUnqueued]; exact h
  exact if_neg hu

theorem flags_hopUnqueued (s : State) (e k : Nat) :
    (hopUnqueued s e k).flag (Reg.hcCtl e k) F.HcCtl.en = false ∧
      (hopUnqueued s e k).flag (Reg.hcStat e k) F.HcStat.queued = false := by
  have hne : Reg.hcCtl e k ≠ Reg.hcStat e k := by
    simp only [Reg.hcCtl, Reg.hcStat]
    omega
  rw [hopUnqueued, flag_modHopper_ne, flag_modHopper_ne, flag_setFlag_ne hne]
  exact ⟨flag_setFlag_same _ _ (by decide) rfl false, flag_setFlag_same _ _ (by decide) rfl false⟩

theorem mem_hopUnqueued (s : State) (e k : Nat) : (hopUnqueued s e k).mem = s.mem := by
  rw [hopUnqueued, mem_modHopper, mem_setFlag, mem_setFlag]

theorem hopperEnClear_stops (hen : s.flag (Reg.hcCtl e k) F.HcCtl.en = true) :
    ∃ s', exec (.hopperEnClear e k) s = .next s' ∧
      s'.flag (Reg.hcCtl e k) F.HcCtl.en = false ∧ s'.flag (Reg.hcStat e k) F.HcStat.queued = false ∧
      k ∉ (s'.hopper e).queue ∧ s'.mem = s.mem ∧
      ((s.hopper e).running = some k → (s'.hopper e).running = none ∧ k ∈ (s'.hopper e).dropping) ∧
      ((s.hopper e).running ≠ some k → (s'.hopper e).running = (s.hopper e).running) := by
  have hexec : exec (.hopperEnClear e k) s = .next (s.hopClear e k) := by
    show execHopperEnClear e k s = _
    rw [execHopperEnClear, if_pos hen]
  obtain ⟨hctl, hqueued⟩ := flags_hopUnqueued s e k
  have hoff : k ∉ (s.hopper e).queue.filter (· != k) := by simp
  by_cases hr : (s.hopper e).running = some k
  · have hd : (hopDropping (hopUnqueued s e k) e k).hopper e = { s.hopper e with
        queue := (s.hopper e).queue.filter (· != k)
        running := none
        dropping := insertNat k (s.hopper e).dropping } := by
      rw [hopDropping, hopper_modHopper, if_pos rfl, hopper_hopUnqueued]
    rw [hopClear_running hr] at hexec
    refine ⟨_, hexec, ?_, ?_, ?_, ?_, fun _ => ?_, fun hn => absurd hr hn⟩
    · rw [hopDropping, flag_modHopper_ne, hctl]
    · rw [hopDropping, flag_modHopper_ne, hqueued]
    · rw [hd]
      exact hoff
    · rw [hopDropping, mem_modHopper, mem_hopUnqueued]
    · rw [hd]
      exact ⟨rfl, mem_insertNat k _⟩
  · rw [hopClear_queued hr] at hexec
    refine ⟨_, hexec, hctl, hqueued, ?_, mem_hopUnqueued s e k, fun h => absurd h hr, fun _ => ?_⟩
    · rw [hopper_hopUnqueued]
      exact hoff
    · rw [hopper_hopUnqueued]

theorem hopperDropComplete_settles (hk : k ∈ (s.hopper e).dropping) :
    ∃ s', exec (.hopperDropComplete e k) s = .next s' ∧
      k ∉ (s'.hopper e).dropping ∧ s'.flag (Reg.hcStat e k) F.HcStat.busy = false := by
  have hexec : exec (.hopperDropComplete e k) s =
      .next ((((s.hopDrop e k).freshWord.2.wr (Reg.hcProg e k) (s.hopDrop e k).freshWord.1).setFlag (Reg.hcStat e k)
        F.HcStat.busy false).modHopper e (fun x => { x with dropping := x.dropping.filter (· != k) })) := by
    show execHopperDropComplete e k s = _
    rw [execHopperDropComplete, if_pos (by simpa using hk)]
  refine ⟨_, hexec, ?_, ?_⟩
  · rw [hopper_modHopper, if_pos rfl]
    simp
  · rw [flag_modHopper_ne]
    exact flag_setFlag_same _ _ (by decide) rfl false

theorem hopperStops : HopperStops := by
  intro s e k
  refine ⟨hopperEnClear_stops, fun hen => ?_, hopperDropComplete_settles, fun hk => ?_⟩
  · show execHopperEnClear e k s = _
    rw [execHopperEnClear, hen, if_neg Bool.false_ne_true]
  · show execHopperDropComplete e k s = _
    rw [execHopperDropComplete, if_neg (by simpa using hk)]

/-- Settles O47: a channel's reports come last in each of its ends, after whatever it has moved; the bytes of a plain copy
follow from the parts in which its destination line is written. -/
theorem hopperChannels : Obligations.HopperChannels := ⟨hopperStarts, hopperEnds, hopperStops⟩

end Sys2Proof.Laws
end
